-- ==== Sys2Proof/Word.lean ====
section
/-!
DEFINITION. The word types and the one container type of the model.
A register of the MR9600 is 32 bits wide (R536), a packet, a message and a memory are bytes.
`Tab` is the sparse table every keyed store of the model uses: key and value pairs, keys rising.
-/

namespace Sys2Proof

/-- One byte. -/
abbrev Byte := BitVec 8

/-- One 32-bit register or FIFO word (R536). -/
abbrev Word := BitVec 32

/-- A sparse table: pairs of a key and a value, the keys strictly rising. -/
abbrev Tab (α : Type) := List (Nat × α)

end Sys2Proof
end

