-- ==== Sys2Proof/Syntax.lean ====
section
/-!
DEFINITION. The commands of the MR9600, one constructor of `Instr` per row of spec/opcode_table.json.
A command packet (R467) is carried as it travels: four header words and the parameter bytes.
An event row carries what the outside world supplies with the event: the bytes received, the level measured.
-/

namespace Sys2Proof

/-- A requester (R487): a control port of the device, a VC1 requester named by SRC and ORIGIN, or the Muslin port. -/
inductive Req where
  | cp0
  | cp1
  | vc1 (src : Nat) (origin : Bool)
  | muslin
  deriving DecidableEq, Repr

/-- A command packet as delivered (R467): who delivered it, the four header words and the parameter bytes. -/
structure Pkt where
  req : Req
  /-- The Twill port it arrived on, for a VC1 requester. -/
  port : Nat
  w0 : Word
  w1 : Word
  w2 : Word
  w3 : Word
  body : List Byte
  deriving DecidableEq, Repr

/-- What a fetch of referenced data outside the device returned (R472). -/
inductive Fetch where
  | data (bytes : List Byte)
  | dmaError
  | notExported
  | remoteError
  deriving DecidableEq, Repr

/-- A Twill message (R252, R253): its channel, the envelope fields and the payload. -/
structure Msg where
  vc : Nat
  mtype : Nat
  dest : Nat
  src : Nat
  hopaddr : Bool
  hops : Nat
  payload : List Byte
  deriving DecidableEq, Repr

/-- What one round reads from a supply (Table 13.11), as the bytes and words came; none where a read and its retry failed
or the read was not made. -/
structure SupplyRead where
  vmode : Option Nat
  statusWord : Option Nat
  statusInput : Option Nat
  statusTemp : Option Nat
  vin : Option Nat
  iin : Option Nat
  vout : Option Nat
  iout : Option Nat
  temp : Option Nat
  pout : Option Nat
  pin : Option Nat
  deriving DecidableEq, Repr

/-- Instructions of the JTAG port (R459, Table 14.11): those of IEEE 1149.1, core debug, and scan, test and memory
self-test. -/
inductive JtagInstr where
  | bypass
  | idcode
  | sample
  | extest
  | coreDebug
  | scanTest
  | other
  deriving DecidableEq, Repr

/-- The LED module as fitted: its flash and its identity EEPROM (R326, R371, R401). An erased slot is the empty list. -/
structure Module where
  /-- The module flash can be read. -/
  readable : Bool
  factory : List Byte
  user0 : List Byte
  user1 : List Byte
  ckpt0 : List Byte
  ckpt1 : List Byte
  /-- The EEPROM's serial, strand geometry record and thermal record; none where a read fails. -/
  serial : Option (List Byte)
  geom : Option (List Byte)
  thermal : Option (List Byte)
  deriving DecidableEq, Repr

/-- The commands of the block: one constructor per row of the operation table. -/
inductive Instr where
  /-- Returns the product, role, mode, device number, compatibility levels, firmware version and CERT_ID (R493). -/
  | getInfo (k : Pkt)
  /-- Returns the main status registers of the device (R493). -/
  | getStatus (k : Pkt)
  /-- Requests a mode transition, which is made only along the allowed transitions and is refused otherwise (R28). -/
  | setMode (k : Pkt)
  /-- Replies, then waits DELAY_MS, refusing mode and reset commands with BUSY until it performs a warm reset (R29). -/
  | warmReset (k : Pkt)
  /-- The DELAY_MS wait of a warm-reset command ends and the internal warm reset starts (R29). -/
  | warmResetDelayExpiry
  /-- Reads COUNT words directly or through the firmware indirect pair, without interleaving with other requesters (R543). -/
  | readRegs (k : Pkt)
  /-- Writes COUNT words directly or through the firmware indirect pair, under the normal access rules (R543). -/
  | writeRegs (k : Pkt)
  /-- Returns the bytes it was sent (R493). -/
  | ping (k : Pkt)
  /-- Grants a semaphore to the requester, or queues the request for up to WAIT_MS (R490). -/
  | semAcquire (k : Pkt)
  /-- A waiting sem-acquire reaches WAIT_MS and replies HELD (R490). -/
  | semWaitExpiry (k : Pkt)
  /-- Releases a semaphore that the requester holds, or replies NOT_HELD (R490). -/
  | semRelease (k : Pkt)
  /-- Returns the holder of each of the 16 semaphores (R493). -/
  | semStatus (k : Pkt)
  /-- Sets the requester's liveness watchdog timeout (R491). -/
  | setLiveness (k : Pkt)
  /-- A requester's watchdog expires; its semaphores are released, which ends SERVICE if SEM3 is among them, and its waits end with HELD (R492). -/
  | livenessExpiry (r : Req)
  /-- Serves a read of an open export window that permits the requesting device (R474). -/
  | readRemote (k : Pkt) (f : Fetch)
  /-- Serves a write into an open export window that permits the requesting device (R474). -/
  | writeRemote (k : Pkt) (f : Fetch)
  /-- Opens or replaces an export window over HOST or STAGE space (R474). -/
  | openExport (k : Pkt)
  /-- An export window reaches the end of LIFE_S and closes (R474). -/
  | exportWindowExpiry (w : Nat)
  /-- Closes an export window (R474). -/
  | closeExport (k : Pkt)
  /-- Sets the device's 32-bit group mask (R477). -/
  | setGroups (k : Pkt)
  /-- Reconfigures an Ethernet port, taking it down for at most 20 ms, or is refused with IN_USE (R55). -/
  | setEthPort (k : Pkt)
  /-- A reconfigured Ethernet port comes back up after its restart (R55). -/
  | ethPortRestartDone (p : Nat)
  /-- Sets the IPv4 or IPv6 address of an Ethernet sub-port (R57). -/
  | setAddress (k : Pkt)
  /-- Validates a flow descriptor and enters the flow in the flow table, joining its groups (R61). -/
  | addFlow (k : Pkt)
  /-- Modifies a running flow from its next frame start, possibly returning it to LOCKING (R66). -/
  | modifyFlow (k : Pkt)
  /-- Stops all writes of a flow at once and leaves its groups within 10 ms (R66). -/
  | removeFlow (k : Pkt)
  /-- Returns the descriptor of a flow (R493). -/
  | getFlow (k : Pkt)
  /-- Allocates a surface from the heap and returns its completed descriptor (R85). -/
  | createSurface (k : Pkt)
  /-- Invalidates a surface handle, or is refused while the surface is in use (R88). -/
  | destroySurface (k : Pkt)
  /-- Returns a surface descriptor (R85). -/
  | getSurface (k : Pkt)
  /-- Changes SFLAGS, COLORIMETRY and TCS of a surface from its next publication (R87). -/
  | setSurface (k : Pkt)
  /-- Publishes a new generation of a host surface, or is refused while it is latched or ingest-owned (R97). -/
  | publish (k : Pkt)
  /-- Queues a DMA upload of host rows into a surface (R104). -/
  | upload (k : Pkt)
  /-- An upload finishes writing, replies, and publishes when its flag asks for it (R105). -/
  | uploadComplete (data : List Byte)
  /-- A PCIe error aborts the running upload with DMA_ERROR (R106). -/
  | uploadDmaError (data : List Byte)
  /-- Writes a layer descriptor into composition shadow state (R114). -/
  | setLayer (k : Pkt)
  /-- Writes Z_MODE and the z-order list into shadow state (R130). -/
  | setZOrder (k : Pkt)
  /-- Writes the background colour BG into shadow state, refusing infinities and NaNs (R133). -/
  | setBackground (k : Pkt)
  /-- Loads a user coefficient bank into shadow state (R127). -/
  | loadBank (k : Pkt) (f : Fetch)
  /-- Writes the writeback settings into shadow state (R144). -/
  | setWriteback (k : Pkt)
  /-- Writes the preview settings into shadow state (R146). -/
  | setPreview (k : Pkt)
  /-- Snapshots and validates composition shadow state and makes it a pending commit (R137). -/
  | commit (k : Pkt)
  /-- The setup deadline of a boundary passes and its pending commits are locked in (R138). -/
  | commitLockIn (n : Nat)
  /-- Stores LMAX and GAMUT, marks the region changed and sends wall settings to the tiles (R152). -/
  | setWall (k : Pkt)
  /-- Writes a colour profile into TNM shadow state (R154). -/
  | setProfile (k : Pkt)
  /-- Writes KNEE_G and K_HOST into TNM shadow state (R162). -/
  | setTone (k : Pkt)
  /-- Writes the ambient curve into TNM shadow state (R166). -/
  | setAmbientCurve (k : Pkt)
  /-- Snapshots and validates TNM shadow state as a pending colour commit (R162). -/
  | commitColour (k : Pkt)
  /-- Configures up to four ambient light sensors on a tile (R170). -/
  | setAmbientSensors (k : Pkt)
  /-- Copies a referenced Gingham map into device memory (R178). -/
  | loadMap (k : Pkt) (f : Fetch)
  /-- Validates the loaded map and applies it at once or at the next boundary (R178). -/
  | commitMap (k : Pkt)
  /-- Writes the map in force to a destination reference (R493). -/
  | getMap (k : Pkt) (f : Fetch)
  /-- Requests calibration of receive lanes of a Twill port (R232). -/
  | calibrate (k : Pkt)
  /-- Starts a discovery run on a sender port (R275). -/
  | discover (k : Pkt)
  /-- Requests a Twill rate step on a port at once (R268). -/
  | step (k : Pkt)
  /-- Returns the tiles found on a sender port (R493). -/
  | getTopology (k : Pkt)
  /-- Binds and configures a PTP instance (R296). -/
  | setPtp (k : Pkt)
  /-- Sets new present parameters from an effective frame on a timing master (R316). -/
  | setCadence (k : Pkt)
  /-- Arms a trigger unit against a WT compare value, or fires it late, or refuses it (R310). -/
  | armTrigger (k : Pkt)
  /-- Disarms a trigger unit (R312). -/
  | disarmTrigger (k : Pkt)
  /-- Sets the whole seconds of WT for WT_PPS_IN discipline (R318). -/
  | setWtSeconds (k : Pkt)
  /-- Returns LT, WT, NT and the frame number of one instant (R493). -/
  | getTime (k : Pkt)
  /-- In SERVICE, writes a factory layer or ageing image into module flash after checking it (R331). -/
  | factoryWrite (k : Pkt) (f : Fetch)
  /-- Fetches and writes a user layer into the free slot in the background (R334). -/
  | loadUserLayer (k : Pkt) (f : Fetch)
  /-- A user layer write completes and the layer becomes current from the next frame closed (R334). -/
  | userLayerWriteDone (good : Bool)
  /-- Makes the previous user layer generation current (R334). -/
  | revertUserLayer (k : Pkt)
  /-- Writes a fresh ageing image to a destination reference (R493). -/
  | readAgeing (k : Pkt) (f : Fetch)
  /-- Checkpoints, blanks and stops the strands, and releases the module flash (R355). -/
  | moduleRelease (k : Pkt)
  /-- Supplies a strand geometry record bound to the factory layer in force (R373). -/
  | setStrandGeometry (k : Pkt)
  /-- Issues a READ to a driver and returns its reply words (R368). -/
  | strandRead (k : Pkt)
  /-- Enumerates one strand or all strands (R370). -/
  | enumerate (k : Pkt)
  /-- In SERVICE, writes a code to drivers and swaps at full scale (R493). -/
  | diagDrive (k : Pkt)
  /-- Writes, enables or frees a feed entry of the sender (R412). -/
  | setFeed (k : Pkt)
  /-- Sets the derating curve of the tile or of a feed (R417). -/
  | setDeratingCurve (k : Pkt)
  /-- Configures the PMBus supplies to be read (R420). -/
  | setSupplies (k : Pkt)
  /-- Sends CLEAR_FAULTS to one supply or to all supplies (R420). -/
  | clearSupplyFaults (k : Pkt)
  /-- Sets the ideality, series resistance and neighbours of a remote diode channel (R590). -/
  | setDiode (k : Pkt)
  /-- Sets GAIN and OFFSET of a monitor ADC channel (R422). -/
  | setAmon (k : Pkt)
  /-- Sets LEVEL, HYST and DWELL of a threshold record (R395). -/
  | setThreshold (k : Pkt)
  /-- Makes an UNOWNED device OWNED under the signing key, creating a new store (R432). -/
  | enrolOwner (k : Pkt)
  /-- Replaces the owner key after a proof of possession by the new key (R433). -/
  | rotateOwner (k : Pkt)
  /-- Performs Z2 without LOCKDOWN, leaving the device UNOWNED (R433). -/
  | releaseOwner (k : Pkt)
  /-- Enrols or revokes a delegate key and its class mask (R434). -/
  | setDelegate (k : Pkt)
  /-- Replaces the deny list and checks every peer against it (R435). -/
  | setDenyList (k : Pkt)
  /-- Loads or removes a module signer certificate (R435). -/
  | loadModuleSigner (k : Pkt)
  /-- Blows the revocation fuse of a vendor root slot (R435). -/
  | revokeRoot (k : Pkt)
  /-- Sets tamper policies, PFLAGS and REKEY_H (R453). -/
  | setPolicy (k : Pkt)
  /-- Clears the restriction of a restricted device (R457). -/
  | tamperClear (k : Pkt)
  /-- Zeroises at the given level and enters LOCKDOWN (R458). -/
  | zeroise (k : Pkt)
  /-- Enters LOCKDOWN with LOCK_CAUSE 3 on a signed command (R458). -/
  | lockdown (k : Pkt)
  /-- Returns a fresh debug unlock nonce valid for 300 s (R460). -/
  | getNonce (k : Pkt)
  /-- Grants debug level 1 or 2 after checking the nonce and, for level 2, the vendor token (R460). -/
  | debugUnlock (k : Pkt)
  /-- Ends a debug unlock (R462). -/
  | debugLock (k : Pkt)
  /-- The unlock duration expires and JTAG returns to its locked state (R462). -/
  | debugUnlockExpiry
  /-- Returns a DIK-signed attestation statement and the certificates (R463). -/
  | getAttestation (k : Pkt)
  /-- Returns signed entries of the tamper log (R463). -/
  | readTamperLog (k : Pkt)
  /-- Sets the running value of a configuration item that config-set may set (R518). -/
  | configSet (k : Pkt)
  /-- Returns an item's running, current or previous value (R518). -/
  | configGet (k : Pkt) (f : Fetch)
  /-- Writes a new configuration generation in the background (R514). -/
  | configCommit (k : Pkt)
  /-- A configuration commit or revert finishes its flash write and replies with GEN (R514). -/
  | configWriteDone (good : Bool)
  /-- Writes the previous generation as a new one and applies its items (R515). -/
  | configRevert (k : Pkt)
  /-- Checks a bundle and writes it into the other image slot in the background (R503). -/
  | stageImage (k : Pkt) (f : Fetch)
  /-- Staging completes and a boot record marks the slot STAGED (R503). -/
  | stageDone (good : Bool)
  /-- Checks compatibility and enters HOLD to start the staged main firmware (R504). -/
  | activate (k : Pkt)
  /-- New firmware signals ready; the slot becomes TRIAL and HOLD ends (R505). -/
  | activationReady
  /-- No ready within 250 ms or 400 ms; a warm reset with ACT_TIMEOUT follows (R41). -/
  | activationTimeout
  /-- Activates the other slot when it is GOOD (R508). -/
  | revertImage (k : Pkt)
  /-- Blows SVN fuses up to the running main firmware's SVN (R452). -/
  | commitSvn (k : Pkt)
  /-- Returns the update status record (R526). -/
  | getUpdateStatus (k : Pkt)
  /-- Returns a queue descriptor (R185). -/
  | readQueue (k : Pkt)
  /-- Returns first-fault records or their snapshots (R564). -/
  | readFaults (k : Pkt)
  /-- Returns a shown or pending cell version of a tile (R493). -/
  | readCell (k : Pkt)
  /-- SEC finishes an envelope's checks and store write and releases the command (R439). -/
  | envelopeVerified (k : Pkt) (f : Fetch)
  /-- A requester's 60 s throttling ends (R442). -/
  | envelopeThrottleExpiry (r : Req)
  /-- A command has no final reply after 10 ms, or 1 s more, and an interim PENDING reply is sent (R485). -/
  | interimReplyTimer (k : Pkt)
  /-- A forwarded packet gets no reply in time and is resent, or answered NO_REPLY after two resends (R485). -/
  | forwardResendTimeout (tag : Nat)
  /-- A forwarded QUIET packet unanswered for 2 s is forgotten (R470). -/
  | quietForget (tag : Nat)
  /-- Collection of a broadcast or group command ends and the aggregate reply is sent (R479). -/
  | aggregateCollectionEnd (tag : Nat)
  /-- A host write of CPS_CQ_TAIL announces new command entries (R480). -/
  | commandRingDoorbell (v : Word)
  /-- The device takes a command entry once a reply entry can be reserved for it (R481). -/
  | commandEntryFetch (entry : Option (List Byte))
  /-- A host write of CPS_RQ_HEAD frees reply ring entries (R481). -/
  | replyRingHeadWrite (v : Word)
  /-- A write of a ring's ENABLE enables it or disables it and zeroes its indices (R482). -/
  | ringEnableWrite (reply : Bool) (v : Word)
  /-- A word written to CPS_CP1_CMD joins the command FIFO, completing a packet when whole (R483). -/
  | cp1CmdWrite (v : Word)
  /-- A read of CPS_CP1_RPL removes the next reply word (R483). -/
  | cp1RplRead
  /-- FLUSH empties both CP1 FIFOs and any partial packet (R483). -/
  | cp1Flush
  /-- A CP1 packet whose words stop for 100 ms is discarded (R483). -/
  | cp1PartialTimeout
  /-- A QSPI STATUS instruction returns the firmware, FIFO and interrupt status byte (R532). -/
  | qspiStatus
  /-- A write of CPS_IND_ADDR sets the indirect address and clears SNAP (R542). -/
  | indAddrWrite (q : Nat) (v : Word)
  /-- A read through CPS_IND_DATA returns an indirect word, may take a snapshot, and auto-increments (R542). -/
  | indDataRead (q : Nat) (be : BitVec 4)
  /-- A write through CPS_IND_DATA stores an indirect word and clears SNAP (R541). -/
  | indDataWrite (q : Nat) (v : Word)
  /-- A read of the low half of a latched pair latches the high half for the requester (R537). -/
  | latchedPairRead (q : Nat) (pair : Nat) (part : Nat) (be : BitVec 4)
  /-- A write to an EA field acknowledges events, possibly resending an MSI-X message (R544). -/
  | eventAcknowledge (q : Nat) (addr : Nat) (v : Word)
  /-- A write to a SYS_CFG_LOCK field locks its register group until power-on reset (R550). -/
  | cfgLockWrite (q : Nat) (v : Word)
  /-- A write to SYS_GPIO_OUT changes the pins whose bit changes (R551). -/
  | gpioOutWrite (q : Nat) (v : Word)
  /-- A write of the bundle length starts verification of a PCIe-loaded image (R531). -/
  | sysLoadWrite (q : Nat) (v : Word)
  /-- A write of FORCE_FULL clears VALID in every position of every slot (R184). -/
  | forceFull
  /-- A write of CLEAR sets CMP_PASS_MAX.MAX to 0 (R148). -/
  | passMaxClear (q : Nat) (v : Word)
  /-- A write of TWL_CAL_CMD requests calibration of receive lanes (R232). -/
  | calCmdWrite (q p : Nat) (v : Word)
  /-- A write of INJ_GO inverts one bit or a burst on a transmit lane (R238). -/
  | injGo (q p l : Nat) (v : Word)
  /-- A write of GO captures LT, WT and NT at one instant (R323). -/
  | timSnapGo (q : Nat) (v : Word)
  /-- A write of ARM to a trigger record arms, fires late or refuses the unit (R310). -/
  | triggerArmWrite (q : Nat) (u : Nat) (v : Word)
  /-- A write of DISARM to a trigger record disarms the unit (R324). -/
  | triggerDisarmWrite (q : Nat) (u : Nat) (v : Word)
  /-- A write of CKPT_NOW requests an ageing checkpoint (R353). -/
  | ckptNow (q : Nat) (v : Word)
  /-- A write of TWL_STEP_CMD.GO requests the target step at once (R268). -/
  | stepCmdGo (q p : Nat) (v : Word)
  /-- A write of RETRAIN retrains the PCIe link (R554). -/
  | pciRetrain (q : Nat) (v : Word)
  /-- A write of CLEAR empties a first-fault record (R561). -/
  | faultRecordClear (q : Nat) (b : Nat) (v : Word)
  /-- A change of the effective strand clock period holds the display and re-enumerates the strands (R385). -/
  | clkSelChange (q : Nat) (v : Word)
  /-- A write of LOOP puts a Twill port into or out of a test loop (R235). -/
  | testLoopWrite (q p : Nat) (v : Word)
  /-- A write of PARK_REQ asks the link layer to take a lane out of traffic (R234). -/
  | parkReqWrite (q p l : Nat) (v : Word)
  /-- A write of OVR_EN in SERVICE applies EQ_OVR to a lane at once (R224). -/
  | eqOverrideWrite (q p l : Nat) (v : Word)
  /-- A write of TX_IDLE holds a Twill port or releases it to WAIT (R217). -/
  | txIdleWrite (q p : Nat) (v : Word)
  /-- A write to a register with no row of its own stores the value or counts a lock violation (R539). -/
  | registerWrite (q : Nat) (addr : Nat) (v : Word) (be : BitVec 4)
  /-- PORST_N falls and the device enters power-on reset (R599). -/
  | powerOnReset
  /-- A watched rail stays below its falling threshold for 1 µs and the device enters power-on reset (R587). -/
  | brownOut
  /-- WRST_N stays low through its 100 ns filter; a warm reset starts, or the assertion is counted in LOCKDOWN (R46). -/
  | wrstAssert
  /-- The firmware watchdog expires and causes a warm reset (R28). -/
  | watchdogExpiry
  /-- The last active reset cause ends; straps are sampled after power-on reset and BOOT begins (R599). -/
  | resetEnd (role : Bool) (board : Nat) (src : Nat) (lost : List Nat)
  /-- Firmware is verified and started and configuration is loaded; the device enters STANDBY and confirms a trial slot (R33). -/
  | bootComplete
  /-- 0.2 ms after a reset, tamper inputs are armed and latched events are handled (R454). -/
  | tamperArm
  /-- A tamper source has an event and its policy is applied (R453). -/
  | tamperEvent (src : Nat) (detail : Nat) (holds : Bool)
  /-- MOD_PRES_N shows the module gone without release; strands stop and FL_STATE becomes 0 (R356). -/
  | modulePulled
  /-- A module is inserted and its factory layer, user layer and checkpoint are loaded (R356). -/
  | moduleInserted (m : Module)
  /-- A falling edge of MOD_INT_N makes THM read every module sensor within 2 ms (R579). -/
  | modIntEdge (raws : List (Option Nat))
  /-- PMB_ALERT_N falls and STATUS_WORD of every supply is read within 1 ms (R420). -/
  | pmbAlert (reads : List SupplyRead)
  /-- An enabled edge on a GPIO counts in SYS_GPIO_EVT (R550). -/
  | gpioEdge (pin : Nat) (rise : Bool)
  /-- A rising edge of GENLOCK_IN is captured and used to discipline WT (R317). -/
  | genlockEdge
  /-- A rising edge of WT_PPS_IN is captured and used to discipline WT (R318). -/
  | ppsEdge
  /-- No GENLOCK_IN edge for 3 expected periods puts WT in HOLDOVER (R317). -/
  | genlockLoss
  /-- VDD_STR leaves its range; every strand is in FAULT and nothing is pushed (R588). -/
  | vddStrLoss
  /-- VDD_STR returns; every strand is enumerated and every position marked (R588). -/
  | vddStrReturn
  /-- The PCIe link goes down, expiring CP0 liveness and closing HOST export windows (R553). -/
  | pcieLinkDown
  /-- The PCIe data link layer comes up (R553). -/
  | pcieLinkUp (speed : Nat) (width : Nat)
  /-- An Ethernet sub-port gains or loses link (R53). -/
  | ethLinkChange (p sub : Nat) (up : Bool)
  /-- A received Ethernet frame is checked and classified to PTP, a flow leg, firmware or discard (R56). -/
  | ethFrameRx (p sub : Nat) (b : List Byte) (flags : Nat)
  /-- No valid Sync and Delay_Resp for announceReceiptTimeout; NT may enter HOLDOVER (R296). -/
  | ptpAnnounceTimeout (j : Nat)
  /-- The Delay_Req interval expires and a Delay_Req is sent (R295). -/
  | delayReqTimer (j : Nat)
  /-- MERGE_WIN_MS passes after a frame end and the frame is published incomplete (R70). -/
  | mergeWindowExpiry (j : Nat)
  /-- A leg receives nothing for LEG_TIMEOUT_MS and becomes idle (R69). -/
  | legIdle (j l : Nat)
  /-- No packet on any leg for TIMEOUT_MS and the flow enters LOST (R67). -/
  | flowTimeout (j : Nat)
  /-- At B_N, pending commits apply, layers latch, guard checks start and pass N starts (R111). -/
  | frameBoundary (n : Nat)
  /-- A surface guard check completes and its result applies (R103). -/
  | guardCheckDone (layer : Nat)
  /-- 500 µs after B_N the pass starts without waiting further for guard checks (R143). -/
  | guardWaitExpiry
  /-- A composed region is written, encoded to L16, copied to writeback and preview, and hashed (R111). -/
  | regionComplete (j : Nat)
  /-- Pass N completes or is cut off at B_N+1; writeback and preview publish (R112). -/
  | passEnd
  /-- A port launches the next eligible QUEUED entry as a cell message (R190). -/
  | cellLaunch (p : Nat)
  /-- At T_N a tile swaps banks and advances its store, and a sender frees SENT entries and sends LIVENESS (R315). -/
  | presentInstant (n : Nat)
  /-- A tile closes frame N and starts correction, the power handoff and the push (R198). -/
  | frameClose (n : Nat)
  /-- At I(T_N) minus 600 periods, every strand sends ARM with the frame scale (R374). -/
  | armSend (n : Nat)
  /-- Writes that cannot end by the cut-off stop and their positions carry over (R375). -/
  | pushCutoff
  /-- The push window ends and polls and command READs resume (R374). -/
  | pushWindowEnd
  /-- A PWM cycle start sends a CYC event on the sync lines (R319). -/
  | pwmCycleStart
  /-- A monitor-ADC start converts AMON0 to AMON7 (R320). -/
  | adcStart (codes : List Nat)
  /-- STR sends the next STATUS READ to a driver (R369). -/
  | statusPoll (g : Nat)
  /-- A driver reply arrives on the return line and is acted on (R368). -/
  | returnReply (g : Nat) (words : List Nat) (crc : Nat)
  /-- A driver reply has not begun in time and is counted (R368). -/
  | readTimeout (g : Nat)
  /-- WT reaches an armed compare value and the unit performs its action (R310). -/
  | triggerFire (k : Nat)
  /-- A trigger pulse ends after PULSE ticks and the pin returns to its bit (R551). -/
  | pulseEnd (g : Nat)
  /-- The sync interval expires and T_SYNC and T_FOLLOW are sent on each offering port (R302). -/
  | syncInterval
  /-- Arrival of T_SYNC is timestamped as t2 (R302). -/
  | tSync (p : Nat) (m : Msg)
  /-- T_FOLLOW gives T1 and an offset sample to the WT servo and updates the offer (R302). -/
  | tFollow (p : Nat) (m : Msg)
  /-- T_DREQ is stamped and answered with T_DRESP (R302). -/
  | tDreq (p : Nat) (m : Msg)
  /-- T_DRESP gives T4 and a delay sample for its port (R302). -/
  | tDresp (p : Nat) (m : Msg)
  /-- A sender's timing announcement enters the master election (R298). -/
  | tAnnounce (p : Nat) (m : Msg)
  /-- Present parameters are taken from the source and regenerated (R313). -/
  | tParams (p : Nat) (m : Msg)
  /-- Every 250 ms a sender with MASTER_EN broadcasts T_ANNOUNCE (R298). -/
  | announceTimer
  /-- An announcement older than 750 ms lapses and mastership may change (R298). -/
  | announceExpiry (dev : Nat)
  /-- A new CLASS order has held for 5 s and the master changes (R298). -/
  | masterChangeDwell
  /-- A source offer has no T_FOLLOW within 4 sync intervals; a new source or HOLDOVER follows (R304). -/
  | offerExpiry (p : Nat)
  /-- Once per second the XO curve is learned and the holdover rate re-evaluated (R308). -/
  | oscLearn
  /-- Once per second a tile sends a delivery report to its sender (R201). -/
  | deliveryReportTimer
  /-- Every 100 ms a tile reads its ambient sensors and filters the level (R170). -/
  | ambientSample (reads : List (Option (List Byte)))
  /-- Once per second a tile sends an ambient report (R171). -/
  | ambientReportTimer
  /-- Each second a sender sends tone state to reachable peers (R169). -/
  | toneStateTimer
  /-- Each second, and after each map application, a sender sends FEED_CLAIM (R416). -/
  | feedClaimTimer
  /-- At the end of each BPERIOD the sender computes and sends the feed's budgets (R414). -/
  | budgetPeriod (feed : Nat)
  /-- Every BPERIOD a tile sends DEMAND to its sender (R413). -/
  | demandTimer
  /-- A tile has not echoed a lowered budget within 1 s and is counted at its highest recent budget (R415). -/
  | budgetEchoTimeout (slot : Nat)
  /-- 10 ms after the first SAG the sender recomputes the feed (R418). -/
  | sagGatherExpiry (feed : Nat)
  /-- No budget for BUDGET_HOLD_S; the tile takes its FLOOR and sets SAFE (R419). -/
  | budgetHoldExpiry
  /-- Every 50 ms each supply is read, sag is checked and KP is learned (R413). -/
  | telemetryRound (reads : List SupplyRead)
  /-- After 2 s blanked in STANDBY, the tile overhead O_T is measured over 2 s (R410). -/
  | overheadMeasurement
  /-- A sensor is read, cross-checked and its thresholds judged (R392). -/
  | sensorSample (x : Nat) (raw : Option Nat)
  /-- A threshold's dwell passes and it trips or clears (R395); t from 32 on is lane t - 32, counted four to a port. -/
  | thresholdDwellExpiry (t : Nat)
  /-- Every 1 ms the die model is updated from measured chip power (R396). -/
  | dieModelUpdate (rails : List Nat)
  /-- Every 10 ms outside SHOW the zone model is updated (R399). -/
  | zoneModelUpdate
  /-- An ageing checkpoint starts by timer, request or release (R353). -/
  | checkpoint
  /-- A checkpoint write completes or fails (R353). -/
  | checkpointDone (good : Bool)
  /-- The memory controller scrubs units at the lowest priority (R567). -/
  | patrolScrub (unit : Nat) (region : Nat) (index : Nat) (kind : Nat)
  /-- A block's containment ends and faults are handled again (R565). -/
  | containmentEnd (b : Nat)
  /-- A lane's received amplitude stays low for 0.5 µs and loss of signal asserts (R225). -/
  | losAssert (p l : Nat)
  /-- A lane's amplitude stays high for 10 µs and loss of signal deasserts (R225). -/
  | losDeassert (p l : Nat)
  /-- The clock lane goes out of lock and the link is lost (R226). -/
  | clockOutOfLock (p : Nat)
  /-- A receive data lane goes out of lock and is requested out of traffic (R227). -/
  | laneOutOfLock (p l : Nat)
  /-- A 20 µs measurement of the received clock identifies the rate step (R219). -/
  | frequencyMeasured (p f : Nat)
  /-- A received training block aligns a lane, sets ACK or drives the countdown to ACTIVE (R218). -/
  | trainingBlock (p l skew : Nat) (inv : Bool) (b : List Byte)
  /-- A port not ACTIVE 2 ms after training began counts TWL_TRAIN_FAIL and restarts (R218). -/
  | trainingTimeout (p : Nat)
  /-- A 10 µs calibration run ends; runs are compared and values applied (R231). -/
  | calRunDone (p l : Nat) (r : Option (Nat × Int × Int × Int))
  /-- A requested or deferred lane calibration starts once a second lane carries traffic (R233). -/
  | calStart (p : Nat)
  /-- A lane that disagreed or was not aligned is calibrated again after 10 ms or 10 s (R232). -/
  | calRetryTimer (p l : Nat)
  /-- A test loop reaches TIMEOUT_S and the port retrains (R235). -/
  | loopTimeout (p : Nat)
  /-- A received flit is checked, its link fields taken and a DATA flit accepted or a retry requested (R258). -/
  | flitRx (p l j : Nat) (corr : Option Nat) (b : List Byte)
  /-- The retry timer reaches RETRY_US; RTOG toggles, or the link is lost at the 8th (R258). -/
  | retryTimeout (p : Nat)
  /-- The oldest unacknowledged flit waits 128 µs and the link is lost (R258). -/
  | unackedTimeout (p : Nat)
  /-- A LINK HELLO is taken and the link moves toward AUTH or a higher level (R261). -/
  | hello (p : Nat) (l : List Byte)
  /-- A LANE_REQ makes the transmitter remove or rejoin lanes (R264). -/
  | laneReq (p : Nat) (l : List Byte)
  /-- A LANESET announces the lane mask from EFF_SLOT (R265). -/
  | laneset (p : Nat) (l : List Byte)
  /-- A STEP flit makes both ends retrain at a new step from EFF_SLOT (R269). -/
  | stepFlit (p : Nat) (l : List Byte)
  /-- A RETRAIN lasting over 2 ms loses the link (R269). -/
  | retrainTimeout (p : Nat)
  /-- A step-down criterion holds and the port requests the next slower step (R267). -/
  | autoStepDown (p reason : Nat)
  /-- After STEP_UP_S below RATE_MAX, a port requests the next faster step (R268). -/
  | stepUpTimer (p : Nat)
  /-- An AUTH HELLO with certificates and ephemeral key is received (R444). -/
  | authHello (p : Nat) (m : Msg)
  /-- A PROOF is verified, the peer accepted and session keys derived (R445). -/
  | proof (p : Nat) (m : Msg)
  /-- An authentication fails, the port retrains and backs off (R448). -/
  | authFail (p : Nat) (m : Msg)
  /-- The backoff after a failed authentication ends and HELLO is sent again (R448). -/
  | authBackoffExpiry (p : Nat)
  /-- A REKEY message is verified and new keys derived (R447). -/
  | rekey (p : Nat) (m : Msg)
  /-- REKEY_H hours pass or a message count reaches 2^31 and a rekey starts (R447). -/
  | rekeyTimer (p : Nat)
  /-- A COMMAND message arrives on VC1 and is executed by its target (R484). -/
  | command (p : Nat) (m : Msg)
  /-- A REPLY message reaches the forwarding sender and is passed to the host (R484). -/
  | reply (p : Nat) (m : Msg)
  /-- A tile accepts or discards a cell message and assigns it to a pending frame (R196). -/
  | cellMessage (p : Nat) (m : Msg)
  /-- A tile replies to DISCOVER and forwards it (R275). -/
  | discoverMessage (p : Nat) (m : Msg)
  /-- The sender compares a reply with its map and numbers the tile (R277). -/
  | discoverReply (p : Nat) (m : Msg)
  /-- A device holding the sought number answers PROBE (R278). -/
  | probe (p : Nat) (m : Msg)
  /-- A PROBE_REPLY reveals a duplicate number and DUP_DEVICE is raised (R278). -/
  | probeReply (p : Nat) (m : Msg)
  /-- 2 ms after PROBE with no duplicate, the sender sends ASSIGN (R278). -/
  | probeWaitExpiry (p h : Nat)
  /-- A tile takes the number when CERT_ID is its own and replies ASSIGN_ACK (R278). -/
  | assign (p : Nat) (m : Msg)
  /-- The sender records the number taken and admits the tile (R278). -/
  | assignAck (p : Nat) (m : Msg)
  /-- No ASSIGN_ACK within 10 ms; ASSIGN is resent up to 3 times (R278). -/
  | assignRetryTimeout (p h : Nat)
  /-- A sender updates reach and routes from a tile's link event (R281). -/
  | linkEvent (p : Nat) (m : Msg)
  /-- HEAL_HOLD after the last LINK_UP event, the sender runs discovery (R275). -/
  | healHoldExpiry (p : Nat)
  /-- A LIVENESS message sets the tile's upstream port and primary and backup (R273). -/
  | liveness (p : Nat) (m : Msg)
  /-- Every 10 ms without present instants a sender sends LIVENESS with FRAME 0 (R283). -/
  | livenessIdleTimer
  /-- No LIVENESS from the primary for three periods; the tile sends BACKUP_REQ (R284). -/
  | primaryLost
  /-- The backup admits the tile with a takeover slot notice (R284). -/
  | backupReq (p : Nat) (m : Msg)
  /-- The backup returns the slot to state 6 (R285). -/
  | backupRelease (p : Nat) (m : Msg)
  /-- A neighbour's LOCKDOWN_NOTICE loses the link as DEVICE_LOCKDOWN (R279). -/
  | lockdownNotice (p : Nat) (m : Msg)
  /-- A tile compares the slot geometry and adopts or refuses its sender (R180). -/
  | slotNotice (p : Nat) (m : Msg)
  /-- The sender marks the slot SERVED or records a mismatch (R180). -/
  | slotReply (p : Nat) (m : Msg)
  /-- No reply within 10 ms; the notice is resent or the slot set to GEOM_BAD or NO_REPLY (R180). -/
  | slotNoticeRetry (j : Nat)
  /-- The sender copies a tile's delivery report into its slot record (R201). -/
  | deliveryReport (p : Nat) (m : Msg)
  /-- A tile stores wall settings and recomputes LSCALE (R152). -/
  | wallSettings (p : Nat) (m : Msg)
  /-- A sender stores a tile's ambient report (R167). -/
  | ambientReport (p : Nat) (m : Msg)
  /-- A sender stores a peer's tone state (R169). -/
  | toneState (p : Nat) (m : Msg)
  /-- A tile takes a new budget from the next frame closed (R415). -/
  | budget (p : Nat) (m : Msg)
  /-- A sender takes a tile's demand, echo and telemetry (R414). -/
  | demand (p : Nat) (m : Msg)
  /-- A sender keeps a peer's feed claims and flags conflicts (R416). -/
  | feedClaim (p : Nat) (m : Msg)
  /-- A Muslin frame tunnelled on VC2 is handled or forwarded (R525). -/
  | tunnel (p : Nat) (m : Msg)
  /-- A Muslin frame is received, checked and dispatched or tunnelled (R522). -/
  | mslFrame (frame : List Byte)
  /-- Muslin IDENT returns identification and the boot record slots (R523). -/
  | ident (seq : Nat) (payload : List Byte)
  /-- Muslin FAULTS returns first-fault records (R564). -/
  | faults (seq : Nat) (payload : List Byte)
  /-- Muslin UPD_STATUS returns the update status (R523). -/
  | updStatus (seq : Nat) (payload : List Byte)
  /-- Muslin LOAD_BEGIN empties the load area (R524). -/
  | loadBegin (seq : Nat) (payload : List Byte)
  /-- Muslin LOAD_DATA writes bytes into the load area (R524). -/
  | loadData (seq : Nat) (payload : List Byte)
  /-- Muslin LOAD_END checks the hash, and in BOOT boots the loaded bundle (R524). -/
  | loadEnd (seq : Nat) (payload : List Byte)
  /-- Muslin STAGE stages the load area under a stage-image envelope (R524). -/
  | mslStage (seq : Nat) (payload : List Byte)
  /-- Muslin ACTIVATE activates the staged slot under an activate envelope (R524). -/
  | mslActivate (seq : Nat) (payload : List Byte)
  /-- Muslin REVERT reverts the image under a revert-image envelope (R524). -/
  | mslRevert (seq : Nat) (payload : List Byte)
  /-- Once per second a device regenerates the present parameters in T_PARAMS on the ports where it offers time (R313). -/
  | tParamsTimer
  /-- Every 10 µs while OUT or READY is non-zero, or CUR differs from the announced mask, the receiving end sends LANE_REQ again (R259). -/
  | laneReqTimer (p : Nat)
  /-- A lane's pattern checker sees enough consecutive correct bits, locks and starts counting BITS and ERR (R237). -/
  | checkerLock (p l : Nat)
  /-- A locked checker sees 32 errors within 256 bits, loses lock and seeks again (R237). -/
  | checkerLockLoss (p l bits errs : Nat)
  /-- A clock or PLL of SYS_CLK is lost or unlocked; the CLK_LOSS fault occurs, and loss of the XO drops power-good into power-on reset (R550). -/
  | clockLoss (bit : Nat)
  /-- A lost clock returns or a PLL relocks and its SYS_CLK bit becomes 1 again (R550). -/
  | clockRestored (bit : Nat)
  /-- An IEEE 1149.1 instruction is honoured according to the owner and debug state, or acts as BYPASS and raises tamper source 6 (R459). -/
  | jtagInstruction (j : JtagInstr)
  /-- A host read or write through the surface aperture reaches plane bytes, or is discarded and counted in SRF_STRAY, with writes to latched surfaces counted in SRF_EARLY_WRITE (R107). -/
  | apertureAccess (off : Nat) (n : Nat) (w : Option (List Byte))
  /-- A host configuration-space write changes bus mastering, MSI-X enable or mask, or D3hot, which changes message sending and command fetch (R547). -/
  | pcieConfigWrite (bme : Bool) (msixEn : Bool) (d3 : Bool)
  /-- The background read and verification of the staged main firmware completes, activate replies OK and the device enters HOLD (R504). -/
  | activateVerifyDone (good : Bool)
  /-- The module flash write of a factory layer completes and ends with the load of R356 (R331). -/
  | factoryWriteDone (good : Bool)
  /-- One second after the last occurrence of a DEGRADE or higher event source, SYS_FAULT_STATUS.DEGRADED clears unless a level cause holds (R563). -/
  | degradedExpiry
  deriving DecidableEq, Repr

end Sys2Proof
end

