-- ==== Sys2Proof/Decode.lean ====
section
/-!
DEFINITION. The command a table word spells. The MR9600 is a block: no row of the operation table gives its command any bits,
so no word spells one.
-/

namespace Sys2Proof

/-- No row of the table has bits. (DESIGN CHOICE log 1) -/
def decodeTableWord (_nbits _w : Nat) : Option Instr := none

end Sys2Proof
end

