-- ==== Sys2Proof/Machine/Codes.lean ====
section
/-!
DEFINITION. The check codes the spec names: CRC-16 (R363), CRC-32C (R352, R499, R522) and CRC-64/XZ (R182).
-/

namespace Sys2Proof.Machine

/-- One bit of a reflected CRC. -/
def crcBit (poly r : Nat) : Nat := if r % 2 = 1 then (r / 2) ^^^ poly else r / 2

/-- One byte of a reflected CRC. -/
def crcByte (poly r : Nat) (b : Byte) : Nat := (List.range 8).foldl (fun a _ => crcBit poly a) (r ^^^ b.toNat)

/-- CRC-32C: polynomial 0x1EDC6F41 reflected, initial value and final XOR all ones. -/
def crc32c (l : List Byte) : Nat := l.foldl (crcByte 0x82F63B78) 0xFFFFFFFF ^^^ 0xFFFFFFFF

/-- CRC-64/XZ: polynomial 0x42F0E1EBA9EA3693 reflected, initial value and final XOR all ones. -/
def crc64 (l : List Byte) : Nat := l.foldl (crcByte 0xC96C5795D7870F42) 0xFFFFFFFFFFFFFFFF ^^^ 0xFFFFFFFFFFFFFFFF

/-- One bit of CRC-16, most significant bit first. -/
def crc16Bit (r : Nat) : Nat := if 0x8000 ≤ r then (2 * r % 0x10000) ^^^ 0x1021 else 2 * r

/-- One byte of CRC-16. -/
def crc16Byte (r : Nat) (b : Byte) : Nat := (List.range 8).foldl (fun a _ => crc16Bit a) (r ^^^ (256 * b.toNat))

/-- CRC-16 with polynomial 0x1021, initial value 0xFFFF, no reflection, no final XOR (R363). -/
def crc16 (l : List Byte) : Nat := l.foldl crc16Byte 0xFFFF

end Sys2Proof.Machine
end

