-- ==== Sys2Proof/Config.lean ====
section
/-!
DEFINITION. What an implementation fixes and what the spec leaves open: constants without a body.
No proof can see their values, so a claim holds whatever they are.
-/

namespace Sys2Proof

/-- Free values: the n-th value the spec leaves open, as a natural number the user reduces to its width. (DESIGN CHOICE log 7) -/
opaque Config.free : Nat → Nat

/-- DIE_REV of SYS_ID (R550). (DESIGN CHOICE log 12) -/
opaque Config.dieRev : Nat

/-- Caenod's PCI vendor ID (R553). (DESIGN CHOICE log 12) -/
opaque Config.vendorId : Nat

/-- SHA-384 (FIPS 180-4), 48 bytes: named by the spec, not given by it. (DESIGN CHOICE log 9) -/
opaque Config.sha384 : List Byte → List Byte

/-- ECDSA P-384 with SHA-384: public key, message, signature (R428). (DESIGN CHOICE log 9) -/
opaque Config.ecdsaVerify : List Byte → List Byte → List Byte → Bool

/-- A signature of a message under a private key named by number. (DESIGN CHOICE log 9) -/
opaque Config.ecdsaSign : Nat → List Byte → List Byte

/-- A public key is a point of the curve, in range and not the point at infinity (R428). (DESIGN CHOICE log 9) -/
opaque Config.keyOnCurve : List Byte → Bool

/-- The public key of a private key named by number; number 0 is the device identity key. (DESIGN CHOICE log 9) -/
opaque Config.publicKey : Nat → List Byte

/-- The shared x coordinate, 48 bytes, of a private key named by number and a public key (R446). (DESIGN CHOICE log 9) -/
opaque Config.ecdhX : Nat → List Byte → List Byte

/-- The vendor root public key that accompanies a root slot (R430). (DESIGN CHOICE log 9) -/
opaque Config.rootKey : Nat → List Byte

/-- Byte n of the AES-256 counter-mode key stream of GCM under a key and a 96-bit IV. (DESIGN CHOICE log 9) -/
opaque Config.gcmPad : List Byte → List Byte → Nat → Byte

/-- The 16-byte GCM tag of a ciphertext under a key and an IV, without additional data. (DESIGN CHOICE log 9) -/
opaque Config.gcmTag : List Byte → List Byte → List Byte → List Byte

/-- A decoding step of the colour stage (R159), known only within the tolerance the spec states: the transfer code,
the profile's parameters as binary32 patterns, the three components in and the index of the component out. (DESIGN CHOICE log 32) -/
opaque Config.decode : Nat → List Nat → List Nat → Nat → Nat

/-- The gamut matrix firmware computes in binary64 (R160): source primaries code, the 16 bytes of the wall settings,
and the index of the coefficient, as a binary32 pattern. (DESIGN CHOICE log 32) -/
opaque Config.gamut : Nat → List Byte → Nat → Nat

/-- K_AMB between two points of the ambient curve (R166): the two points and the level. (DESIGN CHOICE log 32) -/
opaque Config.ambInterp : Nat × Nat → Nat × Nat → Nat → Nat

/-- Surface heap beyond the 12 GiB that R86 promises, in 4 KiB units. (DESIGN CHOICE log 11) -/
opaque Config.heapExtra : Nat

/-- Whether a quotient whose rounding the spec does not state is rounded up: the place it stands at (a number of the
model's own), numerator and denominator. (DESIGN CHOICE log 8) -/
opaque Config.roundsUp : Nat → Nat → Nat → Bool

/-- A quotient of zero by zero: the place it stands at, and what the dividend was made from. (DESIGN CHOICE log 8) -/
opaque Config.corner : Nat → Nat → Nat

/-- A node of the die's thermal network 1 ms on (R396), in 2^-20 °C: the 24 nodes, the power of the six rails in mW, and
the node. Conductances, capacities and weights are fixed for the package and not given. (DEDUCED log 39) -/
opaque Config.dieNode : List Int → List Nat → Nat → Int

/-- The monitor ADC's code corrected with the coefficients fused at test (R422): the code and sensor 3 in 1/16 °C. -/
opaque Config.adcCorrect : Nat → Int → Nat

/-- LOCK_NS of a WT disciplined to NT, which R294 does not list, in ns. (DEDUCED log 36) -/
opaque Config.lockFromNt : Nat

/-- The sender's PTP clockIdentity, 8 bytes: not given by the spec. (DESIGN CHOICE log 12) -/
opaque Config.clockIdentity : List Byte

/-- Public keys of the module signers built into the security firmware (R435). (DESIGN CHOICE log 12) -/
opaque Config.moduleSigners : List (List Byte)

/-- Forwarding tags count up from here: R484 asks only that they are unique among the packets outstanding. (DESIGN CHOICE log 42) -/
opaque Config.tagBase : Nat

/-- Issuer certificates that come with the firmware, beside the device's own (R430): not listed by the spec. (DESIGN CHOICE log 12) -/
opaque Config.issuers : List (List Byte)

end Sys2Proof
end

