-- ==== Sys2Proof/Machine/RegMap.lean ====
section
/-!
DEFINITION. The register map (R534): every register of the register window and of the indirect spaces,
with the type code and the reset value of each field (R7), as the register tables of each chapter give them.
A bit that no field names is RSV: it reads zero and ignores writes.
A register is keyed by its byte address: block index times 64 KiB plus offset, and 2^24 more in the indirect spaces.
The eight Twill blocks share one description; port p is block 16 + p.
-/

namespace Sys2Proof.Machine

/-- The field type codes of Table 0.6. -/
inductive FieldKind where
  | rw | ro | rl | ec | ea | w1a | wl
  deriving DecidableEq, Repr

/-- One field: bits hi down to lo, its type code and its reset value. -/
structure FieldDef where
  hi : Nat
  lo : Nat
  kind : FieldKind
  reset : Nat
  deriving DecidableEq, Repr

/-- A register, or `count` of them `stride` bytes apart. -/
structure RegDef where
  off : Nat
  count : Nat
  stride : Nat
  fields : List FieldDef
  deriving DecidableEq, Repr

/-- A named field of one register: the register's key and the field's bits. -/
structure Fld where
  reg : Nat
  hi : Nat
  lo : Nat
  deriving DecidableEq, Repr

/-- The key of a direct register. -/
abbrev dirKey (block off : Nat) : Nat := block * 65536 + off

/-- The key of a word of an indirect space. -/
abbrev indKey (block off : Nat) : Nat := 16777216 + block * 65536 + off

/-- Direct registers of SYS (R50, R51, R550, R557, R562, R563). -/
def sysDirect : List RegDef :=
  [ ⟨0x0, 1, 4, [⟨7, 0, .ro, 0x96⟩, ⟨8, 8, .ro, 0x0⟩, ⟨23, 16, .ro, 0x0⟩]⟩ -- SYS_ID
  , ⟨0x4, 1, 4, [⟨31, 0, .rw, 0x0⟩]⟩ -- SYS_SCRATCH
  , ⟨0x8, 1, 4, [⟨0, 0, .wl, 0x0⟩, ⟨1, 1, .wl, 0x0⟩, ⟨2, 2, .wl, 0x0⟩]⟩ -- SYS_CFG_LOCK
  , ⟨0x10, 1, 4, [⟨2, 0, .ro, 0x0⟩, ⟨6, 4, .ro, 0x0⟩, ⟨9, 8, .ro, 0x0⟩, ⟨11, 10, .ro, 0x0⟩, ⟨12, 12, .ro, 0x0⟩, ⟨13, 13, .ro, 0x0⟩, ⟨15, 14, .ro, 0x0⟩, ⟨19, 16, .ro, 0x0⟩, ⟨20, 20, .ro, 0x0⟩, ⟨21, 21, .rl, 0x0⟩]⟩ -- SYS_MODE
  , ⟨0x14, 1, 4, [⟨0, 0, .ro, 0x1⟩, ⟨1, 1, .ro, 0x0⟩, ⟨2, 2, .ro, 0x0⟩, ⟨3, 3, .ro, 0x0⟩, ⟨4, 4, .ro, 0x0⟩, ⟨5, 5, .ro, 0x0⟩, ⟨15, 8, .ec, 0x0⟩, ⟨23, 16, .ec, 0x0⟩]⟩ -- SYS_RESET_CAUSE
  , ⟨0x18, 1, 4, [⟨15, 0, .ec, 0x0⟩]⟩ -- SYS_MODE_EVT
  , ⟨0x1C, 1, 4, [⟨15, 0, .ea, 0x0⟩]⟩ -- SYS_MODE_ACK
  , ⟨0x20, 1, 4, [⟨15, 0, .ec, 0x0⟩]⟩ -- SYS_FAULT_EVT
  , ⟨0x24, 1, 4, [⟨15, 0, .ea, 0x0⟩]⟩ -- SYS_FAULT_ACK
  , ⟨0x28, 1, 4, [⟨7, 0, .ec, 0x0⟩, ⟨15, 8, .ec, 0x0⟩, ⟨23, 16, .ec, 0x0⟩, ⟨31, 24, .ec, 0x0⟩]⟩ -- SYS_ACC_ERR
  , ⟨0x2C, 1, 4, [⟨4, 0, .ro, 0x0⟩, ⟨6, 5, .ro, 0x0⟩, ⟨7, 7, .ro, 0x0⟩, ⟨23, 8, .ro, 0x0⟩]⟩ -- SYS_LOCKVIOL_LAST
  , ⟨0x30, 1, 4, [⟨0, 0, .rl, 0x1⟩, ⟨1, 1, .rl, 0x0⟩, ⟨2, 2, .rl, 0x0⟩, ⟨3, 3, .rl, 0x0⟩, ⟨4, 4, .rl, 0x0⟩, ⟨5, 5, .rl, 0x0⟩, ⟨6, 6, .rl, 0x0⟩, ⟨7, 7, .rl, 0x0⟩]⟩ -- SYS_CLK
  , ⟨0x34, 1, 4, [⟨25, 0, .ro, 0x0⟩, ⟨31, 30, .ro, 0x0⟩]⟩ -- SYS_LOAD
  , ⟨0x40, 1, 4, [⟨23, 0, .rw, 0x0⟩]⟩ -- SYS_GPIO_DIR
  , ⟨0x44, 1, 4, [⟨23, 0, .rw, 0x0⟩]⟩ -- SYS_GPIO_OUT
  , ⟨0x48, 1, 4, [⟨23, 0, .rw, 0x0⟩]⟩ -- SYS_GPIO_OD
  , ⟨0x4C, 1, 4, [⟨23, 0, .ro, 0x0⟩]⟩ -- SYS_GPIO_IN
  , ⟨0x50, 1, 4, [⟨23, 0, .rw, 0x0⟩]⟩ -- SYS_GPIO_RISE
  , ⟨0x54, 1, 4, [⟨23, 0, .rw, 0x0⟩]⟩ -- SYS_GPIO_FALL
  , ⟨0x58, 1, 4, [⟨15, 0, .ec, 0x0⟩]⟩ -- SYS_GPIO_EVT
  ]
  ++
  [ ⟨0x5C, 1, 4, [⟨15, 0, .ea, 0x0⟩]⟩ -- SYS_GPIO_ACK
  , ⟨0x60, 1, 4, [⟨4, 0, .rw, 0x0⟩, ⟨7, 7, .rw, 0x0⟩]⟩ -- SYS_GPIO_IRQ
  , ⟨0x68, 1, 4, [⟨0, 0, .rl, 0x0⟩, ⟨1, 1, .rl, 0x0⟩, ⟨25, 2, .ro, 0x0⟩, ⟨30, 26, .ro, 0x0⟩, ⟨31, 31, .ro, 0x0⟩]⟩ -- SYS_FAULT_STATUS
  , ⟨0x6C, 1, 4, [⟨31, 0, .ec, 0x0⟩]⟩ -- SYS_FAULT_LOST
  , ⟨0x100, 24, 4, [⟨15, 0, .ec, 0x0⟩]⟩ -- SYS_LOCKVIOL
  , ⟨0x200, 1, 4, [⟨1, 0, .rw, 0x0⟩, ⟨3, 2, .rw, 0x0⟩, ⟨5, 4, .rw, 0x1⟩]⟩ -- SYS_SEV_LO_0
  , ⟨0x208, 1, 4, [⟨1, 0, .rw, 0x0⟩, ⟨3, 2, .rw, 0x1⟩, ⟨5, 4, .rw, 0x1⟩, ⟨7, 6, .rw, 0x1⟩, ⟨9, 8, .rw, 0x0⟩]⟩ -- SYS_SEV_LO_1
  , ⟨0x210, 1, 4, [⟨1, 0, .rw, 0x0⟩, ⟨3, 2, .rw, 0x0⟩, ⟨5, 4, .rw, 0x1⟩, ⟨7, 6, .rw, 0x1⟩]⟩ -- SYS_SEV_LO_2
  , ⟨0x218, 1, 4, [⟨1, 0, .rw, 0x0⟩, ⟨3, 2, .rw, 0x0⟩, ⟨5, 4, .rw, 0x1⟩, ⟨7, 6, .ro, 0x2⟩]⟩ -- SYS_SEV_LO_3
  , ⟨0x220, 1, 4, [⟨1, 0, .rw, 0x0⟩, ⟨3, 2, .rw, 0x1⟩, ⟨5, 4, .rw, 0x0⟩]⟩ -- SYS_SEV_LO_4
  , ⟨0x228, 1, 4, [⟨1, 0, .rw, 0x0⟩, ⟨3, 2, .rw, 0x1⟩, ⟨5, 4, .rw, 0x0⟩]⟩ -- SYS_SEV_LO_5
  , ⟨0x230, 1, 4, [⟨1, 0, .rw, 0x0⟩, ⟨3, 2, .rw, 0x1⟩, ⟨5, 4, .rw, 0x0⟩]⟩ -- SYS_SEV_LO_6
  , ⟨0x238, 1, 4, [⟨1, 0, .rw, 0x0⟩, ⟨3, 2, .rw, 0x1⟩, ⟨5, 4, .rw, 0x0⟩, ⟨7, 6, .rw, 0x0⟩, ⟨9, 8, .rw, 0x0⟩]⟩ -- SYS_SEV_LO_7
  , ⟨0x240, 1, 4, [⟨1, 0, .rw, 0x0⟩, ⟨3, 2, .rw, 0x0⟩, ⟨5, 4, .rw, 0x0⟩]⟩ -- SYS_SEV_LO_8
  , ⟨0x248, 1, 4, [⟨1, 0, .rw, 0x0⟩, ⟨3, 2, .rw, 0x1⟩, ⟨5, 4, .rw, 0x1⟩, ⟨7, 6, .rw, 0x1⟩, ⟨9, 8, .rw, 0x1⟩, ⟨11, 10, .rw, 0x0⟩]⟩ -- SYS_SEV_LO_9
  , ⟨0x250, 1, 4, [⟨1, 0, .rw, 0x0⟩, ⟨3, 2, .rw, 0x1⟩, ⟨5, 4, .rw, 0x1⟩, ⟨7, 6, .rw, 0x1⟩, ⟨9, 8, .rw, 0x1⟩, ⟨11, 10, .rw, 0x0⟩]⟩ -- SYS_SEV_LO_10
  , ⟨0x258, 1, 4, [⟨1, 0, .rw, 0x0⟩, ⟨3, 2, .ro, 0x3⟩, ⟨5, 4, .rw, 0x1⟩, ⟨7, 6, .rw, 0x1⟩, ⟨9, 8, .rw, 0x1⟩, ⟨11, 10, .rw, 0x1⟩, ⟨13, 12, .rw, 0x1⟩, ⟨15, 14, .rw, 0x1⟩, ⟨17, 16, .rw, 0x0⟩, ⟨19, 18, .rw, 0x0⟩, ⟨21, 20, .rw, 0x0⟩, ⟨23, 22, .rw, 0x0⟩, ⟨25, 24, .rw, 0x0⟩, ⟨27, 26, .rw, 0x1⟩]⟩ -- SYS_SEV_LO_11
  , ⟨0x260, 1, 4, [⟨1, 0, .rw, 0x0⟩, ⟨3, 2, .rw, 0x1⟩, ⟨5, 4, .rw, 0x1⟩, ⟨7, 6, .rw, 0x1⟩, ⟨9, 8, .rw, 0x1⟩, ⟨11, 10, .rw, 0x1⟩, ⟨13, 12, .rw, 0x0⟩]⟩ -- SYS_SEV_LO_12
  , ⟨0x268, 1, 4, [⟨1, 0, .rw, 0x0⟩, ⟨3, 2, .rw, 0x1⟩, ⟨5, 4, .rw, 0x1⟩, ⟨7, 6, .rw, 0x1⟩, ⟨9, 8, .rw, 0x1⟩, ⟨11, 10, .rw, 0x1⟩, ⟨13, 12, .rw, 0x0⟩]⟩ -- SYS_SEV_LO_13
  , ⟨0x270, 1, 4, [⟨1, 0, .rw, 0x0⟩, ⟨3, 2, .ro, 0x0⟩, ⟨5, 4, .ro, 0x0⟩, ⟨7, 6, .ro, 0x0⟩, ⟨9, 8, .ro, 0x0⟩, ⟨11, 10, .ro, 0x0⟩, ⟨13, 12, .ro, 0x0⟩, ⟨15, 14, .ro, 0x0⟩, ⟨17, 16, .ro, 0x0⟩, ⟨19, 18, .ro, 0x0⟩, ⟨21, 20, .ro, 0x0⟩, ⟨23, 22, .ro, 0x0⟩, ⟨25, 24, .rw, 0x1⟩, ⟨27, 26, .rw, 0x0⟩, ⟨29, 28, .ro, 0x3⟩]⟩ -- SYS_SEV_LO_14
  ]
  ++
  [ ⟨0x278, 1, 4, [⟨1, 0, .rw, 0x0⟩, ⟨3, 2, .rw, 0x1⟩, ⟨5, 4, .rw, 0x1⟩, ⟨7, 6, .rw, 0x1⟩, ⟨9, 8, .rw, 0x0⟩]⟩ -- SYS_SEV_LO_15
  , ⟨0x280, 1, 4, [⟨1, 0, .rw, 0x0⟩, ⟨3, 2, .rw, 0x1⟩, ⟨5, 4, .rw, 0x1⟩, ⟨7, 6, .rw, 0x1⟩, ⟨9, 8, .rw, 0x1⟩, ⟨11, 10, .rw, 0x1⟩, ⟨13, 12, .rw, 0x1⟩, ⟨15, 14, .rw, 0x1⟩, ⟨17, 16, .rw, 0x0⟩]⟩ -- SYS_SEV_LO_16
  , ⟨0x288, 1, 4, [⟨1, 0, .rw, 0x0⟩, ⟨3, 2, .rw, 0x1⟩, ⟨5, 4, .rw, 0x1⟩, ⟨7, 6, .rw, 0x1⟩, ⟨9, 8, .rw, 0x1⟩, ⟨11, 10, .rw, 0x1⟩, ⟨13, 12, .rw, 0x1⟩, ⟨15, 14, .rw, 0x1⟩, ⟨17, 16, .rw, 0x0⟩]⟩ -- SYS_SEV_LO_17
  , ⟨0x290, 1, 4, [⟨1, 0, .rw, 0x0⟩, ⟨3, 2, .rw, 0x1⟩, ⟨5, 4, .rw, 0x1⟩, ⟨7, 6, .rw, 0x1⟩, ⟨9, 8, .rw, 0x1⟩, ⟨11, 10, .rw, 0x1⟩, ⟨13, 12, .rw, 0x1⟩, ⟨15, 14, .rw, 0x1⟩, ⟨17, 16, .rw, 0x0⟩]⟩ -- SYS_SEV_LO_18
  , ⟨0x298, 1, 4, [⟨1, 0, .rw, 0x0⟩, ⟨3, 2, .rw, 0x1⟩, ⟨5, 4, .rw, 0x1⟩, ⟨7, 6, .rw, 0x1⟩, ⟨9, 8, .rw, 0x1⟩, ⟨11, 10, .rw, 0x1⟩, ⟨13, 12, .rw, 0x1⟩, ⟨15, 14, .rw, 0x1⟩, ⟨17, 16, .rw, 0x0⟩]⟩ -- SYS_SEV_LO_19
  , ⟨0x2A0, 1, 4, [⟨1, 0, .rw, 0x0⟩, ⟨3, 2, .rw, 0x1⟩, ⟨5, 4, .rw, 0x1⟩, ⟨7, 6, .rw, 0x1⟩, ⟨9, 8, .rw, 0x1⟩, ⟨11, 10, .rw, 0x1⟩, ⟨13, 12, .rw, 0x1⟩, ⟨15, 14, .rw, 0x1⟩, ⟨17, 16, .rw, 0x0⟩]⟩ -- SYS_SEV_LO_20
  , ⟨0x2A8, 1, 4, [⟨1, 0, .rw, 0x0⟩, ⟨3, 2, .rw, 0x1⟩, ⟨5, 4, .rw, 0x1⟩, ⟨7, 6, .rw, 0x1⟩, ⟨9, 8, .rw, 0x1⟩, ⟨11, 10, .rw, 0x1⟩, ⟨13, 12, .rw, 0x1⟩, ⟨15, 14, .rw, 0x1⟩, ⟨17, 16, .rw, 0x0⟩]⟩ -- SYS_SEV_LO_21
  , ⟨0x2B0, 1, 4, [⟨1, 0, .rw, 0x0⟩, ⟨3, 2, .rw, 0x1⟩, ⟨5, 4, .rw, 0x1⟩, ⟨7, 6, .rw, 0x1⟩, ⟨9, 8, .rw, 0x1⟩, ⟨11, 10, .rw, 0x1⟩, ⟨13, 12, .rw, 0x1⟩, ⟨15, 14, .rw, 0x1⟩, ⟨17, 16, .rw, 0x0⟩]⟩ -- SYS_SEV_LO_22
  , ⟨0x2B8, 1, 4, [⟨1, 0, .rw, 0x0⟩, ⟨3, 2, .rw, 0x1⟩, ⟨5, 4, .rw, 0x1⟩, ⟨7, 6, .rw, 0x1⟩, ⟨9, 8, .rw, 0x1⟩, ⟨11, 10, .rw, 0x1⟩, ⟨13, 12, .rw, 0x1⟩, ⟨15, 14, .rw, 0x1⟩, ⟨17, 16, .rw, 0x0⟩]⟩ -- SYS_SEV_LO_23
  , ⟨0x204, 1, 4, []⟩ -- SYS_SEV_HI_0
  , ⟨0x20C, 1, 4, []⟩ -- SYS_SEV_HI_1
  , ⟨0x214, 1, 4, []⟩ -- SYS_SEV_HI_2
  , ⟨0x21C, 1, 4, []⟩ -- SYS_SEV_HI_3
  , ⟨0x224, 1, 4, []⟩ -- SYS_SEV_HI_4
  , ⟨0x22C, 1, 4, []⟩ -- SYS_SEV_HI_5
  , ⟨0x234, 1, 4, []⟩ -- SYS_SEV_HI_6
  , ⟨0x23C, 1, 4, []⟩ -- SYS_SEV_HI_7
  , ⟨0x244, 1, 4, []⟩ -- SYS_SEV_HI_8
  , ⟨0x24C, 1, 4, []⟩ -- SYS_SEV_HI_9
  , ⟨0x254, 1, 4, []⟩ -- SYS_SEV_HI_10
  ]
  ++
  [ ⟨0x25C, 1, 4, []⟩ -- SYS_SEV_HI_11
  , ⟨0x264, 1, 4, []⟩ -- SYS_SEV_HI_12
  , ⟨0x26C, 1, 4, []⟩ -- SYS_SEV_HI_13
  , ⟨0x274, 1, 4, []⟩ -- SYS_SEV_HI_14
  , ⟨0x27C, 1, 4, []⟩ -- SYS_SEV_HI_15
  , ⟨0x284, 1, 4, []⟩ -- SYS_SEV_HI_16
  , ⟨0x28C, 1, 4, []⟩ -- SYS_SEV_HI_17
  , ⟨0x294, 1, 4, []⟩ -- SYS_SEV_HI_18
  , ⟨0x29C, 1, 4, []⟩ -- SYS_SEV_HI_19
  , ⟨0x2A4, 1, 4, []⟩ -- SYS_SEV_HI_20
  , ⟨0x2AC, 1, 4, []⟩ -- SYS_SEV_HI_21
  , ⟨0x2B4, 1, 4, []⟩ -- SYS_SEV_HI_22
  , ⟨0x2BC, 1, 4, []⟩ -- SYS_SEV_HI_23
  , ⟨0x400, 24, 32, [⟨4, 0, .ro, 0x0⟩, ⟨6, 5, .ro, 0x0⟩, ⟨7, 7, .ro, 0x0⟩, ⟨15, 8, .ro, 0x0⟩, ⟨31, 16, .ro, 0x0⟩]⟩ -- FREC_W0
  , ⟨0x404, 24, 32, [⟨31, 0, .ro, 0x0⟩]⟩ -- FREC_LT_LO
  , ⟨0x408, 24, 32, [⟨31, 0, .ro, 0x0⟩]⟩ -- FREC_LT_HI
  , ⟨0x40C, 24, 32, [⟨31, 0, .ro, 0x0⟩]⟩ -- FREC_WT_LO
  , ⟨0x410, 24, 32, [⟨31, 0, .ro, 0x0⟩]⟩ -- FREC_WT_HI
  , ⟨0x414, 24, 32, [⟨31, 0, .ro, 0x0⟩]⟩ -- FREC_INFO
  , ⟨0x418, 24, 32, [⟨15, 0, .ec, 0x0⟩]⟩ -- FREC_LOST
  ]
  ++
  [ ⟨0x41C, 24, 32, [⟨0, 0, .w1a, 0x0⟩]⟩ -- FREC_CLEAR
  , ⟨0x800, 24, 32, [⟨31, 0, .ro, 0x0⟩]⟩ -- FSNAP_W0
  , ⟨0x804, 24, 32, [⟨31, 0, .ro, 0x0⟩]⟩ -- FSNAP_LT_LO
  , ⟨0x808, 24, 32, [⟨31, 0, .ro, 0x0⟩]⟩ -- FSNAP_LT_HI
  , ⟨0x80C, 24, 32, [⟨31, 0, .ro, 0x0⟩]⟩ -- FSNAP_WT_LO
  , ⟨0x810, 24, 32, [⟨31, 0, .ro, 0x0⟩]⟩ -- FSNAP_WT_HI
  , ⟨0x814, 24, 32, [⟨31, 0, .ro, 0x0⟩]⟩ -- FSNAP_INFO
  , ⟨0x818, 24, 32, [⟨15, 0, .ro, 0x0⟩]⟩ -- FSNAP_LOST
  ]

/-- Direct registers of CPS (R495, R496, R546, R552). -/
def cpsDirect : List RegDef :=
  [ ⟨0x0, 1, 4, [⟨15, 0, .rw, 0x0⟩, ⟨20, 16, .rw, 0x0⟩]⟩ -- CPS_IND_ADDR
  , ⟨0x4, 1, 4, [⟨31, 0, .rw, 0x0⟩]⟩ -- CPS_IND_DATA
  , ⟨0x8, 1, 4, [⟨0, 0, .rw, 0x1⟩, ⟨1, 1, .rl, 0x0⟩]⟩ -- CPS_IND_CTRL
  , ⟨0xC, 1, 4, [⟨1, 0, .ro, 0x0⟩]⟩ -- CPS_REQ
  , ⟨0x60, 1, 4, [⟨31, 0, .rl, 0x0⟩]⟩ -- CPS_IRQ_PEND0
  , ⟨0x64, 1, 4, [⟨31, 0, .rl, 0x0⟩]⟩ -- CPS_IRQ_PEND1
  , ⟨0x80, 16, 4, [⟨31, 0, .ea, 0x0⟩]⟩ -- CPS_TRIG_ACK
  , ⟨0x100, 1, 4, [⟨31, 12, .rw, 0x0⟩]⟩ -- CPS_CQ_BASE_LO
  , ⟨0x104, 1, 4, [⟨31, 0, .rw, 0x0⟩]⟩ -- CPS_CQ_BASE_HI
  , ⟨0x108, 1, 4, [⟨0, 0, .rw, 0x0⟩, ⟨7, 4, .rw, 0x6⟩]⟩ -- CPS_CQ_CTRL
  , ⟨0x10C, 1, 4, [⟨9, 0, .rw, 0x0⟩]⟩ -- CPS_CQ_TAIL
  , ⟨0x110, 1, 4, [⟨9, 0, .ro, 0x0⟩]⟩ -- CPS_CQ_HEAD
  , ⟨0x114, 1, 4, [⟨31, 12, .rw, 0x0⟩]⟩ -- CPS_RQ_BASE_LO
  , ⟨0x118, 1, 4, [⟨31, 0, .rw, 0x0⟩]⟩ -- CPS_RQ_BASE_HI
  , ⟨0x11C, 1, 4, [⟨0, 0, .rw, 0x0⟩, ⟨7, 4, .rw, 0x6⟩]⟩ -- CPS_RQ_CTRL
  , ⟨0x120, 1, 4, [⟨9, 0, .rw, 0x0⟩]⟩ -- CPS_RQ_HEAD
  , ⟨0x124, 1, 4, [⟨9, 0, .ro, 0x0⟩]⟩ -- CPS_RQ_TAIL
  , ⟨0x128, 1, 4, [⟨15, 0, .ec, 0x0⟩]⟩ -- CPS_RQ_EVT
  , ⟨0x12C, 1, 4, [⟨15, 0, .ea, 0x0⟩]⟩ -- CPS_RQ_ACK
  , ⟨0x140, 1, 4, [⟨31, 0, .w1a, 0x0⟩]⟩ -- CPS_CP1_CMD
  ]
  ++
  [ ⟨0x144, 1, 4, [⟨31, 0, .ro, 0x0⟩]⟩ -- CPS_CP1_RPL
  , ⟨0x148, 1, 4, [⟨11, 0, .ro, 0x800⟩, ⟨27, 16, .ro, 0x0⟩]⟩ -- CPS_CP1_LEVEL
  , ⟨0x14C, 1, 4, [⟨0, 0, .w1a, 0x0⟩, ⟨1, 1, .rw, 0x1⟩]⟩ -- CPS_CP1_CTRL
  , ⟨0x150, 1, 4, [⟨7, 0, .ec, 0x0⟩, ⟨15, 8, .ec, 0x0⟩, ⟨23, 16, .ec, 0x0⟩, ⟨31, 24, .ec, 0x0⟩]⟩ -- CPS_CP1_ERR
  , ⟨0x154, 1, 4, [⟨5, 0, .rw, 0x22⟩]⟩ -- CPS_CP1_CFG
  , ⟨0x1C0, 1, 4, [⟨15, 0, .rw, 0x7D0⟩, ⟨31, 16, .ro, 0x0⟩]⟩ -- CPS_LIVE_CP0
  , ⟨0x1C4, 1, 4, [⟨15, 0, .rw, 0x7D0⟩, ⟨31, 16, .ro, 0x0⟩]⟩ -- CPS_LIVE_CP1
  , ⟨0x1C8, 1, 4, [⟨15, 0, .ec, 0x0⟩, ⟨31, 16, .ec, 0x0⟩]⟩ -- CPS_LIVE_EXP
  , ⟨0x1D0, 1, 4, [⟨31, 0, .ro, 0x0⟩]⟩ -- CPS_SEM_OWNER
  , ⟨0x1E0, 1, 4, [⟨15, 0, .ec, 0x0⟩, ⟨31, 16, .ec, 0x0⟩]⟩ -- CPS_FWD
  , ⟨0x1E4, 1, 4, [⟨31, 0, .ec, 0x0⟩]⟩ -- CPS_DUP
  , ⟨0x1E8, 1, 4, [⟨31, 0, .ec, 0x0⟩]⟩ -- CPS_DMA_ERR
  , ⟨0x200, 64, 4, [⟨4, 0, .rw, 0x0⟩, ⟨8, 8, .rw, 0x0⟩, ⟨9, 9, .rw, 0x0⟩, ⟨10, 10, .rw, 0x0⟩, ⟨16, 16, .rl, 0x0⟩]⟩ -- CPS_IRQ_ROUTE
  ]

/-- Direct registers of PCI (R553, R554). -/
def pciDirect : List RegDef :=
  [ ⟨0x0, 1, 4, [⟨0, 0, .rl, 0x0⟩, ⟨3, 1, .ro, 0x0⟩, ⟨6, 4, .ro, 0x0⟩, ⟨7, 7, .rl, 0x0⟩, ⟨8, 8, .rl, 0x0⟩, ⟨9, 9, .rl, 0x0⟩, ⟨20, 16, .ro, 0x0⟩]⟩ -- PCI_STATUS
  , ⟨0x4, 1, 4, [⟨1, 0, .rw, 0x3⟩, ⟨2, 2, .w1a, 0x0⟩]⟩ -- PCI_CTRL
  , ⟨0x8, 1, 4, [⟨15, 0, .ec, 0x0⟩]⟩ -- PCI_EVT
  , ⟨0xC, 1, 4, [⟨15, 0, .ea, 0x0⟩]⟩ -- PCI_ACK
  , ⟨0x10, 1, 4, [⟨15, 0, .ec, 0x0⟩, ⟨31, 16, .ec, 0x0⟩]⟩ -- PCI_ERR
  , ⟨0x14, 1, 4, [⟨31, 0, .ec, 0x0⟩]⟩ -- PCI_CPL_TO
  , ⟨0x18, 1, 4, [⟨15, 0, .ro, 0x0⟩, ⟨31, 16, .ro, 0x9600⟩]⟩ -- PCI_ID
  , ⟨0x2000, 32, 16, [⟨31, 0, .rw, 0x0⟩]⟩ -- MSIX_ADDR_LO
  , ⟨0x2004, 32, 16, [⟨31, 0, .rw, 0x0⟩]⟩ -- MSIX_ADDR_HI
  , ⟨0x2008, 32, 16, [⟨31, 0, .rw, 0x0⟩]⟩ -- MSIX_DATA
  , ⟨0x200C, 32, 16, [⟨0, 0, .rw, 0x1⟩]⟩ -- MSIX_VCTRL
  , ⟨0x3000, 1, 4, [⟨31, 0, .ro, 0x0⟩]⟩ -- MSIX_PBA
  ]

/-- Direct registers of ING (R80, R81). -/
def ingDirect : List RegDef :=
  [ ⟨0x0, 1, 4, [⟨0, 0, .rw, 0x0⟩, ⟨15, 8, .rw, 0x14⟩]⟩ -- ING_CTRL
  , ⟨0x4, 1, 4, [⟨6, 0, .ro, 0x0⟩, ⟨15, 8, .ro, 0x0⟩, ⟨16, 16, .rl, 0x0⟩, ⟨17, 17, .rl, 0x0⟩, ⟨18, 18, .rl, 0x0⟩]⟩ -- ING_STATUS
  , ⟨0x8, 1, 4, [⟨18, 0, .ro, 0x0⟩]⟩ -- ING_RATE
  , ⟨0xC, 1, 4, [⟨31, 0, .ec, 0x0⟩]⟩ -- ING_UNMATCHED
  , ⟨0x10, 1, 4, [⟨31, 0, .ec, 0x0⟩]⟩ -- ING_OVERRUN
  , ⟨0x14, 1, 4, [⟨15, 0, .ec, 0x0⟩]⟩ -- ING_FLOW_EVT
  , ⟨0x18, 1, 4, [⟨15, 0, .ea, 0x0⟩]⟩ -- ING_FLOW_ACK
  ]

/-- Indirect records of ING (R82). -/
def ingIndirect : List RegDef :=
  [ ⟨0x1000, 64, 64, [⟨2, 0, .ro, 0x0⟩, ⟨4, 3, .rl, 0x0⟩, ⟨5, 5, .ro, 0x0⟩, ⟨6, 6, .ro, 0x0⟩]⟩ -- ING_F_STATE
  , ⟨0x1004, 64, 64, [⟨31, 0, .ec, 0x0⟩]⟩ -- ING_F_LEG0_PKTS
  , ⟨0x1008, 64, 64, [⟨31, 0, .ec, 0x0⟩]⟩ -- ING_F_LEG1_PKTS
  , ⟨0x100C, 64, 64, [⟨31, 0, .ec, 0x0⟩]⟩ -- ING_F_DUP_DROP
  , ⟨0x1010, 64, 64, [⟨31, 0, .ec, 0x0⟩]⟩ -- ING_F_PKT_LOST
  , ⟨0x1014, 64, 64, [⟨31, 0, .ec, 0x0⟩]⟩ -- ING_F_LATE_PKT
  , ⟨0x1018, 64, 64, [⟨31, 0, .ec, 0x0⟩]⟩ -- ING_F_FRAMES
  , ⟨0x101C, 64, 64, [⟨31, 0, .ec, 0x0⟩]⟩ -- ING_F_FRAMES_INCOMPLETE
  , ⟨0x1020, 64, 64, [⟨31, 0, .ec, 0x0⟩]⟩ -- ING_F_FRAME_DROP
  , ⟨0x1024, 64, 64, [⟨31, 0, .ec, 0x0⟩]⟩ -- ING_F_FORMAT_ERR
  , ⟨0x1028, 64, 64, [⟨15, 0, .ec, 0x0⟩, ⟨31, 16, .ec, 0x0⟩]⟩ -- ING_F_T21_VIOL
  , ⟨0x102C, 64, 64, [⟨31, 0, .ec, 0x0⟩]⟩ -- ING_F_HOLD_DROP
  , ⟨0x1030, 64, 64, [⟨15, 0, .ec, 0x0⟩, ⟨31, 16, .ec, 0x0⟩]⟩ -- ING_F_SEQ
  , ⟨0x1034, 64, 64, [⟨23, 0, .ro, 0x0⟩]⟩ -- ING_F_PD
  , ⟨0x1038, 64, 64, [⟨31, 0, .ro, 0x0⟩]⟩ -- ING_F_FLOW_OFFSET
  , ⟨0x103C, 64, 64, [⟨31, 0, .ro, 0x0⟩]⟩ -- ING_F_LAST_RTP
  ]

/-- Direct registers of SRF (R108, R109). -/
def srfDirect : List RegDef :=
  [ ⟨0x0, 1, 4, [⟨0, 0, .rw, 0x0⟩, ⟨1, 1, .rw, 0x1⟩, ⟨13, 8, .rw, 0x0⟩]⟩ -- SRF_CTRL
  , ⟨0x4, 1, 4, [⟨11, 0, .ro, 0x0⟩, ⟨12, 12, .rl, 0x0⟩, ⟨19, 13, .ro, 0x0⟩, ⟨25, 20, .ro, 0x0⟩, ⟨31, 26, .ro, 0x0⟩]⟩ -- SRF_STATUS
  , ⟨0x8, 1, 4, [⟨31, 4, .rw, 0x0⟩]⟩ -- SRF_FRING_LO
  , ⟨0xC, 1, 4, [⟨31, 0, .rw, 0x0⟩]⟩ -- SRF_FRING_HI
  , ⟨0x10, 1, 4, [⟨0, 0, .rw, 0x0⟩, ⟨8, 4, .rw, 0x8⟩]⟩ -- SRF_FRING_CTRL
  , ⟨0x14, 1, 4, [⟨31, 0, .ec, 0x0⟩]⟩ -- SRF_FENCE_EVT
  , ⟨0x18, 1, 4, [⟨31, 0, .ea, 0x0⟩]⟩ -- SRF_FENCE_ACK
  , ⟨0x1C, 1, 4, [⟨15, 0, .ec, 0x0⟩]⟩ -- SRF_GUARD_EVT
  , ⟨0x20, 1, 4, [⟨15, 0, .ea, 0x0⟩]⟩ -- SRF_GUARD_ACK
  , ⟨0x24, 1, 4, [⟨31, 0, .ec, 0x0⟩]⟩ -- SRF_GUARD_BOTH
  , ⟨0x28, 1, 4, [⟨31, 0, .ec, 0x0⟩]⟩ -- SRF_EARLY_WRITE
  , ⟨0x2C, 1, 4, [⟨31, 0, .ec, 0x0⟩]⟩ -- SRF_MBC_BAD
  , ⟨0x30, 1, 4, [⟨31, 0, .ec, 0x0⟩]⟩ -- SRF_STRAY
  ]

/-- Direct registers of CMP (R147, R148). -/
def cmpDirect : List RegDef :=
  [ ⟨0x0, 1, 4, [⟨5, 0, .rw, 0x20⟩, ⟨8, 8, .rw, 0x1⟩]⟩ -- CMP_CTRL
  , ⟨0x4, 1, 4, [⟨0, 0, .rl, 0x0⟩, ⟨1, 1, .rl, 0x0⟩, ⟨2, 2, .rl, 0x0⟩, ⟨3, 3, .rl, 0x0⟩, ⟨12, 8, .ro, 0x0⟩, ⟨21, 16, .ro, 0x20⟩]⟩ -- CMP_STATUS
  , ⟨0x8, 1, 4, [⟨31, 0, .ro, 0x0⟩]⟩ -- CMP_FRAME
  , ⟨0xC, 1, 4, [⟨31, 0, .ro, 0x1⟩]⟩ -- CMP_SHADOW_SEQ
  , ⟨0x10, 1, 4, [⟨31, 0, .ro, 0x0⟩]⟩ -- CMP_ACTIVE_SEQ
  , ⟨0x14, 1, 4, [⟨23, 0, .ro, 0x0⟩]⟩ -- CMP_PASS_TIME
  , ⟨0x18, 1, 4, [⟨23, 0, .ro, 0x0⟩, ⟨31, 31, .w1a, 0x0⟩]⟩ -- CMP_PASS_MAX
  , ⟨0x20, 1, 4, [⟨31, 0, .ec, 0x0⟩]⟩ -- CMP_LATE_EVT
  , ⟨0x24, 1, 4, [⟨31, 0, .ea, 0x0⟩]⟩ -- CMP_LATE_ACK
  , ⟨0x28, 1, 4, [⟨31, 0, .ec, 0x0⟩]⟩ -- CMP_OVERRUN
  , ⟨0x2C, 1, 4, [⟨31, 0, .ec, 0x0⟩]⟩ -- CMP_REG_SKIP
  , ⟨0x30, 1, 4, [⟨15, 0, .ec, 0x0⟩]⟩ -- CMP_COMMIT_EVT
  , ⟨0x34, 1, 4, [⟨15, 0, .ea, 0x0⟩]⟩ -- CMP_COMMIT_ACK
  , ⟨0x38, 1, 4, [⟨15, 0, .ec, 0x0⟩, ⟨31, 16, .ec, 0x0⟩]⟩ -- CMP_WB_SKIP
  , ⟨0x3C, 1, 4, [⟨31, 0, .ec, 0x0⟩]⟩ -- CMP_SEL_FALLBACK
  ]

/-- Indirect records of CMP (R149). -/
def cmpIndirect : List RegDef :=
  [ ⟨0x1000, 24, 32, [⟨1, 0, .ro, 0x0⟩, ⟨2, 2, .ro, 0x0⟩]⟩ -- CMP_L_STATE
  , ⟨0x1004, 24, 32, [⟨31, 0, .ro, 0x0⟩]⟩ -- CMP_L_HANDLE
  , ⟨0x1008, 24, 32, [⟨31, 0, .ro, 0x0⟩]⟩ -- CMP_L_GEN
  , ⟨0x100C, 24, 32, [⟨31, 0, .ec, 0x0⟩]⟩ -- CMP_L_LATE
  , ⟨0x1010, 24, 32, [⟨23, 0, .ro, 0x0⟩]⟩ -- CMP_L_CULLED
  , ⟨0x1014, 24, 32, [⟨31, 0, .ro, 0x0⟩]⟩ -- CMP_L_TCAP_LO
  , ⟨0x1018, 24, 32, [⟨31, 0, .ro, 0x0⟩]⟩ -- CMP_L_TCAP_HI
  ]

/-- Direct registers of TNM (R172, R173). -/
def tnmDirect : List RegDef :=
  [ ⟨0x0, 1, 4, [⟨1, 0, .rw, 0x0⟩, ⟨2, 2, .rw, 0x0⟩, ⟨3, 3, .rw, 0x0⟩, ⟨15, 8, .rw, 0x1E⟩, ⟨31, 16, .rw, 0x28F⟩]⟩ -- TNM_CTRL
  , ⟨0x4, 1, 4, [⟨0, 0, .rl, 0x0⟩, ⟨1, 1, .rl, 0x0⟩, ⟨2, 2, .rl, 0x0⟩, ⟨15, 8, .ro, 0x0⟩, ⟨23, 16, .ro, 0x0⟩]⟩ -- TNM_STATUS
  , ⟨0x8, 1, 4, [⟨15, 0, .ro, 0x0⟩, ⟨17, 16, .ro, 0x2⟩]⟩ -- TNM_WALL
  , ⟨0xC, 1, 4, [⟨15, 0, .ro, 0x8000⟩, ⟨31, 16, .ro, 0x8000⟩]⟩ -- TNM_K
  , ⟨0x10, 1, 4, [⟨15, 0, .ro, 0x8000⟩, ⟨31, 16, .ro, 0x8000⟩]⟩ -- TNM_KB
  , ⟨0x14, 1, 4, [⟨31, 0, .ro, 0x0⟩]⟩ -- TNM_AMB_LUX
  , ⟨0x18, 1, 4, [⟨15, 0, .ro, 0x0⟩]⟩ -- TNM_RHO
  , ⟨0x1C, 1, 4, [⟨31, 0, .ro, 0x1⟩]⟩ -- TNM_SHADOW_SEQ
  , ⟨0x20, 1, 4, [⟨31, 0, .ro, 0x0⟩]⟩ -- TNM_ACTIVE_SEQ
  , ⟨0x24, 1, 4, [⟨15, 0, .ec, 0x0⟩]⟩ -- TNM_KUPD_EVT
  , ⟨0x28, 1, 4, [⟨15, 0, .ea, 0x0⟩]⟩ -- TNM_KUPD_ACK
  , ⟨0x2C, 1, 4, [⟨31, 0, .ec, 0x0⟩]⟩ -- TNM_AMB_STALE
  , ⟨0x30, 1, 4, [⟨31, 0, .rw, 0x0⟩]⟩ -- TNM_HOST_LUX
  , ⟨0x34, 1, 4, [⟨15, 0, .rw, 0xCCD⟩]⟩ -- TNM_BUDGET
  , ⟨0x38, 1, 4, [⟨31, 0, .ec, 0x0⟩]⟩ -- TNM_PROF_MISMATCH
  ]

/-- Direct registers of CEL (R202, R203, R204). -/
def celDirect : List RegDef :=
  [ ⟨0x0, 1, 4, [⟨0, 0, .rw, 0x1⟩, ⟨1, 1, .w1a, 0x0⟩, ⟨15, 8, .rw, 0x3C⟩, ⟨27, 16, .rw, 0x258⟩]⟩ -- CEL_CTRL
  , ⟨0x4, 1, 4, [⟨8, 0, .ro, 0x0⟩, ⟨9, 9, .rl, 0x0⟩, ⟨24, 16, .ro, 0x0⟩, ⟨31, 25, .ro, 0x0⟩]⟩ -- CEL_STATUS
  , ⟨0x8, 1, 4, [⟨20, 0, .ro, 0x100000⟩]⟩ -- CEL_POOL_FREE
  , ⟨0xC, 1, 4, [⟨31, 0, .ec, 0x0⟩]⟩ -- CEL_QUEUED
  , ⟨0x10, 1, 4, [⟨31, 0, .ec, 0x0⟩]⟩ -- CEL_SUPERSEDED
  , ⟨0x14, 1, 4, [⟨31, 0, .ec, 0x0⟩]⟩ -- CEL_STRICT_DROP
  , ⟨0x18, 1, 4, [⟨31, 0, .ec, 0x0⟩]⟩ -- CEL_POOL_EMPTY
  , ⟨0x1C, 1, 4, [⟨31, 0, .ec, 0x0⟩]⟩ -- CEL_LAUNCHED
  , ⟨0x20, 1, 4, [⟨31, 0, .ec, 0x0⟩]⟩ -- CEL_RELAUNCHED
  , ⟨0x24, 1, 4, [⟨31, 0, .ec, 0x0⟩]⟩ -- CEL_OVERDUE
  , ⟨0x28, 1, 4, [⟨15, 0, .ec, 0x0⟩]⟩ -- CEL_ROUTE_EVT
  , ⟨0x2C, 1, 4, [⟨15, 0, .ea, 0x0⟩]⟩ -- CEL_ROUTE_ACK
  , ⟨0x30, 1, 4, [⟨31, 0, .ec, 0x0⟩]⟩ -- CEL_REFRESHED
  , ⟨0x100, 1, 4, [⟨0, 0, .rl, 0x0⟩, ⟨1, 1, .rl, 0x0⟩, ⟨2, 2, .rl, 0x0⟩, ⟨11, 8, .ro, 0x0⟩, ⟨23, 12, .ro, 0x0⟩]⟩ -- CEL_T_STATUS
  , ⟨0x104, 1, 4, [⟨12, 0, .ro, 0x0⟩]⟩ -- CEL_T_CELLS
  , ⟨0x108, 1, 4, [⟨15, 0, .ro, 0x0⟩, ⟨31, 16, .ro, 0x0⟩]⟩ -- CEL_T_PREP
  , ⟨0x10C, 1, 4, [⟨31, 0, .ec, 0x0⟩]⟩ -- CEL_T_LATE_EVT
  , ⟨0x110, 1, 4, [⟨31, 0, .ea, 0x0⟩]⟩ -- CEL_T_LATE_ACK
  , ⟨0x114, 1, 4, [⟨31, 0, .ec, 0x0⟩]⟩ -- CEL_T_STALE
  , ⟨0x118, 1, 4, [⟨31, 0, .ec, 0x0⟩]⟩ -- CEL_T_BAD
  ]
  ++
  [ ⟨0x11C, 1, 4, [⟨31, 0, .ec, 0x0⟩]⟩ -- CEL_T_REFUSED
  , ⟨0x120, 1, 4, [⟨31, 0, .ec, 0x0⟩]⟩ -- CEL_T_EARLY
  , ⟨0x124, 1, 4, [⟨31, 0, .ec, 0x0⟩]⟩ -- CEL_T_DUP
  , ⟨0x128, 1, 4, [⟨23, 0, .ro, 0x0⟩]⟩ -- CEL_T_MARGIN
  , ⟨0x12C, 1, 4, [⟨31, 0, .ro, 0x0⟩]⟩ -- CEL_T_FRAME
  ]

/-- Indirect records of CEL (R205). -/
def celIndirect : List RegDef :=
  [ ⟨0x1000, 256, 64, [⟨11, 0, .ro, 0x0⟩, ⟨14, 12, .ro, 0x0⟩, ⟨22, 16, .ro, 0x0⟩, ⟨26, 24, .ro, 0x0⟩, ⟨27, 27, .ro, 0x0⟩, ⟨31, 28, .ro, 0x0⟩]⟩ -- CEL_S_W0
  , ⟨0x1004, 256, 64, [⟨31, 0, .ec, 0x0⟩]⟩ -- CEL_S_QUEUED
  , ⟨0x1008, 256, 64, [⟨31, 0, .ec, 0x0⟩]⟩ -- CEL_S_SUPERSEDED
  , ⟨0x100C, 256, 64, [⟨31, 0, .ec, 0x0⟩]⟩ -- CEL_S_LAUNCHED
  , ⟨0x1010, 256, 64, [⟨31, 0, .ec, 0x0⟩]⟩ -- CEL_S_RELAUNCHED
  , ⟨0x1014, 256, 64, [⟨31, 0, .ec, 0x0⟩]⟩ -- CEL_S_OVERDUE
  , ⟨0x1018, 256, 64, [⟨31, 0, .ro, 0x0⟩]⟩ -- CEL_S_T_LATE
  , ⟨0x101C, 256, 64, [⟨31, 0, .ro, 0x0⟩]⟩ -- CEL_S_T_STALE
  , ⟨0x1020, 256, 64, [⟨31, 0, .ro, 0x0⟩]⟩ -- CEL_S_T_BAD
  , ⟨0x1024, 256, 64, [⟨15, 0, .ro, 0x3E8⟩, ⟨31, 16, .ro, 0x7D0⟩]⟩ -- CEL_S_PREP
  , ⟨0x1028, 256, 64, [⟨23, 0, .ro, 0x0⟩]⟩ -- CEL_S_MARGIN
  , ⟨0x102C, 256, 64, [⟨15, 0, .ro, 0xFFFF⟩]⟩ -- CEL_S_REPORT
  ]

/-- Direct registers of TIM (R322, R323). -/
def timDirect : List RegDef :=
  [ ⟨0x0, 1, 4, [⟨1, 0, .rw, 0x3⟩, ⟨2, 2, .rw, 0x1⟩, ⟨5, 4, .rw, 0x0⟩, ⟨15, 8, .rw, 0x80⟩, ⟨19, 16, .rw, 0xA⟩, ⟨24, 20, .rw, 0xA⟩, ⟨27, 25, .rw, 0x6⟩]⟩ -- TIM_CTRL
  , ⟨0x4, 1, 4, [⟨1, 0, .ro, 0x0⟩, ⟨3, 2, .ro, 0x0⟩, ⟨4, 4, .rl, 0x0⟩, ⟨5, 5, .rl, 0x0⟩, ⟨6, 6, .rl, 0x0⟩, ⟨9, 7, .ro, 0x0⟩, ⟨16, 10, .ro, 0x0⟩, ⟨18, 17, .ro, 0x2⟩, ⟨19, 19, .rl, 0x0⟩, ⟨20, 20, .rl, 0x0⟩, ⟨21, 21, .ro, 0x0⟩]⟩ -- TIM_STATUS
  , ⟨0x8, 1, 4, [⟨31, 0, .ro, 0x0⟩]⟩ -- TIM_LT_LO
  , ⟨0xC, 1, 4, [⟨31, 0, .ro, 0x0⟩]⟩ -- TIM_LT_HI
  , ⟨0x10, 1, 4, [⟨15, 0, .ro, 0x0⟩]⟩ -- TIM_LT_FRAC
  , ⟨0x14, 1, 4, [⟨31, 0, .ro, 0x0⟩]⟩ -- TIM_WT_LO
  , ⟨0x18, 1, 4, [⟨31, 0, .ro, 0x0⟩]⟩ -- TIM_WT_HI
  , ⟨0x1C, 1, 4, [⟨31, 0, .ro, 0x0⟩]⟩ -- TIM_NT_LO
  , ⟨0x20, 1, 4, [⟨31, 0, .ro, 0x0⟩]⟩ -- TIM_NT_HI
  , ⟨0x24, 1, 4, [⟨0, 0, .w1a, 0x0⟩]⟩ -- TIM_SNAP
  , ⟨0x28, 1, 4, [⟨31, 0, .ro, 0x0⟩]⟩ -- TIM_SNAP_LT_LO
  , ⟨0x2C, 1, 4, [⟨31, 0, .ro, 0x0⟩]⟩ -- TIM_SNAP_LT_HI
  , ⟨0x30, 1, 4, [⟨31, 0, .ro, 0x0⟩]⟩ -- TIM_SNAP_WT_LO
  , ⟨0x34, 1, 4, [⟨31, 0, .ro, 0x0⟩]⟩ -- TIM_SNAP_WT_HI
  , ⟨0x38, 1, 4, [⟨31, 0, .ro, 0x0⟩]⟩ -- TIM_SNAP_NT_LO
  , ⟨0x3C, 1, 4, [⟨31, 0, .ro, 0x0⟩]⟩ -- TIM_SNAP_NT_HI
  , ⟨0x40, 1, 4, [⟨31, 0, .ro, 0x0⟩]⟩ -- TIM_FRAME_LO
  , ⟨0x44, 1, 4, [⟨31, 0, .ro, 0x0⟩]⟩ -- TIM_FRAME_HI
  , ⟨0x48, 1, 4, [⟨31, 0, .rw, 0x0⟩]⟩ -- TIM_WT_OFFSET_LO
  , ⟨0x4C, 1, 4, [⟨31, 0, .rw, 0x0⟩]⟩ -- TIM_WT_OFFSET_HI
  ]
  ++
  [ ⟨0x50, 1, 4, [⟨29, 0, .rw, 0x3D090⟩]⟩ -- TIM_LATE_WIN
  , ⟨0x54, 1, 4, [⟨31, 0, .ro, 0x0⟩]⟩ -- TIM_OFFSET
  , ⟨0x58, 1, 4, [⟨31, 0, .ro, 0x0⟩]⟩ -- TIM_RATE
  , ⟨0x5C, 1, 4, [⟨23, 0, .ro, 0x0⟩, ⟨31, 24, .rw, 0x3C⟩]⟩ -- TIM_HOLD_S
  , ⟨0x60, 1, 4, [⟨15, 0, .ec, 0x0⟩]⟩ -- TIM_EVT
  , ⟨0x64, 1, 4, [⟨15, 0, .ea, 0x0⟩]⟩ -- TIM_ACK
  , ⟨0x68, 1, 4, [⟨31, 0, .ec, 0x0⟩]⟩ -- TIM_LATE_EVT
  , ⟨0x6C, 1, 4, [⟨31, 0, .ea, 0x0⟩]⟩ -- TIM_LATE_ACK
  , ⟨0x70, 1, 4, [⟨31, 0, .ec, 0x0⟩]⟩ -- TIM_STEP_CNT
  , ⟨0x74, 1, 4, [⟨31, 0, .ec, 0x0⟩]⟩ -- TIM_MISSED
  , ⟨0x78, 1, 4, [⟨31, 0, .ec, 0x0⟩]⟩ -- FRAME_MISMATCH
  , ⟨0x7C, 1, 4, [⟨31, 0, .ec, 0x0⟩]⟩ -- GL_BAD
  , ⟨0x80, 1, 4, [⟨31, 0, .ec, 0x0⟩]⟩ -- TSRC_FAIL
  , ⟨0x84, 1, 4, [⟨31, 0, .ec, 0x0⟩]⟩ -- PTP_UNSUP
  , ⟨0x88, 1, 4, [⟨4, 0, .rw, 0x0⟩, ⟨12, 8, .rw, 0x0⟩]⟩ -- TIM_CAP_SEL
  , ⟨0x8C, 1, 4, [⟨11, 0, .ro, 0xFFF⟩]⟩ -- TIM_MASTER
  , ⟨0x90, 1, 4, [⟨4, 0, .rw, 0x14⟩]⟩ -- TIM_OSC
  ]

/-- Indirect records of TIM (R324). -/
def timIndirect : List RegDef :=
  [ ⟨0x1000, 8, 64, [⟨0, 0, .rl, 0x0⟩, ⟨1, 1, .rl, 0x0⟩, ⟨2, 2, .ro, 0x0⟩, ⟨3, 3, .ro, 0x0⟩, ⟨10, 4, .ro, 0x0⟩, ⟨22, 11, .ro, 0x0⟩]⟩ -- TIM_P_W0
  , ⟨0x1004, 8, 64, [⟨31, 0, .ro, 0x0⟩]⟩ -- TIM_P_DELAY_PS
  , ⟨0x1008, 8, 64, [⟨31, 0, .rw, 0x0⟩]⟩ -- TIM_P_ASYM_PS
  , ⟨0x100C, 8, 64, [⟨31, 0, .ro, 0x0⟩]⟩ -- TIM_P_LAST_OFS_PS
  , ⟨0x1010, 8, 64, [⟨31, 0, .ec, 0x0⟩]⟩ -- TIM_P_SAMPLES
  , ⟨0x1014, 8, 64, [⟨31, 0, .ec, 0x0⟩]⟩ -- TIM_P_DISCARD
  , ⟨0x2000, 16, 16, [⟨31, 0, .rw, 0x0⟩]⟩ -- TRIG_CMP
  , ⟨0x2004, 16, 16, [⟨1, 0, .rw, 0x0⟩, ⟨6, 2, .rw, 0x0⟩, ⟨8, 8, .w1a, 0x0⟩, ⟨9, 9, .w1a, 0x0⟩, ⟨10, 10, .rl, 0x0⟩, ⟨11, 11, .ro, 0x0⟩, ⟨12, 12, .ro, 0x0⟩, ⟨31, 16, .rw, 0x1⟩]⟩ -- TRIG_CTL
  , ⟨0x2008, 16, 16, [⟨31, 0, .ro, 0x0⟩]⟩ -- TRIG_LATENESS
  , ⟨0x200C, 16, 16, [⟨31, 0, .ec, 0x0⟩]⟩ -- TRIG_FIRED
  , ⟨0x3000, 64, 8, [⟨31, 0, .ro, 0x0⟩]⟩ -- CURVE_Y
  , ⟨0x3004, 64, 8, [⟨15, 0, .ro, 0x0⟩]⟩ -- CURVE_N
  , ⟨0x3400, 4, 16, [⟨31, 0, .ro, 0x0⟩]⟩ -- CAP_LO
  , ⟨0x3404, 4, 16, [⟨31, 0, .ro, 0x0⟩]⟩ -- CAP_HI
  , ⟨0x3408, 4, 16, [⟨31, 0, .ec, 0x0⟩]⟩ -- CAP_EDGES
  , ⟨0x4000, 2, 64, [⟨0, 0, .rl, 0x0⟩, ⟨1, 1, .ro, 0x0⟩, ⟨3, 2, .ro, 0x0⟩, ⟨11, 4, .ro, 0x0⟩]⟩ -- PTP_W0
  , ⟨0x4004, 2, 64, [⟨31, 0, .ro, 0x0⟩]⟩ -- PTP_GM_LO
  , ⟨0x4008, 2, 64, [⟨31, 0, .ro, 0x0⟩]⟩ -- PTP_GM_HI
  , ⟨0x400C, 2, 64, [⟨31, 0, .ro, 0x0⟩]⟩ -- PTP_OFFSET_NS
  , ⟨0x4010, 2, 64, [⟨31, 0, .ro, 0x0⟩]⟩ -- PTP_PATH_NS
  ]
  ++
  [ ⟨0x4014, 2, 64, [⟨31, 0, .ec, 0x0⟩]⟩ -- PTP_SYNC_RX
  , ⟨0x4018, 2, 64, [⟨31, 0, .ec, 0x0⟩]⟩ -- PTP_DRESP_RX
  , ⟨0x401C, 2, 64, [⟨15, 0, .ro, 0x0⟩]⟩ -- PTP_UTC
  , ⟨0x4020, 2, 64, [⟨31, 0, .rw, 0x0⟩]⟩ -- PTP_ASYM_PS
  ]

/-- Direct registers of THM (R424, R425). -/
def thmDirect : List RegDef :=
  [ ⟨0x0, 1, 4, [⟨0, 0, .rw, 0x1⟩, ⟨1, 1, .rw, 0x1⟩, ⟨6, 4, .rw, 0x0⟩, ⟨11, 8, .rw, 0x5⟩, ⟨14, 12, .rw, 0x7⟩, ⟨23, 16, .rw, 0xA⟩]⟩ -- THM_CTRL
  , ⟨0x4, 1, 4, [⟨2, 0, .ro, 0x0⟩, ⟨5, 3, .ro, 0x0⟩, ⟨8, 6, .ro, 0x0⟩, ⟨11, 9, .ro, 0x0⟩, ⟨12, 12, .rl, 0x0⟩, ⟨13, 13, .rl, 0x0⟩, ⟨14, 14, .rl, 0x0⟩, ⟨15, 15, .rl, 0x0⟩, ⟨16, 16, .rl, 0x0⟩, ⟨17, 17, .rl, 0x0⟩, ⟨18, 18, .rl, 0x0⟩, ⟨19, 19, .rl, 0x0⟩, ⟨25, 20, .ro, 0x0⟩, ⟨26, 26, .rl, 0x0⟩]⟩ -- THM_STATUS
  , ⟨0x8, 1, 4, [⟨15, 0, .ro, 0x0⟩, ⟨31, 16, .ro, 0x0⟩]⟩ -- THM_TMAX
  , ⟨0xC, 1, 4, [⟨15, 0, .ro, 0x0⟩]⟩ -- THM_CHIP_MW
  , ⟨0x10, 1, 4, [⟨31, 0, .ro, 0x0⟩]⟩ -- THM_BUDGET
  , ⟨0x14, 1, 4, [⟨15, 0, .ro, 0x4000⟩, ⟨31, 16, .ro, 0x0⟩]⟩ -- THM_KP
  , ⟨0x18, 1, 4, [⟨15, 0, .ec, 0x0⟩]⟩ -- THM_EVT
  , ⟨0x1C, 1, 4, [⟨15, 0, .ea, 0x0⟩]⟩ -- THM_ACK
  , ⟨0x20, 1, 4, [⟨31, 0, .ec, 0x0⟩]⟩ -- THM_SCALE_LATE
  , ⟨0x24, 1, 4, [⟨31, 0, .ec, 0x0⟩]⟩ -- THM_SENS_FAIL
  , ⟨0x28, 1, 4, [⟨31, 0, .ec, 0x0⟩]⟩ -- THM_STEP_CHG
  , ⟨0x2C, 1, 4, [⟨15, 0, .ec, 0x0⟩, ⟨31, 16, .rw, 0x708⟩]⟩ -- THM_SAG
  , ⟨0x30, 1, 4, [⟨31, 0, .ec, 0x0⟩]⟩ -- THM_PMB_ERR
  , ⟨0x34, 1, 4, [⟨15, 0, .ro, 0x0⟩]⟩ -- THM_BSEQ
  , ⟨0x40, 8, 4, [⟨11, 0, .ro, 0x0⟩, ⟨31, 16, .ro, 0x0⟩]⟩ -- THM_AMON
  ]

/-- Indirect records of THM (R390, R426). -/
def thmIndirect : List RegDef :=
  [ ⟨0x1000, 56, 16, [⟨15, 0, .ro, 0x0⟩, ⟨31, 16, .ro, 0x0⟩]⟩ -- THM_SENS
  , ⟨0x1004, 20, 16, [⟨15, 0, .ro, 0x0⟩, ⟨16, 16, .rl, 0x0⟩, ⟨17, 17, .rl, 0x0⟩, ⟨31, 24, .rw, 0x8⟩]⟩ -- THM_SENSM_DIE
  , ⟨0x1144, 36, 16, [⟨15, 0, .ro, 0x0⟩, ⟨16, 16, .rl, 0x0⟩, ⟨17, 17, .rl, 0x0⟩, ⟨31, 24, .rw, 0xA⟩]⟩ -- THM_SENSM_EXT
  , ⟨0x1008, 1, 4, [⟨7, 0, .ro, 0x1⟩, ⟨15, 8, .ro, 0x4⟩]⟩ -- THM_SENSN_0
  , ⟨0x1018, 1, 4, [⟨7, 0, .ro, 0x0⟩, ⟨15, 8, .ro, 0x5⟩]⟩ -- THM_SENSN_1
  , ⟨0x1028, 1, 4, [⟨7, 0, .ro, 0x3⟩, ⟨15, 8, .ro, 0x6⟩]⟩ -- THM_SENSN_2
  , ⟨0x1038, 1, 4, [⟨7, 0, .ro, 0x2⟩, ⟨15, 8, .ro, 0x7⟩]⟩ -- THM_SENSN_3
  , ⟨0x1048, 1, 4, [⟨7, 0, .ro, 0x0⟩, ⟨15, 8, .ro, 0x8⟩]⟩ -- THM_SENSN_4
  , ⟨0x1058, 1, 4, [⟨7, 0, .ro, 0x1⟩, ⟨15, 8, .ro, 0x9⟩]⟩ -- THM_SENSN_5
  , ⟨0x1068, 1, 4, [⟨7, 0, .ro, 0x2⟩, ⟨15, 8, .ro, 0xA⟩]⟩ -- THM_SENSN_6
  , ⟨0x1078, 1, 4, [⟨7, 0, .ro, 0x3⟩, ⟨15, 8, .ro, 0xB⟩]⟩ -- THM_SENSN_7
  , ⟨0x1088, 1, 4, [⟨7, 0, .ro, 0x4⟩, ⟨15, 8, .ro, 0xC⟩]⟩ -- THM_SENSN_8
  , ⟨0x1098, 1, 4, [⟨7, 0, .ro, 0x5⟩, ⟨15, 8, .ro, 0xE⟩]⟩ -- THM_SENSN_9
  , ⟨0x10A8, 1, 4, [⟨7, 0, .ro, 0x6⟩, ⟨15, 8, .ro, 0x10⟩]⟩ -- THM_SENSN_10
  , ⟨0x10B8, 1, 4, [⟨7, 0, .ro, 0x7⟩, ⟨15, 8, .ro, 0x12⟩]⟩ -- THM_SENSN_11
  , ⟨0x10C8, 1, 4, [⟨7, 0, .ro, 0x13⟩, ⟨15, 8, .ro, 0xD⟩]⟩ -- THM_SENSN_12
  , ⟨0x10D8, 1, 4, [⟨7, 0, .ro, 0xC⟩, ⟨15, 8, .ro, 0xE⟩]⟩ -- THM_SENSN_13
  , ⟨0x10E8, 1, 4, [⟨7, 0, .ro, 0xD⟩, ⟨15, 8, .ro, 0xF⟩]⟩ -- THM_SENSN_14
  , ⟨0x10F8, 1, 4, [⟨7, 0, .ro, 0xE⟩, ⟨15, 8, .ro, 0x10⟩]⟩ -- THM_SENSN_15
  , ⟨0x1108, 1, 4, [⟨7, 0, .ro, 0xF⟩, ⟨15, 8, .ro, 0x11⟩]⟩ -- THM_SENSN_16
  ]
  ++
  [ ⟨0x1118, 1, 4, [⟨7, 0, .ro, 0x10⟩, ⟨15, 8, .ro, 0x12⟩]⟩ -- THM_SENSN_17
  , ⟨0x1128, 1, 4, [⟨7, 0, .ro, 0x11⟩, ⟨15, 8, .ro, 0x13⟩]⟩ -- THM_SENSN_18
  , ⟨0x1138, 1, 4, [⟨7, 0, .ro, 0x12⟩, ⟨15, 8, .ro, 0xC⟩]⟩ -- THM_SENSN_19
  , ⟨0x1148, 36, 16, [⟨7, 0, .rw, 0xFF⟩, ⟨15, 8, .rw, 0xFF⟩]⟩ -- THM_SENSN_EXT
  , ⟨0x100C, 56, 16, [⟨15, 0, .ec, 0x0⟩, ⟨31, 16, .ec, 0x0⟩]⟩ -- THM_SENSC
  , ⟨0x1400, 1, 4, [⟨15, 0, .rw, 0x640⟩, ⟨31, 16, .rw, 0x30⟩]⟩ -- THM_THR_0
  , ⟨0x1410, 1, 4, [⟨15, 0, .rw, 0x690⟩, ⟨31, 16, .rw, 0x30⟩]⟩ -- THM_THR_1
  , ⟨0x1420, 1, 4, [⟨15, 0, .rw, 0x6E0⟩, ⟨31, 16, .rw, 0x30⟩]⟩ -- THM_THR_2
  , ⟨0x1430, 1, 4, [⟨15, 0, .rw, 0x730⟩, ⟨31, 16, .rw, 0x30⟩]⟩ -- THM_THR_3
  , ⟨0x1440, 1, 4, [⟨15, 0, .rw, 0x5A0⟩, ⟨31, 16, .rw, 0x30⟩]⟩ -- THM_THR_4
  , ⟨0x1450, 1, 4, [⟨15, 0, .rw, 0x5F0⟩, ⟨31, 16, .rw, 0x30⟩]⟩ -- THM_THR_5
  , ⟨0x1460, 1, 4, [⟨15, 0, .rw, 0x640⟩, ⟨31, 16, .rw, 0x30⟩]⟩ -- THM_THR_6
  , ⟨0x1470, 1, 4, [⟨15, 0, .rw, 0x690⟩, ⟨31, 16, .rw, 0x30⟩]⟩ -- THM_THR_7
  , ⟨0x1480, 1, 4, [⟨15, 0, .rw, 0x8000⟩, ⟨31, 16, .rw, 0x30⟩]⟩ -- THM_THR_8
  , ⟨0x1490, 1, 4, [⟨15, 0, .rw, 0x7FFF⟩, ⟨31, 16, .rw, 0x30⟩]⟩ -- THM_THR_9
  , ⟨0x14A0, 1, 4, [⟨15, 0, .rw, 0x8000⟩, ⟨31, 16, .rw, 0x30⟩]⟩ -- THM_THR_10
  , ⟨0x14B0, 1, 4, [⟨15, 0, .rw, 0x7FFF⟩, ⟨31, 16, .rw, 0x30⟩]⟩ -- THM_THR_11
  , ⟨0x14C0, 1, 4, [⟨15, 0, .rw, 0x8000⟩, ⟨31, 16, .rw, 0x30⟩]⟩ -- THM_THR_12
  , ⟨0x14D0, 1, 4, [⟨15, 0, .rw, 0x7FFF⟩, ⟨31, 16, .rw, 0x30⟩]⟩ -- THM_THR_13
  , ⟨0x14E0, 1, 4, [⟨15, 0, .rw, 0x8000⟩, ⟨31, 16, .rw, 0x30⟩]⟩ -- THM_THR_14
  ]
  ++
  [ ⟨0x14F0, 1, 4, [⟨15, 0, .rw, 0x7FFF⟩, ⟨31, 16, .rw, 0x30⟩]⟩ -- THM_THR_15
  , ⟨0x1500, 1, 4, [⟨15, 0, .rw, 0x8000⟩, ⟨31, 16, .rw, 0x30⟩]⟩ -- THM_THR_16
  , ⟨0x1510, 1, 4, [⟨15, 0, .rw, 0x7FFF⟩, ⟨31, 16, .rw, 0x30⟩]⟩ -- THM_THR_17
  , ⟨0x1520, 1, 4, [⟨15, 0, .rw, 0x8000⟩, ⟨31, 16, .rw, 0x30⟩]⟩ -- THM_THR_18
  , ⟨0x1530, 1, 4, [⟨15, 0, .rw, 0x7FFF⟩, ⟨31, 16, .rw, 0x30⟩]⟩ -- THM_THR_19
  , ⟨0x1540, 1, 4, [⟨15, 0, .rw, 0x8000⟩, ⟨31, 16, .rw, 0x30⟩]⟩ -- THM_THR_20
  , ⟨0x1550, 1, 4, [⟨15, 0, .rw, 0x7FFF⟩, ⟨31, 16, .rw, 0x30⟩]⟩ -- THM_THR_21
  , ⟨0x1560, 1, 4, [⟨15, 0, .rw, 0x8000⟩, ⟨31, 16, .rw, 0x30⟩]⟩ -- THM_THR_22
  , ⟨0x1570, 1, 4, [⟨15, 0, .rw, 0x7FFF⟩, ⟨31, 16, .rw, 0x30⟩]⟩ -- THM_THR_23
  , ⟨0x1580, 1, 4, [⟨15, 0, .rw, 0x0⟩, ⟨31, 16, .rw, 0x30⟩]⟩ -- THM_THR_24
  , ⟨0x1404, 25, 16, [⟨15, 0, .rw, 0xFA⟩, ⟨17, 16, .ro, 0x0⟩]⟩ -- THM_THRD
  , ⟨0x1408, 25, 16, [⟨31, 0, .ec, 0x0⟩]⟩ -- THM_THRT
  , ⟨0x1800, 4, 32, [⟨6, 0, .rw, 0x0⟩, ⟨7, 7, .rw, 0x0⟩, ⟨8, 8, .ro, 0x0⟩]⟩ -- THM_SUP
  , ⟨0x1804, 4, 32, [⟨15, 0, .ro, 0x0⟩]⟩ -- THM_SUP_SW
  , ⟨0x1808, 4, 32, [⟨15, 0, .ro, 0x0⟩, ⟨31, 16, .ro, 0x0⟩]⟩ -- THM_SUP_IN
  , ⟨0x180C, 4, 32, [⟨31, 0, .ro, 0x0⟩]⟩ -- THM_SUP_PIN
  , ⟨0x1810, 4, 32, [⟨31, 0, .ro, 0x0⟩]⟩ -- THM_SUP_POUT
  , ⟨0x1814, 4, 32, [⟨15, 0, .ro, 0x0⟩, ⟨31, 16, .ro, 0x0⟩]⟩ -- THM_SUP_OUT
  , ⟨0x1818, 4, 32, [⟨15, 0, .ro, 0x0⟩]⟩ -- THM_SUP_TEMP
  , ⟨0x181C, 4, 32, [⟨15, 0, .ec, 0x0⟩, ⟨31, 16, .ec, 0x0⟩]⟩ -- THM_SUP_CNT
  ]
  ++
  [ ⟨0x2000, 256, 32, [⟨31, 0, .ro, 0x0⟩]⟩ -- THM_SLOT_B
  , ⟨0x2004, 256, 32, [⟨31, 0, .ro, 0x0⟩]⟩ -- THM_SLOT_DEMAND
  , ⟨0x2008, 256, 32, [⟨31, 0, .ro, 0x0⟩]⟩ -- THM_SLOT_PIN
  , ⟨0x200C, 256, 32, [⟨31, 0, .ro, 0x0⟩]⟩ -- THM_SLOT_O
  , ⟨0x2010, 256, 32, [⟨15, 0, .ro, 0x0⟩, ⟨31, 16, .ro, 0x0⟩]⟩ -- THM_SLOT_RV
  , ⟨0x2014, 256, 32, [⟨15, 0, .ro, 0x0⟩, ⟨31, 16, .ro, 0x0⟩]⟩ -- THM_SLOT_SEQ
  , ⟨0x2018, 256, 32, [⟨2, 0, .ro, 0x0⟩, ⟨3, 3, .ro, 0x0⟩, ⟨4, 4, .ro, 0x0⟩, ⟨5, 5, .ro, 0x0⟩, ⟨15, 8, .ro, 0x0⟩]⟩ -- THM_SLOT_FLAGS
  , ⟨0x201C, 256, 32, [⟨31, 0, .ro, 0x0⟩]⟩ -- THM_SLOT_AGE
  , ⟨0x4000, 32, 32, [⟨31, 0, .ro, 0x0⟩]⟩ -- THM_FEED_W0
  , ⟨0x4004, 32, 32, [⟨31, 0, .ro, 0x0⟩]⟩ -- THM_FEED_W1
  , ⟨0x4008, 32, 32, [⟨31, 0, .ro, 0x0⟩]⟩ -- THM_FEED_W2
  , ⟨0x400C, 32, 32, [⟨31, 0, .ro, 0x0⟩]⟩ -- THM_FEED_W3
  , ⟨0x4010, 32, 32, [⟨31, 0, .ro, 0x0⟩]⟩ -- THM_FEED_A
  , ⟨0x4014, 32, 32, [⟨31, 0, .ro, 0x0⟩]⟩ -- THM_FEED_FLOOR
  , ⟨0x4018, 32, 32, [⟨15, 0, .ro, 0x0⟩, ⟨23, 16, .ro, 0x0⟩]⟩ -- THM_FEED_V
  , ⟨0x401C, 32, 32, [⟨31, 0, .ec, 0x0⟩]⟩ -- THM_FEED_RC
  ]

/-- Direct registers of DMK (R357, R358). -/
def dmkDirect : List RegDef :=
  [ ⟨0x0, 1, 4, [⟨0, 0, .rw, 0x1⟩, ⟨1, 1, .rw, 0x1⟩, ⟨2, 2, .rw, 0x1⟩, ⟨3, 3, .rw, 0x1⟩, ⟨4, 4, .rw, 0x1⟩, ⟨15, 8, .rw, 0x8⟩, ⟨22, 16, .rw, 0x8⟩]⟩ -- DMK_CTRL
  , ⟨0x4, 1, 4, [⟨2, 0, .ro, 0x0⟩, ⟨3, 3, .rl, 0x0⟩, ⟨4, 4, .rl, 0x0⟩, ⟨5, 5, .rl, 0x0⟩, ⟨6, 6, .rl, 0x0⟩, ⟨7, 7, .rl, 0x0⟩, ⟨8, 8, .ro, 0x0⟩, ⟨9, 9, .ro, 0x0⟩, ⟨24, 16, .ro, 0x0⟩]⟩ -- DMK_STATUS
  , ⟨0x8, 1, 4, [⟨15, 0, .rw, 0x6000⟩, ⟨23, 16, .rw, 0x1E⟩, ⟨24, 24, .w1a, 0x0⟩]⟩ -- DMK_AGE_CTRL
  , ⟨0xC, 1, 4, [⟨15, 0, .ec, 0x0⟩]⟩ -- DMK_EVT
  , ⟨0x10, 1, 4, [⟨15, 0, .ea, 0x0⟩]⟩ -- DMK_ACK
  , ⟨0x14, 1, 4, [⟨31, 0, .ec, 0x0⟩]⟩ -- DMK_CLIP
  , ⟨0x18, 1, 4, [⟨31, 0, .ec, 0x0⟩]⟩ -- DMK_AGE_CAP
  , ⟨0x1C, 1, 4, [⟨31, 0, .ec, 0x0⟩]⟩ -- DMK_TEMP_STALE
  , ⟨0x20, 1, 4, [⟨15, 0, .ec, 0x0⟩, ⟨31, 16, .ec, 0x0⟩]⟩ -- DMK_REPUSH
  , ⟨0x24, 1, 4, [⟨15, 0, .ec, 0x0⟩, ⟨31, 16, .ec, 0x0⟩]⟩ -- DMK_CKPT
  , ⟨0x28, 1, 4, [⟨15, 0, .ec, 0x0⟩]⟩ -- DMK_MOD_PULLED
  , ⟨0x2C, 1, 4, [⟨31, 0, .ro, 0x0⟩]⟩ -- DMK_CKPT_SEQ
  , ⟨0x30, 1, 4, [⟨31, 0, .ro, 0xFFFFFFFF⟩]⟩ -- DMK_CKPT_AGE
  , ⟨0x34, 1, 4, [⟨31, 0, .ro, 0x0⟩]⟩ -- DMK_POWER
  , ⟨0x38, 1, 4, [⟨15, 0, .ro, 0x8000⟩, ⟨31, 16, .ro, 0x4000⟩]⟩ -- DMK_SCALE
  , ⟨0x3C, 1, 4, [⟨31, 0, .ro, 0x0⟩]⟩ -- DMK_USER_GEN
  , ⟨0x40, 4, 4, [⟨31, 0, .ro, 0x0⟩]⟩ -- DMK_FACTORY_ID
  ]

/-- Indirect records of DMK (R359). -/
def dmkIndirect : List RegDef :=
  [ ⟨0x1000, 256, 16, [⟨15, 0, .ro, 0x0⟩, ⟨31, 16, .ro, 0x0⟩]⟩ -- DMK_ZONE_T
  , ⟨0x1004, 256, 16, [⟨31, 0, .ro, 0x0⟩]⟩ -- DMK_ZONE_P
  , ⟨0x1008, 256, 16, [⟨31, 0, .ec, 0x0⟩]⟩ -- DMK_ZONE_RP
  ]

/-- Direct registers of STR (R387, R388). -/
def strDirect : List RegDef :=
  [ ⟨0x0, 1, 4, [⟨2, 0, .rw, 0x0⟩, ⟨6, 4, .rw, 0x1⟩, ⟨7, 7, .rw, 0x1⟩, ⟨11, 8, .rw, 0x5⟩, ⟨21, 12, .rw, 0x100⟩]⟩ -- STR_CTRL
  , ⟨0x4, 1, 4, [⟨2, 0, .ro, 0x0⟩, ⟨4, 3, .ro, 0x0⟩, ⟨5, 5, .rl, 0x0⟩, ⟨6, 6, .rl, 0x0⟩, ⟨14, 8, .ro, 0x0⟩, ⟨18, 16, .ro, 0x0⟩]⟩ -- STR_STATUS
  , ⟨0x8, 1, 4, [⟨15, 0, .ro, 0x0⟩, ⟨31, 16, .ro, 0x0⟩]⟩ -- STR_LOAD
  , ⟨0xC, 1, 4, [⟨15, 0, .ec, 0x0⟩]⟩ -- STR_EVT
  , ⟨0x10, 1, 4, [⟨15, 0, .ea, 0x0⟩]⟩ -- STR_ACK
  , ⟨0x14, 1, 4, [⟨31, 0, .ec, 0x0⟩]⟩ -- STR_UNDERRUN
  , ⟨0x18, 1, 4, [⟨31, 0, .ec, 0x0⟩]⟩ -- STR_PUSH_CUT
  , ⟨0x1C, 1, 4, [⟨31, 0, .ec, 0x0⟩]⟩ -- STR_REPUSH
  , ⟨0x20, 1, 4, [⟨31, 0, .ec, 0x0⟩]⟩ -- STR_READ_TO
  , ⟨0x24, 1, 4, [⟨31, 0, .ec, 0x0⟩]⟩ -- STR_RET_CRC
  , ⟨0x28, 1, 4, [⟨31, 0, .ec, 0x0⟩]⟩ -- STR_REENUM
  , ⟨0x2C, 1, 4, [⟨15, 0, .ro, 0x0⟩, ⟨31, 16, .ro, 0x0⟩]⟩ -- STR_PUSH_TIME
  ]

/-- Indirect records of STR (R389). -/
def strIndirect : List RegDef :=
  [ ⟨0x1000, 64, 32, [⟨1, 0, .ro, 0x0⟩, ⟨8, 2, .ro, 0x0⟩, ⟨21, 16, .ro, 0x0⟩]⟩ -- STR_S_STATE
  , ⟨0x1004, 64, 32, [⟨31, 0, .ec, 0x0⟩]⟩ -- STR_S_PACKETS
  , ⟨0x1008, 64, 32, [⟨31, 0, .ec, 0x0⟩]⟩ -- STR_S_UNDERRUN
  , ⟨0x100C, 64, 32, [⟨31, 0, .ec, 0x0⟩]⟩ -- STR_S_PUSH_CUT
  , ⟨0x1010, 64, 32, [⟨10, 0, .ro, 0x400⟩]⟩ -- STR_S_FIFO
  , ⟨0x1014, 64, 32, [⟨15, 0, .ro, 0x0⟩]⟩ -- STR_S_LOAD
  , ⟨0x4000, 4096, 8, [⟨15, 0, .ro, 0x0⟩, ⟨31, 16, .ro, 0x0⟩]⟩ -- STR_D_STATUS
  , ⟨0x4004, 4096, 8, [⟨0, 0, .rl, 0x0⟩, ⟨1, 1, .rl, 0x0⟩, ⟨15, 8, .ec, 0x0⟩, ⟨23, 16, .ec, 0x0⟩, ⟨31, 24, .ec, 0x0⟩]⟩ -- STR_D_CNT
  ]

/-- Direct registers of SEC (R464, R465). -/
def secDirect : List RegDef :=
  [ ⟨0x0, 1, 4, [⟨1, 0, .ro, 0x0⟩, ⟨2, 2, .rl, 0x0⟩, ⟨4, 3, .ro, 0x0⟩, ⟨5, 5, .rl, 0x0⟩, ⟨6, 6, .ro, 0x0⟩, ⟨7, 7, .ro, 0x0⟩, ⟨8, 8, .ro, 0x0⟩, ⟨9, 9, .ro, 0x0⟩, ⟨11, 10, .ro, 0x0⟩, ⟨15, 12, .ro, 0x0⟩, ⟨23, 16, .ro, 0x0⟩, ⟨24, 24, .rl, 0x0⟩]⟩ -- SEC_STATUS
  , ⟨0x4, 1, 4, [⟨15, 0, .ec, 0x0⟩]⟩ -- SEC_TAMPER_EVT
  , ⟨0x8, 1, 4, [⟨15, 0, .ea, 0x0⟩]⟩ -- SEC_TAMPER_ACK
  , ⟨0xC, 1, 4, [⟨31, 0, .ec, 0x0⟩]⟩ -- SEC_ENV_OK
  , ⟨0x10, 1, 4, [⟨31, 0, .ec, 0x0⟩]⟩ -- SEC_ENV_FAIL
  , ⟨0x14, 1, 4, [⟨15, 0, .ec, 0x0⟩, ⟨31, 16, .ec, 0x0⟩]⟩ -- SEC_AUTH
  , ⟨0x18, 1, 4, [⟨31, 0, .ec, 0x0⟩]⟩ -- SEC_LOCKVIOL
  , ⟨0x1C, 1, 4, [⟨6, 0, .ro, 0x0⟩, ⟨14, 8, .ro, 0x0⟩]⟩ -- SEC_SVN
  , ⟨0x20, 4, 4, [⟨31, 0, .ro, 0x0⟩]⟩ -- SEC_CERT_ID
  , ⟨0x30, 4, 4, [⟨31, 0, .ro, 0x0⟩]⟩ -- SEC_OWNER_ID
  , ⟨0x40, 1, 4, [⟨8, 0, .ro, 0x0⟩]⟩ -- SEC_DEBUG_LEFT
  ]

/-- Indirect records of SEC (R466). -/
def secIndirect : List RegDef :=
  [ ⟨0x1000, 11, 32, [⟨2, 0, .ro, 0x0⟩, ⟨8, 8, .rl, 0x0⟩, ⟨9, 9, .ro, 0x0⟩]⟩ -- SEC_T
  , ⟨0x1004, 11, 32, [⟨31, 0, .ec, 0x0⟩]⟩ -- SEC_T_COUNT
  , ⟨0x1008, 11, 32, [⟨31, 0, .ro, 0x0⟩]⟩ -- SEC_T_LT_LO
  , ⟨0x100C, 11, 32, [⟨31, 0, .ro, 0x0⟩]⟩ -- SEC_T_LT_HI
  , ⟨0x1010, 11, 32, [⟨31, 0, .ro, 0x0⟩]⟩ -- SEC_T_WT_LO
  , ⟨0x1014, 11, 32, [⟨31, 0, .ro, 0x0⟩]⟩ -- SEC_T_WT_HI
  , ⟨0x1018, 11, 32, [⟨31, 0, .ro, 0x0⟩]⟩ -- SEC_T_DETAIL
  ]

/-- Direct registers of UPD (R527, R528). -/
def updDirect : List RegDef :=
  [ ⟨0x0, 1, 4, [⟨2, 0, .ro, 0x0⟩, ⟨6, 4, .ro, 0x0⟩, ⟨10, 8, .ro, 0x0⟩, ⟨14, 12, .ro, 0x0⟩, ⟨16, 16, .rl, 0x0⟩, ⟨17, 17, .rl, 0x0⟩, ⟨18, 18, .rl, 0x0⟩, ⟨19, 19, .rl, 0x0⟩, ⟨20, 20, .rl, 0x0⟩, ⟨31, 24, .ro, 0x0⟩]⟩ -- UPD_STATUS
  , ⟨0x4, 1, 4, [⟨15, 0, .ec, 0x0⟩]⟩ -- UPD_EVT
  , ⟨0x8, 1, 4, [⟨15, 0, .ea, 0x0⟩]⟩ -- UPD_ACK
  , ⟨0xC, 1, 4, [⟨31, 0, .ro, 0x0⟩]⟩ -- UPD_CFG_GEN
  , ⟨0x10, 1, 4, [⟨31, 0, .ro, 0x0⟩]⟩ -- UPD_CFG_PREV
  , ⟨0x14, 1, 4, [⟨31, 0, .ec, 0x0⟩]⟩ -- UPD_CFG_SKIP
  , ⟨0x18, 1, 4, [⟨31, 0, .ec, 0x0⟩]⟩ -- UPD_TPL_REFUSE
  , ⟨0x1C, 1, 4, [⟨31, 0, .ec, 0x0⟩]⟩ -- UPD_FLASH_ERR
  , ⟨0x40, 1, 4, [⟨0, 0, .rw, 0x1⟩]⟩ -- MSL_CTRL
  , ⟨0x44, 1, 4, [⟨15, 0, .ec, 0x0⟩, ⟨31, 16, .ec, 0x0⟩]⟩ -- MSL_ERR
  , ⟨0x48, 1, 4, [⟨31, 0, .ec, 0x0⟩]⟩ -- MSL_FRAMES
  ]

/-- Direct registers of TWL (R243, R244, R289, R290). -/
def twlDirect : List RegDef :=
  [ ⟨0x0, 1, 4, [⟨1, 0, .rw, 0x0⟩, ⟨2, 2, .rw, 0x0⟩, ⟨3, 3, .rw, 0x0⟩, ⟨4, 4, .rw, 0x1⟩, ⟨11, 8, .rw, 0x8⟩, ⟨15, 12, .rw, 0x3⟩, ⟨20, 16, .rw, 0x4⟩]⟩ -- TWL_PHY_CTRL
  , ⟨0x4, 1, 4, [⟨2, 0, .ro, 0x0⟩, ⟨4, 3, .ro, 0x0⟩, ⟨5, 5, .rl, 0x0⟩, ⟨6, 6, .rl, 0x0⟩, ⟨7, 7, .rl, 0x0⟩, ⟨11, 8, .rl, 0x0⟩, ⟨15, 12, .rl, 0x0⟩, ⟨19, 16, .ro, 0xF⟩, ⟨22, 20, .ro, 0x0⟩, ⟨27, 24, .rl, 0x0⟩]⟩ -- TWL_PHY_STATUS
  , ⟨0x8, 1, 4, [⟨15, 0, .ec, 0x0⟩]⟩ -- TWL_PHY_EVT
  , ⟨0xC, 1, 4, [⟨15, 0, .ea, 0x0⟩]⟩ -- TWL_PHY_ACK
  , ⟨0x10, 1, 4, [⟨3, 0, .w1a, 0x0⟩]⟩ -- TWL_CAL_CMD
  , ⟨0x14, 1, 4, [⟨31, 0, .ec, 0x0⟩]⟩ -- TWL_CAL_DONE
  , ⟨0x18, 1, 4, [⟨31, 0, .ec, 0x0⟩]⟩ -- TWL_CAL_DISAGREE
  , ⟨0x1C, 1, 4, [⟨31, 0, .ec, 0x0⟩]⟩ -- TWL_CAL_DEFER
  , ⟨0x20, 1, 4, [⟨1, 0, .rw, 0x0⟩, ⟨2, 2, .rw, 0x0⟩, ⟨3, 3, .rw, 0x0⟩, ⟨15, 8, .rw, 0xA⟩]⟩ -- TWL_TEST_CTRL
  , ⟨0x24, 1, 4, [⟨31, 0, .ec, 0x0⟩]⟩ -- TWL_FREQ_BAD
  , ⟨0x28, 1, 4, [⟨31, 0, .ec, 0x0⟩]⟩ -- TWL_TRAIN_FAIL
  , ⟨0x30, 1, 4, [⟨0, 0, .rw, 0x1⟩, ⟨1, 1, .rw, 0x0⟩, ⟨3, 2, .rw, 0x2⟩, ⟨7, 4, .rw, 0xA⟩, ⟨11, 8, .rw, 0x8⟩, ⟨15, 12, .rw, 0x4⟩, ⟨31, 16, .rw, 0x0⟩]⟩ -- TWL_LL_CTRL
  , ⟨0x34, 1, 4, [⟨2, 0, .ro, 0x0⟩, ⟨7, 4, .ro, 0x0⟩, ⟨11, 8, .ro, 0x0⟩, ⟨12, 12, .rl, 0x0⟩, ⟨13, 13, .ro, 0x0⟩, ⟨14, 14, .ro, 0x0⟩, ⟨15, 15, .ro, 0x0⟩, ⟨23, 16, .ro, 0x0⟩, ⟨24, 24, .ro, 0x0⟩, ⟨27, 25, .ro, 0x0⟩]⟩ -- TWL_LL_STATUS
  , ⟨0x38, 1, 4, [⟨15, 0, .ec, 0x0⟩]⟩ -- TWL_LL_EVT
  , ⟨0x3C, 1, 4, [⟨15, 0, .ea, 0x0⟩]⟩ -- TWL_LL_ACK
  , ⟨0x40, 1, 4, [⟨6, 0, .ro, 0x0⟩, ⟨7, 7, .ro, 0x0⟩, ⟨9, 8, .ro, 0x0⟩, ⟨12, 10, .ro, 0x0⟩, ⟨13, 13, .ro, 0x0⟩, ⟨21, 15, .ro, 0x0⟩]⟩ -- TWL_TOPO
  , ⟨0x44, 1, 4, [⟨1, 0, .rw, 0x0⟩, ⟨8, 8, .w1a, 0x0⟩]⟩ -- TWL_STEP_CMD
  , ⟨0x48, 1, 4, [⟨31, 0, .ec, 0x0⟩]⟩ -- TWL_UNC_CW
  , ⟨0x4C, 1, 4, [⟨31, 0, .ec, 0x0⟩]⟩ -- TWL_FLIT_BAD
  , ⟨0x50, 1, 4, [⟨31, 0, .ec, 0x0⟩]⟩ -- TWL_RETRY_REQ
  ]
  ++
  [ ⟨0x54, 1, 4, [⟨31, 0, .ec, 0x0⟩]⟩ -- TWL_REPLAY
  , ⟨0x58, 1, 4, [⟨31, 0, .ec, 0x0⟩]⟩ -- TWL_NO_ROUTE
  , ⟨0x5C, 1, 4, [⟨31, 0, .ec, 0x0⟩]⟩ -- TWL_DECRYPT_FAIL
  , ⟨0x60, 1, 4, [⟨15, 0, .ec, 0x0⟩, ⟨31, 16, .ec, 0x0⟩]⟩ -- TWL_LANE_CHG
  , ⟨0x64, 1, 4, [⟨15, 0, .ec, 0x0⟩, ⟨31, 16, .ec, 0x0⟩]⟩ -- TWL_LINK_CHG
  , ⟨0x68, 1, 4, [⟨31, 0, .ec, 0x0⟩]⟩ -- TWL_PROTO
  , ⟨0x6C, 1, 4, [⟨11, 0, .ro, 0xFFF⟩, ⟨19, 12, .ro, 0x0⟩, ⟨20, 20, .ro, 0x0⟩, ⟨21, 21, .ro, 0x0⟩, ⟨23, 22, .ro, 0x0⟩, ⟨26, 24, .ro, 0x0⟩]⟩ -- TWL_PEER
  ]

/-- Indirect records of TWL (R245, R291). -/
def twlIndirect : List RegDef :=
  [ ⟨0x1000, 5, 64, [⟨0, 0, .rl, 0x0⟩, ⟨1, 1, .rl, 0x0⟩, ⟨2, 2, .rl, 0x0⟩, ⟨3, 3, .rl, 0x0⟩, ⟨4, 4, .ro, 0x0⟩, ⟨13, 8, .ro, 0x0⟩, ⟨21, 16, .ro, 0x0⟩]⟩ -- LANE_W0
  , ⟨0x1004, 5, 64, [⟨2, 0, .rw, 0x0⟩, ⟨6, 4, .rw, 0x0⟩, ⟨8, 8, .rw, 0x0⟩]⟩ -- LANE_TEST
  , ⟨0x1008, 5, 64, [⟨1, 0, .rw, 0x0⟩, ⟨15, 8, .rw, 0x1⟩, ⟨20, 16, .rw, 0xA⟩, ⟨24, 24, .w1a, 0x0⟩]⟩ -- LANE_INJ
  , ⟨0x100C, 5, 64, [⟨31, 0, .rw, 0x0⟩]⟩ -- LANE_USER0
  , ⟨0x1010, 5, 64, [⟨31, 0, .rw, 0x0⟩]⟩ -- LANE_USER1
  , ⟨0x1014, 5, 64, [⟨15, 0, .rw, 0x0⟩]⟩ -- LANE_USER2
  , ⟨0x1018, 5, 64, [⟨31, 0, .ec, 0x0⟩]⟩ -- LANE_BITS_LO
  , ⟨0x101C, 5, 64, [⟨15, 0, .ec, 0x0⟩]⟩ -- LANE_BITS_HI
  , ⟨0x1020, 5, 64, [⟨31, 0, .ec, 0x0⟩]⟩ -- LANE_ERR_LO
  , ⟨0x1024, 5, 64, [⟨15, 0, .ec, 0x0⟩]⟩ -- LANE_ERR_HI
  , ⟨0x1028, 5, 64, [⟨31, 0, .ec, 0x0⟩]⟩ -- LANE_INJECTED
  , ⟨0x102C, 5, 64, [⟨7, 0, .ro, 0x0⟩, ⟨15, 8, .ro, 0x0⟩, ⟨31, 16, .ec, 0x0⟩]⟩ -- LANE_CAL
  , ⟨0x1030, 5, 64, [⟨9, 0, .ro, 0x0⟩, ⟨19, 10, .ro, 0x0⟩, ⟨29, 20, .ro, 0x0⟩]⟩ -- LANE_THR
  , ⟨0x1034, 5, 64, [⟨4, 0, .ro, 0x4⟩, ⟨9, 5, .ro, 0xA⟩, ⟨13, 10, .ro, 0xA⟩, ⟨17, 14, .ro, 0x8⟩, ⟨23, 18, .ro, 0x10⟩, ⟨24, 24, .ro, 0x0⟩, ⟨25, 25, .ro, 0x0⟩, ⟨31, 31, .ro, 0x0⟩]⟩ -- LANE_EQ
  , ⟨0x1038, 5, 64, [⟨25, 0, .rw, 0x0⟩, ⟨31, 31, .rw, 0x0⟩]⟩ -- LANE_OVR
  , ⟨0x103C, 5, 64, [⟨15, 0, .ec, 0x0⟩, ⟨31, 16, .ec, 0x0⟩]⟩ -- LANE_CNT
  , ⟨0x2000, 1, 4, [⟨31, 0, .ec, 0x0⟩]⟩ -- LINK_CORR_LO
  , ⟨0x2004, 1, 4, [⟨15, 0, .ec, 0x0⟩]⟩ -- LINK_CORR_HI
  , ⟨0x2008, 1, 4, [⟨31, 0, .ec, 0x0⟩]⟩ -- LINK_FTX_LO
  , ⟨0x200C, 1, 4, [⟨15, 0, .ec, 0x0⟩]⟩ -- LINK_FTX_HI
  ]
  ++
  [ ⟨0x2010, 1, 4, [⟨31, 0, .ec, 0x0⟩]⟩ -- LINK_FRX_LO
  , ⟨0x2014, 1, 4, [⟨15, 0, .ec, 0x0⟩]⟩ -- LINK_FRX_HI
  , ⟨0x2018, 1, 4, [⟨31, 0, .ec, 0x0⟩]⟩ -- LINK_REPLAY_FLITS
  , ⟨0x201C, 1, 4, [⟨31, 0, .ec, 0x0⟩]⟩ -- LINK_DUP_FLITS
  , ⟨0x2020, 4, 4, [⟨31, 0, .ec, 0x0⟩]⟩ -- LINK_MSG_TX
  , ⟨0x2030, 4, 4, [⟨31, 0, .ec, 0x0⟩]⟩ -- LINK_MSG_RX
  ]

/-- The registers of a block's direct space, by block index (Table 17.3). (DESIGN CHOICE log 5) -/
def directDefs (block : Nat) : List RegDef :=
  if 16 ≤ block then twlDirect else
  match block with
  | 0 => sysDirect
  | 1 => cpsDirect
  | 2 => pciDirect
  | 5 => ingDirect
  | 6 => srfDirect
  | 7 => cmpDirect
  | 8 => tnmDirect
  | 9 => celDirect
  | 10 => timDirect
  | 11 => thmDirect
  | 12 => dmkDirect
  | 13 => strDirect
  | 14 => secDirect
  | 15 => updDirect
  | _ => []

/-- The records of a block's indirect space. (DESIGN CHOICE log 5) -/
def indirectDefs (block : Nat) : List RegDef :=
  if 16 ≤ block then twlIndirect else
  match block with
  | 5 => ingIndirect
  | 7 => cmpIndirect
  | 9 => celIndirect
  | 10 => timIndirect
  | 11 => thmIndirect
  | 12 => dmkIndirect
  | 13 => strIndirect
  | 14 => secIndirect
  | _ => []

end Sys2Proof.Machine
end

