-- ==== Sys2Proof/Machine/RegNames.lean ====
section
/-!
DEFINITION. The manual's names of registers and fields, as keys and bit ranges of the register map.
`R.<REGISTER>` is a key, `R.<REGISTER>_<FIELD>` a field; `i` picks one of several alike, `p` a Twill port.
-/

namespace Sys2Proof.Machine.R

abbrev SYS_ID : Nat := dirKey 0 (0x0)
abbrev SYS_ID_PRODUCT : Fld := ⟨SYS_ID, 7, 0⟩
abbrev SYS_ID_CODE : Fld := ⟨SYS_ID, 8, 8⟩
abbrev SYS_ID_DIE_REV : Fld := ⟨SYS_ID, 23, 16⟩
abbrev SYS_SCRATCH : Nat := dirKey 0 (0x4)
abbrev SYS_SCRATCH_VAL : Fld := ⟨SYS_SCRATCH, 31, 0⟩
abbrev SYS_CFG_LOCK : Nat := dirKey 0 (0x8)
abbrev SYS_CFG_LOCK_GPIO : Fld := ⟨SYS_CFG_LOCK, 0, 0⟩
abbrev SYS_CFG_LOCK_IRQ : Fld := ⟨SYS_CFG_LOCK, 1, 1⟩
abbrev SYS_CFG_LOCK_PCI : Fld := ⟨SYS_CFG_LOCK, 2, 2⟩
abbrev SYS_MODE : Nat := dirKey 0 (0x10)
abbrev SYS_MODE_MODE : Fld := ⟨SYS_MODE, 2, 0⟩
abbrev SYS_MODE_PREV_MODE : Fld := ⟨SYS_MODE, 6, 4⟩
abbrev SYS_MODE_HOLD_CAUSE : Fld := ⟨SYS_MODE, 9, 8⟩
abbrev SYS_MODE_LOCK_CAUSE : Fld := ⟨SYS_MODE, 11, 10⟩
abbrev SYS_MODE_ROLE_STRAP : Fld := ⟨SYS_MODE, 12, 12⟩
abbrev SYS_MODE_ROLE_EFF : Fld := ⟨SYS_MODE, 13, 13⟩
abbrev SYS_MODE_BOOT_SRC : Fld := ⟨SYS_MODE, 15, 14⟩
abbrev SYS_MODE_BOARD_ID : Fld := ⟨SYS_MODE, 19, 16⟩
abbrev SYS_MODE_BOOT_SLOT : Fld := ⟨SYS_MODE, 20, 20⟩
abbrev SYS_MODE_FIRST_FRAME : Fld := ⟨SYS_MODE, 21, 21⟩
abbrev SYS_RESET_CAUSE : Nat := dirKey 0 (0x14)
abbrev SYS_RESET_CAUSE_POR : Fld := ⟨SYS_RESET_CAUSE, 0, 0⟩
abbrev SYS_RESET_CAUSE_WRST_PIN : Fld := ⟨SYS_RESET_CAUSE, 1, 1⟩
abbrev SYS_RESET_CAUSE_WDOG : Fld := ⟨SYS_RESET_CAUSE, 2, 2⟩
abbrev SYS_RESET_CAUSE_CMD : Fld := ⟨SYS_RESET_CAUSE, 3, 3⟩
abbrev SYS_RESET_CAUSE_ACT_TIMEOUT : Fld := ⟨SYS_RESET_CAUSE, 4, 4⟩
abbrev SYS_RESET_CAUSE_STRAP_BAD : Fld := ⟨SYS_RESET_CAUSE, 5, 5⟩
abbrev SYS_RESET_CAUSE_WRST_IGN : Fld := ⟨SYS_RESET_CAUSE, 15, 8⟩
abbrev SYS_RESET_CAUSE_RETAIN_LOST : Fld := ⟨SYS_RESET_CAUSE, 23, 16⟩
abbrev SYS_MODE_EVT : Nat := dirKey 0 (0x18)
abbrev SYS_MODE_EVT_COUNT : Fld := ⟨SYS_MODE_EVT, 15, 0⟩
abbrev SYS_MODE_ACK : Nat := dirKey 0 (0x1C)
abbrev SYS_MODE_ACK_ACK : Fld := ⟨SYS_MODE_ACK, 15, 0⟩
abbrev SYS_FAULT_EVT : Nat := dirKey 0 (0x20)
abbrev SYS_FAULT_EVT_COUNT : Fld := ⟨SYS_FAULT_EVT, 15, 0⟩
abbrev SYS_FAULT_ACK : Nat := dirKey 0 (0x24)
abbrev SYS_FAULT_ACK_ACK : Fld := ⟨SYS_FAULT_ACK, 15, 0⟩
abbrev SYS_ACC_ERR : Nat := dirKey 0 (0x28)
abbrev SYS_ACC_ERR_NARROW : Fld := ⟨SYS_ACC_ERR, 7, 0⟩
abbrev SYS_ACC_ERR_UNMAPPED : Fld := ⟨SYS_ACC_ERR, 15, 8⟩
abbrev SYS_ACC_ERR_IND_BAD : Fld := ⟨SYS_ACC_ERR, 23, 16⟩
abbrev SYS_ACC_ERR_CP1_LATE : Fld := ⟨SYS_ACC_ERR, 31, 24⟩
abbrev SYS_LOCKVIOL_LAST : Nat := dirKey 0 (0x2C)
abbrev SYS_LOCKVIOL_LAST_BLOCK : Fld := ⟨SYS_LOCKVIOL_LAST, 4, 0⟩
abbrev SYS_LOCKVIOL_LAST_REQ : Fld := ⟨SYS_LOCKVIOL_LAST, 6, 5⟩
abbrev SYS_LOCKVIOL_LAST_INDIRECT : Fld := ⟨SYS_LOCKVIOL_LAST, 7, 7⟩
abbrev SYS_LOCKVIOL_LAST_OFFSET : Fld := ⟨SYS_LOCKVIOL_LAST, 23, 8⟩
abbrev SYS_CLK : Nat := dirKey 0 (0x30)
abbrev SYS_CLK_XO_OK : Fld := ⟨SYS_CLK, 0, 0⟩
abbrev SYS_CLK_REF0_OK : Fld := ⟨SYS_CLK, 1, 1⟩
abbrev SYS_CLK_REF1_OK : Fld := ⟨SYS_CLK, 2, 2⟩
abbrev SYS_CLK_CORE_PLL : Fld := ⟨SYS_CLK, 3, 3⟩
abbrev SYS_CLK_PIX_PLL : Fld := ⟨SYS_CLK, 4, 4⟩
abbrev SYS_CLK_MEM_PLL : Fld := ⟨SYS_CLK, 5, 5⟩
abbrev SYS_CLK_TWL_PLL : Fld := ⟨SYS_CLK, 6, 6⟩
abbrev SYS_CLK_ETH_PLL : Fld := ⟨SYS_CLK, 7, 7⟩
abbrev SYS_LOAD : Nat := dirKey 0 (0x34)
abbrev SYS_LOAD_LEN : Fld := ⟨SYS_LOAD, 25, 0⟩
abbrev SYS_LOAD_STAT : Fld := ⟨SYS_LOAD, 31, 30⟩
abbrev SYS_GPIO_DIR : Nat := dirKey 0 (0x40)
abbrev SYS_GPIO_DIR_DIR : Fld := ⟨SYS_GPIO_DIR, 23, 0⟩
abbrev SYS_GPIO_OUT : Nat := dirKey 0 (0x44)
abbrev SYS_GPIO_OUT_OUT : Fld := ⟨SYS_GPIO_OUT, 23, 0⟩
abbrev SYS_GPIO_OD : Nat := dirKey 0 (0x48)
abbrev SYS_GPIO_OD_OD : Fld := ⟨SYS_GPIO_OD, 23, 0⟩
abbrev SYS_GPIO_IN : Nat := dirKey 0 (0x4C)
abbrev SYS_GPIO_IN_IN : Fld := ⟨SYS_GPIO_IN, 23, 0⟩
abbrev SYS_GPIO_RISE : Nat := dirKey 0 (0x50)
abbrev SYS_GPIO_RISE_RISE : Fld := ⟨SYS_GPIO_RISE, 23, 0⟩
abbrev SYS_GPIO_FALL : Nat := dirKey 0 (0x54)
abbrev SYS_GPIO_FALL_FALL : Fld := ⟨SYS_GPIO_FALL, 23, 0⟩
abbrev SYS_GPIO_EVT : Nat := dirKey 0 (0x58)
abbrev SYS_GPIO_EVT_COUNT : Fld := ⟨SYS_GPIO_EVT, 15, 0⟩
abbrev SYS_GPIO_ACK : Nat := dirKey 0 (0x5C)
abbrev SYS_GPIO_ACK_ACK : Fld := ⟨SYS_GPIO_ACK, 15, 0⟩
abbrev SYS_GPIO_IRQ : Nat := dirKey 0 (0x60)
abbrev SYS_GPIO_IRQ_PIN : Fld := ⟨SYS_GPIO_IRQ, 4, 0⟩
abbrev SYS_GPIO_IRQ_EN : Fld := ⟨SYS_GPIO_IRQ, 7, 7⟩
abbrev SYS_FAULT_STATUS : Nat := dirKey 0 (0x68)
abbrev SYS_FAULT_STATUS_DEGRADED : Fld := ⟨SYS_FAULT_STATUS, 0, 0⟩
abbrev SYS_FAULT_STATUS_CONTAINING : Fld := ⟨SYS_FAULT_STATUS, 1, 1⟩
abbrev SYS_FAULT_STATUS_VALID : Fld := ⟨SYS_FAULT_STATUS, 25, 2⟩
abbrev SYS_FAULT_STATUS_HALT_BLOCK : Fld := ⟨SYS_FAULT_STATUS, 30, 26⟩
abbrev SYS_FAULT_STATUS_HALT_VALID : Fld := ⟨SYS_FAULT_STATUS, 31, 31⟩
abbrev SYS_FAULT_LOST : Nat := dirKey 0 (0x6C)
abbrev SYS_FAULT_LOST_COUNT : Fld := ⟨SYS_FAULT_LOST, 31, 0⟩
abbrev SYS_LOCKVIOL (i : Nat) : Nat := dirKey 0 (0x100 + 4 * i)
abbrev SYS_LOCKVIOL_COUNT (i : Nat) : Fld := ⟨(SYS_LOCKVIOL i), 15, 0⟩
abbrev FREC_W0 (i : Nat) : Nat := dirKey 0 (0x400 + 32 * i)
abbrev FREC_W0_SOURCE (i : Nat) : Fld := ⟨(FREC_W0 i), 4, 0⟩
abbrev FREC_W0_SEV (i : Nat) : Fld := ⟨(FREC_W0 i), 6, 5⟩
abbrev FREC_W0_VALID (i : Nat) : Fld := ⟨(FREC_W0 i), 7, 7⟩
abbrev FREC_W0_EXTRA (i : Nat) : Fld := ⟨(FREC_W0 i), 15, 8⟩
abbrev FREC_W0_DETAIL (i : Nat) : Fld := ⟨(FREC_W0 i), 31, 16⟩
abbrev FREC_LT_LO (i : Nat) : Nat := dirKey 0 (0x404 + 32 * i)
abbrev FREC_LT_LO_VAL (i : Nat) : Fld := ⟨(FREC_LT_LO i), 31, 0⟩
abbrev FREC_LT_HI (i : Nat) : Nat := dirKey 0 (0x408 + 32 * i)
abbrev FREC_LT_HI_VAL (i : Nat) : Fld := ⟨(FREC_LT_HI i), 31, 0⟩
abbrev FREC_WT_LO (i : Nat) : Nat := dirKey 0 (0x40C + 32 * i)
abbrev FREC_WT_LO_VAL (i : Nat) : Fld := ⟨(FREC_WT_LO i), 31, 0⟩
abbrev FREC_WT_HI (i : Nat) : Nat := dirKey 0 (0x410 + 32 * i)
abbrev FREC_WT_HI_VAL (i : Nat) : Fld := ⟨(FREC_WT_HI i), 31, 0⟩
abbrev FREC_INFO (i : Nat) : Nat := dirKey 0 (0x414 + 32 * i)
abbrev FREC_INFO_VAL (i : Nat) : Fld := ⟨(FREC_INFO i), 31, 0⟩
abbrev FREC_LOST (i : Nat) : Nat := dirKey 0 (0x418 + 32 * i)
abbrev FREC_LOST_LOST (i : Nat) : Fld := ⟨(FREC_LOST i), 15, 0⟩
abbrev FREC_CLEAR (i : Nat) : Nat := dirKey 0 (0x41C + 32 * i)
abbrev FREC_CLEAR_CLEAR (i : Nat) : Fld := ⟨(FREC_CLEAR i), 0, 0⟩
abbrev FSNAP_W0 (i : Nat) : Nat := dirKey 0 (0x800 + 32 * i)
abbrev FSNAP_W0_VAL (i : Nat) : Fld := ⟨(FSNAP_W0 i), 31, 0⟩
abbrev FSNAP_LT_LO (i : Nat) : Nat := dirKey 0 (0x804 + 32 * i)
abbrev FSNAP_LT_LO_VAL (i : Nat) : Fld := ⟨(FSNAP_LT_LO i), 31, 0⟩
abbrev FSNAP_LT_HI (i : Nat) : Nat := dirKey 0 (0x808 + 32 * i)
abbrev FSNAP_LT_HI_VAL (i : Nat) : Fld := ⟨(FSNAP_LT_HI i), 31, 0⟩
abbrev FSNAP_WT_LO (i : Nat) : Nat := dirKey 0 (0x80C + 32 * i)
abbrev FSNAP_WT_LO_VAL (i : Nat) : Fld := ⟨(FSNAP_WT_LO i), 31, 0⟩
abbrev FSNAP_WT_HI (i : Nat) : Nat := dirKey 0 (0x810 + 32 * i)
abbrev FSNAP_WT_HI_VAL (i : Nat) : Fld := ⟨(FSNAP_WT_HI i), 31, 0⟩
abbrev FSNAP_INFO (i : Nat) : Nat := dirKey 0 (0x814 + 32 * i)
abbrev FSNAP_INFO_VAL (i : Nat) : Fld := ⟨(FSNAP_INFO i), 31, 0⟩
abbrev FSNAP_LOST (i : Nat) : Nat := dirKey 0 (0x818 + 32 * i)
abbrev FSNAP_LOST_LOST (i : Nat) : Fld := ⟨(FSNAP_LOST i), 15, 0⟩
abbrev CPS_IND_ADDR : Nat := dirKey 1 (0x0)
abbrev CPS_IND_ADDR_OFFSET : Fld := ⟨CPS_IND_ADDR, 15, 0⟩
abbrev CPS_IND_ADDR_BLOCK : Fld := ⟨CPS_IND_ADDR, 20, 16⟩
abbrev CPS_IND_DATA : Nat := dirKey 1 (0x4)
abbrev CPS_IND_DATA_DATA : Fld := ⟨CPS_IND_DATA, 31, 0⟩
abbrev CPS_IND_CTRL : Nat := dirKey 1 (0x8)
abbrev CPS_IND_CTRL_INC : Fld := ⟨CPS_IND_CTRL, 0, 0⟩
abbrev CPS_IND_CTRL_SNAP : Fld := ⟨CPS_IND_CTRL, 1, 1⟩
abbrev CPS_REQ : Nat := dirKey 1 (0xC)
abbrev CPS_REQ_PORT : Fld := ⟨CPS_REQ, 1, 0⟩
abbrev CPS_IRQ_PEND0 : Nat := dirKey 1 (0x60)
abbrev CPS_IRQ_PEND0_PEND : Fld := ⟨CPS_IRQ_PEND0, 31, 0⟩
abbrev CPS_IRQ_PEND1 : Nat := dirKey 1 (0x64)
abbrev CPS_IRQ_PEND1_PEND : Fld := ⟨CPS_IRQ_PEND1, 31, 0⟩
abbrev CPS_TRIG_ACK (i : Nat) : Nat := dirKey 1 (0x80 + 4 * i)
abbrev CPS_TRIG_ACK_ACK (i : Nat) : Fld := ⟨(CPS_TRIG_ACK i), 31, 0⟩
abbrev CPS_CQ_BASE_LO : Nat := dirKey 1 (0x100)
abbrev CPS_CQ_BASE_LO_ADDR : Fld := ⟨CPS_CQ_BASE_LO, 31, 12⟩
abbrev CPS_CQ_BASE_HI : Nat := dirKey 1 (0x104)
abbrev CPS_CQ_BASE_HI_ADDR : Fld := ⟨CPS_CQ_BASE_HI, 31, 0⟩
abbrev CPS_CQ_CTRL : Nat := dirKey 1 (0x108)
abbrev CPS_CQ_CTRL_ENABLE : Fld := ⟨CPS_CQ_CTRL, 0, 0⟩
abbrev CPS_CQ_CTRL_LOG2N : Fld := ⟨CPS_CQ_CTRL, 7, 4⟩
abbrev CPS_CQ_TAIL : Nat := dirKey 1 (0x10C)
abbrev CPS_CQ_TAIL_TAIL : Fld := ⟨CPS_CQ_TAIL, 9, 0⟩
abbrev CPS_CQ_HEAD : Nat := dirKey 1 (0x110)
abbrev CPS_CQ_HEAD_HEAD : Fld := ⟨CPS_CQ_HEAD, 9, 0⟩
abbrev CPS_RQ_BASE_LO : Nat := dirKey 1 (0x114)
abbrev CPS_RQ_BASE_LO_ADDR : Fld := ⟨CPS_RQ_BASE_LO, 31, 12⟩
abbrev CPS_RQ_BASE_HI : Nat := dirKey 1 (0x118)
abbrev CPS_RQ_BASE_HI_ADDR : Fld := ⟨CPS_RQ_BASE_HI, 31, 0⟩
abbrev CPS_RQ_CTRL : Nat := dirKey 1 (0x11C)
abbrev CPS_RQ_CTRL_ENABLE : Fld := ⟨CPS_RQ_CTRL, 0, 0⟩
abbrev CPS_RQ_CTRL_LOG2N : Fld := ⟨CPS_RQ_CTRL, 7, 4⟩
abbrev CPS_RQ_HEAD : Nat := dirKey 1 (0x120)
abbrev CPS_RQ_HEAD_HEAD : Fld := ⟨CPS_RQ_HEAD, 9, 0⟩
abbrev CPS_RQ_TAIL : Nat := dirKey 1 (0x124)
abbrev CPS_RQ_TAIL_TAIL : Fld := ⟨CPS_RQ_TAIL, 9, 0⟩
abbrev CPS_RQ_EVT : Nat := dirKey 1 (0x128)
abbrev CPS_RQ_EVT_COUNT : Fld := ⟨CPS_RQ_EVT, 15, 0⟩
abbrev CPS_RQ_ACK : Nat := dirKey 1 (0x12C)
abbrev CPS_RQ_ACK_ACK : Fld := ⟨CPS_RQ_ACK, 15, 0⟩
abbrev CPS_CP1_CMD : Nat := dirKey 1 (0x140)
abbrev CPS_CP1_CMD_WORD : Fld := ⟨CPS_CP1_CMD, 31, 0⟩
abbrev CPS_CP1_RPL : Nat := dirKey 1 (0x144)
abbrev CPS_CP1_RPL_WORD : Fld := ⟨CPS_CP1_RPL, 31, 0⟩
abbrev CPS_CP1_LEVEL : Nat := dirKey 1 (0x148)
abbrev CPS_CP1_LEVEL_CMD_FREE : Fld := ⟨CPS_CP1_LEVEL, 11, 0⟩
abbrev CPS_CP1_LEVEL_RPL_WORDS : Fld := ⟨CPS_CP1_LEVEL, 27, 16⟩
abbrev CPS_CP1_CTRL : Nat := dirKey 1 (0x14C)
abbrev CPS_CP1_CTRL_FLUSH : Fld := ⟨CPS_CP1_CTRL, 0, 0⟩
abbrev CPS_CP1_CTRL_INT_EN : Fld := ⟨CPS_CP1_CTRL, 1, 1⟩
abbrev CPS_CP1_ERR : Nat := dirKey 1 (0x150)
abbrev CPS_CP1_ERR_OVERFLOW : Fld := ⟨CPS_CP1_ERR, 7, 0⟩
abbrev CPS_CP1_ERR_UNDERFLOW : Fld := ⟨CPS_CP1_ERR, 15, 8⟩
abbrev CPS_CP1_ERR_PARTIAL_TO : Fld := ⟨CPS_CP1_ERR, 23, 16⟩
abbrev CPS_CP1_ERR_OVERSIZE : Fld := ⟨CPS_CP1_ERR, 31, 24⟩
abbrev CPS_CP1_CFG : Nat := dirKey 1 (0x154)
abbrev CPS_CP1_CFG_DUMMY : Fld := ⟨CPS_CP1_CFG, 5, 0⟩
abbrev CPS_LIVE_CP0 : Nat := dirKey 1 (0x1C0)
abbrev CPS_LIVE_CP0_TIMEOUT_MS : Fld := ⟨CPS_LIVE_CP0, 15, 0⟩
abbrev CPS_LIVE_CP0_REMAIN_MS : Fld := ⟨CPS_LIVE_CP0, 31, 16⟩
abbrev CPS_LIVE_CP1 : Nat := dirKey 1 (0x1C4)
abbrev CPS_LIVE_CP1_TIMEOUT_MS : Fld := ⟨CPS_LIVE_CP1, 15, 0⟩
abbrev CPS_LIVE_CP1_REMAIN_MS : Fld := ⟨CPS_LIVE_CP1, 31, 16⟩
abbrev CPS_LIVE_EXP : Nat := dirKey 1 (0x1C8)
abbrev CPS_LIVE_EXP_CP0 : Fld := ⟨CPS_LIVE_EXP, 15, 0⟩
abbrev CPS_LIVE_EXP_CP1 : Fld := ⟨CPS_LIVE_EXP, 31, 16⟩
abbrev CPS_SEM_OWNER : Nat := dirKey 1 (0x1D0)
abbrev CPS_SEM_OWNER_OWNERS : Fld := ⟨CPS_SEM_OWNER, 31, 0⟩
abbrev CPS_FWD : Nat := dirKey 1 (0x1E0)
abbrev CPS_FWD_RESENDS : Fld := ⟨CPS_FWD, 15, 0⟩
abbrev CPS_FWD_NO_REPLY : Fld := ⟨CPS_FWD, 31, 16⟩
abbrev CPS_DUP : Nat := dirKey 1 (0x1E4)
abbrev CPS_DUP_COUNT : Fld := ⟨CPS_DUP, 31, 0⟩
abbrev CPS_DMA_ERR : Nat := dirKey 1 (0x1E8)
abbrev CPS_DMA_ERR_COUNT : Fld := ⟨CPS_DMA_ERR, 31, 0⟩
abbrev CPS_IRQ_ROUTE (i : Nat) : Nat := dirKey 1 (0x200 + 4 * i)
abbrev CPS_IRQ_ROUTE_VECTOR (i : Nat) : Fld := ⟨(CPS_IRQ_ROUTE i), 4, 0⟩
abbrev CPS_IRQ_ROUTE_MSIX_EN (i : Nat) : Fld := ⟨(CPS_IRQ_ROUTE i), 8, 8⟩
abbrev CPS_IRQ_ROUTE_CP1_EN (i : Nat) : Fld := ⟨(CPS_IRQ_ROUTE i), 9, 9⟩
abbrev CPS_IRQ_ROUTE_PIN_EN (i : Nat) : Fld := ⟨(CPS_IRQ_ROUTE i), 10, 10⟩
abbrev CPS_IRQ_ROUTE_PENDING (i : Nat) : Fld := ⟨(CPS_IRQ_ROUTE i), 16, 16⟩
abbrev PCI_STATUS : Nat := dirKey 2 (0x0)
abbrev PCI_STATUS_LINK_UP : Fld := ⟨PCI_STATUS, 0, 0⟩
abbrev PCI_STATUS_SPEED : Fld := ⟨PCI_STATUS, 3, 1⟩
abbrev PCI_STATUS_WIDTH : Fld := ⟨PCI_STATUS, 6, 4⟩
abbrev PCI_STATUS_BME : Fld := ⟨PCI_STATUS, 7, 7⟩
abbrev PCI_STATUS_MSIX_EN : Fld := ⟨PCI_STATUS, 8, 8⟩
abbrev PCI_STATUS_D3 : Fld := ⟨PCI_STATUS, 9, 9⟩
abbrev PCI_STATUS_LTSSM : Fld := ⟨PCI_STATUS, 20, 16⟩
abbrev PCI_CTRL : Nat := dirKey 2 (0x4)
abbrev PCI_CTRL_MAX_GEN : Fld := ⟨PCI_CTRL, 1, 0⟩
abbrev PCI_CTRL_RETRAIN : Fld := ⟨PCI_CTRL, 2, 2⟩
abbrev PCI_EVT : Nat := dirKey 2 (0x8)
abbrev PCI_EVT_COUNT : Fld := ⟨PCI_EVT, 15, 0⟩
abbrev PCI_ACK : Nat := dirKey 2 (0xC)
abbrev PCI_ACK_ACK : Fld := ⟨PCI_ACK, 15, 0⟩
abbrev PCI_ERR : Nat := dirKey 2 (0x10)
abbrev PCI_ERR_CORR : Fld := ⟨PCI_ERR, 15, 0⟩
abbrev PCI_ERR_UNCORR : Fld := ⟨PCI_ERR, 31, 16⟩
abbrev PCI_CPL_TO : Nat := dirKey 2 (0x14)
abbrev PCI_CPL_TO_COUNT : Fld := ⟨PCI_CPL_TO, 31, 0⟩
abbrev PCI_ID : Nat := dirKey 2 (0x18)
abbrev PCI_ID_VENDOR : Fld := ⟨PCI_ID, 15, 0⟩
abbrev PCI_ID_DEVICE : Fld := ⟨PCI_ID, 31, 16⟩
abbrev MSIX_ADDR_LO (i : Nat) : Nat := dirKey 2 (0x2000 + 16 * i)
abbrev MSIX_ADDR_LO_VAL (i : Nat) : Fld := ⟨(MSIX_ADDR_LO i), 31, 0⟩
abbrev MSIX_ADDR_HI (i : Nat) : Nat := dirKey 2 (0x2004 + 16 * i)
abbrev MSIX_ADDR_HI_VAL (i : Nat) : Fld := ⟨(MSIX_ADDR_HI i), 31, 0⟩
abbrev MSIX_DATA (i : Nat) : Nat := dirKey 2 (0x2008 + 16 * i)
abbrev MSIX_DATA_VAL (i : Nat) : Fld := ⟨(MSIX_DATA i), 31, 0⟩
abbrev MSIX_VCTRL (i : Nat) : Nat := dirKey 2 (0x200C + 16 * i)
abbrev MSIX_VCTRL_MASK (i : Nat) : Fld := ⟨(MSIX_VCTRL i), 0, 0⟩
abbrev MSIX_PBA : Nat := dirKey 2 (0x3000)
abbrev MSIX_PBA_PEND : Fld := ⟨MSIX_PBA, 31, 0⟩
abbrev ING_CTRL : Nat := dirKey 5 (0x0)
abbrev ING_CTRL_ENABLE : Fld := ⟨ING_CTRL, 0, 0⟩
abbrev ING_CTRL_LEG_TIMEOUT_MS : Fld := ⟨ING_CTRL, 15, 8⟩
abbrev ING_STATUS : Nat := dirKey 5 (0x4)
abbrev ING_STATUS_FLOWS_USED : Fld := ⟨ING_STATUS, 6, 0⟩
abbrev ING_STATUS_LEGS_USED : Fld := ⟨ING_STATUS, 15, 8⟩
abbrev ING_STATUS_NT_VALID : Fld := ⟨ING_STATUS, 16, 16⟩
abbrev ING_STATUS_ETH0_UP : Fld := ⟨ING_STATUS, 17, 17⟩
abbrev ING_STATUS_ETH1_UP : Fld := ⟨ING_STATUS, 18, 18⟩
abbrev ING_RATE : Nat := dirKey 5 (0x8)
abbrev ING_RATE_RATE_MBPS : Fld := ⟨ING_RATE, 18, 0⟩
abbrev ING_UNMATCHED : Nat := dirKey 5 (0xC)
abbrev ING_UNMATCHED_COUNT : Fld := ⟨ING_UNMATCHED, 31, 0⟩
abbrev ING_OVERRUN : Nat := dirKey 5 (0x10)
abbrev ING_OVERRUN_COUNT : Fld := ⟨ING_OVERRUN, 31, 0⟩
abbrev ING_FLOW_EVT : Nat := dirKey 5 (0x14)
abbrev ING_FLOW_EVT_COUNT : Fld := ⟨ING_FLOW_EVT, 15, 0⟩
abbrev ING_FLOW_ACK : Nat := dirKey 5 (0x18)
abbrev ING_FLOW_ACK_ACK : Fld := ⟨ING_FLOW_ACK, 15, 0⟩
abbrev ING_F_STATE (i : Nat) : Nat := indKey 5 (0x1000 + 64 * i)
abbrev ING_F_STATE_STATE (i : Nat) : Fld := ⟨(ING_F_STATE i), 2, 0⟩
abbrev ING_F_STATE_LEG_ACTIVE (i : Nat) : Fld := ⟨(ING_F_STATE i), 4, 3⟩
abbrev ING_F_STATE_NT_MAPPED (i : Nat) : Fld := ⟨(ING_F_STATE i), 5, 5⟩
abbrev ING_F_STATE_LAST_INCOMPLETE (i : Nat) : Fld := ⟨(ING_F_STATE i), 6, 6⟩
abbrev ING_F_LEG0_PKTS (i : Nat) : Nat := indKey 5 (0x1004 + 64 * i)
abbrev ING_F_LEG0_PKTS_COUNT (i : Nat) : Fld := ⟨(ING_F_LEG0_PKTS i), 31, 0⟩
abbrev ING_F_LEG1_PKTS (i : Nat) : Nat := indKey 5 (0x1008 + 64 * i)
abbrev ING_F_LEG1_PKTS_COUNT (i : Nat) : Fld := ⟨(ING_F_LEG1_PKTS i), 31, 0⟩
abbrev ING_F_DUP_DROP (i : Nat) : Nat := indKey 5 (0x100C + 64 * i)
abbrev ING_F_DUP_DROP_COUNT (i : Nat) : Fld := ⟨(ING_F_DUP_DROP i), 31, 0⟩
abbrev ING_F_PKT_LOST (i : Nat) : Nat := indKey 5 (0x1010 + 64 * i)
abbrev ING_F_PKT_LOST_COUNT (i : Nat) : Fld := ⟨(ING_F_PKT_LOST i), 31, 0⟩
abbrev ING_F_LATE_PKT (i : Nat) : Nat := indKey 5 (0x1014 + 64 * i)
abbrev ING_F_LATE_PKT_COUNT (i : Nat) : Fld := ⟨(ING_F_LATE_PKT i), 31, 0⟩
abbrev ING_F_FRAMES (i : Nat) : Nat := indKey 5 (0x1018 + 64 * i)
abbrev ING_F_FRAMES_COUNT (i : Nat) : Fld := ⟨(ING_F_FRAMES i), 31, 0⟩
abbrev ING_F_FRAMES_INCOMPLETE (i : Nat) : Nat := indKey 5 (0x101C + 64 * i)
abbrev ING_F_FRAMES_INCOMPLETE_COUNT (i : Nat) : Fld := ⟨(ING_F_FRAMES_INCOMPLETE i), 31, 0⟩
abbrev ING_F_FRAME_DROP (i : Nat) : Nat := indKey 5 (0x1020 + 64 * i)
abbrev ING_F_FRAME_DROP_COUNT (i : Nat) : Fld := ⟨(ING_F_FRAME_DROP i), 31, 0⟩
abbrev ING_F_FORMAT_ERR (i : Nat) : Nat := indKey 5 (0x1024 + 64 * i)
abbrev ING_F_FORMAT_ERR_COUNT (i : Nat) : Fld := ⟨(ING_F_FORMAT_ERR i), 31, 0⟩
abbrev ING_F_T21_VIOL (i : Nat) : Nat := indKey 5 (0x1028 + 64 * i)
abbrev ING_F_T21_VIOL_CINST (i : Nat) : Fld := ⟨(ING_F_T21_VIOL i), 15, 0⟩
abbrev ING_F_T21_VIOL_VRX (i : Nat) : Fld := ⟨(ING_F_T21_VIOL i), 31, 16⟩
abbrev ING_F_HOLD_DROP (i : Nat) : Nat := indKey 5 (0x102C + 64 * i)
abbrev ING_F_HOLD_DROP_COUNT (i : Nat) : Fld := ⟨(ING_F_HOLD_DROP i), 31, 0⟩
abbrev ING_F_SEQ (i : Nat) : Nat := indKey 5 (0x1030 + 64 * i)
abbrev ING_F_SEQ_SEQ_RESET (i : Nat) : Fld := ⟨(ING_F_SEQ i), 15, 0⟩
abbrev ING_F_SEQ_TS_BAD (i : Nat) : Fld := ⟨(ING_F_SEQ i), 31, 16⟩
abbrev ING_F_PD (i : Nat) : Nat := indKey 5 (0x1034 + 64 * i)
abbrev ING_F_PD_PD_MAX_US (i : Nat) : Fld := ⟨(ING_F_PD i), 23, 0⟩
abbrev ING_F_FLOW_OFFSET (i : Nat) : Nat := indKey 5 (0x1038 + 64 * i)
abbrev ING_F_FLOW_OFFSET_VAL (i : Nat) : Fld := ⟨(ING_F_FLOW_OFFSET i), 31, 0⟩
abbrev ING_F_LAST_RTP (i : Nat) : Nat := indKey 5 (0x103C + 64 * i)
abbrev ING_F_LAST_RTP_VAL (i : Nat) : Fld := ⟨(ING_F_LAST_RTP i), 31, 0⟩
abbrev SRF_CTRL : Nat := dirKey 6 (0x0)
abbrev SRF_CTRL_APERTURE_EN : Fld := ⟨SRF_CTRL, 0, 0⟩
abbrev SRF_CTRL_UPLOAD_EN : Fld := ⟨SRF_CTRL, 1, 1⟩
abbrev SRF_CTRL_BASE : Fld := ⟨SRF_CTRL, 13, 8⟩
abbrev SRF_STATUS : Nat := dirKey 6 (0x4)
abbrev SRF_STATUS_SURFACES : Fld := ⟨SRF_STATUS, 11, 0⟩
abbrev SRF_STATUS_UPLOAD_BUSY : Fld := ⟨SRF_STATUS, 12, 12⟩
abbrev SRF_STATUS_UPLOAD_QUEUED : Fld := ⟨SRF_STATUS, 19, 13⟩
abbrev SRF_STATUS_HEAP_GIB : Fld := ⟨SRF_STATUS, 25, 20⟩
abbrev SRF_STATUS_LARGEST_FREE_256M : Fld := ⟨SRF_STATUS, 31, 26⟩
abbrev SRF_FRING_LO : Nat := dirKey 6 (0x8)
abbrev SRF_FRING_LO_ADDR : Fld := ⟨SRF_FRING_LO, 31, 4⟩
abbrev SRF_FRING_HI : Nat := dirKey 6 (0xC)
abbrev SRF_FRING_HI_ADDR : Fld := ⟨SRF_FRING_HI, 31, 0⟩
abbrev SRF_FRING_CTRL : Nat := dirKey 6 (0x10)
abbrev SRF_FRING_CTRL_ENABLE : Fld := ⟨SRF_FRING_CTRL, 0, 0⟩
abbrev SRF_FRING_CTRL_LOG2N : Fld := ⟨SRF_FRING_CTRL, 8, 4⟩
abbrev SRF_FENCE_EVT : Nat := dirKey 6 (0x14)
abbrev SRF_FENCE_EVT_COUNT : Fld := ⟨SRF_FENCE_EVT, 31, 0⟩
abbrev SRF_FENCE_ACK : Nat := dirKey 6 (0x18)
abbrev SRF_FENCE_ACK_ACK : Fld := ⟨SRF_FENCE_ACK, 31, 0⟩
abbrev SRF_GUARD_EVT : Nat := dirKey 6 (0x1C)
abbrev SRF_GUARD_EVT_COUNT : Fld := ⟨SRF_GUARD_EVT, 15, 0⟩
abbrev SRF_GUARD_ACK : Nat := dirKey 6 (0x20)
abbrev SRF_GUARD_ACK_ACK : Fld := ⟨SRF_GUARD_ACK, 15, 0⟩
abbrev SRF_GUARD_BOTH : Nat := dirKey 6 (0x24)
abbrev SRF_GUARD_BOTH_COUNT : Fld := ⟨SRF_GUARD_BOTH, 31, 0⟩
abbrev SRF_EARLY_WRITE : Nat := dirKey 6 (0x28)
abbrev SRF_EARLY_WRITE_COUNT : Fld := ⟨SRF_EARLY_WRITE, 31, 0⟩
abbrev SRF_MBC_BAD : Nat := dirKey 6 (0x2C)
abbrev SRF_MBC_BAD_COUNT : Fld := ⟨SRF_MBC_BAD, 31, 0⟩
abbrev SRF_STRAY : Nat := dirKey 6 (0x30)
abbrev SRF_STRAY_COUNT : Fld := ⟨SRF_STRAY, 31, 0⟩
abbrev CMP_CTRL : Nat := dirKey 7 (0x0)
abbrev CMP_CTRL_LEAD : Fld := ⟨CMP_CTRL, 5, 0⟩
abbrev CMP_CTRL_ROTATE : Fld := ⟨CMP_CTRL, 8, 8⟩
abbrev CMP_STATUS : Nat := dirKey 7 (0x4)
abbrev CMP_STATUS_RUNNING : Fld := ⟨CMP_STATUS, 0, 0⟩
abbrev CMP_STATUS_PENDING : Fld := ⟨CMP_STATUS, 1, 1⟩
abbrev CMP_STATUS_PASS_ACTIVE : Fld := ⟨CMP_STATUS, 2, 2⟩
abbrev CMP_STATUS_GUARD_WAIT : Fld := ⟨CMP_STATUS, 3, 3⟩
abbrev CMP_STATUS_LAYERS_EN : Fld := ⟨CMP_STATUS, 12, 8⟩
abbrev CMP_STATUS_LEAD_EFF : Fld := ⟨CMP_STATUS, 21, 16⟩
abbrev CMP_FRAME : Nat := dirKey 7 (0x8)
abbrev CMP_FRAME_FRAME : Fld := ⟨CMP_FRAME, 31, 0⟩
abbrev CMP_SHADOW_SEQ : Nat := dirKey 7 (0xC)
abbrev CMP_SHADOW_SEQ_SEQ : Fld := ⟨CMP_SHADOW_SEQ, 31, 0⟩
abbrev CMP_ACTIVE_SEQ : Nat := dirKey 7 (0x10)
abbrev CMP_ACTIVE_SEQ_SEQ : Fld := ⟨CMP_ACTIVE_SEQ, 31, 0⟩
abbrev CMP_PASS_TIME : Nat := dirKey 7 (0x14)
abbrev CMP_PASS_TIME_LAST : Fld := ⟨CMP_PASS_TIME, 23, 0⟩
abbrev CMP_PASS_MAX : Nat := dirKey 7 (0x18)
abbrev CMP_PASS_MAX_MAX : Fld := ⟨CMP_PASS_MAX, 23, 0⟩
abbrev CMP_PASS_MAX_CLEAR : Fld := ⟨CMP_PASS_MAX, 31, 31⟩
abbrev CMP_LATE_EVT : Nat := dirKey 7 (0x20)
abbrev CMP_LATE_EVT_COUNT : Fld := ⟨CMP_LATE_EVT, 31, 0⟩
abbrev CMP_LATE_ACK : Nat := dirKey 7 (0x24)
abbrev CMP_LATE_ACK_ACK : Fld := ⟨CMP_LATE_ACK, 31, 0⟩
abbrev CMP_OVERRUN : Nat := dirKey 7 (0x28)
abbrev CMP_OVERRUN_COUNT : Fld := ⟨CMP_OVERRUN, 31, 0⟩
abbrev CMP_REG_SKIP : Nat := dirKey 7 (0x2C)
abbrev CMP_REG_SKIP_COUNT : Fld := ⟨CMP_REG_SKIP, 31, 0⟩
abbrev CMP_COMMIT_EVT : Nat := dirKey 7 (0x30)
abbrev CMP_COMMIT_EVT_COUNT : Fld := ⟨CMP_COMMIT_EVT, 15, 0⟩
abbrev CMP_COMMIT_ACK : Nat := dirKey 7 (0x34)
abbrev CMP_COMMIT_ACK_ACK : Fld := ⟨CMP_COMMIT_ACK, 15, 0⟩
abbrev CMP_WB_SKIP : Nat := dirKey 7 (0x38)
abbrev CMP_WB_SKIP_WB : Fld := ⟨CMP_WB_SKIP, 15, 0⟩
abbrev CMP_WB_SKIP_PV : Fld := ⟨CMP_WB_SKIP, 31, 16⟩
abbrev CMP_SEL_FALLBACK : Nat := dirKey 7 (0x3C)
abbrev CMP_SEL_FALLBACK_COUNT : Fld := ⟨CMP_SEL_FALLBACK, 31, 0⟩
abbrev CMP_L_STATE (i : Nat) : Nat := indKey 7 (0x1000 + 32 * i)
abbrev CMP_L_STATE_STATE (i : Nat) : Fld := ⟨(CMP_L_STATE i), 1, 0⟩
abbrev CMP_L_STATE_SEL_TIMED (i : Nat) : Fld := ⟨(CMP_L_STATE i), 2, 2⟩
abbrev CMP_L_HANDLE (i : Nat) : Nat := indKey 7 (0x1004 + 32 * i)
abbrev CMP_L_HANDLE_VAL (i : Nat) : Fld := ⟨(CMP_L_HANDLE i), 31, 0⟩
abbrev CMP_L_GEN (i : Nat) : Nat := indKey 7 (0x1008 + 32 * i)
abbrev CMP_L_GEN_VAL (i : Nat) : Fld := ⟨(CMP_L_GEN i), 31, 0⟩
abbrev CMP_L_LATE (i : Nat) : Nat := indKey 7 (0x100C + 32 * i)
abbrev CMP_L_LATE_COUNT (i : Nat) : Fld := ⟨(CMP_L_LATE i), 31, 0⟩
abbrev CMP_L_CULLED (i : Nat) : Nat := indKey 7 (0x1010 + 32 * i)
abbrev CMP_L_CULLED_CULLED (i : Nat) : Fld := ⟨(CMP_L_CULLED i), 23, 0⟩
abbrev CMP_L_TCAP_LO (i : Nat) : Nat := indKey 7 (0x1014 + 32 * i)
abbrev CMP_L_TCAP_LO_VAL (i : Nat) : Fld := ⟨(CMP_L_TCAP_LO i), 31, 0⟩
abbrev CMP_L_TCAP_HI (i : Nat) : Nat := indKey 7 (0x1018 + 32 * i)
abbrev CMP_L_TCAP_HI_VAL (i : Nat) : Fld := ⟨(CMP_L_TCAP_HI i), 31, 0⟩
abbrev TNM_CTRL : Nat := dirKey 8 (0x0)
abbrev TNM_CTRL_AMB_SRC : Fld := ⟨TNM_CTRL, 1, 0⟩
abbrev TNM_CTRL_BUDGET_EN : Fld := ⟨TNM_CTRL, 2, 2⟩
abbrev TNM_CTRL_PEER_EN : Fld := ⟨TNM_CTRL, 3, 3⟩
abbrev TNM_CTRL_UPDATE_FRAMES : Fld := ⟨TNM_CTRL, 15, 8⟩
abbrev TNM_CTRL_STEP : Fld := ⟨TNM_CTRL, 31, 16⟩
abbrev TNM_STATUS : Nat := dirKey 8 (0x4)
abbrev TNM_STATUS_AMB_VALID : Fld := ⟨TNM_STATUS, 0, 0⟩
abbrev TNM_STATUS_BUDGET_LIMIT : Fld := ⟨TNM_STATUS, 1, 1⟩
abbrev TNM_STATUS_WALL_SET : Fld := ⟨TNM_STATUS, 2, 2⟩
abbrev TNM_STATUS_AMB_TILES : Fld := ⟨TNM_STATUS, 15, 8⟩
abbrev TNM_STATUS_PEERS : Fld := ⟨TNM_STATUS, 23, 16⟩
abbrev TNM_WALL : Nat := dirKey 8 (0x8)
abbrev TNM_WALL_LMAX : Fld := ⟨TNM_WALL, 15, 0⟩
abbrev TNM_WALL_GAMUT : Fld := ⟨TNM_WALL, 17, 16⟩
abbrev TNM_K : Nat := dirKey 8 (0xC)
abbrev TNM_K_K : Fld := ⟨TNM_K, 15, 0⟩
abbrev TNM_K_K_TARGET : Fld := ⟨TNM_K, 31, 16⟩
abbrev TNM_KB : Nat := dirKey 8 (0x10)
abbrev TNM_KB_KB : Fld := ⟨TNM_KB, 15, 0⟩
abbrev TNM_KB_K_AMB : Fld := ⟨TNM_KB, 31, 16⟩
abbrev TNM_AMB_LUX : Nat := dirKey 8 (0x14)
abbrev TNM_AMB_LUX_LUX : Fld := ⟨TNM_AMB_LUX, 31, 0⟩
abbrev TNM_RHO : Nat := dirKey 8 (0x18)
abbrev TNM_RHO_RHO_MAX : Fld := ⟨TNM_RHO, 15, 0⟩
abbrev TNM_SHADOW_SEQ : Nat := dirKey 8 (0x1C)
abbrev TNM_SHADOW_SEQ_SEQ : Fld := ⟨TNM_SHADOW_SEQ, 31, 0⟩
abbrev TNM_ACTIVE_SEQ : Nat := dirKey 8 (0x20)
abbrev TNM_ACTIVE_SEQ_SEQ : Fld := ⟨TNM_ACTIVE_SEQ, 31, 0⟩
abbrev TNM_KUPD_EVT : Nat := dirKey 8 (0x24)
abbrev TNM_KUPD_EVT_COUNT : Fld := ⟨TNM_KUPD_EVT, 15, 0⟩
abbrev TNM_KUPD_ACK : Nat := dirKey 8 (0x28)
abbrev TNM_KUPD_ACK_ACK : Fld := ⟨TNM_KUPD_ACK, 15, 0⟩
abbrev TNM_AMB_STALE : Nat := dirKey 8 (0x2C)
abbrev TNM_AMB_STALE_COUNT : Fld := ⟨TNM_AMB_STALE, 31, 0⟩
abbrev TNM_HOST_LUX : Nat := dirKey 8 (0x30)
abbrev TNM_HOST_LUX_LUX : Fld := ⟨TNM_HOST_LUX, 31, 0⟩
abbrev TNM_BUDGET : Nat := dirKey 8 (0x34)
abbrev TNM_BUDGET_HEADROOM : Fld := ⟨TNM_BUDGET, 15, 0⟩
abbrev TNM_PROF_MISMATCH : Nat := dirKey 8 (0x38)
abbrev TNM_PROF_MISMATCH_COUNT : Fld := ⟨TNM_PROF_MISMATCH, 31, 0⟩
abbrev CEL_CTRL : Nat := dirKey 9 (0x0)
abbrev CEL_CTRL_LAUNCH_EN : Fld := ⟨CEL_CTRL, 0, 0⟩
abbrev CEL_CTRL_FORCE_FULL : Fld := ⟨CEL_CTRL, 1, 1⟩
abbrev CEL_CTRL_REFRESH_FRAMES : Fld := ⟨CEL_CTRL, 15, 8⟩
abbrev CEL_CTRL_HOP_NS : Fld := ⟨CEL_CTRL, 27, 16⟩
abbrev CEL_STATUS : Nat := dirKey 9 (0x4)
abbrev CEL_STATUS_SLOTS : Fld := ⟨CEL_STATUS, 8, 0⟩
abbrev CEL_STATUS_MAP_VALID : Fld := ⟨CEL_STATUS, 9, 9⟩
abbrev CEL_STATUS_UNREACH : Fld := ⟨CEL_STATUS, 24, 16⟩
abbrev CEL_STATUS_MAP_SEQ : Fld := ⟨CEL_STATUS, 31, 25⟩
abbrev CEL_POOL_FREE : Nat := dirKey 9 (0x8)
abbrev CEL_POOL_FREE_FREE : Fld := ⟨CEL_POOL_FREE, 20, 0⟩
abbrev CEL_QUEUED : Nat := dirKey 9 (0xC)
abbrev CEL_QUEUED_COUNT : Fld := ⟨CEL_QUEUED, 31, 0⟩
abbrev CEL_SUPERSEDED : Nat := dirKey 9 (0x10)
abbrev CEL_SUPERSEDED_COUNT : Fld := ⟨CEL_SUPERSEDED, 31, 0⟩
abbrev CEL_STRICT_DROP : Nat := dirKey 9 (0x14)
abbrev CEL_STRICT_DROP_COUNT : Fld := ⟨CEL_STRICT_DROP, 31, 0⟩
abbrev CEL_POOL_EMPTY : Nat := dirKey 9 (0x18)
abbrev CEL_POOL_EMPTY_COUNT : Fld := ⟨CEL_POOL_EMPTY, 31, 0⟩
abbrev CEL_LAUNCHED : Nat := dirKey 9 (0x1C)
abbrev CEL_LAUNCHED_COUNT : Fld := ⟨CEL_LAUNCHED, 31, 0⟩
abbrev CEL_RELAUNCHED : Nat := dirKey 9 (0x20)
abbrev CEL_RELAUNCHED_COUNT : Fld := ⟨CEL_RELAUNCHED, 31, 0⟩
abbrev CEL_OVERDUE : Nat := dirKey 9 (0x24)
abbrev CEL_OVERDUE_COUNT : Fld := ⟨CEL_OVERDUE, 31, 0⟩
abbrev CEL_ROUTE_EVT : Nat := dirKey 9 (0x28)
abbrev CEL_ROUTE_EVT_COUNT : Fld := ⟨CEL_ROUTE_EVT, 15, 0⟩
abbrev CEL_ROUTE_ACK : Nat := dirKey 9 (0x2C)
abbrev CEL_ROUTE_ACK_ACK : Fld := ⟨CEL_ROUTE_ACK, 15, 0⟩
abbrev CEL_REFRESHED : Nat := dirKey 9 (0x30)
abbrev CEL_REFRESHED_COUNT : Fld := ⟨CEL_REFRESHED, 31, 0⟩
abbrev CEL_T_STATUS : Nat := dirKey 9 (0x100)
abbrev CEL_T_STATUS_SERVED : Fld := ⟨CEL_T_STATUS, 0, 0⟩
abbrev CEL_T_STATUS_GEOM_BAD : Fld := ⟨CEL_T_STATUS, 1, 1⟩
abbrev CEL_T_STATUS_COMPLETE : Fld := ⟨CEL_T_STATUS, 2, 2⟩
abbrev CEL_T_STATUS_EPOCH : Fld := ⟨CEL_T_STATUS, 11, 8⟩
abbrev CEL_T_STATUS_SENDER : Fld := ⟨CEL_T_STATUS, 23, 12⟩
abbrev CEL_T_CELLS : Nat := dirKey 9 (0x104)
abbrev CEL_T_CELLS_CELLS : Fld := ⟨CEL_T_CELLS, 12, 0⟩
abbrev CEL_T_PREP : Nat := dirKey 9 (0x108)
abbrev CEL_T_PREP_PREP_FIXED : Fld := ⟨CEL_T_PREP, 15, 0⟩
abbrev CEL_T_PREP_PREP_CELL : Fld := ⟨CEL_T_PREP, 31, 16⟩
abbrev CEL_T_LATE_EVT : Nat := dirKey 9 (0x10C)
abbrev CEL_T_LATE_EVT_COUNT : Fld := ⟨CEL_T_LATE_EVT, 31, 0⟩
abbrev CEL_T_LATE_ACK : Nat := dirKey 9 (0x110)
abbrev CEL_T_LATE_ACK_ACK : Fld := ⟨CEL_T_LATE_ACK, 31, 0⟩
abbrev CEL_T_STALE : Nat := dirKey 9 (0x114)
abbrev CEL_T_STALE_COUNT : Fld := ⟨CEL_T_STALE, 31, 0⟩
abbrev CEL_T_BAD : Nat := dirKey 9 (0x118)
abbrev CEL_T_BAD_COUNT : Fld := ⟨CEL_T_BAD, 31, 0⟩
abbrev CEL_T_REFUSED : Nat := dirKey 9 (0x11C)
abbrev CEL_T_REFUSED_COUNT : Fld := ⟨CEL_T_REFUSED, 31, 0⟩
abbrev CEL_T_EARLY : Nat := dirKey 9 (0x120)
abbrev CEL_T_EARLY_COUNT : Fld := ⟨CEL_T_EARLY, 31, 0⟩
abbrev CEL_T_DUP : Nat := dirKey 9 (0x124)
abbrev CEL_T_DUP_COUNT : Fld := ⟨CEL_T_DUP, 31, 0⟩
abbrev CEL_T_MARGIN : Nat := dirKey 9 (0x128)
abbrev CEL_T_MARGIN_MARGIN : Fld := ⟨CEL_T_MARGIN, 23, 0⟩
abbrev CEL_T_FRAME : Nat := dirKey 9 (0x12C)
abbrev CEL_T_FRAME_FRAME : Fld := ⟨CEL_T_FRAME, 31, 0⟩
abbrev CEL_S_W0 (i : Nat) : Nat := indKey 9 (0x1000 + 64 * i)
abbrev CEL_S_W0_DEVNUM (i : Nat) : Fld := ⟨(CEL_S_W0 i), 11, 0⟩
abbrev CEL_S_W0_ROUTE (i : Nat) : Fld := ⟨(CEL_S_W0 i), 14, 12⟩
abbrev CEL_S_W0_HOPS (i : Nat) : Fld := ⟨(CEL_S_W0 i), 22, 16⟩
abbrev CEL_S_W0_STATE (i : Nat) : Fld := ⟨(CEL_S_W0 i), 26, 24⟩
abbrev CEL_S_W0_STRICT (i : Nat) : Fld := ⟨(CEL_S_W0 i), 27, 27⟩
abbrev CEL_S_W0_EPOCH (i : Nat) : Fld := ⟨(CEL_S_W0 i), 31, 28⟩
abbrev CEL_S_QUEUED (i : Nat) : Nat := indKey 9 (0x1004 + 64 * i)
abbrev CEL_S_QUEUED_COUNT (i : Nat) : Fld := ⟨(CEL_S_QUEUED i), 31, 0⟩
abbrev CEL_S_SUPERSEDED (i : Nat) : Nat := indKey 9 (0x1008 + 64 * i)
abbrev CEL_S_SUPERSEDED_COUNT (i : Nat) : Fld := ⟨(CEL_S_SUPERSEDED i), 31, 0⟩
abbrev CEL_S_LAUNCHED (i : Nat) : Nat := indKey 9 (0x100C + 64 * i)
abbrev CEL_S_LAUNCHED_COUNT (i : Nat) : Fld := ⟨(CEL_S_LAUNCHED i), 31, 0⟩
abbrev CEL_S_RELAUNCHED (i : Nat) : Nat := indKey 9 (0x1010 + 64 * i)
abbrev CEL_S_RELAUNCHED_COUNT (i : Nat) : Fld := ⟨(CEL_S_RELAUNCHED i), 31, 0⟩
abbrev CEL_S_OVERDUE (i : Nat) : Nat := indKey 9 (0x1014 + 64 * i)
abbrev CEL_S_OVERDUE_COUNT (i : Nat) : Fld := ⟨(CEL_S_OVERDUE i), 31, 0⟩
abbrev CEL_S_T_LATE (i : Nat) : Nat := indKey 9 (0x1018 + 64 * i)
abbrev CEL_S_T_LATE_VAL (i : Nat) : Fld := ⟨(CEL_S_T_LATE i), 31, 0⟩
abbrev CEL_S_T_STALE (i : Nat) : Nat := indKey 9 (0x101C + 64 * i)
abbrev CEL_S_T_STALE_VAL (i : Nat) : Fld := ⟨(CEL_S_T_STALE i), 31, 0⟩
abbrev CEL_S_T_BAD (i : Nat) : Nat := indKey 9 (0x1020 + 64 * i)
abbrev CEL_S_T_BAD_VAL (i : Nat) : Fld := ⟨(CEL_S_T_BAD i), 31, 0⟩
abbrev CEL_S_PREP (i : Nat) : Nat := indKey 9 (0x1024 + 64 * i)
abbrev CEL_S_PREP_FIXED (i : Nat) : Fld := ⟨(CEL_S_PREP i), 15, 0⟩
abbrev CEL_S_PREP_CELL (i : Nat) : Fld := ⟨(CEL_S_PREP i), 31, 16⟩
abbrev CEL_S_MARGIN (i : Nat) : Nat := indKey 9 (0x1028 + 64 * i)
abbrev CEL_S_MARGIN_MARGIN (i : Nat) : Fld := ⟨(CEL_S_MARGIN i), 23, 0⟩
abbrev CEL_S_REPORT (i : Nat) : Nat := indKey 9 (0x102C + 64 * i)
abbrev CEL_S_REPORT_AGE (i : Nat) : Fld := ⟨(CEL_S_REPORT i), 15, 0⟩
abbrev TIM_CTRL : Nat := dirKey 10 (0x0)
abbrev TIM_CTRL_WT_SRC : Fld := ⟨TIM_CTRL, 1, 0⟩
abbrev TIM_CTRL_MASTER_EN : Fld := ⟨TIM_CTRL, 2, 2⟩
abbrev TIM_CTRL_PPS_OUT : Fld := ⟨TIM_CTRL, 5, 4⟩
abbrev TIM_CTRL_PRIO : Fld := ⟨TIM_CTRL, 15, 8⟩
abbrev TIM_CTRL_SLEW_PPM : Fld := ⟨TIM_CTRL, 19, 16⟩
abbrev TIM_CTRL_STEP_EXP : Fld := ⟨TIM_CTRL, 24, 20⟩
abbrev TIM_CTRL_SYNC_EXP : Fld := ⟨TIM_CTRL, 27, 25⟩
abbrev TIM_STATUS : Nat := dirKey 10 (0x4)
abbrev TIM_STATUS_WT_STATE : Fld := ⟨TIM_STATUS, 1, 0⟩
abbrev TIM_STATUS_NT_STATE : Fld := ⟨TIM_STATUS, 3, 2⟩
abbrev TIM_STATUS_MASTER : Fld := ⟨TIM_STATUS, 4, 4⟩
abbrev TIM_STATUS_PARAMS : Fld := ⟨TIM_STATUS, 5, 5⟩
abbrev TIM_STATUS_SRC_TWILL : Fld := ⟨TIM_STATUS, 6, 6⟩
abbrev TIM_STATUS_SRC_PORT : Fld := ⟨TIM_STATUS, 9, 7⟩
abbrev TIM_STATUS_STEPS : Fld := ⟨TIM_STATUS, 16, 10⟩
abbrev TIM_STATUS_CLASS : Fld := ⟨TIM_STATUS, 18, 17⟩
abbrev TIM_STATUS_CURVE_OK : Fld := ⟨TIM_STATUS, 19, 19⟩
abbrev TIM_STATUS_HOLD_LONG : Fld := ⟨TIM_STATUS, 20, 20⟩
abbrev TIM_STATUS_PTP_ACT : Fld := ⟨TIM_STATUS, 21, 21⟩
abbrev TIM_LT_LO : Nat := dirKey 10 (0x8)
abbrev TIM_LT_LO_VAL : Fld := ⟨TIM_LT_LO, 31, 0⟩
abbrev TIM_LT_HI : Nat := dirKey 10 (0xC)
abbrev TIM_LT_HI_VAL : Fld := ⟨TIM_LT_HI, 31, 0⟩
abbrev TIM_LT_FRAC : Nat := dirKey 10 (0x10)
abbrev TIM_LT_FRAC_FRAC : Fld := ⟨TIM_LT_FRAC, 15, 0⟩
abbrev TIM_WT_LO : Nat := dirKey 10 (0x14)
abbrev TIM_WT_LO_VAL : Fld := ⟨TIM_WT_LO, 31, 0⟩
abbrev TIM_WT_HI : Nat := dirKey 10 (0x18)
abbrev TIM_WT_HI_VAL : Fld := ⟨TIM_WT_HI, 31, 0⟩
abbrev TIM_NT_LO : Nat := dirKey 10 (0x1C)
abbrev TIM_NT_LO_VAL : Fld := ⟨TIM_NT_LO, 31, 0⟩
abbrev TIM_NT_HI : Nat := dirKey 10 (0x20)
abbrev TIM_NT_HI_VAL : Fld := ⟨TIM_NT_HI, 31, 0⟩
abbrev TIM_SNAP : Nat := dirKey 10 (0x24)
abbrev TIM_SNAP_GO : Fld := ⟨TIM_SNAP, 0, 0⟩
abbrev TIM_SNAP_LT_LO : Nat := dirKey 10 (0x28)
abbrev TIM_SNAP_LT_LO_VAL : Fld := ⟨TIM_SNAP_LT_LO, 31, 0⟩
abbrev TIM_SNAP_LT_HI : Nat := dirKey 10 (0x2C)
abbrev TIM_SNAP_LT_HI_VAL : Fld := ⟨TIM_SNAP_LT_HI, 31, 0⟩
abbrev TIM_SNAP_WT_LO : Nat := dirKey 10 (0x30)
abbrev TIM_SNAP_WT_LO_VAL : Fld := ⟨TIM_SNAP_WT_LO, 31, 0⟩
abbrev TIM_SNAP_WT_HI : Nat := dirKey 10 (0x34)
abbrev TIM_SNAP_WT_HI_VAL : Fld := ⟨TIM_SNAP_WT_HI, 31, 0⟩
abbrev TIM_SNAP_NT_LO : Nat := dirKey 10 (0x38)
abbrev TIM_SNAP_NT_LO_VAL : Fld := ⟨TIM_SNAP_NT_LO, 31, 0⟩
abbrev TIM_SNAP_NT_HI : Nat := dirKey 10 (0x3C)
abbrev TIM_SNAP_NT_HI_VAL : Fld := ⟨TIM_SNAP_NT_HI, 31, 0⟩
abbrev TIM_FRAME_LO : Nat := dirKey 10 (0x40)
abbrev TIM_FRAME_LO_VAL : Fld := ⟨TIM_FRAME_LO, 31, 0⟩
abbrev TIM_FRAME_HI : Nat := dirKey 10 (0x44)
abbrev TIM_FRAME_HI_VAL : Fld := ⟨TIM_FRAME_HI, 31, 0⟩
abbrev TIM_WT_OFFSET_LO : Nat := dirKey 10 (0x48)
abbrev TIM_WT_OFFSET_LO_VAL : Fld := ⟨TIM_WT_OFFSET_LO, 31, 0⟩
abbrev TIM_WT_OFFSET_HI : Nat := dirKey 10 (0x4C)
abbrev TIM_WT_OFFSET_HI_VAL : Fld := ⟨TIM_WT_OFFSET_HI, 31, 0⟩
abbrev TIM_LATE_WIN : Nat := dirKey 10 (0x50)
abbrev TIM_LATE_WIN_W : Fld := ⟨TIM_LATE_WIN, 29, 0⟩
abbrev TIM_OFFSET : Nat := dirKey 10 (0x54)
abbrev TIM_OFFSET_VAL : Fld := ⟨TIM_OFFSET, 31, 0⟩
abbrev TIM_RATE : Nat := dirKey 10 (0x58)
abbrev TIM_RATE_VAL : Fld := ⟨TIM_RATE, 31, 0⟩
abbrev TIM_HOLD_S : Nat := dirKey 10 (0x5C)
abbrev TIM_HOLD_S_SECONDS : Fld := ⟨TIM_HOLD_S, 23, 0⟩
abbrev TIM_HOLD_S_HOLD_WARN : Fld := ⟨TIM_HOLD_S, 31, 24⟩
abbrev TIM_EVT : Nat := dirKey 10 (0x60)
abbrev TIM_EVT_COUNT : Fld := ⟨TIM_EVT, 15, 0⟩
abbrev TIM_ACK : Nat := dirKey 10 (0x64)
abbrev TIM_ACK_ACK : Fld := ⟨TIM_ACK, 15, 0⟩
abbrev TIM_LATE_EVT : Nat := dirKey 10 (0x68)
abbrev TIM_LATE_EVT_COUNT : Fld := ⟨TIM_LATE_EVT, 31, 0⟩
abbrev TIM_LATE_ACK : Nat := dirKey 10 (0x6C)
abbrev TIM_LATE_ACK_ACK : Fld := ⟨TIM_LATE_ACK, 31, 0⟩
abbrev TIM_STEP_CNT : Nat := dirKey 10 (0x70)
abbrev TIM_STEP_CNT_COUNT : Fld := ⟨TIM_STEP_CNT, 31, 0⟩
abbrev TIM_MISSED : Nat := dirKey 10 (0x74)
abbrev TIM_MISSED_COUNT : Fld := ⟨TIM_MISSED, 31, 0⟩
abbrev FRAME_MISMATCH : Nat := dirKey 10 (0x78)
abbrev FRAME_MISMATCH_COUNT : Fld := ⟨FRAME_MISMATCH, 31, 0⟩
abbrev GL_BAD : Nat := dirKey 10 (0x7C)
abbrev GL_BAD_COUNT : Fld := ⟨GL_BAD, 31, 0⟩
abbrev TSRC_FAIL : Nat := dirKey 10 (0x80)
abbrev TSRC_FAIL_COUNT : Fld := ⟨TSRC_FAIL, 31, 0⟩
abbrev PTP_UNSUP : Nat := dirKey 10 (0x84)
abbrev PTP_UNSUP_COUNT : Fld := ⟨PTP_UNSUP, 31, 0⟩
abbrev TIM_CAP_SEL : Nat := dirKey 10 (0x88)
abbrev TIM_CAP_SEL_GPIO_A : Fld := ⟨TIM_CAP_SEL, 4, 0⟩
abbrev TIM_CAP_SEL_GPIO_B : Fld := ⟨TIM_CAP_SEL, 12, 8⟩
abbrev TIM_MASTER : Nat := dirKey 10 (0x8C)
abbrev TIM_MASTER_DEVNUM : Fld := ⟨TIM_MASTER, 11, 0⟩
abbrev TIM_OSC : Nat := dirKey 10 (0x90)
abbrev TIM_OSC_TSRC : Fld := ⟨TIM_OSC, 4, 0⟩
abbrev TIM_P_W0 (i : Nat) : Nat := indKey 10 (0x1000 + 64 * i)
abbrev TIM_P_W0_SELECTED (i : Nat) : Fld := ⟨(TIM_P_W0 i), 0, 0⟩
abbrev TIM_P_W0_OFFER_VALID (i : Nat) : Fld := ⟨(TIM_P_W0 i), 1, 1⟩
abbrev TIM_P_W0_OFFER_HOLD (i : Nat) : Fld := ⟨(TIM_P_W0 i), 2, 2⟩
abbrev TIM_P_W0_OFFER_NOTSEL (i : Nat) : Fld := ⟨(TIM_P_W0 i), 3, 3⟩
abbrev TIM_P_W0_OFFER_STEPS (i : Nat) : Fld := ⟨(TIM_P_W0 i), 10, 4⟩
abbrev TIM_P_W0_OFFER_MASTER (i : Nat) : Fld := ⟨(TIM_P_W0 i), 22, 11⟩
abbrev TIM_P_DELAY_PS (i : Nat) : Nat := indKey 10 (0x1004 + 64 * i)
abbrev TIM_P_DELAY_PS_VAL (i : Nat) : Fld := ⟨(TIM_P_DELAY_PS i), 31, 0⟩
abbrev TIM_P_ASYM_PS (i : Nat) : Nat := indKey 10 (0x1008 + 64 * i)
abbrev TIM_P_ASYM_PS_VAL (i : Nat) : Fld := ⟨(TIM_P_ASYM_PS i), 31, 0⟩
abbrev TIM_P_LAST_OFS_PS (i : Nat) : Nat := indKey 10 (0x100C + 64 * i)
abbrev TIM_P_LAST_OFS_PS_VAL (i : Nat) : Fld := ⟨(TIM_P_LAST_OFS_PS i), 31, 0⟩
abbrev TIM_P_SAMPLES (i : Nat) : Nat := indKey 10 (0x1010 + 64 * i)
abbrev TIM_P_SAMPLES_COUNT (i : Nat) : Fld := ⟨(TIM_P_SAMPLES i), 31, 0⟩
abbrev TIM_P_DISCARD (i : Nat) : Nat := indKey 10 (0x1014 + 64 * i)
abbrev TIM_P_DISCARD_COUNT (i : Nat) : Fld := ⟨(TIM_P_DISCARD i), 31, 0⟩
abbrev TRIG_CMP (i : Nat) : Nat := indKey 10 (0x2000 + 16 * i)
abbrev TRIG_CMP_CMP (i : Nat) : Fld := ⟨(TRIG_CMP i), 31, 0⟩
abbrev TRIG_CTL (i : Nat) : Nat := indKey 10 (0x2004 + 16 * i)
abbrev TRIG_CTL_ACTION (i : Nat) : Fld := ⟨(TRIG_CTL i), 1, 0⟩
abbrev TRIG_CTL_GPIO (i : Nat) : Fld := ⟨(TRIG_CTL i), 6, 2⟩
abbrev TRIG_CTL_ARM (i : Nat) : Fld := ⟨(TRIG_CTL i), 8, 8⟩
abbrev TRIG_CTL_DISARM (i : Nat) : Fld := ⟨(TRIG_CTL i), 9, 9⟩
abbrev TRIG_CTL_ARMED (i : Nat) : Fld := ⟨(TRIG_CTL i), 10, 10⟩
abbrev TRIG_CTL_LATE (i : Nat) : Fld := ⟨(TRIG_CTL i), 11, 11⟩
abbrev TRIG_CTL_REFUSED (i : Nat) : Fld := ⟨(TRIG_CTL i), 12, 12⟩
abbrev TRIG_CTL_PULSE (i : Nat) : Fld := ⟨(TRIG_CTL i), 31, 16⟩
abbrev TRIG_LATENESS (i : Nat) : Nat := indKey 10 (0x2008 + 16 * i)
abbrev TRIG_LATENESS_VAL (i : Nat) : Fld := ⟨(TRIG_LATENESS i), 31, 0⟩
abbrev TRIG_FIRED (i : Nat) : Nat := indKey 10 (0x200C + 16 * i)
abbrev TRIG_FIRED_COUNT (i : Nat) : Fld := ⟨(TRIG_FIRED i), 31, 0⟩
abbrev CURVE_Y (i : Nat) : Nat := indKey 10 (0x3000 + 8 * i)
abbrev CURVE_Y_Y (i : Nat) : Fld := ⟨(CURVE_Y i), 31, 0⟩
abbrev CURVE_N (i : Nat) : Nat := indKey 10 (0x3004 + 8 * i)
abbrev CURVE_N_COUNT (i : Nat) : Fld := ⟨(CURVE_N i), 15, 0⟩
abbrev CAP_LO (i : Nat) : Nat := indKey 10 (0x3400 + 16 * i)
abbrev CAP_LO_VAL (i : Nat) : Fld := ⟨(CAP_LO i), 31, 0⟩
abbrev CAP_HI (i : Nat) : Nat := indKey 10 (0x3404 + 16 * i)
abbrev CAP_HI_VAL (i : Nat) : Fld := ⟨(CAP_HI i), 31, 0⟩
abbrev CAP_EDGES (i : Nat) : Nat := indKey 10 (0x3408 + 16 * i)
abbrev CAP_EDGES_COUNT (i : Nat) : Fld := ⟨(CAP_EDGES i), 31, 0⟩
abbrev PTP_W0 (i : Nat) : Nat := indKey 10 (0x4000 + 64 * i)
abbrev PTP_W0_VALID (i : Nat) : Fld := ⟨(PTP_W0 i), 0, 0⟩
abbrev PTP_W0_PORT (i : Nat) : Fld := ⟨(PTP_W0 i), 1, 1⟩
abbrev PTP_W0_SUBPORT (i : Nat) : Fld := ⟨(PTP_W0 i), 3, 2⟩
abbrev PTP_W0_DOMAIN (i : Nat) : Fld := ⟨(PTP_W0 i), 11, 4⟩
abbrev PTP_GM_LO (i : Nat) : Nat := indKey 10 (0x4004 + 64 * i)
abbrev PTP_GM_LO_VAL (i : Nat) : Fld := ⟨(PTP_GM_LO i), 31, 0⟩
abbrev PTP_GM_HI (i : Nat) : Nat := indKey 10 (0x4008 + 64 * i)
abbrev PTP_GM_HI_VAL (i : Nat) : Fld := ⟨(PTP_GM_HI i), 31, 0⟩
abbrev PTP_OFFSET_NS (i : Nat) : Nat := indKey 10 (0x400C + 64 * i)
abbrev PTP_OFFSET_NS_VAL (i : Nat) : Fld := ⟨(PTP_OFFSET_NS i), 31, 0⟩
abbrev PTP_PATH_NS (i : Nat) : Nat := indKey 10 (0x4010 + 64 * i)
abbrev PTP_PATH_NS_VAL (i : Nat) : Fld := ⟨(PTP_PATH_NS i), 31, 0⟩
abbrev PTP_SYNC_RX (i : Nat) : Nat := indKey 10 (0x4014 + 64 * i)
abbrev PTP_SYNC_RX_COUNT (i : Nat) : Fld := ⟨(PTP_SYNC_RX i), 31, 0⟩
abbrev PTP_DRESP_RX (i : Nat) : Nat := indKey 10 (0x4018 + 64 * i)
abbrev PTP_DRESP_RX_COUNT (i : Nat) : Fld := ⟨(PTP_DRESP_RX i), 31, 0⟩
abbrev PTP_UTC (i : Nat) : Nat := indKey 10 (0x401C + 64 * i)
abbrev PTP_UTC_UTC_OFS (i : Nat) : Fld := ⟨(PTP_UTC i), 15, 0⟩
abbrev PTP_ASYM_PS (i : Nat) : Nat := indKey 10 (0x4020 + 64 * i)
abbrev PTP_ASYM_PS_VAL (i : Nat) : Fld := ⟨(PTP_ASYM_PS i), 31, 0⟩
abbrev THM_CTRL : Nat := dirKey 11 (0x0)
abbrev THM_CTRL_POWER_EN : Fld := ⟨THM_CTRL, 0, 0⟩
abbrev THM_CTRL_PMB_EN : Fld := ⟨THM_CTRL, 1, 1⟩
abbrev THM_CTRL_STEP_MIN : Fld := ⟨THM_CTRL, 6, 4⟩
abbrev THM_CTRL_FAIL_MARGIN : Fld := ⟨THM_CTRL, 11, 8⟩
abbrev THM_CTRL_CASE_SRC : Fld := ⟨THM_CTRL, 14, 12⟩
abbrev THM_CTRL_BUDGET_HOLD_S : Fld := ⟨THM_CTRL, 23, 16⟩
abbrev THM_STATUS : Nat := dirKey 11 (0x4)
abbrev THM_STATUS_STEP : Fld := ⟨THM_STATUS, 2, 0⟩
abbrev THM_STATUS_DIE_STEP : Fld := ⟨THM_STATUS, 5, 3⟩
abbrev THM_STATUS_MOD_STEP : Fld := ⟨THM_STATUS, 8, 6⟩
abbrev THM_STATUS_STEP_FLOOR : Fld := ⟨THM_STATUS, 11, 9⟩
abbrev THM_STATUS_BUDGET_VALID : Fld := ⟨THM_STATUS, 12, 12⟩
abbrev THM_STATUS_SAFE : Fld := ⟨THM_STATUS, 13, 13⟩
abbrev THM_STATUS_SAG : Fld := ⟨THM_STATUS, 14, 14⟩
abbrev THM_STATUS_TELEM_VALID : Fld := ⟨THM_STATUS, 15, 15⟩
abbrev THM_STATUS_CASE_EST : Fld := ⟨THM_STATUS, 16, 16⟩
abbrev THM_STATUS_MREC_BAD : Fld := ⟨THM_STATUS, 17, 17⟩
abbrev THM_STATUS_FEED_UNSET : Fld := ⟨THM_STATUS, 18, 18⟩
abbrev THM_STATUS_FEED_SHORT : Fld := ⟨THM_STATUS, 19, 19⟩
abbrev THM_STATUS_FAILED : Fld := ⟨THM_STATUS, 25, 20⟩
abbrev THM_STATUS_FEED_CONFLICT : Fld := ⟨THM_STATUS, 26, 26⟩
abbrev THM_TMAX : Nat := dirKey 11 (0x8)
abbrev THM_TMAX_DIE_MAX : Fld := ⟨THM_TMAX, 15, 0⟩
abbrev THM_TMAX_ZONE_MAX : Fld := ⟨THM_TMAX, 31, 16⟩
abbrev THM_CHIP_MW : Nat := dirKey 11 (0xC)
abbrev THM_CHIP_MW_MW : Fld := ⟨THM_CHIP_MW, 15, 0⟩
abbrev THM_BUDGET : Nat := dirKey 11 (0x10)
abbrev THM_BUDGET_B : Fld := ⟨THM_BUDGET, 31, 0⟩
abbrev THM_KP : Nat := dirKey 11 (0x14)
abbrev THM_KP_KP : Fld := ⟨THM_KP, 15, 0⟩
abbrev THM_KP_O_T : Fld := ⟨THM_KP, 31, 16⟩
abbrev THM_EVT : Nat := dirKey 11 (0x18)
abbrev THM_EVT_COUNT : Fld := ⟨THM_EVT, 15, 0⟩
abbrev THM_ACK : Nat := dirKey 11 (0x1C)
abbrev THM_ACK_ACK : Fld := ⟨THM_ACK, 15, 0⟩
abbrev THM_SCALE_LATE : Nat := dirKey 11 (0x20)
abbrev THM_SCALE_LATE_N : Fld := ⟨THM_SCALE_LATE, 31, 0⟩
abbrev THM_SENS_FAIL : Nat := dirKey 11 (0x24)
abbrev THM_SENS_FAIL_N : Fld := ⟨THM_SENS_FAIL, 31, 0⟩
abbrev THM_STEP_CHG : Nat := dirKey 11 (0x28)
abbrev THM_STEP_CHG_N : Fld := ⟨THM_STEP_CHG, 31, 0⟩
abbrev THM_SAG : Nat := dirKey 11 (0x2C)
abbrev THM_SAG_SAG_CNT : Fld := ⟨THM_SAG, 15, 0⟩
abbrev THM_SAG_SAG_V : Fld := ⟨THM_SAG, 31, 16⟩
abbrev THM_PMB_ERR : Nat := dirKey 11 (0x30)
abbrev THM_PMB_ERR_N : Fld := ⟨THM_PMB_ERR, 31, 0⟩
abbrev THM_BSEQ : Nat := dirKey 11 (0x34)
abbrev THM_BSEQ_BSEQ : Fld := ⟨THM_BSEQ, 15, 0⟩
abbrev THM_AMON (i : Nat) : Nat := dirKey 11 (0x40 + 4 * i)
abbrev THM_AMON_CODE (i : Nat) : Fld := ⟨(THM_AMON i), 11, 0⟩
abbrev THM_AMON_VALUE (i : Nat) : Fld := ⟨(THM_AMON i), 31, 16⟩
abbrev THM_SENS (i : Nat) : Nat := indKey 11 (0x1000 + 16 * i)
abbrev THM_SENS_VALUE (i : Nat) : Fld := ⟨(THM_SENS i), 15, 0⟩
abbrev THM_SENS_USED (i : Nat) : Fld := ⟨(THM_SENS i), 31, 16⟩
abbrev THM_SENSM (i : Nat) : Nat := indKey 11 (0x1004 + 16 * i)
abbrev THM_SENSM_MODEL (i : Nat) : Fld := ⟨(THM_SENSM i), 15, 0⟩
abbrev THM_SENSM_FAILED (i : Nat) : Fld := ⟨(THM_SENSM i), 16, 16⟩
abbrev THM_SENSM_PRESENT (i : Nat) : Fld := ⟨(THM_SENSM i), 17, 17⟩
abbrev THM_SENSM_LIMIT (i : Nat) : Fld := ⟨(THM_SENSM i), 31, 24⟩
abbrev THM_SENSN (i : Nat) : Nat := indKey 11 (0x1008 + 16 * i)
abbrev THM_SENSN_NB0 (i : Nat) : Fld := ⟨(THM_SENSN i), 7, 0⟩
abbrev THM_SENSN_NB1 (i : Nat) : Fld := ⟨(THM_SENSN i), 15, 8⟩
abbrev THM_SENSC (i : Nat) : Nat := indKey 11 (0x100C + 16 * i)
abbrev THM_SENSC_FAIL_CNT (i : Nat) : Fld := ⟨(THM_SENSC i), 15, 0⟩
abbrev THM_SENSC_RESTORE_CNT (i : Nat) : Fld := ⟨(THM_SENSC i), 31, 16⟩
abbrev THM_THR (i : Nat) : Nat := indKey 11 (0x1400 + 16 * i)
abbrev THM_THR_LEVEL (i : Nat) : Fld := ⟨(THM_THR i), 15, 0⟩
abbrev THM_THR_HYST (i : Nat) : Fld := ⟨(THM_THR i), 31, 16⟩
abbrev THM_THRD (i : Nat) : Nat := indKey 11 (0x1404 + 16 * i)
abbrev THM_THRD_DWELL_MS (i : Nat) : Fld := ⟨(THM_THRD i), 15, 0⟩
abbrev THM_THRD_STATE (i : Nat) : Fld := ⟨(THM_THRD i), 17, 16⟩
abbrev THM_THRT (i : Nat) : Nat := indKey 11 (0x1408 + 16 * i)
abbrev THM_THRT_TRIPS (i : Nat) : Fld := ⟨(THM_THRT i), 31, 0⟩
abbrev THM_SUP (i : Nat) : Nat := indKey 11 (0x1800 + 32 * i)
abbrev THM_SUP_ADDR (i : Nat) : Fld := ⟨(THM_SUP i), 6, 0⟩
abbrev THM_SUP_PEC (i : Nat) : Fld := ⟨(THM_SUP i), 7, 7⟩
abbrev THM_SUP_VALID (i : Nat) : Fld := ⟨(THM_SUP i), 8, 8⟩
abbrev THM_SUP_SW (i : Nat) : Nat := indKey 11 (0x1804 + 32 * i)
abbrev THM_SUP_SW_STATUS_WORD (i : Nat) : Fld := ⟨(THM_SUP_SW i), 15, 0⟩
abbrev THM_SUP_IN (i : Nat) : Nat := indKey 11 (0x1808 + 32 * i)
abbrev THM_SUP_IN_VIN (i : Nat) : Fld := ⟨(THM_SUP_IN i), 15, 0⟩
abbrev THM_SUP_IN_IIN (i : Nat) : Fld := ⟨(THM_SUP_IN i), 31, 16⟩
abbrev THM_SUP_PIN (i : Nat) : Nat := indKey 11 (0x180C + 32 * i)
abbrev THM_SUP_PIN_PIN (i : Nat) : Fld := ⟨(THM_SUP_PIN i), 31, 0⟩
abbrev THM_SUP_POUT (i : Nat) : Nat := indKey 11 (0x1810 + 32 * i)
abbrev THM_SUP_POUT_POUT (i : Nat) : Fld := ⟨(THM_SUP_POUT i), 31, 0⟩
abbrev THM_SUP_OUT (i : Nat) : Nat := indKey 11 (0x1814 + 32 * i)
abbrev THM_SUP_OUT_VOUT (i : Nat) : Fld := ⟨(THM_SUP_OUT i), 15, 0⟩
abbrev THM_SUP_OUT_IOUT (i : Nat) : Fld := ⟨(THM_SUP_OUT i), 31, 16⟩
abbrev THM_SUP_TEMP (i : Nat) : Nat := indKey 11 (0x1818 + 32 * i)
abbrev THM_SUP_TEMP_TEMP (i : Nat) : Fld := ⟨(THM_SUP_TEMP i), 15, 0⟩
abbrev THM_SUP_CNT (i : Nat) : Nat := indKey 11 (0x181C + 32 * i)
abbrev THM_SUP_CNT_TEMP_EVT (i : Nat) : Fld := ⟨(THM_SUP_CNT i), 15, 0⟩
abbrev THM_SUP_CNT_ERRORS (i : Nat) : Fld := ⟨(THM_SUP_CNT i), 31, 16⟩
abbrev THM_SLOT_B (i : Nat) : Nat := indKey 11 (0x2000 + 32 * i)
abbrev THM_SLOT_B_MW (i : Nat) : Fld := ⟨(THM_SLOT_B i), 31, 0⟩
abbrev THM_SLOT_DEMAND (i : Nat) : Nat := indKey 11 (0x2004 + 32 * i)
abbrev THM_SLOT_DEMAND_MW (i : Nat) : Fld := ⟨(THM_SLOT_DEMAND i), 31, 0⟩
abbrev THM_SLOT_PIN (i : Nat) : Nat := indKey 11 (0x2008 + 32 * i)
abbrev THM_SLOT_PIN_MW (i : Nat) : Fld := ⟨(THM_SLOT_PIN i), 31, 0⟩
abbrev THM_SLOT_O (i : Nat) : Nat := indKey 11 (0x200C + 32 * i)
abbrev THM_SLOT_O_MW (i : Nat) : Fld := ⟨(THM_SLOT_O i), 31, 0⟩
abbrev THM_SLOT_RV (i : Nat) : Nat := indKey 11 (0x2010 + 32 * i)
abbrev THM_SLOT_RV_RHO (i : Nat) : Fld := ⟨(THM_SLOT_RV i), 15, 0⟩
abbrev THM_SLOT_RV_VIN_MIN (i : Nat) : Fld := ⟨(THM_SLOT_RV i), 31, 16⟩
abbrev THM_SLOT_SEQ (i : Nat) : Nat := indKey 11 (0x2014 + 32 * i)
abbrev THM_SLOT_SEQ_BSEQ_SENT (i : Nat) : Fld := ⟨(THM_SLOT_SEQ i), 15, 0⟩
abbrev THM_SLOT_SEQ_BSEQ_ECHO (i : Nat) : Fld := ⟨(THM_SLOT_SEQ i), 31, 16⟩
abbrev THM_SLOT_FLAGS (i : Nat) : Nat := indKey 11 (0x2018 + 32 * i)
abbrev THM_SLOT_FLAGS_STEP (i : Nat) : Fld := ⟨(THM_SLOT_FLAGS i), 2, 0⟩
abbrev THM_SLOT_FLAGS_SAFE (i : Nat) : Fld := ⟨(THM_SLOT_FLAGS i), 3, 3⟩
abbrev THM_SLOT_FLAGS_SAG (i : Nat) : Fld := ⟨(THM_SLOT_FLAGS i), 4, 4⟩
abbrev THM_SLOT_FLAGS_TELEM_VALID (i : Nat) : Fld := ⟨(THM_SLOT_FLAGS i), 5, 5⟩
abbrev THM_SLOT_FLAGS_FEED (i : Nat) : Fld := ⟨(THM_SLOT_FLAGS i), 15, 8⟩
abbrev THM_SLOT_AGE (i : Nat) : Nat := indKey 11 (0x201C + 32 * i)
abbrev THM_SLOT_AGE_DEMAND_AGE (i : Nat) : Fld := ⟨(THM_SLOT_AGE i), 31, 0⟩
abbrev THM_FEED_W0 (i : Nat) : Nat := indKey 11 (0x4000 + 32 * i)
abbrev THM_FEED_W0_E (i : Nat) : Fld := ⟨(THM_FEED_W0 i), 31, 0⟩
abbrev THM_FEED_W1 (i : Nat) : Nat := indKey 11 (0x4004 + 32 * i)
abbrev THM_FEED_W1_E (i : Nat) : Fld := ⟨(THM_FEED_W1 i), 31, 0⟩
abbrev THM_FEED_W2 (i : Nat) : Nat := indKey 11 (0x4008 + 32 * i)
abbrev THM_FEED_W2_E (i : Nat) : Fld := ⟨(THM_FEED_W2 i), 31, 0⟩
abbrev THM_FEED_W3 (i : Nat) : Nat := indKey 11 (0x400C + 32 * i)
abbrev THM_FEED_W3_E (i : Nat) : Fld := ⟨(THM_FEED_W3 i), 31, 0⟩
abbrev THM_FEED_A (i : Nat) : Nat := indKey 11 (0x4010 + 32 * i)
abbrev THM_FEED_A_MW (i : Nat) : Fld := ⟨(THM_FEED_A i), 31, 0⟩
abbrev THM_FEED_FLOOR (i : Nat) : Nat := indKey 11 (0x4014 + 32 * i)
abbrev THM_FEED_FLOOR_MW (i : Nat) : Fld := ⟨(THM_FEED_FLOOR i), 31, 0⟩
abbrev THM_FEED_V (i : Nat) : Nat := indKey 11 (0x4018 + 32 * i)
abbrev THM_FEED_V_VREF (i : Nat) : Fld := ⟨(THM_FEED_V i), 15, 0⟩
abbrev THM_FEED_V_TILES (i : Nat) : Fld := ⟨(THM_FEED_V i), 23, 16⟩
abbrev THM_FEED_RC (i : Nat) : Nat := indKey 11 (0x401C + 32 * i)
abbrev THM_FEED_RC_RECOMPUTES (i : Nat) : Fld := ⟨(THM_FEED_RC i), 31, 0⟩
abbrev DMK_CTRL : Nat := dirKey 12 (0x0)
abbrev DMK_CTRL_USER_EN : Fld := ⟨DMK_CTRL, 0, 0⟩
abbrev DMK_CTRL_TEMP_EN : Fld := ⟨DMK_CTRL, 1, 1⟩
abbrev DMK_CTRL_AGE_EN : Fld := ⟨DMK_CTRL, 2, 2⟩
abbrev DMK_CTRL_LOWG_EN : Fld := ⟨DMK_CTRL, 3, 3⟩
abbrev DMK_CTRL_DITHER_EN : Fld := ⟨DMK_CTRL, 4, 4⟩
abbrev DMK_CTRL_RECORR_DT : Fld := ⟨DMK_CTRL, 15, 8⟩
abbrev DMK_CTRL_SWEEP_CELLS : Fld := ⟨DMK_CTRL, 22, 16⟩
abbrev DMK_STATUS : Nat := dirKey 12 (0x4)
abbrev DMK_STATUS_FL_STATE : Fld := ⟨DMK_STATUS, 2, 0⟩
abbrev DMK_STATUS_USER_VALID : Fld := ⟨DMK_STATUS, 3, 3⟩
abbrev DMK_STATUS_GAMUT_MISMATCH : Fld := ⟨DMK_STATUS, 4, 4⟩
abbrev DMK_STATUS_MODULE_PRESENT : Fld := ⟨DMK_STATUS, 5, 5⟩
abbrev DMK_STATUS_CKPT_BUSY : Fld := ⟨DMK_STATUS, 6, 6⟩
abbrev DMK_STATUS_RELEASED : Fld := ⟨DMK_STATUS, 7, 7⟩
abbrev DMK_STATUS_AGE_NEW : Fld := ⟨DMK_STATUS, 8, 8⟩
abbrev DMK_STATUS_AGE_LOST : Fld := ⟨DMK_STATUS, 9, 9⟩
abbrev DMK_STATUS_ZONES : Fld := ⟨DMK_STATUS, 24, 16⟩
abbrev DMK_AGE_CTRL : Nat := dirKey 12 (0x8)
abbrev DMK_AGE_CTRL_AGE_GMAX : Fld := ⟨DMK_AGE_CTRL, 15, 0⟩
abbrev DMK_AGE_CTRL_CKPT_MIN : Fld := ⟨DMK_AGE_CTRL, 23, 16⟩
abbrev DMK_AGE_CTRL_CKPT_NOW : Fld := ⟨DMK_AGE_CTRL, 24, 24⟩
abbrev DMK_EVT : Nat := dirKey 12 (0xC)
abbrev DMK_EVT_COUNT : Fld := ⟨DMK_EVT, 15, 0⟩
abbrev DMK_ACK : Nat := dirKey 12 (0x10)
abbrev DMK_ACK_ACK : Fld := ⟨DMK_ACK, 15, 0⟩
abbrev DMK_CLIP : Nat := dirKey 12 (0x14)
abbrev DMK_CLIP_N : Fld := ⟨DMK_CLIP, 31, 0⟩
abbrev DMK_AGE_CAP : Nat := dirKey 12 (0x18)
abbrev DMK_AGE_CAP_N : Fld := ⟨DMK_AGE_CAP, 31, 0⟩
abbrev DMK_TEMP_STALE : Nat := dirKey 12 (0x1C)
abbrev DMK_TEMP_STALE_N : Fld := ⟨DMK_TEMP_STALE, 31, 0⟩
abbrev DMK_REPUSH : Nat := dirKey 12 (0x20)
abbrev DMK_REPUSH_TEMP : Fld := ⟨DMK_REPUSH, 15, 0⟩
abbrev DMK_REPUSH_AGE : Fld := ⟨DMK_REPUSH, 31, 16⟩
abbrev DMK_CKPT : Nat := dirKey 12 (0x24)
abbrev DMK_CKPT_OK : Fld := ⟨DMK_CKPT, 15, 0⟩
abbrev DMK_CKPT_FAIL : Fld := ⟨DMK_CKPT, 31, 16⟩
abbrev DMK_MOD_PULLED : Nat := dirKey 12 (0x28)
abbrev DMK_MOD_PULLED_N : Fld := ⟨DMK_MOD_PULLED, 15, 0⟩
abbrev DMK_CKPT_SEQ : Nat := dirKey 12 (0x2C)
abbrev DMK_CKPT_SEQ_SEQ : Fld := ⟨DMK_CKPT_SEQ, 31, 0⟩
abbrev DMK_CKPT_AGE : Nat := dirKey 12 (0x30)
abbrev DMK_CKPT_AGE_AGE : Fld := ⟨DMK_CKPT_AGE, 31, 0⟩
abbrev DMK_POWER : Nat := dirKey 12 (0x34)
abbrev DMK_POWER_MW : Fld := ⟨DMK_POWER, 31, 0⟩
abbrev DMK_SCALE : Nat := dirKey 12 (0x38)
abbrev DMK_SCALE_S : Fld := ⟨DMK_SCALE, 15, 0⟩
abbrev DMK_SCALE_LSCALE : Fld := ⟨DMK_SCALE, 31, 16⟩
abbrev DMK_USER_GEN : Nat := dirKey 12 (0x3C)
abbrev DMK_USER_GEN_UGEN : Fld := ⟨DMK_USER_GEN, 31, 0⟩
abbrev DMK_FACTORY_ID (i : Nat) : Nat := dirKey 12 (0x40 + 4 * i)
abbrev DMK_FACTORY_ID_ID (i : Nat) : Fld := ⟨(DMK_FACTORY_ID i), 31, 0⟩
abbrev DMK_ZONE_T (i : Nat) : Nat := indKey 12 (0x1000 + 16 * i)
abbrev DMK_ZONE_T_T_EST (i : Nat) : Fld := ⟨(DMK_ZONE_T i), 15, 0⟩
abbrev DMK_ZONE_T_T_USED (i : Nat) : Fld := ⟨(DMK_ZONE_T i), 31, 16⟩
abbrev DMK_ZONE_P (i : Nat) : Nat := indKey 12 (0x1004 + 16 * i)
abbrev DMK_ZONE_P_POWER_UW (i : Nat) : Fld := ⟨(DMK_ZONE_P i), 31, 0⟩
abbrev DMK_ZONE_RP (i : Nat) : Nat := indKey 12 (0x1008 + 16 * i)
abbrev DMK_ZONE_RP_REPUSH (i : Nat) : Fld := ⟨(DMK_ZONE_RP i), 31, 0⟩
abbrev STR_CTRL : Nat := dirKey 13 (0x0)
abbrev STR_CTRL_CLK_SEL : Fld := ⟨STR_CTRL, 2, 0⟩
abbrev STR_CTRL_RET_EXP : Fld := ⟨STR_CTRL, 6, 4⟩
abbrev STR_CTRL_POLL_EN : Fld := ⟨STR_CTRL, 7, 7⟩
abbrev STR_CTRL_CONC : Fld := ⟨STR_CTRL, 11, 8⟩
abbrev STR_CTRL_WMARK : Fld := ⟨STR_CTRL, 21, 12⟩
abbrev STR_STATUS : Nat := dirKey 13 (0x4)
abbrev STR_STATUS_STATE : Fld := ⟨STR_STATUS, 2, 0⟩
abbrev STR_STATUS_GEO_STATE : Fld := ⟨STR_STATUS, 4, 3⟩
abbrev STR_STATUS_PWM_REDUCED : Fld := ⟨STR_STATUS, 5, 5⟩
abbrev STR_STATUS_CLK_RUN : Fld := ⟨STR_STATUS, 6, 6⟩
abbrev STR_STATUS_STRANDS_OK : Fld := ⟨STR_STATUS, 14, 8⟩
abbrev STR_STATUS_CLK_EFF : Fld := ⟨STR_STATUS, 18, 16⟩
abbrev STR_LOAD : Nat := dirKey 13 (0x8)
abbrev STR_LOAD_L_MAX : Fld := ⟨STR_LOAD, 15, 0⟩
abbrev STR_LOAD_R_MAX : Fld := ⟨STR_LOAD, 31, 16⟩
abbrev STR_EVT : Nat := dirKey 13 (0xC)
abbrev STR_EVT_COUNT : Fld := ⟨STR_EVT, 15, 0⟩
abbrev STR_ACK : Nat := dirKey 13 (0x10)
abbrev STR_ACK_ACK : Fld := ⟨STR_ACK, 15, 0⟩
abbrev STR_UNDERRUN : Nat := dirKey 13 (0x14)
abbrev STR_UNDERRUN_N : Fld := ⟨STR_UNDERRUN, 31, 0⟩
abbrev STR_PUSH_CUT : Nat := dirKey 13 (0x18)
abbrev STR_PUSH_CUT_N : Fld := ⟨STR_PUSH_CUT, 31, 0⟩
abbrev STR_REPUSH : Nat := dirKey 13 (0x1C)
abbrev STR_REPUSH_N : Fld := ⟨STR_REPUSH, 31, 0⟩
abbrev STR_READ_TO : Nat := dirKey 13 (0x20)
abbrev STR_READ_TO_N : Fld := ⟨STR_READ_TO, 31, 0⟩
abbrev STR_RET_CRC : Nat := dirKey 13 (0x24)
abbrev STR_RET_CRC_N : Fld := ⟨STR_RET_CRC, 31, 0⟩
abbrev STR_REENUM : Nat := dirKey 13 (0x28)
abbrev STR_REENUM_N : Fld := ⟨STR_REENUM, 31, 0⟩
abbrev STR_PUSH_TIME : Nat := dirKey 13 (0x2C)
abbrev STR_PUSH_TIME_LAST : Fld := ⟨STR_PUSH_TIME, 15, 0⟩
abbrev STR_PUSH_TIME_MAX : Fld := ⟨STR_PUSH_TIME, 31, 16⟩
abbrev STR_S_STATE (i : Nat) : Nat := indKey 13 (0x1000 + 32 * i)
abbrev STR_S_STATE_SSTATE (i : Nat) : Fld := ⟨(STR_S_STATE i), 1, 0⟩
abbrev STR_S_STATE_FOUND (i : Nat) : Fld := ⟨(STR_S_STATE i), 8, 2⟩
abbrev STR_S_STATE_FIRST_MISSING (i : Nat) : Fld := ⟨(STR_S_STATE i), 21, 16⟩
abbrev STR_S_PACKETS (i : Nat) : Nat := indKey 13 (0x1004 + 32 * i)
abbrev STR_S_PACKETS_N (i : Nat) : Fld := ⟨(STR_S_PACKETS i), 31, 0⟩
abbrev STR_S_UNDERRUN (i : Nat) : Nat := indKey 13 (0x1008 + 32 * i)
abbrev STR_S_UNDERRUN_N (i : Nat) : Fld := ⟨(STR_S_UNDERRUN i), 31, 0⟩
abbrev STR_S_PUSH_CUT (i : Nat) : Nat := indKey 13 (0x100C + 32 * i)
abbrev STR_S_PUSH_CUT_N (i : Nat) : Fld := ⟨(STR_S_PUSH_CUT i), 31, 0⟩
abbrev STR_S_FIFO (i : Nat) : Nat := indKey 13 (0x1010 + 32 * i)
abbrev STR_S_FIFO_FIFO_MIN (i : Nat) : Fld := ⟨(STR_S_FIFO i), 10, 0⟩
abbrev STR_S_LOAD (i : Nat) : Nat := indKey 13 (0x1014 + 32 * i)
abbrev STR_S_LOAD_LOAD_US (i : Nat) : Fld := ⟨(STR_S_LOAD i), 15, 0⟩
abbrev STR_D_STATUS (i : Nat) : Nat := indKey 13 (0x4000 + 8 * i)
abbrev STR_D_STATUS_STATUS0 (i : Nat) : Fld := ⟨(STR_D_STATUS i), 15, 0⟩
abbrev STR_D_STATUS_STATUS1 (i : Nat) : Fld := ⟨(STR_D_STATUS i), 31, 16⟩
abbrev STR_D_CNT (i : Nat) : Nat := indKey 13 (0x4004 + 8 * i)
abbrev STR_D_CNT_PRESENT (i : Nat) : Fld := ⟨(STR_D_CNT i), 0, 0⟩
abbrev STR_D_CNT_ANSWERS (i : Nat) : Fld := ⟨(STR_D_CNT i), 1, 1⟩
abbrev STR_D_CNT_OT_CNT (i : Nat) : Fld := ⟨(STR_D_CNT i), 15, 8⟩
abbrev STR_D_CNT_FAULT_CNT (i : Nat) : Fld := ⟨(STR_D_CNT i), 23, 16⟩
abbrev STR_D_CNT_CRC_SUM (i : Nat) : Fld := ⟨(STR_D_CNT i), 31, 24⟩
abbrev SEC_STATUS : Nat := dirKey 14 (0x0)
abbrev SEC_STATUS_OSTATE : Fld := ⟨SEC_STATUS, 1, 0⟩
abbrev SEC_STATUS_RESTRICTED : Fld := ⟨SEC_STATUS, 2, 2⟩
abbrev SEC_STATUS_DEBUG : Fld := ⟨SEC_STATUS, 4, 3⟩
abbrev SEC_STATUS_STORE_OK : Fld := ⟨SEC_STATUS, 5, 5⟩
abbrev SEC_STATUS_MESH_EN : Fld := ⟨SEC_STATUS, 6, 6⟩
abbrev SEC_STATUS_STRICT : Fld := ⟨SEC_STATUS, 7, 7⟩
abbrev SEC_STATUS_PIXEL_REQ : Fld := ⟨SEC_STATUS, 8, 8⟩
abbrev SEC_STATUS_MODE_SIGNED : Fld := ⟨SEC_STATUS, 9, 9⟩
abbrev SEC_STATUS_ROOT : Fld := ⟨SEC_STATUS, 11, 10⟩
abbrev SEC_STATUS_ROOT_REVOKED : Fld := ⟨SEC_STATUS, 15, 12⟩
abbrev SEC_STATUS_AUTH_UP : Fld := ⟨SEC_STATUS, 23, 16⟩
abbrev SEC_STATUS_THROTTLED : Fld := ⟨SEC_STATUS, 24, 24⟩
abbrev SEC_TAMPER_EVT : Nat := dirKey 14 (0x4)
abbrev SEC_TAMPER_EVT_COUNT : Fld := ⟨SEC_TAMPER_EVT, 15, 0⟩
abbrev SEC_TAMPER_ACK : Nat := dirKey 14 (0x8)
abbrev SEC_TAMPER_ACK_ACK : Fld := ⟨SEC_TAMPER_ACK, 15, 0⟩
abbrev SEC_ENV_OK : Nat := dirKey 14 (0xC)
abbrev SEC_ENV_OK_N : Fld := ⟨SEC_ENV_OK, 31, 0⟩
abbrev SEC_ENV_FAIL : Nat := dirKey 14 (0x10)
abbrev SEC_ENV_FAIL_N : Fld := ⟨SEC_ENV_FAIL, 31, 0⟩
abbrev SEC_AUTH : Nat := dirKey 14 (0x14)
abbrev SEC_AUTH_OK : Fld := ⟨SEC_AUTH, 15, 0⟩
abbrev SEC_AUTH_FAIL : Fld := ⟨SEC_AUTH, 31, 16⟩
abbrev SEC_LOCKVIOL : Nat := dirKey 14 (0x18)
abbrev SEC_LOCKVIOL_N : Fld := ⟨SEC_LOCKVIOL, 31, 0⟩
abbrev SEC_SVN : Nat := dirKey 14 (0x1C)
abbrev SEC_SVN_FUSED : Fld := ⟨SEC_SVN, 6, 0⟩
abbrev SEC_SVN_RUNNING : Fld := ⟨SEC_SVN, 14, 8⟩
abbrev SEC_CERT_ID (i : Nat) : Nat := dirKey 14 (0x20 + 4 * i)
abbrev SEC_CERT_ID_ID (i : Nat) : Fld := ⟨(SEC_CERT_ID i), 31, 0⟩
abbrev SEC_OWNER_ID (i : Nat) : Nat := dirKey 14 (0x30 + 4 * i)
abbrev SEC_OWNER_ID_ID (i : Nat) : Fld := ⟨(SEC_OWNER_ID i), 31, 0⟩
abbrev SEC_DEBUG_LEFT : Nat := dirKey 14 (0x40)
abbrev SEC_DEBUG_LEFT_MIN : Fld := ⟨SEC_DEBUG_LEFT, 8, 0⟩
abbrev SEC_T (i : Nat) : Nat := indKey 14 (0x1000 + 32 * i)
abbrev SEC_T_POLICY (i : Nat) : Fld := ⟨(SEC_T i), 2, 0⟩
abbrev SEC_T_ACTIVE (i : Nat) : Fld := ⟨(SEC_T i), 8, 8⟩
abbrev SEC_T_ENABLED (i : Nat) : Fld := ⟨(SEC_T i), 9, 9⟩
abbrev SEC_T_COUNT (i : Nat) : Nat := indKey 14 (0x1004 + 32 * i)
abbrev SEC_T_COUNT_COUNT (i : Nat) : Fld := ⟨(SEC_T_COUNT i), 31, 0⟩
abbrev SEC_T_LT_LO (i : Nat) : Nat := indKey 14 (0x1008 + 32 * i)
abbrev SEC_T_LT_LO_V (i : Nat) : Fld := ⟨(SEC_T_LT_LO i), 31, 0⟩
abbrev SEC_T_LT_HI (i : Nat) : Nat := indKey 14 (0x100C + 32 * i)
abbrev SEC_T_LT_HI_V (i : Nat) : Fld := ⟨(SEC_T_LT_HI i), 31, 0⟩
abbrev SEC_T_WT_LO (i : Nat) : Nat := indKey 14 (0x1010 + 32 * i)
abbrev SEC_T_WT_LO_V (i : Nat) : Fld := ⟨(SEC_T_WT_LO i), 31, 0⟩
abbrev SEC_T_WT_HI (i : Nat) : Nat := indKey 14 (0x1014 + 32 * i)
abbrev SEC_T_WT_HI_V (i : Nat) : Fld := ⟨(SEC_T_WT_HI i), 31, 0⟩
abbrev SEC_T_DETAIL (i : Nat) : Nat := indKey 14 (0x1018 + 32 * i)
abbrev SEC_T_DETAIL_V (i : Nat) : Fld := ⟨(SEC_T_DETAIL i), 31, 0⟩
abbrev UPD_STATUS : Nat := dirKey 15 (0x0)
abbrev UPD_STATUS_RUN_SLOT : Fld := ⟨UPD_STATUS, 2, 0⟩
abbrev UPD_STATUS_STATE_A : Fld := ⟨UPD_STATUS, 6, 4⟩
abbrev UPD_STATUS_STATE_B : Fld := ⟨UPD_STATUS, 10, 8⟩
abbrev UPD_STATUS_LAST_ACT : Fld := ⟨UPD_STATUS, 14, 12⟩
abbrev UPD_STATUS_STAGING : Fld := ⟨UPD_STATUS, 16, 16⟩
abbrev UPD_STATUS_CFG_FALLBACK : Fld := ⟨UPD_STATUS, 17, 17⟩
abbrev UPD_STATUS_CFG_DEFAULTS : Fld := ⟨UPD_STATUS, 18, 18⟩
abbrev UPD_STATUS_CFG_BUSY : Fld := ⟨UPD_STATUS, 19, 19⟩
abbrev UPD_STATUS_MSL_ATTN : Fld := ⟨UPD_STATUS, 20, 20⟩
abbrev UPD_STATUS_STAGE_PCT : Fld := ⟨UPD_STATUS, 31, 24⟩
abbrev UPD_EVT : Nat := dirKey 15 (0x4)
abbrev UPD_EVT_COUNT : Fld := ⟨UPD_EVT, 15, 0⟩
abbrev UPD_ACK : Nat := dirKey 15 (0x8)
abbrev UPD_ACK_ACK : Fld := ⟨UPD_ACK, 15, 0⟩
abbrev UPD_CFG_GEN : Nat := dirKey 15 (0xC)
abbrev UPD_CFG_GEN_GEN : Fld := ⟨UPD_CFG_GEN, 31, 0⟩
abbrev UPD_CFG_PREV : Nat := dirKey 15 (0x10)
abbrev UPD_CFG_PREV_GEN : Fld := ⟨UPD_CFG_PREV, 31, 0⟩
abbrev UPD_CFG_SKIP : Nat := dirKey 15 (0x14)
abbrev UPD_CFG_SKIP_N : Fld := ⟨UPD_CFG_SKIP, 31, 0⟩
abbrev UPD_TPL_REFUSE : Nat := dirKey 15 (0x18)
abbrev UPD_TPL_REFUSE_N : Fld := ⟨UPD_TPL_REFUSE, 31, 0⟩
abbrev UPD_FLASH_ERR : Nat := dirKey 15 (0x1C)
abbrev UPD_FLASH_ERR_N : Fld := ⟨UPD_FLASH_ERR, 31, 0⟩
abbrev MSL_CTRL : Nat := dirKey 15 (0x40)
abbrev MSL_CTRL_TUNNEL_EN : Fld := ⟨MSL_CTRL, 0, 0⟩
abbrev MSL_ERR : Nat := dirKey 15 (0x44)
abbrev MSL_ERR_CRC : Fld := ⟨MSL_ERR, 15, 0⟩
abbrev MSL_ERR_BUSY : Fld := ⟨MSL_ERR, 31, 16⟩
abbrev MSL_FRAMES : Nat := dirKey 15 (0x48)
abbrev MSL_FRAMES_N : Fld := ⟨MSL_FRAMES, 31, 0⟩
abbrev TWL_PHY_CTRL (p : Nat) : Nat := dirKey (16 + p) (0x0)
abbrev TWL_PHY_CTRL_RATE_MAX (p : Nat) : Fld := ⟨(TWL_PHY_CTRL p), 1, 0⟩
abbrev TWL_PHY_CTRL_REF_SEL (p : Nat) : Fld := ⟨(TWL_PHY_CTRL p), 2, 2⟩
abbrev TWL_PHY_CTRL_TX_IDLE (p : Nat) : Fld := ⟨(TWL_PHY_CTRL p), 3, 3⟩
abbrev TWL_PHY_CTRL_AUTO_CAL (p : Nat) : Fld := ⟨(TWL_PHY_CTRL p), 4, 4⟩
abbrev TWL_PHY_CTRL_CAL_DELTA_T (p : Nat) : Fld := ⟨(TWL_PHY_CTRL p), 11, 8⟩
abbrev TWL_PHY_CTRL_CAL_TOL_PH (p : Nat) : Fld := ⟨(TWL_PHY_CTRL p), 15, 12⟩
abbrev TWL_PHY_CTRL_CAL_TOL_MV (p : Nat) : Fld := ⟨(TWL_PHY_CTRL p), 20, 16⟩
abbrev TWL_PHY_STATUS (p : Nat) : Nat := dirKey (16 + p) (0x4)
abbrev TWL_PHY_STATUS_PSTATE (p : Nat) : Fld := ⟨(TWL_PHY_STATUS p), 2, 0⟩
abbrev TWL_PHY_STATUS_RATE (p : Nat) : Fld := ⟨(TWL_PHY_STATUS p), 4, 3⟩
abbrev TWL_PHY_STATUS_CLK_LOS (p : Nat) : Fld := ⟨(TWL_PHY_STATUS p), 5, 5⟩
abbrev TWL_PHY_STATUS_CLK_LOL (p : Nat) : Fld := ⟨(TWL_PHY_STATUS p), 6, 6⟩
abbrev TWL_PHY_STATUS_EQ_DEFAULT (p : Nat) : Fld := ⟨(TWL_PHY_STATUS p), 7, 7⟩
abbrev TWL_PHY_STATUS_RX_LANES (p : Nat) : Fld := ⟨(TWL_PHY_STATUS p), 11, 8⟩
abbrev TWL_PHY_STATUS_TX_LANES (p : Nat) : Fld := ⟨(TWL_PHY_STATUS p), 15, 12⟩
abbrev TWL_PHY_STATUS_CAL_LANE (p : Nat) : Fld := ⟨(TWL_PHY_STATUS p), 19, 16⟩
abbrev TWL_PHY_STATUS_PEER_PORT (p : Nat) : Fld := ⟨(TWL_PHY_STATUS p), 22, 20⟩
abbrev TWL_PHY_STATUS_MISWIRE (p : Nat) : Fld := ⟨(TWL_PHY_STATUS p), 27, 24⟩
abbrev TWL_PHY_EVT (p : Nat) : Nat := dirKey (16 + p) (0x8)
abbrev TWL_PHY_EVT_COUNT (p : Nat) : Fld := ⟨(TWL_PHY_EVT p), 15, 0⟩
abbrev TWL_PHY_ACK (p : Nat) : Nat := dirKey (16 + p) (0xC)
abbrev TWL_PHY_ACK_ACK (p : Nat) : Fld := ⟨(TWL_PHY_ACK p), 15, 0⟩
abbrev TWL_CAL_CMD (p : Nat) : Nat := dirKey (16 + p) (0x10)
abbrev TWL_CAL_CMD_LANES (p : Nat) : Fld := ⟨(TWL_CAL_CMD p), 3, 0⟩
abbrev TWL_CAL_DONE (p : Nat) : Nat := dirKey (16 + p) (0x14)
abbrev TWL_CAL_DONE_COUNT (p : Nat) : Fld := ⟨(TWL_CAL_DONE p), 31, 0⟩
abbrev TWL_CAL_DISAGREE (p : Nat) : Nat := dirKey (16 + p) (0x18)
abbrev TWL_CAL_DISAGREE_COUNT (p : Nat) : Fld := ⟨(TWL_CAL_DISAGREE p), 31, 0⟩
abbrev TWL_CAL_DEFER (p : Nat) : Nat := dirKey (16 + p) (0x1C)
abbrev TWL_CAL_DEFER_COUNT (p : Nat) : Fld := ⟨(TWL_CAL_DEFER p), 31, 0⟩
abbrev TWL_TEST_CTRL (p : Nat) : Nat := dirKey (16 + p) (0x20)
abbrev TWL_TEST_CTRL_LOOP (p : Nat) : Fld := ⟨(TWL_TEST_CTRL p), 1, 0⟩
abbrev TWL_TEST_CTRL_LOOP_LINE (p : Nat) : Fld := ⟨(TWL_TEST_CTRL p), 2, 2⟩
abbrev TWL_TEST_CTRL_PRECODE_OFF (p : Nat) : Fld := ⟨(TWL_TEST_CTRL p), 3, 3⟩
abbrev TWL_TEST_CTRL_TIMEOUT_S (p : Nat) : Fld := ⟨(TWL_TEST_CTRL p), 15, 8⟩
abbrev TWL_FREQ_BAD (p : Nat) : Nat := dirKey (16 + p) (0x24)
abbrev TWL_FREQ_BAD_COUNT (p : Nat) : Fld := ⟨(TWL_FREQ_BAD p), 31, 0⟩
abbrev TWL_TRAIN_FAIL (p : Nat) : Nat := dirKey (16 + p) (0x28)
abbrev TWL_TRAIN_FAIL_COUNT (p : Nat) : Fld := ⟨(TWL_TRAIN_FAIL p), 31, 0⟩
abbrev TWL_LL_CTRL (p : Nat) : Nat := dirKey (16 + p) (0x30)
abbrev TWL_LL_CTRL_AUTO_STEP (p : Nat) : Fld := ⟨(TWL_LL_CTRL p), 0, 0⟩
abbrev TWL_LL_CTRL_PIXEL_ENC (p : Nat) : Fld := ⟨(TWL_LL_CTRL p), 1, 1⟩
abbrev TWL_LL_CTRL_MIN_LANES (p : Nat) : Fld := ⟨(TWL_LL_CTRL p), 3, 2⟩
abbrev TWL_LL_CTRL_UNC_EXP (p : Nat) : Fld := ⟨(TWL_LL_CTRL p), 7, 4⟩
abbrev TWL_LL_CTRL_RETRY_US (p : Nat) : Fld := ⟨(TWL_LL_CTRL p), 11, 8⟩
abbrev TWL_LL_CTRL_HEAL_HOLD (p : Nat) : Fld := ⟨(TWL_LL_CTRL p), 15, 12⟩
abbrev TWL_LL_CTRL_STEP_UP_S (p : Nat) : Fld := ⟨(TWL_LL_CTRL p), 31, 16⟩
abbrev TWL_LL_STATUS (p : Nat) : Nat := dirKey (16 + p) (0x34)
abbrev TWL_LL_STATUS_LSTATE (p : Nat) : Fld := ⟨(TWL_LL_STATUS p), 2, 0⟩
abbrev TWL_LL_STATUS_TX_MASK (p : Nat) : Fld := ⟨(TWL_LL_STATUS p), 7, 4⟩
abbrev TWL_LL_STATUS_RX_MASK (p : Nat) : Fld := ⟨(TWL_LL_STATUS p), 11, 8⟩
abbrev TWL_LL_STATUS_RETRYING (p : Nat) : Fld := ⟨(TWL_LL_STATUS p), 12, 12⟩
abbrev TWL_LL_STATUS_TOPO_PORT (p : Nat) : Fld := ⟨(TWL_LL_STATUS p), 13, 13⟩
abbrev TWL_LL_STATUS_UPSTREAM (p : Nat) : Fld := ⟨(TWL_LL_STATUS p), 14, 14⟩
abbrev TWL_LL_STATUS_ENC_VC0 (p : Nat) : Fld := ⟨(TWL_LL_STATUS p), 15, 15⟩
abbrev TWL_LL_STATUS_TPL_RUN (p : Nat) : Fld := ⟨(TWL_LL_STATUS p), 23, 16⟩
abbrev TWL_LL_STATUS_TPL_BACK (p : Nat) : Fld := ⟨(TWL_LL_STATUS p), 24, 24⟩
abbrev TWL_LL_STATUS_LOST_CAUSE (p : Nat) : Fld := ⟨(TWL_LL_STATUS p), 27, 25⟩
abbrev TWL_LL_EVT (p : Nat) : Nat := dirKey (16 + p) (0x38)
abbrev TWL_LL_EVT_COUNT (p : Nat) : Fld := ⟨(TWL_LL_EVT p), 15, 0⟩
abbrev TWL_LL_ACK (p : Nat) : Nat := dirKey (16 + p) (0x3C)
abbrev TWL_LL_ACK_ACK (p : Nat) : Fld := ⟨(TWL_LL_ACK p), 15, 0⟩
abbrev TWL_TOPO (p : Nat) : Nat := dirKey (16 + p) (0x40)
abbrev TWL_TOPO_FOUND (p : Nat) : Fld := ⟨(TWL_TOPO p), 6, 0⟩
abbrev TWL_TOPO_OVER (p : Nat) : Fld := ⟨(TWL_TOPO p), 7, 7⟩
abbrev TWL_TOPO_KIND (p : Nat) : Fld := ⟨(TWL_TOPO p), 9, 8⟩
abbrev TWL_TOPO_CLOSE_PORT (p : Nat) : Fld := ⟨(TWL_TOPO p), 12, 10⟩
abbrev TWL_TOPO_MISMATCH (p : Nat) : Fld := ⟨(TWL_TOPO p), 13, 13⟩
abbrev TWL_TOPO_REACH (p : Nat) : Fld := ⟨(TWL_TOPO p), 21, 15⟩
abbrev TWL_STEP_CMD (p : Nat) : Nat := dirKey (16 + p) (0x44)
abbrev TWL_STEP_CMD_TARGET (p : Nat) : Fld := ⟨(TWL_STEP_CMD p), 1, 0⟩
abbrev TWL_STEP_CMD_GO (p : Nat) : Fld := ⟨(TWL_STEP_CMD p), 8, 8⟩
abbrev TWL_UNC_CW (p : Nat) : Nat := dirKey (16 + p) (0x48)
abbrev TWL_UNC_CW_COUNT (p : Nat) : Fld := ⟨(TWL_UNC_CW p), 31, 0⟩
abbrev TWL_FLIT_BAD (p : Nat) : Nat := dirKey (16 + p) (0x4C)
abbrev TWL_FLIT_BAD_COUNT (p : Nat) : Fld := ⟨(TWL_FLIT_BAD p), 31, 0⟩
abbrev TWL_RETRY_REQ (p : Nat) : Nat := dirKey (16 + p) (0x50)
abbrev TWL_RETRY_REQ_COUNT (p : Nat) : Fld := ⟨(TWL_RETRY_REQ p), 31, 0⟩
abbrev TWL_REPLAY (p : Nat) : Nat := dirKey (16 + p) (0x54)
abbrev TWL_REPLAY_COUNT (p : Nat) : Fld := ⟨(TWL_REPLAY p), 31, 0⟩
abbrev TWL_NO_ROUTE (p : Nat) : Nat := dirKey (16 + p) (0x58)
abbrev TWL_NO_ROUTE_COUNT (p : Nat) : Fld := ⟨(TWL_NO_ROUTE p), 31, 0⟩
abbrev TWL_DECRYPT_FAIL (p : Nat) : Nat := dirKey (16 + p) (0x5C)
abbrev TWL_DECRYPT_FAIL_COUNT (p : Nat) : Fld := ⟨(TWL_DECRYPT_FAIL p), 31, 0⟩
abbrev TWL_LANE_CHG (p : Nat) : Nat := dirKey (16 + p) (0x60)
abbrev TWL_LANE_CHG_OUT (p : Nat) : Fld := ⟨(TWL_LANE_CHG p), 15, 0⟩
abbrev TWL_LANE_CHG_IN (p : Nat) : Fld := ⟨(TWL_LANE_CHG p), 31, 16⟩
abbrev TWL_LINK_CHG (p : Nat) : Nat := dirKey (16 + p) (0x64)
abbrev TWL_LINK_CHG_LOST (p : Nat) : Fld := ⟨(TWL_LINK_CHG p), 15, 0⟩
abbrev TWL_LINK_CHG_STEPS (p : Nat) : Fld := ⟨(TWL_LINK_CHG p), 31, 16⟩
abbrev TWL_PROTO (p : Nat) : Nat := dirKey (16 + p) (0x68)
abbrev TWL_PROTO_COUNT (p : Nat) : Fld := ⟨(TWL_PROTO p), 31, 0⟩
abbrev TWL_PEER (p : Nat) : Nat := dirKey (16 + p) (0x6C)
abbrev TWL_PEER_DEVNUM (p : Nat) : Fld := ⟨(TWL_PEER p), 11, 0⟩
abbrev TWL_PEER_TPL (p : Nat) : Fld := ⟨(TWL_PEER p), 19, 12⟩
abbrev TWL_PEER_BACKWARD (p : Nat) : Fld := ⟨(TWL_PEER p), 20, 20⟩
abbrev TWL_PEER_SENDER (p : Nat) : Fld := ⟨(TWL_PEER p), 21, 21⟩
abbrev TWL_PEER_RATE_MAX (p : Nat) : Fld := ⟨(TWL_PEER p), 23, 22⟩
abbrev TWL_PEER_PORT (p : Nat) : Fld := ⟨(TWL_PEER p), 26, 24⟩
abbrev LANE_W0 (p : Nat) (i : Nat) : Nat := indKey (16 + p) (0x1000 + 64 * i)
abbrev LANE_W0_LOCK (p : Nat) (i : Nat) : Fld := ⟨(LANE_W0 p i), 0, 0⟩
abbrev LANE_W0_LOS (p : Nat) (i : Nat) : Fld := ⟨(LANE_W0 p i), 1, 1⟩
abbrev LANE_W0_PARKED (p : Nat) (i : Nat) : Fld := ⟨(LANE_W0 p i), 2, 2⟩
abbrev LANE_W0_CHK_LOCK (p : Nat) (i : Nat) : Fld := ⟨(LANE_W0 p i), 3, 3⟩
abbrev LANE_W0_POL_AUTO (p : Nat) (i : Nat) : Fld := ⟨(LANE_W0 p i), 4, 4⟩
abbrev LANE_W0_PH_OFS (p : Nat) (i : Nat) : Fld := ⟨(LANE_W0 p i), 13, 8⟩
abbrev LANE_W0_DESKEW (p : Nat) (i : Nat) : Fld := ⟨(LANE_W0 p i), 21, 16⟩
abbrev LANE_TEST (p : Nat) (i : Nat) : Nat := indKey (16 + p) (0x1004 + 64 * i)
abbrev LANE_TEST_GEN_PAT (p : Nat) (i : Nat) : Fld := ⟨(LANE_TEST p i), 2, 0⟩
abbrev LANE_TEST_CHK_PAT (p : Nat) (i : Nat) : Fld := ⟨(LANE_TEST p i), 6, 4⟩
abbrev LANE_TEST_PARK_REQ (p : Nat) (i : Nat) : Fld := ⟨(LANE_TEST p i), 8, 8⟩
abbrev LANE_INJ (p : Nat) (i : Nat) : Nat := indKey (16 + p) (0x1008 + 64 * i)
abbrev LANE_INJ_INJ_MODE (p : Nat) (i : Nat) : Fld := ⟨(LANE_INJ p i), 1, 0⟩
abbrev LANE_INJ_BURST_LEN (p : Nat) (i : Nat) : Fld := ⟨(LANE_INJ p i), 15, 8⟩
abbrev LANE_INJ_RATE_EXP (p : Nat) (i : Nat) : Fld := ⟨(LANE_INJ p i), 20, 16⟩
abbrev LANE_INJ_INJ_GO (p : Nat) (i : Nat) : Fld := ⟨(LANE_INJ p i), 24, 24⟩
abbrev LANE_USER0 (p : Nat) (i : Nat) : Nat := indKey (16 + p) (0x100C + 64 * i)
abbrev LANE_USER0_VAL (p : Nat) (i : Nat) : Fld := ⟨(LANE_USER0 p i), 31, 0⟩
abbrev LANE_USER1 (p : Nat) (i : Nat) : Nat := indKey (16 + p) (0x1010 + 64 * i)
abbrev LANE_USER1_VAL (p : Nat) (i : Nat) : Fld := ⟨(LANE_USER1 p i), 31, 0⟩
abbrev LANE_USER2 (p : Nat) (i : Nat) : Nat := indKey (16 + p) (0x1014 + 64 * i)
abbrev LANE_USER2_VAL (p : Nat) (i : Nat) : Fld := ⟨(LANE_USER2 p i), 15, 0⟩
abbrev LANE_BITS_LO (p : Nat) (i : Nat) : Nat := indKey (16 + p) (0x1018 + 64 * i)
abbrev LANE_BITS_LO_COUNT (p : Nat) (i : Nat) : Fld := ⟨(LANE_BITS_LO p i), 31, 0⟩
abbrev LANE_BITS_HI (p : Nat) (i : Nat) : Nat := indKey (16 + p) (0x101C + 64 * i)
abbrev LANE_BITS_HI_COUNT (p : Nat) (i : Nat) : Fld := ⟨(LANE_BITS_HI p i), 15, 0⟩
abbrev LANE_ERR_LO (p : Nat) (i : Nat) : Nat := indKey (16 + p) (0x1020 + 64 * i)
abbrev LANE_ERR_LO_COUNT (p : Nat) (i : Nat) : Fld := ⟨(LANE_ERR_LO p i), 31, 0⟩
abbrev LANE_ERR_HI (p : Nat) (i : Nat) : Nat := indKey (16 + p) (0x1024 + 64 * i)
abbrev LANE_ERR_HI_COUNT (p : Nat) (i : Nat) : Fld := ⟨(LANE_ERR_HI p i), 15, 0⟩
abbrev LANE_INJECTED (p : Nat) (i : Nat) : Nat := indKey (16 + p) (0x1028 + 64 * i)
abbrev LANE_INJECTED_COUNT (p : Nat) (i : Nat) : Fld := ⟨(LANE_INJECTED p i), 31, 0⟩
abbrev LANE_CAL (p : Nat) (i : Nat) : Nat := indKey (16 + p) (0x102C + 64 * i)
abbrev LANE_CAL_CAL_PHASE (p : Nat) (i : Nat) : Fld := ⟨(LANE_CAL p i), 7, 0⟩
abbrev LANE_CAL_T_CAL (p : Nat) (i : Nat) : Fld := ⟨(LANE_CAL p i), 15, 8⟩
abbrev LANE_CAL_CAL_COUNT (p : Nat) (i : Nat) : Fld := ⟨(LANE_CAL p i), 31, 16⟩
abbrev LANE_THR (p : Nat) (i : Nat) : Nat := indKey (16 + p) (0x1030 + 64 * i)
abbrev LANE_THR_THR_LO (p : Nat) (i : Nat) : Fld := ⟨(LANE_THR p i), 9, 0⟩
abbrev LANE_THR_THR_MID (p : Nat) (i : Nat) : Fld := ⟨(LANE_THR p i), 19, 10⟩
abbrev LANE_THR_THR_HI (p : Nat) (i : Nat) : Fld := ⟨(LANE_THR p i), 29, 20⟩
abbrev LANE_EQ (p : Nat) (i : Nat) : Nat := indKey (16 + p) (0x1034 + 64 * i)
abbrev LANE_EQ_PRE (p : Nat) (i : Nat) : Fld := ⟨(LANE_EQ p i), 4, 0⟩
abbrev LANE_EQ_POST (p : Nat) (i : Nat) : Fld := ⟨(LANE_EQ p i), 9, 5⟩
abbrev LANE_EQ_AMP (p : Nat) (i : Nat) : Fld := ⟨(LANE_EQ p i), 13, 10⟩
abbrev LANE_EQ_CTLE (p : Nat) (i : Nat) : Fld := ⟨(LANE_EQ p i), 17, 14⟩
abbrev LANE_EQ_DFE (p : Nat) (i : Nat) : Fld := ⟨(LANE_EQ p i), 23, 18⟩
abbrev LANE_EQ_TX_INV (p : Nat) (i : Nat) : Fld := ⟨(LANE_EQ p i), 24, 24⟩
abbrev LANE_EQ_RX_INV (p : Nat) (i : Nat) : Fld := ⟨(LANE_EQ p i), 25, 25⟩
abbrev LANE_EQ_OVR (p : Nat) (i : Nat) : Fld := ⟨(LANE_EQ p i), 31, 31⟩
abbrev LANE_OVR (p : Nat) (i : Nat) : Nat := indKey (16 + p) (0x1038 + 64 * i)
abbrev LANE_OVR_EQ_OVR (p : Nat) (i : Nat) : Fld := ⟨(LANE_OVR p i), 25, 0⟩
abbrev LANE_OVR_OVR_EN (p : Nat) (i : Nat) : Fld := ⟨(LANE_OVR p i), 31, 31⟩
abbrev LANE_CNT (p : Nat) (i : Nat) : Nat := indKey (16 + p) (0x103C + 64 * i)
abbrev LANE_CNT_LOS_CNT (p : Nat) (i : Nat) : Fld := ⟨(LANE_CNT p i), 15, 0⟩
abbrev LANE_CNT_LOL_CNT (p : Nat) (i : Nat) : Fld := ⟨(LANE_CNT p i), 31, 16⟩
abbrev LINK_CORR_LO (p : Nat) : Nat := indKey (16 + p) (0x2000)
abbrev LINK_CORR_LO_COUNT (p : Nat) : Fld := ⟨(LINK_CORR_LO p), 31, 0⟩
abbrev LINK_CORR_HI (p : Nat) : Nat := indKey (16 + p) (0x2004)
abbrev LINK_CORR_HI_COUNT (p : Nat) : Fld := ⟨(LINK_CORR_HI p), 15, 0⟩
abbrev LINK_FTX_LO (p : Nat) : Nat := indKey (16 + p) (0x2008)
abbrev LINK_FTX_LO_COUNT (p : Nat) : Fld := ⟨(LINK_FTX_LO p), 31, 0⟩
abbrev LINK_FTX_HI (p : Nat) : Nat := indKey (16 + p) (0x200C)
abbrev LINK_FTX_HI_COUNT (p : Nat) : Fld := ⟨(LINK_FTX_HI p), 15, 0⟩
abbrev LINK_FRX_LO (p : Nat) : Nat := indKey (16 + p) (0x2010)
abbrev LINK_FRX_LO_COUNT (p : Nat) : Fld := ⟨(LINK_FRX_LO p), 31, 0⟩
abbrev LINK_FRX_HI (p : Nat) : Nat := indKey (16 + p) (0x2014)
abbrev LINK_FRX_HI_COUNT (p : Nat) : Fld := ⟨(LINK_FRX_HI p), 15, 0⟩
abbrev LINK_REPLAY_FLITS (p : Nat) : Nat := indKey (16 + p) (0x2018)
abbrev LINK_REPLAY_FLITS_COUNT (p : Nat) : Fld := ⟨(LINK_REPLAY_FLITS p), 31, 0⟩
abbrev LINK_DUP_FLITS (p : Nat) : Nat := indKey (16 + p) (0x201C)
abbrev LINK_DUP_FLITS_COUNT (p : Nat) : Fld := ⟨(LINK_DUP_FLITS p), 31, 0⟩
abbrev LINK_MSG_TX (p : Nat) (i : Nat) : Nat := indKey (16 + p) (0x2020 + 4 * i)
abbrev LINK_MSG_TX_COUNT (p : Nat) (i : Nat) : Fld := ⟨(LINK_MSG_TX p i), 31, 0⟩
abbrev LINK_MSG_RX (p : Nat) (i : Nat) : Nat := indKey (16 + p) (0x2030 + 4 * i)
abbrev LINK_MSG_RX_COUNT (p : Nat) (i : Nat) : Fld := ⟨(LINK_MSG_RX p i), 31, 0⟩

end Sys2Proof.Machine.R
end

