-- ==== Sys2Proof/Machine/State.lean ====
section
/-!
DEFINITION. The state of one MR9600 as plain data, its state after reset, and the reasons a step can stop.
Every register of the register map lives in `regs`, which lists the registers that differ from their reset values;
what is not a register (tables, queues, stores, protocol state) has a field of its own, block by block.
-/

namespace Sys2Proof.Machine

/-- What a step can stop on with a fault. -/
inductive Fault where
  /-- Raised by no meaning of this model: the spec gives every command of the table an effect. Safe. -/
  | none
  deriving DecidableEq, Repr

/-- What a step can refuse. -/
inductive Refusal where
  /-- Raised by no arm of `exec`: every command of the table has its meaning. Safe. -/
  | notModelled (mnemonic : String)
  deriving DecidableEq, Repr

/-- One occurrence of a fault source (R556): block, source, DETAIL and INFO. -/
structure Occ where
  block : Nat
  src : Nat
  detail : Nat
  info : Nat
  deriving DecidableEq, Repr

/-- What the device sends or drives, in the order it does so: the effects that leave the block. -/
inductive Emit where
  /-- A PCIe memory write to host memory. -/
  | hostWrite (addr : Nat) (bytes : List Byte)
  /-- An MSI-X message (R547). -/
  | msix (vector : Nat)
  /-- The word a register read returned to port 0 (CP0) or 1 (CP1). -/
  | readData (port : Nat) (value : Word)
  /-- Bytes a read of the surface aperture or of a stage window returned. -/
  | windowData (bytes : List Byte)
  /-- A byte a QSPI STATUS instruction returned (R532). -/
  | qspiStatus (value : Nat)
  /-- A message sent out of a Twill port (R252). -/
  | msg (port : Nat) (m : Msg)
  /-- A LINK flit payload sent out of a Twill port (R259). -/
  | link (port : Nat) (payload : List Byte)
  /-- Something sent on an Ethernet sub-port: its kind and its content. -/
  | eth (port sub : Nat) (kind : Nat) (content : List Byte)
  /-- A reply frame on the Muslin port (R523). -/
  | muslin (frame : List Byte)
  /-- A packet sent on a strand (R364). -/
  | strand (strand : Nat) (packet : List Byte)
  /-- A 1 µs pulse on WT_PPS_OUT (R318). -/
  | pps
  /-- An event on the sync lines of the strands (R366): its kind and argument. -/
  | sync (kind : Nat) (arg : Nat)
  /-- A transaction on the power-management or sensor bus: address, command code and data. -/
  | bus (addr code : Nat) (data : List Byte)
  /-- An action of the physical layer of a Twill port: its kind and argument. -/
  | phy (port kind arg : Nat)
  deriving DecidableEq, Repr

/-- The reset in progress, if any (R599): the causes active now, and those active at any moment of it. -/
structure ResetSt where
  porst : Bool
  power : Bool
  wrst : Bool
  internal : Bool
  sawPower : Bool
  sawPin : Bool
  sawWdog : Bool
  sawCmd : Bool
  sawAct : Bool
  deriving DecidableEq, Repr

/-- System control beside its registers. -/
structure SysSt where
  rst : ResetSt
  /-- A warm-reset command waits for its DELAY_MS (R29). -/
  warmWait : Bool
  /-- SYS_CFG_LOCK fields already written (R550): bits 0 to 2. -/
  cfgLocked : BitVec 3
  /-- GPIOs on which a trigger pulse is in progress (R551). -/
  pulses : List Nat
  /-- The firmware has been started (R33). -/
  fwRunning : Bool
  /-- Tamper inputs are armed (R454). -/
  tamperArmed : Bool
  deriving DecidableEq, Repr

/-- Containment in progress and what keeps SYS_FAULT_STATUS.DEGRADED up (R560, R563). -/
structure FltSt where
  /-- Blocks carrying out a containment, with the DETAIL of the fault. -/
  containing : Tab Nat
  /-- Level causes of severity DEGRADE or higher that hold: block times 32 plus source. -/
  levels : List Nat
  /-- Blocks and sources with an occurrence less than 1 s old. -/
  recent : List Nat
  deriving DecidableEq, Repr

/-- An indirect pair (R541, R542). Its address and INC are banked per requester. -/
structure IndPair where
  block : Nat
  offset : Nat
  inc : Bool
  /-- The snapshot: key of the record's first word and the words captured. -/
  snap : Option (Nat × List Word)
  deriving DecidableEq, Repr

/-- A waiting sem-acquire (R490). -/
structure SemWait where
  sem : Nat
  pkt : Pkt
  deriving DecidableEq, Repr

/-- An export window (R474). -/
structure Export where
  space : Nat
  buf : Nat
  rights : Nat
  allow : Nat
  base : Nat
  len : Nat
  deriving DecidableEq, Repr

/-- A packet forwarded for a host and not yet answered (R484, R485). -/
structure Fwd where
  pkt : Pkt
  resends : Nat
  interim : Bool
  deriving DecidableEq, Repr

/-- The collection of an aggregate reply (R479): the host's packet, statuses by device, devices awaited after an
interim reply. -/
structure Agg where
  pkt : Pkt
  replies : Tab Nat
  interim : List Nat
  deriving DecidableEq, Repr

/-- A COMMAND message remembered for R486: SRC, forwarding tag and the stored final reply. -/
structure DupRec where
  src : Nat
  tag : Nat
  scope : Nat
  reply : Option (List Byte)
  deriving DecidableEq, Repr

/-- The command processor beside its registers. -/
structure CpsSt where
  /-- The device number, 0xFFF for none (R21). -/
  devnum : Nat
  /-- The group mask (R477). -/
  groups : BitVec 32
  /-- Packets received and not yet executed, in order of arrival (R487). -/
  held : List Pkt
  /-- Holders of the semaphores (R490). -/
  sems : Tab Req
  semWaits : List SemWait
  /-- Liveness timeouts of VC1 requesters in the sender role (R491). -/
  live : List (Req × Nat)
  /-- Local time, in ns, at which each running watchdog last restarted. -/
  liveStart : List (Req × Nat)
  exports : Tab Export
  /-- LOG2N in force in each ring, taken when it was enabled (R495). -/
  cqLog : Nat
  rqLog : Nat
  cp1Cmd : List Word
  cp1Rpl : List Word
  /-- PHASE of the next reply ring entry (R481). -/
  rqPhase : Bool
  /-- Reply ring entries reserved for commands taken (R481). -/
  rqReserved : Nat
  fwd : Tab Fwd
  /-- Packets forwarded, modulo 2^32: the next forwarding tag counts from `Config.tagBase` (R484). -/
  fwdNext : Nat
  aggs : Tab Agg
  dups : List DupRec
  /-- Background commands by opcode area (R488). -/
  bg : Tab Pkt
  /-- Commands of CP0 and CP1 whose replies are discarded (R482, R483). -/
  mute : List Pkt
  /-- Indirect pairs of CP0, CP1 and the firmware (R541). -/
  ind : Tab IndPair
  /-- Latched high halves by requester and pair (R537): the high word and the fraction. -/
  latches : Tab (Nat × Nat)
  deriving DecidableEq, Repr

/-- Ethernet ports (R52 to R57). Keys of the tables: port, or port times 4 plus sub-port. -/
structure EthSt where
  /-- Configuration of each port: 0, 1, 2 as set-eth-port CFG. -/
  cfg : Tab Nat
  /-- PFLAGS of each port: KR, auto-negotiation, link training, no FEC. -/
  pflags : Tab Nat
  /-- Reference clock of each port. -/
  ref : Tab Nat
  /-- Ports restarting after a change of configuration (R55). -/
  restarting : List Nat
  /-- Sub-ports with link. -/
  up : List Nat
  /-- Sub-ports whose LINK_DOWN cause holds. -/
  lost : List Nat
  /-- Addresses of each sub-port (R57): IPv4 and IPv6 as AFLAGS, PREFIX and ADDR bytes. -/
  ip4 : Tab (List Byte)
  ip6 : Tab (List Byte)
  /-- Firmware frames taken in the current second by each sub-port (R56), and that second of local time. -/
  fwFrames : Tab (Nat × Nat)
  deriving DecidableEq, Repr

/-- A frame being received by a flow (R70). -/
structure FrameRx where
  /-- The flow descriptor the frame is received under (R66). -/
  desc : List Byte
  rtp : Nat
  /-- Timestamp of the second field of an interlaced frame. -/
  rtp2 : Option Nat
  /-- Index of the surface being written, none where the frame is dropped (R72). -/
  buf : Option Nat
  firstEsn : Nat
  lastEsn : Nat
  /-- Ends received: 1 for a frame, 2 for an interlaced or PsF frame. -/
  ends : Nat
  /-- The end of the frame has been received. -/
  overOn : Bool
  /-- NT, in ns, of the first packet. -/
  arrival : Nat
  /-- The pixel runs written: row, column, length in pixels. -/
  runs : List (Nat × Nat × Nat)
  deriving DecidableEq, Repr

/-- A flow table entry (R61, R67): the descriptor of Table 3.3 and the receiving state. -/
structure Flow where
  desc : List Byte
  /-- A modification that waits for the next frame start (R66). -/
  next : Option (List Byte)
  newest : Option Nat
  /-- ESNs received within the window (R68), with the leg and the local time in ns of the first copy. -/
  marked : Tab (Nat × Nat)
  /-- In LOCKING: the timestamp of the run of packets under way. ESN of the last frame end, until the next frame starts. -/
  lockTs : Option Nat
  lastEnd : Option Nat
  /-- Path differentials seen in the last second: local time in ns, and the differential in µs. -/
  pd : List (Nat × Nat)
  ssrc : Nat
  /-- Frames begun and not yet published, oldest first. -/
  frames : List FrameRx
  /-- RTP timestamp and surface index of the newest frame published. -/
  published : Option (Nat × Nat)
  /-- Surfaces that hold a published frame of the flow (R117). -/
  holding : List Nat
  /-- RTP timestamps of frames already published, with their last ESN, kept for R68. -/
  lastTs : List (Nat × Nat)
  /-- The surface written longest ago comes first: order of use for R72. -/
  order : List Nat
  deriving DecidableEq, Repr

/-- Stream ingest beside its registers. -/
structure IngSt where
  flows : Tab Flow
  /-- Matched frames of the last 1 ms: local time in ns and bytes (ING_RATE). -/
  recent : List (Nat × Nat)
  deriving DecidableEq, Repr

/-- A surface table entry (R84, R85). -/
structure Surface where
  /-- The 64 descriptor bytes of Table 4.1 as created; the fields below override its RO fields. -/
  desc : List Byte
  instanceNo : Nat
  /-- False once destroyed: the handle is invalid, the memory may wait for a fence (R88). -/
  alive : Bool
  generation : Nat
  releasedGen : Nat
  tCap : Nat
  ntMapped : Bool
  /-- SFLAGS, COLORIMETRY and TCS of the newest generation: a change applies from the next publication (R87). -/
  pub : List Byte
  /-- Generations latched and not released, oldest first. -/
  latched : List Nat
  /-- Guard reference value by generation (R102); generations that failed their check (R103). -/
  guardRefs : Tab Nat
  failed : List Nat
  /-- Generations published and not yet latched, oldest first (R98). -/
  unlatched : List Nat
  deriving DecidableEq, Repr

/-- A queued upload (R104). -/
structure Upload where
  pkt : Pkt
  par : List Byte
  deriving DecidableEq, Repr

/-- Surfaces and the upload engine. -/
structure SrfSt where
  table : Tab Surface
  /-- INSTANCE last used by each entry (R84). -/
  instances : Tab Nat
  /-- Ranges allocated in the heap: offset and length in 4 KiB units. -/
  heap : Tab Nat
  uploads : List Upload
  running : Bool
  deriving DecidableEq, Repr

/-- A generation a layer latched: surface index and handle, generation, T_CAP, and what its colour stage resolves from:
SFLAGS, COLORIMETRY, TCS, and SAMPLING of the owning flow or 0xFF (R155). -/
structure Latch where
  surf : Nat
  handle : Nat
  gen : Nat
  tCap : Nat
  attr : List Byte
  deriving DecidableEq, Repr

/-- A layer in the active configuration: its descriptor, the latch in use, the latch of the previous frame that R103
keeps while a guard check is outstanding, and the latch under check. -/
structure LayerAct where
  desc : List Byte
  used : Option Latch
  prev : Option Latch
  checking : Option Latch
  late : Bool
  /-- TIMED selection in force. -/
  timed : Bool
  deriving DecidableEq, Repr

/-- Composition shadow state (R136), and the content of a commit. -/
structure Shadow where
  layers : Tab (List Byte)
  zMode : Nat
  zList : List Nat
  bg : List Byte
  banks : Tab (List Byte)
  wb : List Byte
  pv : List Byte
  seq : Nat
  deriving DecidableEq, Repr

/-- A pending commit (R138): its snapshot, the frame at whose boundary it is due (none: the first boundary), and
whether it is locked in. -/
structure Pending where
  snap : Shadow
  due : Option Nat
  targeted : Bool
  locked : Bool
  deriving DecidableEq, Repr

/-- The pass that runs (R111, R112). -/
structure Pass where
  frame : Nat
  /-- Regions still to be composed, in order: region column and row. -/
  todo : List (Nat × Nat)
  started : Nat
  /-- Surfaces and generations the pass reads. -/
  reads : List (Nat × Nat)
  /-- The chosen writeback and preview surfaces. -/
  wbSurf : Option Nat
  pvSurf : Option Nat
  deriving DecidableEq, Repr

/-- Composition beside its registers. -/
structure CmpSt where
  shadow : Shadow
  pendings : List Pending
  active : Shadow
  acts : Tab LayerAct
  pass : Option Pass
  /-- Boundary with guard checks outstanding: layers still unchecked. -/
  guardLeft : List Nat
  /-- First region of the next pass after an overrun (R112). -/
  startAt : Nat
  /-- Effective LEAD in force is CMP_STATUS.LEAD_EFF. Last boundary passed. -/
  lastFrame : Option Nat
  /-- The throttle step whose sender actions are in force: taken at each frame boundary (R403). -/
  stepIn : Nat
  deriving DecidableEq, Repr

/-- Colour shadow state (R162): profiles by number (none listed: the reset profile), KNEE_G, K_HOST, the ambient
curve as points of LUX and K, and the sequence. -/
structure TShadow where
  profiles : Tab (List Byte)
  kneeG : Nat
  kHost : Nat
  curve : List (Nat × Nat)
  seq : Nat
  deriving DecidableEq, Repr

/-- A pending colour commit. -/
structure TPending where
  snap : TShadow
  due : Option Nat
  targeted : Bool
  locked : Bool
  immediate : Bool
  deriving DecidableEq, Repr

/-- An ambient or tone-state report kept by a sender: value, count or validity, and local time in ns. -/
structure AmbRep where
  lux : Nat
  tiles : Nat
  flags : Nat
  rho : Nat
  at_ : Nat
  deriving DecidableEq, Repr

/-- Colour and tone beside its registers. -/
structure TnmSt where
  shadow : TShadow
  pendings : List TPending
  active : TShadow
  /-- TNM_CTRL in force: a change takes effect at the next update frame (R172). -/
  ctrl : Nat
  /-- The 16 bytes of the wall settings held, if any (R152). -/
  wall : Option (List Byte)
  /-- Ambient reports by tile device number, tone states by sender device number. -/
  reports : Tab AmbRep
  peers : Tab AmbRep
  /-- The largest demand ratio reported since the last update frame (R168), u4.12. -/
  rho : Option Nat
  /-- The next boundary is the first after entry to SHOW (R165). -/
  firstShow : Bool
  /-- Tile: configured ambient sensors, 8 bytes each (R170). -/
  sensors : List (List Byte)
  /-- Tile: filtered level, in units of 2^-32 lux; none before the first valid sample. -/
  level : Option Nat
  /-- Tile: sensors valid in the last sample, and the most valid within the last second. -/
  validNow : Nat
  validSec : Nat
  deriving DecidableEq, Repr

/-- A queue entry (Table 7.6) with the cell message its pool buffer holds. -/
structure QEntry where
  state : Nat
  refresh : Bool
  relaunch : Bool
  buf : Nat
  frame : Nat
  age : Nat
  msg : List Byte
  deriving DecidableEq, Repr

/-- A queue descriptor (Table 7.5). -/
structure QDesc where
  lastHash : BitVec 64
  lastFrame : Nat
  valid : Bool
  entries : List QEntry
  deriving DecidableEq, Repr

/-- A slot of the map in force (Table 7.3, R180). State and route are in the slot's register record. -/
structure Slot where
  entry : List Byte
  /-- Slot notices sent and unanswered; whether GEOM_MISMATCH was answered. -/
  notices : Nat
  /-- The tile holds its number (R278). -/
  numbered : Bool
  mismatch : Bool
  takeover : Bool
  /-- Local time, in ns, of the last delivery report. -/
  reportAt : Option Nat
  deriving DecidableEq, Repr

/-- Delivery, sender side. -/
structure CelSt where
  /-- The copy load-map made (R178). -/
  loaded : Option (List Byte)
  /-- Header and port table of the map in force. -/
  header : List Byte
  slots : Tab Slot
  /-- A map accepted in SHOW that waits for its boundary: the map and the frame. -/
  mapPending : Option (List Byte × Nat)
  /-- Queue descriptors by number (R185). -/
  queues : Tab QDesc
  /-- L16 pixels of the region as last encoded: 6 bytes per pixel, by canvas row times 65,536 plus column. -/
  l16 : Tab (List Byte)
  /-- The canvas: RGBA16F, 8 bytes per pixel, keyed in the same way. -/
  canvas : Tab (List Byte)
  /-- Regions encoded in the current pass: column times 65,536 plus row. -/
  encoded : List Nat
  deriving DecidableEq, Repr

/-- A stored version of a tile position: its tag, hash, payload, the frame it is assigned to. -/
structure Version where
  tag : Nat
  hash : BitVec 64
  payload : List Byte
  frame : Nat
  deriving DecidableEq, Repr

/-- Delivery, tile side (R195 to R201). -/
structure CelTSt where
  /-- The version shown by each position. -/
  shown : Tab Version
  /-- Pending versions of each position. -/
  pend : Tab (List Version)
  nCur : Nat
  /-- Frames closed: the lowest frame still open. -/
  openFrame : Nat
  lastClose : Nat
  lastArrival : Option Nat
  /-- Smallest margin in the current second, in ns. -/
  margin : Option Nat
  storeEmpty : Bool
  deriving DecidableEq, Repr

/-- A derived clock and its servo (R294). `fine` and `phi` are in units of 2^-60 ns, so that every advance is exact;
rates are in units of 2^-44. The servo state is in TIM_STATUS. -/
structure Clock where
  fine : Int
  r : Int
  sigma : Int
  phi : Int
  /-- Consecutive samples within LOCK_NS, and above 4 LOCK_NS. -/
  good : Nat
  bad : Nat
  /-- LT, in 2^-16 ns, of the last sample taken since ACQUIRE was entered. -/
  lastSample : Option Nat
  everLocked : Bool
  /-- LT at which LOCKED was last entered. -/
  lockedAt : Nat
  /-- Rate words of past samples with their LT, newest first (R309). -/
  history : List (Nat × Int)
  rLast : Int
  tLoss : Int
  /-- LT at which HOLDOVER was last entered. -/
  holdAt : Nat
  deriving DecidableEq, Repr

/-- Present parameters (Table 10.7). -/
structure Params where
  pseq : Nat
  num : Nat
  den : Nat
  epochN : Nat
  epochWt : Nat
  pwmMul : Nat
  adcEvery : Nat
  pwmPhase : Nat
  adcOfs : Nat
  deriving DecidableEq, Repr

/-- A T_DREQ under way (R302): its SEQID, T1, t2 and t3, and whether R303 discards its sample. -/
structure DelayReq where
  seq : Nat
  t1 : Nat
  t2 : Nat
  t3 : Nat
  bad : Bool
  deriving DecidableEq, Repr

/-- Time transfer on a Twill port (R302 to R304). Timestamps in 2^-16 ns. -/
structure TimPort where
  /-- SEQIDs of the next T_SYNC and T_DREQ of this device. -/
  seqid : Nat
  dseq : Nat
  /-- Arrival of the last T_SYNC: SEQID, t2 in LT, and WT then, in 2^-60 ns. -/
  t2 : Option (Nat × Nat × Int)
  dreq : Option DelayReq
  /-- T_SYNCs since the last T_DREQ. -/
  syncs : Nat
  /-- The last valid delay samples, newest first, at most 16: each is 2 × d in 2^-60 ns; how many since the restart. -/
  delays : List Int
  nDelay : Nat
  /-- Lane mask changed or RETRAIN entered since T1 (R303). -/
  disturbed : Bool
  /-- A T_FOLLOW has arrived within 4 sync intervals. -/
  offered : Bool
  /-- CLASS the offer carries. -/
  cls : Nat
  deriving DecidableEq, Repr

/-- An announcement held: device, CLASS, PRIO, local time in ns. -/
structure Announce where
  dev : Nat
  cls : Nat
  prio : Nat
  masterEn : Bool
  at_ : Nat
  deriving DecidableEq, Repr

/-- A foreign master (R295): its dataset as a comparison key, its port identity, grandmaster identity and
currentUtcOffset. -/
structure PtpMaster where
  key : List Nat
  src : List Byte
  gm : Nat
  utc : Nat
  deriving DecidableEq, Repr

/-- A PTP instance (R295, R296). Timestamps in 2^-16 ns. -/
structure PtpInst where
  enabled : Bool
  transport : Nat
  unicast : Bool
  annTo : Nat
  /-- Foreign masters, at most 8. -/
  masters : List PtpMaster
  /-- A two-step Sync that waits for its Follow_Up: sequence, LT and NT at arrival, correction. -/
  sync : Option (Nat × Nat × Int × Int)
  /-- Origin time, correction applied, of the last Sync, and LT at its arrival. -/
  last : Option (Int × Nat)
  /-- Sync interval of the master: 2^-logSync s. -/
  logSync : Nat
  /-- Delay_Req under way: sequence, t3 in LT, and T1 and t2 of the Sync it goes with. -/
  dreq : Option (Nat × Nat × Int × Nat)
  dseq : Nat
  /-- Mean path delay: twice it, in 2^-60 ns. -/
  path : Option Int
  deriving DecidableEq, Repr

/-- Time keeping beside its registers. -/
structure TimSt where
  /-- Local time in units of 2^-16 ns (R293). -/
  lt : Nat
  wt : Clock
  nt : Clock
  params : Option Params
  nextParams : Option Params
  /-- The set that the one in force replaced. -/
  oldParams : Option Params
  align : Nat
  glMul : Nat
  phase : Int
  ports : Tab TimPort
  anns : List Announce
  /-- A CLASS-only change of master that waits for its dwell: the new master. -/
  dwell : Option Nat
  /-- LT, in ns, at which the first dual-homed port reached UP (R298). -/
  firstUp : Option Nat
  ptp : Tab PtpInst
  /-- Edges in a row beyond 1 us of GENLOCK_IN (R317). -/
  glBadRun : Nat
  /-- Whole seconds given by set-WT-seconds, until the next edge of WT_PPS_IN takes them (R318). -/
  ppsSeconds : Option Nat
  /-- The master's GENLOCK_IN or WT_PPS_IN is present. -/
  edgeOk : Bool
  /-- Oscillator temperatures of the last 10 s, in 1/16 °C, with LT in ns (R308). -/
  temps : List (Nat × Int)
  /-- Index of the next PWM cycle in the present period (R319). -/
  pwmK : Nat
  deriving DecidableEq, Repr

/-- A data lane of a Twill port, receive side (R218, R228 to R233). Its registers hold the rest. -/
structure Lane where
  /-- Sampling phase and thresholds hold calibrated values. -/
  calibrated : Bool
  /-- A calibration is under way: it takes runs. -/
  calibrating : Bool
  /-- Its runs so far: phase and the three thresholds; none for a failed run. -/
  runs : List (Option (Nat × Int × Int × Int))
  /-- SYNC found with the lane's own number, and calibrated: deskew and descrambler are set. -/
  aligned : Bool
  /-- COUNTDOWN 0 received, or rejoined: the lane carries data. -/
  data : Bool
  /-- Scrambler state last announced. -/
  scr : Nat
  /-- Failed retrainings in a row (R228). -/
  fails : Nat
  /-- A calibration ended in disagreement: the retry timer runs (R231, R232). -/
  retry : Bool
  /-- Results of the last 8 codewords, newest first: true is uncorrectable (R227). -/
  last8 : List Bool
  deriving DecidableEq, Repr

/-- A flit sent and kept for replay (R257): SEQ, VC, SOM, ENC, KPH and the payload. -/
structure TxFlit where
  seq : Nat
  vc : Nat
  som : Bool
  enc : Bool
  kph : Bool
  payload : List Byte
  deriving DecidableEq, Repr

/-- What the session keys of a link are derived from (R446): the number of this end's ephemeral private key, the peer's
ephemeral public key, TH, and whether this end is the lo end. No key is in the state. -/
structure KeySrc where
  priv : Nat
  peer : List Byte
  th : List Byte
  lo : Bool
  deriving DecidableEq, Repr

/-- The session of one link (R286, R288). -/
structure Session where
  src : KeySrc
  kph : Bool
  /-- Messages sent and received on each channel under the key. -/
  txCount : Tab Nat
  rxCount : Tab Nat
  /-- The key before a rekey with its receive counts, kept for the receiver until the LT in ns given, and the channels
  that have shown the new phase. -/
  old : Option (KeySrc × Tab Nat × Nat)
  shown : List Nat
  deriving DecidableEq, Repr

/-- A Twill port, physical and link layer, beside its registers. -/
structure Port where
  /-- Step requested by the link layer (R219), and the step measured on the received clock. -/
  target : Nat
  measured : Option Nat
  /-- ACK sent, ACK received, and data slots begun. -/
  ackTx : Bool
  ackRx : Bool
  sending : Bool
  lanes : Tab Lane
  /-- Lanes requested for calibration, lanes deferred, and outcomes for the calibrate command by lane. -/
  calReq : List Nat
  calDefer : List Nat
  calRes : Tab Nat
  /-- Trainings failed in a row at the current step (R267). -/
  trainFails : Nat
  /-- Transmit mask last announced by the peer, and OUT and READY as last sent (R263). -/
  maskRx : Nat
  out : Nat
  ready : Nat
  /-- Link state before RETRAIN. -/
  before : Nat
  /-- STEP_UP_S as lengthened by failures, in seconds, zero for the register's; LT in ns of the last step up (R268). -/
  stepWait : Nat
  stepUpAt : Option Nat
  helloRx : Bool
  rtogTx : Bool
  rtogRx : Bool
  /-- Expected SEQ E and next SEQ to send (R257, R258). -/
  expected : Nat
  nextSeq : Nat
  replay : List TxFlit
  timeouts : Nat
  /-- Credit used, CRED last received and DATA flits accepted, by channel (R256). -/
  used : Tab Nat
  credRx : Tab Nat
  accepted : Tab Nat
  /-- Messages that wait for credit, for room in the replay window or for the end of a RETRAIN. -/
  txq : List Msg
  /-- Message being received on each channel: bytes so far, ENC and KPH of its first flit. -/
  rxMsg : Tab (List Byte × Bool × Bool)
  /-- Messages received whole and not yet handled: each is handled by the command of its kind. -/
  inbox : List Msg
  session : Option Session
  /-- Authentication (R444): our HELLO with the number of its ephemeral key, the peer's HELLO, TH, PROOF verified. -/
  helloTx : List Byte
  priv : Nat
  peerHello : Option (List Byte)
  th : List Byte
  verified : Bool
  /-- Failures in a row and the wait they cause (R448). -/
  authFails : Nat
  inBackoff : Bool
  /-- REKEY sent with the number of its ephemeral key, and REKEY received (R447). -/
  rekeyTx : Option (List Byte × Nat)
  rekeyRx : Option (List Byte)
  /-- LT in ns of tag failures within the last second (R287). -/
  tagFails : List Nat
  /-- Discovery (R275 to R278): number of the last run, its replies by hop, the port its DISCOVER returned on, and the
  peer sender that answered. -/
  run : Nat
  replies : Tab (List Byte)
  closed : Option Nat
  peerSender : Option Nat
  /-- Positions being numbered, by hop: the tile's CERT_ID, ASSIGNs sent, another device holds the number. -/
  numbering : Tab (List Byte × Nat × Bool)
  /-- HEAL_HOLD runs (R275). -/
  heal : Bool
  deriving DecidableEq, Repr

/-- Twill as a whole. -/
structure TwlSt where
  ports : Tab Port
  /-- Tile: topology ports in the order chosen (R16). -/
  topo : List Nat
  upstream : Option Nat
  /-- Tile: primary and backup senders of a dual-homed ring, with the port of the backup's last LIVENESS. -/
  primary : Option Nat
  backup : Option (Nat × Nat)
  /-- Tile: last LIVENESS from the serving sender: FRAME, HOPS and LT in ns. -/
  lastLive : Option (Nat × Nat × Nat)
  /-- Tile: TPL in the last DISCOVER of each sender (R504). -/
  discTpl : Tab Nat
  /-- Broadcasts seen: SRC and identifying tag (R23). -/
  seen : List (Nat × Nat)
  deriving DecidableEq, Repr

/-- Damask beside its registers (R325, R344). -/
structure DmkSt where
  /-- The factory layer in memory, once loaded. -/
  factory : Option (List Byte)
  /-- The current user layer in memory, and one written that becomes current at the next frame close. -/
  user : Option (List Byte)
  userNext : Option (List Byte)
  /-- A user or factory layer write in progress: the command, and the bytes being written. -/
  userWrite : Option (Pkt × List Byte)
  factoryWrite : Option (Pkt × List Byte)
  /-- Ageing: ACC and CODE by lamp index, QLAST and POWER by cell, and Q. -/
  acc : Tab Nat
  code : Tab Nat
  qlast : Tab Nat
  power : Tab Nat
  q : Nat
  /-- Codes computed for the frame being prepared, by lamp index, and the positions they belong to. -/
  newCode : Tab Nat
  corrected : List Nat
  /-- Positions marked for re-push of the next frame; every position is marked. -/
  marks : List Nat
  markAll : Bool
  /-- Zone estimates handed over for the next frame, in 1/16 °C (R341). -/
  estimates : Tab Int
  /-- Next position of the sweep (R348). -/
  sweep : Nat
  /-- Content power of the last frame corrected, in uW (R349). -/
  framePower : Nat
  /-- DMK_CTRL in force (R357). -/
  ctrl : Word
  /-- A further checkpoint was asked for; local time in ns at which the last one began. -/
  ckptAgain : Bool
  ckptBegan : Nat
  /-- The checkpoint being written: its slot and image. -/
  ckptWrite : Option (Nat × List Byte)
  ckptDoneAt : Option Nat
  /-- module-release waiting for its checkpoint (R355). -/
  release : Option Pkt
  /-- Geometry held before the module left (R356). -/
  oldGeom : Option (Nat × Nat)
  /-- The ageing records in memory are those a warm reset retained (R47). -/
  ageKept : Bool
  deriving DecidableEq, Repr

/-- A READ outstanding or waiting on a strand group (R368): its parameters and the command that asked, if any. -/
structure StrRead where
  strand : Nat
  drv : Nat
  sel : Nat
  y0 : Nat
  ny : Nat
  c0 : Nat
  nc : Nat
  pkt : Option Pkt
  deriving DecidableEq, Repr

/-- The strand output beside its registers. -/
structure StrSt where
  /-- The geometry record in force, and one supplied by command with the FACTORY_ID it is bound to (R373). -/
  geo : Option (List Byte)
  geoCmd : Option (List Byte × List Byte)
  /-- WRITEs still to be sent on each strand in the push under way, in order: position, block, and the WT in ns at which
  the WRITE ends; and the frame. -/
  queue : Tab (List (Nat × Nat × Nat))
  pushFrame : Option Nat
  pushFrom : Nat
  /-- Positions cut off from the last push, carried over (R375). -/
  carry : List Nat
  /-- Between a frame's close and the end of its push window (R374). -/
  inWindow : Bool
  /-- ARM sent for the next swap: scale and UNBLANK. -/
  armed : Option (Nat × Bool)
  /-- Outstanding READ and waiting command READs by group; the next driver to poll by group. -/
  reading : Tab StrRead
  waiting : Tab (List StrRead)
  pollNext : Tab Nat
  /-- Consecutive timeouts by driver. -/
  timeouts : Tab Nat
  /-- Strands to enumerate: addresses still to be identified, and the lowest that failed. -/
  enums : Tab (List Nat × Option Nat)
  /-- Commands waiting for enumerations, with their strands. -/
  enumWait : List (Pkt × List Nat)
  enumerated : List Nat
  /-- A clock period change that waits for the next present instant (R385). -/
  clkNext : Option Nat
  vddLost : Bool
  /-- A CONFIG with a new RET_EXP waits for the end of the push window; CYC_LEN last sent (R383). -/
  cfgDue : Bool
  cycSent : Nat
  /-- A SWAP_CYC was sent for the present frame in place of SWAP and of the CYC of cycle 0 (R367). -/
  swapCyc : Bool
  /-- The drivers are blanked. -/
  blanked : Bool
  deriving DecidableEq, Repr

/-- A budget held by a tile (Table 13.10). -/
structure BudgetMsg where
  bseq : Nat
  flags : Nat
  feed : Nat
  b : Nat
  floor : Nat
  vref : Nat
  period : Nat
  deriving DecidableEq, Repr

/-- What a tile gathers over a budget period for DEMAND (Table 13.9). -/
structure DemandAcc where
  demand : Nat
  lampSum : Nat
  lampN : Nat
  pinSum : Nat
  pinN : Nat
  vinMin : Option Nat
  rho : Nat
  frames : Nat
  deriving DecidableEq, Repr

/-- What a sender keeps of a slot for budgets beside the slot budget record. -/
structure FeedSlot where
  pmax : Nat
  lamp : Nat
  noContent : Bool
  telem : Bool
  /-- Local time in ns of the last DEMAND, and of the last DEMAND or else the first BUDGET. -/
  demandAt : Option Nat
  since : Nat
  /-- O_i has been updated from telemetry (R414). -/
  measured : Bool
  /-- Budgets sent, with local time in ns, newest first. -/
  sent : List (Nat × Nat)
  /-- BSEQ of a decrease that has not been echoed, and whether its second has passed. -/
  lowered : Option Nat
  silent : Bool
  /-- FLOOR and VREF sent last. -/
  floor : Nat
  vref : Nat
  deriving DecidableEq, Repr

/-- Thermal management and power beside its registers. -/
structure ThmSt where
  /-- The 24 nodes of the die model (R396), in 2^-20 °C. -/
  die : List Int
  seeded : Bool
  /-- Zone model (R397): rise above case by zone, in 2^-20 °C, and T_CASE, in 1/16 °C. -/
  rise : Tab Int
  tcase : Int
  /-- Module thermal record in force; none for the defaults of R401. -/
  mrec : Option (List Byte)
  /-- Successive disagreements, successive good samples and successive unacknowledged reads, by sensor. -/
  bad : Tab Nat
  good : Tab Nat
  nack : Tab Nat
  /-- Last valid reading of a remote diode, and die node 23 at that reading. -/
  diodeRef : Tab (Int × Int)
  /-- Successive samples of an on-die sensor at 125 °C or more. -/
  hot : Tab Nat
  /-- Sensors that hold STEP_FLOOR, with the step each holds (R405). -/
  floorBy : Tab Nat
  /-- Local time in ns at which a threshold's dwell timer started. -/
  dwell : Tab Nat
  /-- Lane calibration thresholds: state and dwell start, by port times 4 plus lane. -/
  lanes : Tab (Nat × Nat)
  /-- IDEALITY, RSERIES of the remote diodes; GAIN, OFFSET of the monitor channels, as command bytes. -/
  diodes : Tab (List Byte)
  amon : Tab (List Byte)
  /-- Supplies configured (R420): number and bus; rounds failed, VOUT exponent and STATUS_INPUT by supply. -/
  nsup : Nat
  bus : Nat
  supFail : Tab Nat
  supVmode : Tab Nat
  supInput : Tab Nat
  /-- Derating curves: own, and by feed entry; none listed: the reset curve. -/
  curve : List (Nat × Nat)
  feedCurves : Tab (List (Nat × Nat))
  /-- Tile: budget in force, budget received that applies from the next close, and when the last one came. -/
  budget : Option BudgetMsg
  budgetNext : Option BudgetMsg
  budgetAt : Nat
  acc : DemandAcc
  /-- Sums of READ_POUT, in mW, of the last rounds in STANDBY with the drivers blanked, newest first (R410). -/
  ot : List Nat
  /-- P of the last frame handed over, and the frame and scale computed last. -/
  lastP : Nat
  scale : Option (Nat × Nat)
  /-- A scale computed in HOLD that waits for its ARM (R409). -/
  rescale : Option Nat
  /-- The throttle step whose CAP is in force: taken at each frame close (R403). -/
  capStep : Nat
  /-- P of the frame being shown and its scale. -/
  shown : Option (Nat × Nat)
  /-- Sender: slots, VIN reports of the feeds, budgets held back by feed, feeds gathering SAG, claims of peers. -/
  slots : Tab FeedSlot
  vins : Tab (List (Nat × Nat))
  heldBack : Tab (List (Nat × BudgetMsg))
  gather : List Nat
  /-- Feeds whose last computation was short (R414). -/
  shorts : List Nat
  claims : Tab (List Byte × Nat)
  deriving DecidableEq, Repr

/-- The secure store (R432 to R436), decrypted. Keys are 96 bytes. -/
structure Store where
  owner : List Byte
  /-- Delegate keys with their class masks, slots 1 to 8. -/
  delegates : Tab (List Byte × Nat)
  /-- LAST_CTR by signer slot. -/
  lastCtr : Tab Nat
  deny : List (List Byte)
  /-- Module signers by slot: issuer and module signer certificates. -/
  signers : Tab (List Byte)
  /-- POLICY of sources 0 to 10, PFLAGS and REKEY_H (set-policy). -/
  policies : List Nat
  pflags : Nat
  rekeyH : Nat
  restricted : Bool
  deriving DecidableEq, Repr

/-- A tamper event with its stamps (R456). -/
structure TamperRec where
  source : Nat
  policy : Nat
  lt : Nat
  wt : Nat
  detail : Nat
  seq : Nat
  deriving DecidableEq, Repr

/-- An envelope that passed its checks, with the copy of its referenced data (R439, R440). -/
structure Released where
  pkt : Pkt
  copy : Option (List Byte)
  deriving DecidableEq, Repr

/-- SEC beside its registers. -/
structure SecSt where
  /-- The secure store has been loaded since the last reset. -/
  loaded : Bool
  /-- Envelopes under check, oldest first, and commands released. -/
  queue : List Pkt
  released : List Released
  /-- Local times in ns of refusals by requester; throttled requesters with the time of their last verification. -/
  refusals : List (Req × Nat)
  throttled : List (Req × Nat)
  /-- Debug nonce with its expiry, and who asked. -/
  nonce : Option (List Byte × Nat × Req)
  /-- Local time in ns at which the debug unlock ends. -/
  debugEnd : Option Nat
  /-- Events latched before arming: source, LT, WT and detail. -/
  latched : List TamperRec
  /-- Occurrences of sources 7, 9 and 10 with LT in ns, newest first; source 10 keeps one list for each port. -/
  occurrences : Tab (List Nat)
  /-- The last 16 tamper events, newest first. -/
  recent : List TamperRec
  /-- Sources whose condition holds now (Table 14.14). -/
  active : List Nat
  /-- The instruction the JTAG port acts on (R459). -/
  jtag : JtagInstr
  deriving DecidableEq, Repr

/-- An image slot's entry of the boot record (Table 16.2). -/
structure SlotRec where
  state : Nat
  reason : Nat
  tries : Nat
  fw : Nat
  svn : Nat
  tpl : Nat
  csl : Nat
  cfs : Nat
  cfsMin : Nat
  mflags : Nat
  bundleLen : Nat
  eqOffset : Nat
  eqLen : Nat
  mdigest : List Byte
  deriving DecidableEq, Repr

/-- The boot record in force (R499). -/
structure BootRec where
  seq : Nat
  current : Nat
  lastAct : Nat
  slotA : SlotRec
  slotB : SlotRec
  deriving DecidableEq, Repr

/-- A configuration item: ITEM, INST and data (R512). -/
structure Item where
  item : Nat
  inst : Nat
  data : List Byte
  deriving DecidableEq, Repr

/-- A valid generation of the configuration store (R512). -/
structure Gen where
  role : Nat
  gen : Nat
  cfs : Nat
  revertOf : Nat
  wt : Nat
  nonce : Nat
  items : List Item
  deriving DecidableEq, Repr

/-- The running main firmware: what its manifest says, and the digests of it and of the security firmware. -/
structure Running where
  rec_ : SlotRec
  main : List Byte
  secfw : List Byte
  root : Nat
  deriving DecidableEq, Repr

/-- An activation (R504, R505): its command, the slot, and the mode it began in. -/
structure Activation where
  pkt : Pkt
  slot : Nat
  fromMode : Nat
  /-- The verification of R504 still runs. -/
  verifying : Bool
  deriving DecidableEq, Repr

/-- Configuration and update beside its registers. -/
structure UpdSt where
  /-- The image chosen at boot: a slot, or 7 for memory; none before the choice. -/
  chosen : Option Nat
  /-- The slot the running image was loaded from; none before the choice, in BOOT without an image, and from memory. -/
  slot : Option Nat
  /-- The image stays as it was booted: no activation since (R452). -/
  activated : Bool
  bootFail : Bool
  running : Option Running
  /-- Staging: the command and the bundle. -/
  staging : Option (Pkt × List Byte)
  /-- A verified main firmware is in memory for this slot (R503). -/
  copyOf : Option Nat
  activation : Option Activation
  /-- Running values of the items set since the factory defaults. -/
  items : List Item
  cfgCfs : Nat
  /-- A commit or revert that writes: the command, the generation slot and the generation. -/
  cfgWrite : Option (Pkt × Nat × Gen)
  /-- Load area (R524): length and LFLAGS; its bytes are in memory from `loadMem` on. -/
  loadLen : Option Nat
  loadFlags : Nat
  /-- SRC and SEQ of tunnelled frames, with local time in ns (R525). -/
  mslSeen : List (Nat × Nat × Nat)
  /-- The Muslin request that executes: SEQ, DEST, MOP, and the tunnel's SRC. -/
  mslBusy : Option (Nat × Nat × Nat × Option Nat)
  deriving DecidableEq, Repr

/-- What survives every reset: fuses, boot flash, the secure store, the module, and what is fixed for the part. -/
structure NvSt where
  /-- The part is an MR9600-S (Table 0.1). -/
  isS : Bool
  svnFuses : Nat
  /-- SHA-384 of the vendor root keys by slot, and the slots revoked (bits). -/
  roots : Tab (List Byte)
  revoked : Nat
  /-- The identity-kill fuse (Z3). -/
  killed : Bool
  deviceCert : List Byte
  issuerCert : List Byte
  /-- The secure store, none while UNOWNED; whether it authenticates; the store epoch. -/
  store : Option Store
  storeGood : Bool
  epoch : Nat
  /-- Restriction of an UNOWNED device (R457). -/
  restricted : Bool
  /-- Tamper log, newest first, at most 64 entries, and events since manufacture. -/
  log : List TamperRec
  events : Nat
  bootRec : Option BootRec
  /-- LOCKDOWN abandoned an activation (R506).  -/
  abandoned : Bool
  /-- Bytes of image slots A and B. -/
  slots : Tab (List Byte)
  /-- Valid generations by generation slot. -/
  gens : Tab Gen
  /-- Equalisation table in force for the board (R222). -/
  eqTable : List Byte
  module : Option Module
  deriving DecidableEq, Repr

/-- The state of one MR9600. -/
structure State where
  /-- The commands that wait, first in, first out. -/
  pending : List Instr
  /-- Everything sent or driven so far, in order: the model's own record (log entry 1, DESIGN CHOICE). -/
  out : List Emit
  /-- The model's own counter of free values taken: the next free value is `Config.free` of it (log entry 7, DESIGN CHOICE). -/
  free : Nat
  /-- Registers that differ from their reset values, by key. -/
  regs : Tab Word
  /-- Bytes of the in-package memory that differ from what an unlisted byte reads as. -/
  mem : List Host.Cell
  nv : NvSt
  sys : SysSt
  flt : FltSt
  cps : CpsSt
  eth : EthSt
  ing : IngSt
  srf : SrfSt
  cmp : CmpSt
  tnm : TnmSt
  cel : CelSt
  celT : CelTSt
  tim : TimSt
  twl : TwlSt
  dmk : DmkSt
  str : StrSt
  thm : ThmSt
  sec : SecSt
  upd : UpdSt
  deriving DecidableEq, Repr

/-- (DESIGN CHOICE log 4) -/
def ResetSt.none : ResetSt :=
  { porst := false, power := false, wrst := false, internal := false, sawPower := false, sawPin := false
    sawWdog := false, sawCmd := false, sawAct := false }

/-- (DESIGN CHOICE log 4) -/
def SysSt.reset : SysSt :=
  { rst := ResetSt.none, warmWait := false, cfgLocked := 0, pulses := [], fwRunning := false, tamperArmed := false }

/-- (DESIGN CHOICE log 6) -/
def FltSt.reset : FltSt := { containing := [], levels := [], recent := [] }

/-- (DESIGN CHOICE log 6 log 42) -/
def CpsSt.reset : CpsSt :=
  { devnum := 0xFFF, groups := 0, held := [], sems := [], semWaits := [], live := [], liveStart := [], exports := []
    cqLog := 6, rqLog := 6, cp1Cmd := [], cp1Rpl := [], rqPhase := true, rqReserved := 0, fwd := [], fwdNext := 0, aggs := [], dups := []
    bg := [], mute := [], ind := [], latches := [] }

/-- (DESIGN CHOICE log 6) -/
def EthSt.reset : EthSt :=
  { cfg := [], pflags := [], ref := [], restarting := [], up := [], lost := [], ip4 := [], ip6 := [], fwFrames := [] }

/-- (DESIGN CHOICE log 6) -/
def IngSt.reset : IngSt := { flows := [], recent := [] }

/-- (DESIGN CHOICE log 6) -/
def SrfSt.reset : SrfSt := { table := [], instances := [], heap := [], uploads := [], running := false }

def Shadow.reset : Shadow :=
  { layers := [], zMode := 0, zList := [], bg := List.replicate 8 0, banks := [], wb := List.replicate 20 0
    pv := List.replicate 16 0, seq := 1 }

/-- (DESIGN CHOICE log 6) -/
def CmpSt.reset : CmpSt :=
  { shadow := Shadow.reset, pendings := [], active := { Shadow.reset with seq := 0 }, acts := [], pass := none
    guardLeft := [], startAt := 0, lastFrame := none, stepIn := 0 }

def TShadow.reset : TShadow :=
  { profiles := [], kneeG := 0xC000, kHost := 0x8000, curve := [(16, 0x8000), (1600000, 0x8000)], seq := 1 }

/-- (DESIGN CHOICE log 6) -/
def TnmSt.reset : TnmSt :=
  { shadow := TShadow.reset, pendings := [], active := { TShadow.reset with seq := 0 }, ctrl := 0x028F1E00, wall := none, reports := []
    peers := [], rho := none, firstShow := false, sensors := [], level := none, validNow := 0, validSec := 0 }

/-- (DESIGN CHOICE log 6) -/
def CelSt.reset : CelSt :=
  { loaded := none, header := [], slots := [], mapPending := none, queues := [], l16 := [], canvas := []
    encoded := [] }

/-- (DESIGN CHOICE log 6) -/
def CelTSt.reset : CelTSt :=
  { shown := [], pend := [], nCur := 0, openFrame := 1, lastClose := 0, lastArrival := none, margin := none
    storeEmpty := true }

def Clock.reset : Clock :=
  { fine := 0, r := 0, sigma := 0, phi := 0, good := 0, bad := 0, lastSample := none, everLocked := false
    lockedAt := 0, history := [], rLast := 0, tLoss := 0, holdAt := 0 }

/-- (DESIGN CHOICE log 6) -/
def TimSt.reset : TimSt :=
  { lt := 0, wt := Clock.reset, nt := Clock.reset, params := none, nextParams := none, oldParams := none, align := 0, glMul := 1
    phase := 0, ports := [], anns := [], dwell := none, firstUp := none, ptp := [], glBadRun := 0
    ppsSeconds := none, edgeOk := false, temps := [], pwmK := 0 }

/-- (DESIGN CHOICE log 6) -/
def TwlSt.reset : TwlSt :=
  { ports := [], topo := [], upstream := none, primary := none, backup := none, lastLive := none, discTpl := []
    seen := [] }

/-- (DESIGN CHOICE log 6) -/
def DmkSt.reset : DmkSt :=
  { factory := none, user := none, userNext := none, userWrite := none, factoryWrite := none, acc := [], code := []
    qlast := [], power := [], q := 0, newCode := [], corrected := [], marks := [], markAll := false, estimates := []
    sweep := 0, framePower := 0, ctrl := 0x0008081F, ckptAgain := false, ckptBegan := 0, ckptWrite := none, ckptDoneAt := none
    release := none, oldGeom := none, ageKept := false }

/-- (DESIGN CHOICE log 6) -/
def StrSt.reset : StrSt :=
  { geo := none, geoCmd := none, queue := [], pushFrame := none, pushFrom := 0, carry := [], inWindow := false
    armed := none, reading := [], waiting := [], pollNext := [], timeouts := [], enums := [], enumWait := []
    enumerated := [], clkNext := none, vddLost := false, cfgDue := false, cycSent := 0, swapCyc := false, blanked := true }

def DemandAcc.zero : DemandAcc :=
  { demand := 0, lampSum := 0, lampN := 0, pinSum := 0, pinN := 0, vinMin := none, rho := 0, frames := 0 }

/-- (DESIGN CHOICE log 6) -/
def ThmSt.reset : ThmSt :=
  { die := List.replicate 24 0, seeded := false, rise := [], tcase := 0, mrec := none, bad := [], good := [], nack := []
    diodeRef := [], hot := [], floorBy := [], dwell := [], lanes := [], diodes := [], amon := [], nsup := 0, bus := 0
    supFail := [], supVmode := [], supInput := [], curve := [(850, 0x8000), (3000, 0x8000)], feedCurves := []
    budget := none, budgetNext := none, budgetAt := 0, acc := DemandAcc.zero, ot := []
    lastP := 0, scale := none, rescale := none, capStep := 0, shown := none, slots := [], vins := [], heldBack := [], gather := [], shorts := [], claims := [] }

/-- (DESIGN CHOICE log 6) -/
def SecSt.reset : SecSt :=
  { loaded := false, queue := [], released := [], refusals := [], throttled := [], nonce := none, debugEnd := none
    latched := [], occurrences := [], recent := [], active := [], jtag := .bypass }

/-- (DESIGN CHOICE log 6) -/
def UpdSt.reset : UpdSt :=
  { chosen := none, slot := none, activated := false, bootFail := false, running := none, staging := none, copyOf := none, activation := none, items := [], cfgCfs := 0, cfgWrite := none, loadLen := none, loadFlags := 0
    mslSeen := [], mslBusy := none }

/-- A part as delivered with nothing written: no owner, blank image slots and configuration store, no module. (DESIGN CHOICE log 4) -/
def NvSt.reset : NvSt :=
  { isS := true, svnFuses := 0, roots := [], revoked := 0, killed := false, deviceCert := List.replicate 256 0
    issuerCert := List.replicate 256 0, store := none, storeGood := true, epoch := 0, restricted := false, log := []
    events := 0, bootRec := none, abandoned := false, slots := [], gens := [], eqTable := [], module := none }

/-- The machine right after a power-on reset with open straps: in BOOT, every register at its reset value. (DESIGN CHOICE log 4) -/
def State.reset : State :=
  { pending := [], out := [], free := 0, regs := [], mem := [], nv := NvSt.reset, sys := SysSt.reset
    flt := FltSt.reset, cps := CpsSt.reset, eth := EthSt.reset, ing := IngSt.reset, srf := SrfSt.reset
    cmp := CmpSt.reset, tnm := TnmSt.reset, cel := CelSt.reset, celT := CelTSt.reset, tim := TimSt.reset
    twl := TwlSt.reset, dmk := DmkSt.reset, str := StrSt.reset, thm := ThmSt.reset, sec := SecSt.reset
    upd := UpdSt.reset }

end Sys2Proof.Machine
end

