-- ==== Sys2Proof/Machine/Table.lean ====
section
/-!
DEFINITION. Reading and writing the sparse tables of `Tab`.
-/

namespace Sys2Proof.Machine

/-- The value listed under a key. -/
def Tab.get {α : Type} : Tab α → Nat → Option α
  | [], _ => none
  | (k, v) :: t, a => if a = k then some v else Tab.get t a

/-- The value listed under a key, or `d` where none is listed. -/
def Tab.getD {α : Type} (t : Tab α) (a : Nat) (d : α) : α := (Tab.get t a).getD d

/-- Lists `v` under `a`, keeping the keys strictly rising. -/
def Tab.put {α : Type} : Tab α → Nat → α → Tab α
  | [], a, v => [(a, v)]
  | (k, w) :: t, a, v =>
    if a < k then (a, v) :: (k, w) :: t
    else if a = k then (a, v) :: t
    else (k, w) :: Tab.put t a v

/-- Removes what is listed under a key. -/
def Tab.del {α : Type} : Tab α → Nat → Tab α
  | [], _ => []
  | (k, w) :: t, a => if a = k then Tab.del t a else (k, w) :: Tab.del t a

/-- The keys rise strictly: the canonical form of a table. -/
def Tab.sorted {α : Type} : Tab α → Bool
  | [] => true
  | [_] => true
  | (k, _) :: (k', v') :: t => decide (k < k') && Tab.sorted ((k', v') :: t)

/-- Changes the value of a key, starting from `d` where none is listed. -/
def Tab.upd {α : Type} (t : Tab α) (a : Nat) (d : α) (f : α → α) : Tab α :=
  Tab.put t a (f (Tab.getD t a d))

/-- The smallest number from `n` on, looking at most `fuel` further, that is not a key. -/
def Tab.freshFrom {α : Type} (t : Tab α) : Nat → Nat → Nat
  | 0, n => n
  | fuel + 1, n => match Tab.get t n with
    | none => n
    | some _ => Tab.freshFrom t fuel (n + 1)

end Sys2Proof.Machine
end

