-- ==== Sys2Proof/Machine/Ops.lean ====
section
/-!
DEFINITION. The named operations over the state: registers and their fields, memory, outputs, time and free values.
-/

namespace Sys2Proof.Machine

/-! ### Registers and fields (R7, R536) -/

/-- A register description covers an offset. -/
def RegDef.covers (d : RegDef) (off : Nat) : Bool :=
  decide (d.off ≤ off) && decide ((off - d.off) % d.stride = 0) && decide ((off - d.off) / d.stride < d.count)

/-- The description of the register under a key, if the map has one. -/
def regDef (key : Nat) : Option RegDef :=
  (if key < 16777216 then directDefs (key / 65536) else indirectDefs ((key - 16777216) / 65536)).find?
    (fun d => d.covers (key % 65536))

/-- The reset value of the register under a key, zero where the map has none. (DESIGN CHOICE log 5) -/
def regReset (key : Nat) : Word :=
  match regDef key with
  | some d => BitVec.ofNat 32 (d.fields.foldl (fun a f => a + f.reset * 2 ^ f.lo) 0)
  | none => 0

/-- The word a register holds. -/
def regGet (s : State) (key : Nat) : Word := (Tab.get s.regs key).getD (regReset key)

/-- Gives a register a word; a register back at its reset value is not listed. -/
def regPut (s : State) (key : Nat) (v : Word) : State :=
  { s with regs := if v = regReset key then Tab.del s.regs key else Tab.put s.regs key v }

/-- The width of a field. -/
abbrev Fld.width (f : Fld) : Nat := f.hi + 1 - f.lo

/-- The bits of a field in a word. -/
def Fld.of (f : Fld) (w : Word) : Nat := w.toNat / 2 ^ f.lo % 2 ^ f.width

/-- A word with a field replaced, the value taken modulo the field's width. -/
def Fld.ins (f : Fld) (w : Word) (v : Nat) : Word :=
  BitVec.ofNat 32 (w.toNat - f.of w * 2 ^ f.lo + v % 2 ^ f.width * 2 ^ f.lo)

/-- The value of a field. -/
def getF (s : State) (f : Fld) : Nat := f.of (regGet s f.reg)

/-- Gives a field a value, taken modulo its width. -/
def setF (s : State) (f : Fld) (v : Nat) : State := regPut s f.reg (f.ins (regGet s f.reg) v)

/-- Adds to a field, wrapping at its width: how an EC field counts (R7). -/
def addF (s : State) (f : Fld) (n : Nat) : State := setF s f (getF s f + n)

/-- Counts one event in an EC field. -/
def incF (s : State) (f : Fld) : State := addF s f 1

/-- A one-bit field is set. -/
def isSet (s : State) (f : Fld) : Bool := getF s f == 1

/-- Gives a one-bit field a truth value. -/
def setB (s : State) (f : Fld) (b : Bool) : State := setF s f (if b then 1 else 0)

/-- A two's complement field. -/
def getI (s : State) (f : Fld) : Int :=
  if getF s f < 2 ^ (f.width - 1) then (getF s f : Int) else (getF s f : Int) - 2 ^ f.width

/-- Gives a two's complement field a value, modulo its width. -/
def setI (s : State) (f : Fld) (i : Int) : State := setF s f (i % (2 ^ f.width : Nat)).toNat

/-- Gives a saturating unsigned field a value. -/
def setSat (s : State) (f : Fld) (v : Nat) : State := setF s f (min v (2 ^ f.width - 1))

/-- A two's complement field saturates. -/
def setSatI (s : State) (f : Fld) (i : Int) : State :=
  setI s f (max (-(2 ^ (f.width - 1) : Nat)) (min i ((2 ^ (f.width - 1) : Nat) - 1)))

/-- The value of a counter of two registers. -/
def val48 (s : State) (lo hi : Fld) : Nat := getF s lo + getF s hi * 4294967296

/-- Counts in a 48-bit counter of two registers. -/
def add48 (s : State) (lo hi : Fld) (n : Nat) : State :=
  setF (setF s lo (val48 s lo hi + n)) hi ((val48 s lo hi + n) / 4294967296)

/-! ### Bytes -/

/-- The little-endian value of bytes. -/
def leVal : List Byte → Nat
  | [] => 0
  | b :: t => b.toNat + 256 * leVal t

/-- A value as n little-endian bytes. -/
def leBytes : Nat → Nat → List Byte
  | 0, _ => []
  | n + 1, v => BitVec.ofNat 8 v :: leBytes n (v / 256)

/-- n bytes from an offset. -/
def sub (l : List Byte) (off n : Nat) : List Byte := (l.drop off).take n

/-- The little-endian field of n bytes at an offset. -/
def leAt (l : List Byte) (off n : Nat) : Nat := leVal (sub l off n)

/-- The byte at an offset. -/
abbrev u8 (l : List Byte) (off : Nat) : Nat := leAt l off 1
/-- The 16-bit field at an offset. -/
abbrev u16 (l : List Byte) (off : Nat) : Nat := leAt l off 2
/-- The 32-bit field at an offset. -/
abbrev u32 (l : List Byte) (off : Nat) : Nat := leAt l off 4
/-- The 64-bit field at an offset. -/
abbrev u64 (l : List Byte) (off : Nat) : Nat := leAt l off 8

/-- A bit of a byte field. -/
def bitAt (l : List Byte) (off bit : Nat) : Bool := (leAt l off 1).testBit bit

/-- A value of n bits read as two's complement. (DEDUCED log 39) -/
def signed (n v : Nat) : Int := if v % 2 ^ n < 2 ^ (n - 1) then ((v % 2 ^ n : Nat) : Int) else ((v % 2 ^ n : Nat) : Int) - (2 ^ n : Nat)

/-- A number as n bits of two's complement. -/
def unsigned (n : Nat) (i : Int) : Nat := (i % (2 ^ n : Nat)).toNat

/-- n zero bytes. -/
def zeros (n : Nat) : List Byte := List.replicate n 0

/-- Replaces the bytes at an offset. -/
def patch (l : List Byte) (off : Nat) (new : List Byte) : List Byte := l.take off ++ new ++ l.drop (off + new.length)

/-- Every byte from an offset on, n of them, is zero. -/
def zeroAt (l : List Byte) (off n : Nat) : Bool := (sub l off n).all (· == 0)

/-- Big-endian value of bytes (IP addresses and standard headers). -/
def beVal (l : List Byte) : Nat := leVal l.reverse

/-! ### Memory -/

/-- Regions of the in-package memory that the windows and references reach, as offsets of the memory table. (DESIGN CHOICE log 10) -/
abbrev heapMem : Nat := 0
/-- Stage buffer b (R473). (DESIGN CHOICE log 10) -/
abbrev stageMem (b : Nat) : Nat := 0x400000000 * (1 + b)
/-- The load area of BOOT (R531) and of Muslin. (DESIGN CHOICE log 10) -/
abbrev loadMem : Nat := 0x400000000 * 3

/-- A byte of memory; an unlisted byte reads zero. (DESIGN CHOICE log 10) -/
def memGet (s : State) (a : Nat) : Byte := Tab.getD s.mem a 0

/-- The memory table with one byte written. -/
def cellsPut (m : List Host.Cell) (a : Nat) (v : Byte) : List Host.Cell :=
  if v = 0 then Tab.del m a else Tab.put m a v

/-- Writes one byte. (DESIGN CHOICE log 10) -/
def memPut (s : State) (a : Nat) (v : Byte) : State := { s with mem := cellsPut s.mem a v }

/-- The memory table with consecutive bytes written. -/
def cellsWrite (m : List Host.Cell) : Nat → List Byte → List Host.Cell
  | _, [] => m
  | a, b :: t => cellsWrite (cellsPut m a b) (a + 1) t

/-- Writes consecutive bytes. (DESIGN CHOICE log 10) -/
def memWrite (s : State) (a : Nat) (l : List Byte) : State := { s with mem := cellsWrite s.mem a l }

/-- Reads n consecutive bytes. (DESIGN CHOICE log 10) -/
def memRead (s : State) (a n : Nat) : List Byte := (List.range n).map (fun i => memGet s (a + i))

/-- The canonical form of the memory table: addresses rise and no listed byte is zero. -/
def Memory.wf (m : List Host.Cell) : Bool := Tab.sorted m && m.all (fun c => c.2 != 0)

/-! ### Outputs and free values -/

/-- Appends to what the device has sent. -/
def send (s : State) (e : Emit) : State := { s with out := s.out ++ [e] }

/-- The next free value, reduced to n bits. (DESIGN CHOICE log 7) -/
def freeVal (s : State) (n : Nat) : Nat := Config.free s.free % 2 ^ n

/-- Moves on to a fresh free value. (DESIGN CHOICE log 7) -/
def takeFree (s : State) : State := { s with free := s.free + 1 }

/-- A quotient whose rounding the spec does not state: exact where it divides, else one of its two neighbours. (DESIGN CHOICE log 8) -/
def inexact (site num den : Nat) : Nat :=
  if num % den = 0 then num / den else num / den + (if Config.roundsUp site num den then 1 else 0)

/-! ### Mode, role and time -/

/-- The current mode (Table 2.1). -/
abbrev mode (s : State) : Nat := getF s R.SYS_MODE_MODE
/-- Mode codes of Table 2.1. -/
abbrev mBoot : Nat := 0
abbrev mStandby : Nat := 1
abbrev mShow : Nat := 2
abbrev mHold : Nat := 3
abbrev mService : Nat := 4
abbrev mLockdown : Nat := 7

/-- The device works in the sender role (R2, R3). -/
abbrev sender (s : State) : Bool := isSet s R.SYS_MODE_ROLE_EFF

/-- A reset cause is active: the device is in reset (R599). -/
def inReset (s : State) : Bool := s.sys.rst.porst || s.sys.rst.power || s.sys.rst.wrst || s.sys.rst.internal

/-- The device is out of reset and not in LOCKDOWN: its pipelines can act. -/
def alive (s : State) : Bool := !inReset s && mode s != mLockdown

/-- As `alive`, with the firmware started. -/
def running (s : State) : Bool := alive s && mode s != mBoot

/-- Local time in whole ns (R292). -/
abbrev ltNs (s : State) : Nat := s.tim.lt / 65536

/-- WT is valid: its servo is not in NONE (R294). -/
abbrev wtValid (s : State) : Bool := getF s R.TIM_STATUS_WT_STATE != 0
/-- NT is valid. -/
abbrev ntValid (s : State) : Bool := getF s R.TIM_STATUS_NT_STATE != 0

/-- A derived clock in units of 2^-16 ns. -/
def Clock.t16 (c : Clock) : Nat := (c.fine / (2 ^ 44 : Nat)).toNat % 2 ^ 80

/-- A derived clock in whole ns. -/
def Clock.ns (c : Clock) : Nat := c.t16 / 65536

/-- WT in ns, zero while it is in NONE. -/
def wtNs (s : State) : Nat := if wtValid s then s.tim.wt.ns else 0
/-- NT in ns, zero where it is not valid. -/
def ntNs (s : State) : Nat := if ntValid s then s.tim.nt.ns else 0

/-- WT is held (R306, R600): a sender in LOCKED or HOLDOVER; a tile in LOCKED, or in HOLDOVER after LOCKED. -/
def wtHeld (s : State) : Bool :=
  getF s R.TIM_STATUS_WT_STATE == 2 ||
    (getF s R.TIM_STATUS_WT_STATE == 3 && (sender s || s.tim.wt.everLocked))

/-- Index range helper: the numbers below n that satisfy p. -/
def idxs (n : Nat) (p : Nat → Bool) : List Nat := (List.range n).filter p

end Sys2Proof.Machine
end

