-- ==== Sys2Proof/Machine/Flags.lean ====
section
/-!
DEFINITION. Event counters and interrupts (R544 to R548): which sources are pending, which vectors are active, and the
MSI-X messages that follow. The flags of the block are its EC and EA pairs and its level statuses.
-/

namespace Sys2Proof.Machine

/-- The EC and EA fields of an interrupt source (Table 17.4). -/
def irqFields (src : Nat) : Option (Fld × Fld) :=
  match src with
  | 0 => some (R.SYS_MODE_EVT_COUNT, R.SYS_MODE_ACK_ACK)
  | 1 => some (R.SYS_FAULT_EVT_COUNT, R.SYS_FAULT_ACK_ACK)
  | 2 => some (R.CPS_RQ_EVT_COUNT, R.CPS_RQ_ACK_ACK)
  | 3 => some (R.ING_FLOW_EVT_COUNT, R.ING_FLOW_ACK_ACK)
  | 4 => some (R.SRF_FENCE_EVT_COUNT, R.SRF_FENCE_ACK_ACK)
  | 5 => some (R.SRF_GUARD_EVT_COUNT, R.SRF_GUARD_ACK_ACK)
  | 6 => some (R.CMP_LATE_EVT_COUNT, R.CMP_LATE_ACK_ACK)
  | 7 => some (R.CMP_COMMIT_EVT_COUNT, R.CMP_COMMIT_ACK_ACK)
  | 8 => some (R.TNM_KUPD_EVT_COUNT, R.TNM_KUPD_ACK_ACK)
  | 9 => some (R.CEL_ROUTE_EVT_COUNT, R.CEL_ROUTE_ACK_ACK)
  | 10 => some (R.CEL_T_LATE_EVT_COUNT, R.CEL_T_LATE_ACK_ACK)
  | 11 => some (R.TIM_EVT_COUNT, R.TIM_ACK_ACK)
  | 12 => some (R.TIM_LATE_EVT_COUNT, R.TIM_LATE_ACK_ACK)
  | 13 => some (R.DMK_EVT_COUNT, R.DMK_ACK_ACK)
  | 14 => some (R.STR_EVT_COUNT, R.STR_ACK_ACK)
  | 15 => some (R.THM_EVT_COUNT, R.THM_ACK_ACK)
  | 16 => some (R.SEC_TAMPER_EVT_COUNT, R.SEC_TAMPER_ACK_ACK)
  | 17 => some (R.UPD_EVT_COUNT, R.UPD_ACK_ACK)
  | 18 => some (R.PCI_EVT_COUNT, R.PCI_ACK_ACK)
  | 19 => some (R.SYS_GPIO_EVT_COUNT, R.SYS_GPIO_ACK_ACK)
  | _ =>
    if 24 ≤ src ∧ src < 32 then some (R.TWL_PHY_EVT_COUNT (src - 24), R.TWL_PHY_ACK_ACK (src - 24))
    else if 32 ≤ src ∧ src < 40 then some (R.TWL_LL_EVT_COUNT (src - 32), R.TWL_LL_ACK_ACK (src - 32))
    else if 40 ≤ src ∧ src < 56 then some (R.TRIG_FIRED_COUNT (src - 40), R.CPS_TRIG_ACK_ACK (src - 40))
    else none

/-- The block of a source is powered in the role (R545, Table 17.4). -/
def irqInRole (snd : Bool) (src : Nat) : Bool :=
  if 2 ≤ src ∧ src ≤ 9 then snd
  else if src = 10 ∨ src = 13 ∨ src = 14 then !snd
  else true

/-- Source `src` is pending: its counter and its acknowledge differ (R544). -/
def pendingIrq (s : State) (src : Nat) : Bool :=
  match irqFields src with
  | some (e, a) => irqInRole (sender s) src && getF s e != getF s a
  | none => false

/-- Vector `v` is active (R547). -/
def vecActive (s : State) (v : Nat) : Bool :=
  sender s && (List.range 56).any (fun k =>
    isSet s (R.CPS_IRQ_ROUTE_MSIX_EN k) && getF s (R.CPS_IRQ_ROUTE_VECTOR k) == v && pendingIrq s k)

/-- Messages can leave: link up, bus mastering and MSI-X enabled. -/
def msixOn (s : State) : Bool :=
  isSet s R.PCI_STATUS_LINK_UP && isSet s R.PCI_STATUS_BME && isSet s R.PCI_STATUS_MSIX_EN

/-- Sends the message of vector `v`, or records it in the PBA while it cannot be sent (R547). -/
def sendVector (v : Nat) (s : State) : State :=
  if msixOn s && !isSet s (R.MSIX_VCTRL_MASK v) then send s (.msix v)
  else setF s R.MSIX_PBA_PEND ((getF s R.MSIX_PBA_PEND) ||| 2 ^ v)

/-- After a change from `old`: every vector that became active sends its message. -/
def vecEdges (old s : State) : State :=
  (idxs 32 (fun v => vecActive s v && !vecActive old v)).foldl (fun a v => sendVector v a) s

/-- Counts one event of an interrupt source, with the message that follows where its vector becomes active. -/
def raise (src : Nat) (s : State) : State :=
  match irqFields src with
  | none => s
  | some (e, _) =>
    let t := incF s e
    let v := getF s (R.CPS_IRQ_ROUTE_VECTOR src)
    if isSet s (R.CPS_IRQ_ROUTE_MSIX_EN src) && vecActive t v && !vecActive s v then sendVector v t else t

/-- Pending sources 0 to 31 as a word (CPS_IRQ_PEND0), or from `base` on. -/
def pendWord (s : State) (base : Nat) : Nat :=
  (List.range 32).foldl (fun a k => if pendingIrq s (base + k) then a + 2 ^ k else a) 0

/-- HQ_INT_N is driven low (R548). -/
def hqIntLow (s : State) : Bool :=
  mode s != mLockdown &&
    ((isSet s R.CPS_CP1_CTRL_INT_EN && !s.cps.cp1Rpl.isEmpty) ||
      (List.range 56).any (fun k => isSet s (R.CPS_IRQ_ROUTE_CP1_EN k) && pendingIrq s k))

/-- The pin interrupt is driven low on the GPIO that SYS_GPIO_IRQ selects (R548). -/
def pinIntLow (s : State) : Bool :=
  mode s != mLockdown && isSet s R.SYS_GPIO_IRQ_EN &&
    (List.range 56).any (fun k => isSet s (R.CPS_IRQ_ROUTE_PIN_EN k) && pendingIrq s k)

/-- What the device drives on a GPIO (R548, R551): none for an input, and for an open-drain output that is high. -/
def gpioDrives (s : State) (g : Nat) : Option Bool :=
  if 24 ≤ g ∨ !(getF s R.SYS_GPIO_DIR_DIR).testBit g then none
  else if isSet s R.SYS_GPIO_IRQ_EN ∧ getF s R.SYS_GPIO_IRQ_PIN = g then (if pinIntLow s then some false else none)
  else
    let v := (getF s R.SYS_GPIO_OUT_OUT).testBit g != s.sys.pulses.contains g
    if v && (getF s R.SYS_GPIO_OD_OD).testBit g then none else some v

/-- Sets a level status field of a block and counts its change under the block's event source. -/
def setLevel (src : Nat) (f : Fld) (v : Nat) (s : State) : State :=
  if getF s f = v % 2 ^ f.width then s else raise src (setF s f v)

/-- Changes the mode (Tables 2.1, 2.8): MODE, PREV_MODE, HOLD_CAUSE, and the count of the transition (R51). -/
def enterMode (m holdCause : Nat) (s : State) : State :=
  raise 0 (setF (setF (setF s R.SYS_MODE_PREV_MODE (mode s)) R.SYS_MODE_MODE m) R.SYS_MODE_HOLD_CAUSE holdCause)

end Sys2Proof.Machine
end

