-- ==== Sys2Proof/Machine/Operands.lean ====
section
/-!
DEFINITION. The operand forms: packet header and parameter fields (R467), references (R471), and the status codes
(R494). Every command reads its operands through these.
-/

namespace Sys2Proof.Machine

/-- Bits lo to lo + n - 1 of a word. -/
def wbits (w : Word) (lo n : Nat) : Nat := w.toNat / 2 ^ lo % 2 ^ n

end Sys2Proof.Machine

namespace Sys2Proof

open Sys2Proof.Machine

/-! ### Packet header (Table 15.1) -/

abbrev Pkt.version (k : Pkt) : Nat := wbits k.w0 24 8
abbrev Pkt.signed (k : Pkt) : Bool := wbits k.w0 16 1 == 1
abbrev Pkt.quiet (k : Pkt) : Bool := wbits k.w0 17 1 == 1
abbrev Pkt.opcode (k : Pkt) : Nat := wbits k.w0 0 16
abbrev Pkt.tag (k : Pkt) : Nat := k.w1.toNat
abbrev Pkt.target (k : Pkt) : Nat := wbits k.w2 0 12
abbrev Pkt.scope (k : Pkt) : Nat := wbits k.w2 12 2
abbrev Pkt.group (k : Pkt) : Nat := wbits k.w2 16 5
abbrev Pkt.origin (k : Pkt) : Bool := wbits k.w2 24 1 == 1
abbrev Pkt.plen (k : Pkt) : Nat := wbits k.w3 0 13

/-- No header bit shown as zero in Table 15.1 is set; ORIGIN is exempt (R468 step 4). -/
def Pkt.clean (k : Pkt) : Bool :=
  wbits k.w0 18 6 == 0 && wbits k.w2 14 2 == 0 && wbits k.w2 21 3 == 0 && wbits k.w2 25 7 == 0 &&
    wbits k.w3 13 19 == 0 && (k.scope == 2 || k.group == 0)

/-- TARGET fits SCOPE (Table 15.4). -/
def Pkt.targetFits (k : Pkt) : Bool :=
  match k.scope with
  | 0 => k.target != 0xFFF
  | 1 => k.target == 0xFFF
  | 2 => k.target == 0xFFF
  | _ => true

/-- Steps 1 and 2 of R468: the packet as a packet. -/
def Pkt.lengthOk (k : Pkt) : Bool := decide (k.plen ≤ 4080) && decide (k.plen ≤ k.body.length)

/-- INNER_LEN of the envelope (Table 14.3). -/
abbrev Pkt.innerLen (k : Pkt) : Nat := u16 k.body 6

/-- The parameters of the command: the packet's own, or the inner parameters of its envelope. -/
def Pkt.par (k : Pkt) : List Byte := if k.signed then sub k.body 0x70 k.innerLen else k.body.take k.plen

/-- Parameter bytes as little-endian numbers. -/
abbrev Pkt.p8 (k : Pkt) (off : Nat) : Nat := u8 k.par off
abbrev Pkt.p16 (k : Pkt) (off : Nat) : Nat := u16 k.par off
abbrev Pkt.p32 (k : Pkt) (off : Nat) : Nat := u32 k.par off
abbrev Pkt.p64 (k : Pkt) (off : Nat) : Nat := u64 k.par off

/-- A packet of a host: it came through CP0 or CP1 of the device. -/
def Pkt.fromHost (k : Pkt) : Bool :=
  match k.req with
  | .cp0 => true
  | .cp1 => true
  | _ => false

/-- The packet as bytes, header first (R467). -/
def Pkt.bytes (k : Pkt) : List Byte :=
  leBytes 4 k.w0.toNat ++ leBytes 4 k.w1.toNat ++ leBytes 4 k.w2.toNat ++ leBytes 4 k.w3.toNat ++ k.body.take k.plen

end Sys2Proof

namespace Sys2Proof.Machine

/-- A packet from bytes delivered by a requester. -/
def packetOf (r : Req) (port : Nat) (l : List Byte) : Pkt :=
  { req := r, port := port, w0 := BitVec.ofNat 32 (u32 l 0), w1 := BitVec.ofNat 32 (u32 l 4)
    w2 := BitVec.ofNat 32 (u32 l 8), w3 := BitVec.ofNat 32 (u32 l 12), body := l.drop 16 }

/-! ### References (R471) -/

/-- A reference (Table 15.3). -/
structure Ref where
  owner : Nat
  space : Nat
  zero : Nat
  window : Nat
  len : Nat
  addr : Nat
  deriving DecidableEq, Repr

/-- The reference at an offset of the parameters. -/
def refAt (l : List Byte) (off : Nat) : Ref :=
  { owner := u16 l off % 4096, space := u16 l off / 4096 % 4, zero := u16 l off / 16384, window := u16 l (off + 2)
    len := u32 l (off + 4), addr := u64 l (off + 8) }

/-! ### Status codes (Table 15.8) -/

namespace St

abbrev ok : Nat := 0x0000
abbrev pending : Nat := 0x0001
abbrev part : Nat := 0x0002
abbrev badVersion : Nat := 0x0010
abbrev badLength : Nat := 0x0011
abbrev badOpcode : Nat := 0x0012
abbrev badParam : Nat := 0x0013
abbrev unsupported : Nat := 0x0014
abbrev badState : Nat := 0x0020
abbrev busy : Nat := 0x0021
abbrev inUse : Nat := 0x0022
abbrev held : Nat := 0x0023
abbrev notHeld : Nat := 0x0024
abbrev stale : Nat := 0x0025
abbrev lockdown : Nat := 0x0026
abbrev notNumbered : Nat := 0x0027
abbrev tableFull : Nat := 0x0030
abbrev noMemory : Nat := 0x0031
abbrev rateExceeded : Nat := 0x0032
abbrev lbTooShort : Nat := 0x0033
abbrev tooLate : Nat := 0x0034
abbrev geomMismatch : Nat := 0x0035
abbrev incompatible : Nat := 0x0036
abbrev dmaError : Nat := 0x0040
abbrev notExported : Nat := 0x0041
abbrev remoteError : Nat := 0x0042
abbrev noRoute : Nat := 0x0043
abbrev noReply : Nat := 0x0044
abbrev flashError : Nat := 0x0045
abbrev sigBad : Nat := 0x0050
abbrev notBound : Nat := 0x0051
abbrev notOwned : Nat := 0x0052
abbrev notPermitted : Nat := 0x0053
abbrev replay : Nat := 0x0054
abbrev expired : Nat := 0x0055
abbrev restricted : Nat := 0x0056
abbrev refMismatch : Nat := 0x0057
abbrev throttled : Nat := 0x0058

end St

end Sys2Proof.Machine
end

