-- ==== Sys2Proof/Machine/Link.lean ====
section
/-!
DEFINITION. The transmit side of a Twill link (R252 to R258, R286 to R288): messages become flits that are numbered, use
credit and stay in the replay buffer; session keys and AES-256-GCM. A message is sent whole, so the flits of channels do
not interleave; the order among messages that wait is that of R255.
-/

namespace Sys2Proof.Machine

/-! ### Ports -/

def Lane.empty : Lane :=
  { calibrated := false, calibrating := false, runs := [], aligned := false, data := false, scr := 0, fails := 0
    retry := false, last8 := [] }

def Port.empty : Port :=
  { target := 0, measured := none, ackTx := false, ackRx := false, sending := false, lanes := [], calReq := []
    calDefer := [], calRes := [], trainFails := 0, maskRx := 0, out := 0, ready := 0, before := 0, stepWait := 0
    stepUpAt := none, helloRx := false, rtogTx := false, rtogRx := false, expected := 0, nextSeq := 0, replay := []
    timeouts := 0, used := [], credRx := [], accepted := [], txq := [], rxMsg := [], inbox := [], session := none
    helloTx := [], priv := 0, peerHello := none, th := [], verified := false, authFails := 0, inBackoff := false
    rekeyTx := none, rekeyRx := none, tagFails := [], run := 0, replies := [], closed := none, peerSender := none
    numbering := [], heal := false }

/-- The port's own state. -/
def portOf (s : State) (p : Nat) : Port := (Tab.get s.twl.ports p).getD Port.empty

/-- Changes the port's own state. -/
def portUpd (p : Nat) (f : Port → Port) (s : State) : State :=
  { s with twl := { s.twl with ports := Tab.put s.twl.ports p (f (portOf s p)) } }

/-- The eight Twill ports. -/
abbrev ports : List Nat := [0, 1, 2, 3, 4, 5, 6, 7]

/-- Link state of a port (Table 9.8). -/
abbrev lstate (s : State) (p : Nat) : Nat := getF s (R.TWL_LL_STATUS_LSTATE p)

/-- The link of port p is UP, or in a RETRAIN from UP, which is no loss of the link (R269). -/
def linkUp (s : State) (p : Nat) : Bool := lstate s p == 3 || (lstate s p == 5 && (portOf s p).before == 3)

/-- The slot number of a port now: slots of 51.2 ns at full rate, counted from LT 0 (R215). -/
def slotNow (s : State) (p : Nat) : Nat :=
  s.tim.lt * 10 / (33554432 * 2 ^ getF s (R.TWL_PHY_STATUS_RATE p)) % 65536

/-! ### Security settings in force -/

/-- The secure store in use: loaded and authenticated (R436). -/
def storeOf (s : State) : Option Store := if s.sec.loaded && s.nv.storeGood then s.nv.store else none

/-- PFLAGS of set-policy in force: bit 0 OWNER_STRICT, 1 PIXEL_ENC_REQ, 2 MODE_SIGNED, 3 MESH_EN. -/
def pflag (s : State) (bit : Nat) : Bool :=
  match storeOf s with
  | some st => st.pflags.testBit bit
  | none => false

/-- VC0 messages are encrypted on transmit: PIXEL_ENC of the port, or the policy (R286, R450). -/
def encVc0 (s : State) (p : Nat) : Bool := isSet s (R.TWL_LL_CTRL_PIXEL_ENC p) || pflag s 1

/-! ### Session keys (R446) -/

/-- HMAC-SHA-384 with a key of at most 128 bytes. (DESIGN CHOICE log 9) -/
def hmac (key msg : List Byte) : List Byte :=
  let k := key ++ zeros (128 - key.length)
  Config.sha384 (k.map (· ^^^ 0x5C) ++ Config.sha384 (k.map (· ^^^ 0x36) ++ msg))

/-- HKDF-SHA-384 expanded to 72 bytes: two blocks of 48. (DESIGN CHOICE log 9) -/
def hkdf72 (salt ikm info : List Byte) : List Byte :=
  let prk := hmac salt ikm
  let t1 := hmac prk (info ++ [1])
  (t1 ++ hmac prk (t1 ++ info ++ [2])).take 72

/-- ASCII bytes of a string. -/
def ascii (s : String) : List Byte := s.toList.map (fun c => BitVec.ofNat 8 c.toNat)

/-- The 72 bytes both ends derive. -/
def KeySrc.okm (k : KeySrc) : List Byte := hkdf72 k.th (Config.ecdhX k.priv k.peer) (ascii "TWILL-SESSION-1")

/-- Key and salt of the direction this end sends (`tx`) or receives. -/
def KeySrc.key (k : KeySrc) (tx : Bool) : List Byte := if k.lo == tx then sub k.okm 0 32 else sub k.okm 32 32
def KeySrc.salt (k : KeySrc) (tx : Bool) : List Byte := if k.lo == tx then sub k.okm 64 4 else sub k.okm 68 4

/-- The 96-bit IV of message `n` of a channel (R286): the salt with its low two bits replaced, and the count. -/
def KeySrc.iv (k : KeySrc) (tx : Bool) (vc n : Nat) : List Byte :=
  let w := leVal (k.salt tx)
  leBytes 4 (w - w % 4 + vc) ++ leBytes 8 n

/-- The counter-mode transform of a message, the same in both directions. -/
def gcmXor (key iv l : List Byte) : List Byte := l.mapIdx (fun i b => b ^^^ Config.gcmPad key iv i)

/-- Ciphertext and tag of a message. (DESIGN CHOICE log 9) -/
def gcmSeal (key iv l : List Byte) : List Byte :=
  let c := gcmXor key iv l
  c ++ Config.gcmTag key iv c

/-! ### Messages -/

/-- Largest LEN of a channel (Table 9.2). -/
def vcMax (vc : Nat) : Nat := match vc with | 1 => 4096 | 2 => 2048 | 3 => 128 | _ => 1552

/-- Receive buffer of a channel in flits (Table 9.2). -/
def vcBuffer (vc : Nat) : Nat := match vc with | 0 => 960 | 1 => 256 | 2 => 96 | _ => 32

/-- A message of this device's own. -/
def mkMsg (s : State) (vc mtype dest : Nat) (payload : List Byte) : Msg :=
  { vc := vc, mtype := mtype, dest := dest, src := s.cps.devnum, hopaddr := false, hops := 0, payload := payload }

/-- As `mkMsg`, addressed by hop. -/
def mkHop (s : State) (mtype hop : Nat) (payload : List Byte) : Msg :=
  { mkMsg s 1 mtype hop payload with hopaddr := true }

/-- The bytes of a message: on VC0 the cell message itself, elsewhere envelope and payload (Table 9.3). -/
def msgBytes (m : Msg) : List Byte :=
  if m.vc = 0 then m.payload
  else leBytes 4 (m.dest % 4096 + m.src % 4096 * 4096 + m.mtype * 16777216) ++
    leBytes 4 (m.payload.length + (if m.hopaddr then 8192 else 0) + m.hops * 65536) ++ m.payload

/-- The message is encrypted on port p (R286). -/
def encrypts (s : State) (p : Nat) (m : Msg) : Bool :=
  (portOf s p).session.isSome && (if m.vc = 0 then encVc0 s p else m.mtype != 0x1C)

/-- Flits of a message of n bytes (R252). -/
abbrev flitsOf (n : Nat) : Nat := (n + 55) / 56

/-- Flits a message takes on port p. -/
def msgFlits (s : State) (p : Nat) (m : Msg) : Nat :=
  flitsOf ((msgBytes m).length + (if encrypts s p m then 16 else 0))

/-- Cuts a message into flits from SEQ `seq` on. -/
def cutFlits (vc : Nat) (enc kph : Bool) : Nat → Nat → List Byte → List TxFlit
  | 0, _, _ => []
  | n + 1, seq, l =>
    { seq := seq, vc := vc, som := true, enc := enc, kph := kph, payload := l.take 56 ++ zeros (56 - l.length) } ::
      (cutFlits vc false false n ((seq + 1) % 4096) (l.drop 56)).map (fun f => { f with som := false })

/-- The link carries the message now (Table 9.8). -/
def canSend (s : State) (p : Nat) (m : Msg) : Bool :=
  match lstate s p with
  | 2 => m.vc == 1 && m.mtype == 0x1C
  | 3 => true
  | 4 => (m.vc == 1 && m.mtype == 0x1C) || m.vc == 2
  | _ => false

/-- There is credit and room for a message (R256, R257). -/
def hasRoom (s : State) (p : Nat) (m : Msg) : Bool :=
  let q := portOf s p
  decide (Tab.getD q.used m.vc 0 + msgFlits s p m ≤ vcBuffer m.vc) &&
    decide (q.replay.length + msgFlits s p m ≤ 2048)

/-- Sends one message: encrypted where R286 says so, cut into flits that stay in the replay buffer, and counted. (DEDUCED log 35) -/
def transmit (p : Nat) (m : Msg) (s : State) : State :=
  let q := portOf s p
  let n := msgFlits s p m
  let enc := encrypts s p m
  let plainB := msgBytes m
  let body := match q.session with
    | some ss => if enc then gcmSeal (ss.src.key true) (ss.src.iv true m.vc (Tab.getD ss.txCount m.vc 0)) plainB else plainB
    | none => plainB
  let kph := match q.session with | some ss => ss.kph | none => false
  let s1 := portUpd p (fun q => { q with
      replay := q.replay ++ cutFlits m.vc enc (enc && kph) n q.nextSeq body
      nextSeq := (q.nextSeq + n) % 4096
      used := Tab.put q.used m.vc (Tab.getD q.used m.vc 0 + n)
      session := q.session.map (fun ss =>
        if enc then { ss with txCount := Tab.put ss.txCount m.vc (Tab.getD ss.txCount m.vc 0 + 1) } else ss) }) s
  send (incF (add48 s1 (R.LINK_FTX_LO_COUNT p) (R.LINK_FTX_HI_COUNT p) n) (R.LINK_MSG_TX_COUNT p m.vc)) (.msg p m)

/-- The first message waiting on a channel. -/
def firstOn (l : List Msg) (vc : Nat) : Option Msg := l.find? (fun m => m.vc == vc)

/-- The next message port p can send, by the order of R255: VC3, VC1, VC2, VC0. -/
def nextMsg (s : State) (p : Nat) : Option Msg :=
  ([3, 1, 2, 0].filterMap (fun vc => match firstOn (portOf s p).txq vc with
    | some m => if canSend s p m && hasRoom s p m then some m else none
    | none => none)).head?

/-- Sends what can be sent of the messages that wait. (DEDUCED log 35) -/
def pumpN (p : Nat) : Nat → State → State
  | 0, s => s
  | n + 1, s => match nextMsg s p with
    | none => s
    | some m => pumpN p n (transmit p m (portUpd p (fun q => { q with txq := q.txq.erase m }) s))

/-- As `pumpN`, for every message that waits. -/
def pump (p : Nat) (s : State) : State := pumpN p (portOf s p).txq.length s

/-- Gives a message to port p: lost where the link carries nothing of its kind, waiting where it has no room or the link
retrains. -/
def sendMsg (p : Nat) (m : Msg) (s : State) : State :=
  if canSend s p m || lstate s p == 5 then pump p (portUpd p (fun q => { q with txq := q.txq ++ [m] }) s) else s

/-- Sends a LINK flit payload. -/
def sendLink (p : Nat) (payload : List Byte) (s : State) : State := send s (.link p payload)

end Sys2Proof.Machine
end

