-- ==== Sys2Proof/Machine/Wire.lean ====
section
/-!
DEFINITION. What leaves the block: Twill messages and LINK flits (R252 to R259, R270 to R273), replies on every
transport (R469, R481 to R486) and Muslin reply frames (R522).
-/

namespace Sys2Proof.Machine

/-! ### Twill -/

/-- The other topology port of a tile. -/
def otherPort (s : State) (p : Nat) : Option Nat := (s.twl.topo.filter (· != p)).head?

/-- TOPO of a port in the map in force (Table 7.2). -/
def portTopo (s : State) (p : Nat) : Nat := u8 s.cel.header (64 + 8 * p)
def portPartner (s : State) (p : Nat) : Nat := u8 s.cel.header (64 + 8 * p + 1)
def portTiles (s : State) (p : Nat) : Nat := u8 s.cel.header (64 + 8 * p + 2)
def portPrimary (s : State) (p : Nat) : Bool := u8 s.cel.header (64 + 8 * p + 3) == 1

/-- A map is in force. -/
abbrev mapValid (s : State) : Bool := isSet s R.CEL_STATUS_MAP_VALID

/-- The slot of a device number among the slots of the map in force. -/
def slotOf (s : State) (dev : Nat) : Option Nat :=
  ((s.cel.slots.map Prod.fst).filter (fun i => getF s (R.CEL_S_W0_DEVNUM i) == dev)).head?

/-- State of a slot (Table 7.14): 2 SERVED, 3 UNREACHABLE. -/
abbrev slotState (s : State) (i : Nat) : Nat := getF s (R.CEL_S_W0_STATE i)

/-- The port of a sender that reaches a device: a served slot's route, or the port facing a peer sender (R271). -/
def senderRoute (s : State) (dev : Nat) : Option Nat :=
  match slotOf s dev with
  | some i =>
    if slotState s i = 2 ∧ linkUp s (getF s (R.CEL_S_W0_ROUTE i)) then some (getF s (R.CEL_S_W0_ROUTE i)) else none
  | none => (ports.filter (fun p => linkUp s p &&
      ((portOf s p).peerSender == some dev))).head?

/-- The ports on which a sender sends its own broadcasts (R271). -/
def bcastPorts (s : State) : List Nat :=
  ports.filter (fun p => linkUp s p &&
    (if mapValid s then
      portTopo s p != 0 && !(portTopo s p == 2 && decide (portPartner s p < p) && linkUp s (portPartner s p))
     else true))

/-- Sends a message of a sender to a device, or reports that nothing reaches it. -/
def sendTo (dev : Nat) (m : Msg) (s : State) : State :=
  match senderRoute s dev with
  | some p => sendMsg p m s
  | none => s

/-- Sends a broadcast of a sender. -/
def broadcast (m : Msg) (s : State) : State := (bcastPorts s).foldl (fun a p => sendMsg p m a) s

/-! ### Muslin -/

/-- A Muslin reply frame (Table 16.8): operation, sequence, responder, status and the bytes after it. -/
def mslFrameOf (mop seq dest status : Nat) (data : List Byte) : List Byte :=
  let body := [BitVec.ofNat 8 0x4D, BitVec.ofNat 8 (mop + 0x80)] ++ leBytes 2 seq ++ leBytes 2 (4 + data.length) ++
    leBytes 2 dest ++ leBytes 2 status ++ [0, 0] ++ data
  body ++ leBytes 4 (crc32c body)

/-- The port of a sender towards a device for a TUNNEL message: its route, or the port of its slot whose link is INCOMPAT
(R525). (DEDUCED log 26) -/
def tunnelRoute (s : State) (dev : Nat) : Option Nat :=
  match senderRoute s dev with
  | some p => some p
  | none => match (slotOf s dev).bind (Tab.get s.cel.slots) with
    | some sl => if lstate s (u8 sl.entry 2) = 4 then some (u8 sl.entry 2) else none
    | none => none

/-- Sends a TUNNEL message of this device: a sender by its route, a tile out of both topology ports (R525). -/
def sendTunnel (dest : Nat) (frame : List Byte) (s : State) : State :=
  let m := mkMsg s 2 0x20 dest frame
  if sender s then (match tunnelRoute s dest with | some p => sendMsg p m s | none => s)
  else s.twl.topo.foldl (fun a p => if linkUp s p || lstate s p == 4 then sendMsg p m a else a) s

/-- Answers a Muslin request, on the port or through the tunnel it came by (R523, R525). -/
def mslAnswer (mop seq : Nat) (via : Option Nat) (status : Nat) (data : List Byte) (s : State) : State :=
  let f := mslFrameOf mop seq s.cps.devnum status data
  match via with
  | none => send s (.muslin f)
  | some src => sendTunnel src (f.take (f.length - 4)) s

/-- Answers the Muslin request in hand. -/
def mslReply (status : Nat) (data : List Byte) (s : State) : State :=
  match s.upd.mslBusy with
  | none => s
  | some (seq, _, mop, via) => mslAnswer mop seq via status data { s with upd := { s.upd with mslBusy := none } }

/-! ### Replies (R469) -/

/-- The 16-byte header and the results. `rflags` are bits [23:16] of word 0. -/
def replyBytes (s : State) (k : Pkt) (rflags status : Nat) (data : List Byte) : List Byte :=
  leBytes 4 (0x2000000 + rflags * 65536 + k.opcode) ++ leBytes 4 k.tag ++
    leBytes 4 (s.cps.devnum + status * 65536) ++ leBytes 4 data.length ++ data

/-- Bytes as FIFO words, the last padded with zeros. -/
def wordsOf : Nat → List Byte → List Word
  | 0, _ => []
  | n + 1, l => if l.isEmpty then [] else BitVec.ofNat 32 (leVal (l.take 4)) :: wordsOf n (l.drop 4)

/-- Words a reply of this length occupies. -/
def replyWords (n : Nat) : Nat := (16 + n + 3) / 4

/-- The reply ring takes replies: enabled, link up, sender role. -/
def ringOn (s : State) : Bool := sender s && isSet s R.CPS_RQ_CTRL_ENABLE && isSet s R.PCI_STATUS_LINK_UP

/-- Entries of a ring. -/
abbrev ringSize (log : Nat) : Nat := 2 ^ log

/-- Free entries of the reply ring. -/
def ringFree (s : State) : Nat :=
  (getF s R.CPS_RQ_HEAD_HEAD + ringSize s.cps.rqLog - getF s R.CPS_RQ_TAIL_TAIL - 1) % ringSize s.cps.rqLog

/-- Host address of a ring's base. -/
def ringBase (s : State) (lo hi : Nat) : Nat := (regGet s lo).toNat / 4096 * 4096 + (regGet s hi).toNat * 4294967296

/-- Writes a reply into the reply ring: body first, header last (R481). -/
def ringPut (k : Pkt) (rflags status : Nat) (data : List Byte) (s : State) : State :=
  let t := getF s R.CPS_RQ_TAIL_TAIL
  let a := ringBase s R.CPS_RQ_BASE_LO R.CPS_RQ_BASE_HI + 4096 * t
  let b := replyBytes s k (rflags + (if s.cps.rqPhase then 4 else 0)) status data
  let s1 := send (send s (.hostWrite (a + 16) (b.drop 16))) (.hostWrite a (b.take 16))
  let t' := (t + 1) % ringSize s.cps.rqLog
  let s2 := setF s1 R.CPS_RQ_TAIL_TAIL t'
  let s3 := { s2 with cps := { s2.cps with rqPhase := if t' = 0 then !s2.cps.rqPhase else s2.cps.rqPhase } }
  raise 2 s3

/-- Puts a reply into the CP1 reply FIFO where it fits whole (R483). -/
def fifoPut (k : Pkt) (rflags status : Nat) (data : List Byte) (s : State) : State :=
  let w := wordsOf 2048 (replyBytes s k rflags status data)
  if s.cps.cp1Rpl.length + w.length ≤ 2048 then { s with cps := { s.cps with cp1Rpl := s.cps.cp1Rpl ++ w } } else s

/-- Sends a REPLY message for a packet that came over VC1 (R484, R273). -/
def vc1Put (k : Pkt) (src : Nat) (rflags status : Nat) (data : List Byte) (s : State) : State :=
  let m := mkMsg s 1 0x02 src (replyBytes s k rflags status data)
  if sender s then sendTo src m s else if linkUp s k.port then sendMsg k.port m s else s

/-- Sends a reply on the transport of its packet. (DEDUCED log 22) -/
def putReply (k : Pkt) (rflags status : Nat) (data : List Byte) (s : State) : State :=
  match k.req with
  | .cp0 => if ringOn s then ringPut k rflags status data s else s
  | .cp1 => fifoPut k rflags status data s
  | .vc1 src _ => vc1Put k src rflags status data s
  | .muslin => mslReply status data s

/-- Gives back the reply entry reserved for a CP0 command (R481). -/
def unreserve (k : Pkt) (s : State) : State :=
  match k.req with
  | .cp0 => { s with cps := { s.cps with rqReserved := s.cps.rqReserved - 1 } }
  | _ => s

/-- Keeps the final reply of a COMMAND message for R486. -/
def keepReply (k : Pkt) (status : Nat) (data : List Byte) (s : State) : State :=
  match k.req with
  | .vc1 src _ =>
    { s with cps := { s.cps with dups := s.cps.dups.map (fun d =>
        if d.src = src ∧ d.tag = k.tag ∧ d.reply = none then { d with reply := some (replyBytes s k 0 status data) } else d) } }
  | _ => s

/-- The issuing device collects replies to this packet: a broadcast or group packet of its own host (R479). -/
def collected (k : Pkt) : Bool := k.fromHost && (k.scope == 1 || k.scope == 2)

/-- Notes a status in the aggregate of a packet. -/
def aggNote (tag : Nat) (dev status : Nat) (s : State) : State :=
  { s with cps := { s.cps with aggs := s.cps.aggs.map (fun e =>
      if e.1 = tag then (e.1, { e.2 with replies := Tab.put e.2.replies dev status
                                         interim := e.2.interim.filter (· != dev) }) else e) } }

/-- The aggregate a packet belongs to. -/
def aggOf (s : State) (k : Pkt) : Option Nat := ((s.cps.aggs.filter (fun e => e.2.pkt == k)).map Prod.fst).head?

/-- The one final reply of a command (R469), with QUIET (R470), discarded replies (R482, R483) and collection. -/
def sendFinal (k : Pkt) (hasResult : Bool) (status : Nat) (data : List Byte) (s : State) : State :=
  if collected k then
    match aggOf s k with
    | some t => aggNote t s.cps.devnum status s
    | none => s
  else
    let s1 := keepReply k status data (unreserve k s)
    if s1.cps.mute.contains k then { s1 with cps := { s1.cps with mute := s1.cps.mute.erase k } }
    else if k.quiet && status == 0 && !hasResult && (k.scope == 0 || k.scope == 3) then s1
    else putReply k 0 status data s1

/-- An interim reply (R485), which is dropped where the reply ring has no entry beyond the reserved ones. -/
def sendInterim (k : Pkt) (s : State) : State :=
  if k.quiet || s.cps.mute.contains k then s
  else match k.req with
    | .muslin => s
    | .cp0 => if ringOn s && decide (s.cps.rqReserved < ringFree s) then ringPut k 1 St.pending [] s else s
    | _ => putReply k 1 St.pending [] s

end Sys2Proof.Machine
end

