-- ==== Sys2Proof/Machine/Phy.lean ====
section
/-!
DEFINITION. The physical layer of a Twill port (R206 to R233) as far as every block needs it: lanes, the start of a
training, calibration bookkeeping, and entry to RETRAIN.
-/

namespace Sys2Proof.Machine

/-! ### Lanes -/

/-- A data lane's own state. -/
def laneOf (s : State) (p l : Nat) : Lane := (Tab.get (portOf s p).lanes l).getD Lane.empty

/-- Changes a data lane's own state. -/
def laneUpd (p l : Nat) (f : Lane → Lane) (s : State) : State :=
  portUpd p (fun q => { q with lanes := Tab.put q.lanes l (f ((Tab.get q.lanes l).getD Lane.empty)) }) s

/-- The four data lanes. -/
abbrev dataLanes : List Nat := [0, 1, 2, 3]

/-- Physical state of a port (Table 8.4). -/
abbrev pstate (s : State) (p : Nat) : Nat := getF s (R.TWL_PHY_STATUS_PSTATE p)

/-- Gives a RL field of TWL_PHY_STATUS a value, counting its change (R244). -/
def phyLevel (p : Nat) (f : Nat → Fld) (v : Nat) (s : State) : State := setLevel (24 + p) (f p) v s

/-- A mask with bit l set or cleared. -/
def maskBit (m l : Nat) (b : Bool) : Nat := if b then m ||| 2 ^ l else m - (if m.testBit l then 2 ^ l else 0)

/-- Sets or clears bit l of a RL mask field of TWL_PHY_STATUS. -/
def phyBit (p : Nat) (f : Nat → Fld) (l : Nat) (b : Bool) (s : State) : State :=
  phyLevel p f (maskBit (getF s (f p)) l b) s

/-- A receive lane's lock, in its record and in RX_LANES. -/
def laneLock (p l : Nat) (b : Bool) (s : State) : State :=
  phyBit p R.TWL_PHY_STATUS_RX_LANES l b (setB s (R.LANE_W0_LOCK p l) b)

/-- A receive lane is in lock. -/
def inLock (s : State) (p l : Nat) : Bool := (getF s (R.TWL_PHY_STATUS_RX_LANES p)).testBit l

/-- Receive data lanes that carry traffic. -/
def trafficLanes (s : State) (p : Nat) : List Nat := dataLanes.filter (fun l => inLock s p l && (laneOf s p l).data)

/-- Number of ones of a lane mask. -/
def maskCount (m : Nat) : Nat := (dataLanes.filter m.testBit).length

/-! ### The calibrate command (R232, R233) -/

/-- The calibrate command that runs for port p: its packet and its lane mask. -/
def calCommand (s : State) (p : Nat) : Option (Pkt × Nat) :=
  match Tab.get s.cps.bg 7 with
  | some k => if k.opcode == 0x0700 && k.p8 0 == p then some (k, k.p8 1) else none
  | none => none

/-- Outcomes of the calibrate command, one byte for each lane: 3 where it was not requested. -/
def calResults (s : State) (p mask : Nat) : List Byte :=
  dataLanes.map (fun l => BitVec.ofNat 8 (if mask.testBit l then Tab.getD (portOf s p).calRes l 2 else 3))

/-- The calibrate command ends when every lane it named has an outcome. -/
def calReply (p : Nat) (s : State) : State :=
  match calCommand s p with
  | none => s
  | some (k, mask) =>
    if (dataLanes.filter mask.testBit).all (fun l => (Tab.get (portOf s p).calRes l).isSome) then
      sendFinal k true 0 (calResults s p mask) { s with cps := { s.cps with bg := Tab.del s.cps.bg 7 } }
    else s

/-- Notes the outcome of a lane's calibration: 0 applied, 1 disagreement, 2 deferred. -/
def calOutcome (p l v : Nat) (s : State) : State :=
  calReply p (portUpd p (fun q => { q with calRes := Tab.put q.calRes l v }) s)

/-- Calibrations of a port are abandoned: it retrains (R233). -/
def calAbandon (p : Nat) (s : State) : State :=
  let open_ := dataLanes.filter (fun l => (Tab.get (portOf s p).calRes l).isNone)
  let s1 := portUpd p (fun q => { q with calReq := [], calDefer := [] }) s
  setF (open_.foldl (fun a l => calOutcome p l 2 a) s1) (R.TWL_PHY_STATUS_CAL_LANE p) 0xF

/-! ### Training (R217 to R219) -/

/-- Time transfer over a port loses the samples under way (R303). -/
def timDisturb (p : Nat) (s : State) : State :=
  { s with tim := { s.tim with ports := s.tim.ports.map (fun e =>
      if e.1 = p then (e.1, { e.2 with disturbed := true, dreq := e.2.dreq.map (fun d => { d with bad := true }) }) else e) } }

/-- A replay sends a T_DREQ that is not answered yet a second time (R303). -/
def timReplay (p : Nat) (s : State) : State :=
  { s with tim := { s.tim with ports := s.tim.ports.map (fun e =>
      if e.1 = p then (e.1, { e.2 with dreq := e.2.dreq.map (fun d => { d with bad := true }) }) else e) } }

/-- After a step change or a full retraining the filtered delay restarts (R303). -/
def timRestart (p : Nat) (s : State) : State :=
  timDisturb p { s with tim := { s.tim with ports := s.tim.ports.map (fun e =>
      if e.1 = p then (e.1, { e.2 with delays := [], nDelay := 0 }) else e) } }

/-- A lane at the start of a training: its calibration values stay. -/
def Lane.fresh (l : Lane) : Lane := { Lane.empty with calibrated := l.calibrated }

/-- No lane of the port carries anything. -/
def lanesDown (p : Nat) (s : State) : State :=
  let s1 := calAbandon p s
  let s2 := dataLanes.foldl (fun a l => laneUpd p l Lane.fresh (laneLock p l false a)) s1
  portUpd p (fun q => { q with measured := none, ackTx := false, ackRx := false, sending := false, out := 0, ready := 0 })
    (phyLevel p R.TWL_PHY_STATUS_TX_LANES 0 s2)

/-- The port starts step 1 of R218 at a rate step: WAIT while the clock lane is in loss of signal, else TRAIN. -/
def startTrain (p step : Nat) (s : State) : State :=
  let s1 := setF (lanesDown p s) (R.TWL_PHY_STATUS_RATE p) step
  send (setF s1 (R.TWL_PHY_STATUS_PSTATE p) (if isSet s1 (R.TWL_PHY_STATUS_CLK_LOS p) then 1 else 2)) (.phy p 1 step)

/-- The port is HELD: electrical idle, receiver ignored. -/
def holdPort (p : Nat) (s : State) : State :=
  send (setF (lanesDown p s) (R.TWL_PHY_STATUS_PSTATE p) 0) (.phy p 0 0)

/-- The step the port trains at by its own target (R219): slower is a larger number. -/
def ownStep (s : State) (p : Nat) : Nat := max (portOf s p).target (getF s (R.TWL_PHY_CTRL_RATE_MAX p))

/-- The port leaves HELD for WAIT (R217): its clock lane counts as in loss of signal until the detector says otherwise. -/
def releasePort (p : Nat) (s : State) : State :=
  startTrain p (ownStep s p)
    (phyLevel p R.TWL_PHY_STATUS_CLK_LOL 1 (phyLevel p R.TWL_PHY_STATUS_CLK_LOS 1 (setB s (R.LANE_W0_LOS p 4) true)))

/-- The port is kept HELD by the device: BOOT, LOCKDOWN, TX_IDLE, not a topology port once two are chosen, a
port with TOPO 0 of a sender at throttle step 1 or more (R403), or any port under debug level 2 (R461). -/
def mustHold (s : State) (p : Nat) : Bool :=
  !running s || getF s R.SEC_STATUS_DEBUG == 2 || isSet s (R.TWL_PHY_CTRL_TX_IDLE p) ||
    (!sender s && decide (2 ≤ s.twl.topo.length) && !s.twl.topo.contains p) ||
    (sender s && decide (1 ≤ s.cmp.stepIn) && portTopo s p == 0)

/-- Every port not kept HELD waits for a neighbour (R217): at link bring-up (R16, R27), and when a hold of all ports ends. -/
def twillBringUp (s : State) : State :=
  ports.foldl (fun a p => if mustHold a p || pstate a p != 0 then a else releasePort p a) s

/-! ### RETRAIN (R269) -/

/-- Gives LSTATE, TX_MASK or RX_MASK a value, counting its change (R290). -/
def linkLevel (p : Nat) (f : Nat → Fld) (v : Nat) (s : State) : State := setLevel (32 + p) (f p) v s

/-- A step change takes effect: RETRAIN, and training at the new step. SEQ, replay buffer, credit and session stay. The
announced EFF_SLOT is not waited for. -/
def enterRetrain (p step : Nat) (s : State) : State :=
  let b := if lstate s p = 5 then (portOf s p).before else lstate s p
  let s1 := portUpd p (fun q => { q with before := b, target := step, trainFails := 0 }) s
  let s2 := linkLevel p R.TWL_LL_STATUS_LSTATE 5 (incF s1 (R.TWL_LINK_CHG_STEPS p))
  startTrain p (ownStep s2 p) (timRestart p s2)

end Sys2Proof.Machine
end

