-- ==== Sys2Proof/Machine/Faults.lean ====
section
/-!
DEFINITION. The fault layer: severities (R555 to R558), first-fault records (R559 to R562), containment (R565), lock
violations (R540), tamper events and their policies (R453 to R457), zeroisation (R458), and entry to LOCKDOWN (R43).
-/

namespace Sys2Proof.Machine

/-! ### Policies and severities -/

/-- The default POLICY of sources 0 to 10 (Table 14.8). -/
def defaultPolicies : List Nat := [0, 0, 4, 2, 2, 0, 1, 0, 0, 0, 0]

/-- Owner state (R431): 0 UNOWNED, 1 OWNED, 2 IDENTITY_DEAD. Zero before the store is loaded. -/
def ostate (s : State) : Nat :=
  if s.nv.killed then 2 else match storeOf s with | some _ => 1 | none => 0

/-- POLICY of a tamper source in force. (DEDUCED log 41) -/
def policyOf (s : State) (src : Nat) : Nat :=
  match storeOf s with
  | some st => st.policies.getD src 0
  | none => defaultPolicies.getD src 0

/-- REKEY_H in force; 24 by default. -/
def rekeyHours (s : State) : Nat :=
  match storeOf s with
  | some st => st.rekeyH
  | none => 24

/-- The device is restricted (R457). -/
def restricted (s : State) : Bool :=
  match storeOf s with
  | some st => st.restricted
  | none => s.nv.restricted

/-- Fault severity of a policy (Table 14.9). -/
def policySeverity (p : Nat) : Nat := if p = 0 then 0 else if p = 1 then 1 else 3

/-- The severity field of a source (R557). -/
def sevField (b src : Nat) : Fld :=
  if src < 16 then ⟨dirKey 0 (0x200 + 8 * b), 2 * src + 1, 2 * src⟩
  else ⟨dirKey 0 (0x204 + 8 * b), 2 * (src - 16) + 1, 2 * (src - 16)⟩

/-- The severity of a source: its field, or its tamper policy's (R558). -/
def sevOf (s : State) (b src : Nat) : Nat :=
  if b = 14 ∧ 1 ≤ src ∧ src ≤ 11 then policySeverity (policyOf s (src - 1)) else getF s (sevField b src)

/-! ### Ends of service and of unlocks -/

/-- A debug unlock ends (R462): JTAG is locked again, and after level 2 the Twill ports are held no longer. -/
def endDebug (s : State) : State :=
  let lvl := getF s R.SEC_STATUS_DEBUG
  let t := setF (setF s R.SEC_STATUS_DEBUG 0) R.SEC_DEBUG_LEFT_MIN 0
  let u := { t with sec := { t.sec with debugEnd := none, jtag := if lvl = 0 then t.sec.jtag else .bypass } }
  if lvl = 2 then twillBringUp u else u

/-! ### Zeroisation (Table 14.10) -/

/-- Z1: session keys and salts, ephemeral keys, debug nonces and any debug unlock. (DEDUCED log 41) -/
def zero1 (s : State) : State :=
  let t := endDebug (setF s R.SEC_STATUS_AUTH_UP 0)
  { t with sec := { t.sec with nonce := none }
           twl := { t.twl with ports := t.twl.ports.map (fun e =>
             (e.1, { e.2 with session := none, rekeyTx := none, rekeyRx := none })) } }

/-- Z2: in addition the store key, and with it everything the store holds. -/
def zero2 (s : State) : State :=
  let t := zero1 s
  { t with nv := { t.nv with store := none, storeGood := true, epoch := t.nv.epoch + 1, restricted := false } }

/-- Z3: in addition the device identity key. -/
def zero3 (s : State) : State :=
  let t := zero2 s
  { t with nv := { t.nv with killed := true } }

/-- Zeroisation at a level; none at level 0. -/
def zeroise (level : Nat) (s : State) : State :=
  match level with
  | 0 => s
  | 1 => zero1 s
  | 2 => zero2 s
  | _ => zero3 s

/-! ### LOCKDOWN (Table 2.5) -/

/-- Ports in link state UP. -/
def upPorts (s : State) : List Nat := ports.filter (linkUp s)

/-- The LOCKDOWN notice, 16 times on every UP port (R43, R262). -/
def sendNotices (cause : Nat) (s : State) : State :=
  (upPorts s).foldl (fun a p =>
    (List.range 16).foldl (fun b _ => sendMsg p (mkHop b 0x0D 1 (leBytes 4 cause)) b) a) s

/-- Every Twill port falls silent. -/
def twillSilent (s : State) : State :=
  ports.foldl (fun a p => holdPort p (portUpd p (fun q => { q with txq := [], inbox := [], rxMsg := [], replay := [] })
    (linkLevel p R.TWL_LL_STATUS_LSTATE 0 a))) s

/-- GPIOs return to their reset state (R45). -/
def gpioReset (s : State) : State :=
  let z := fun (a : State) f => setF a f 0
  let t := z (z (z (z (z (z s R.SYS_GPIO_DIR_DIR) R.SYS_GPIO_OUT_OUT) R.SYS_GPIO_OD_OD) R.SYS_GPIO_RISE_RISE)
    R.SYS_GPIO_FALL_FALL) R.SYS_GPIO_IRQ_EN
  { t with sys := { t.sys with pulses := [] } }

/-- Strand packets of an operation sent with ALL to a strand (Table 12.2): START, OP with ALL, parameters and CRC. -/
def strandPacket (op drv : Nat) (all : Bool) (params : List Nat) : List Byte :=
  let body := (op + drv % 64 * 16 + (if all then 1024 else 0)) :: params
  let bytes := body.foldl (fun a w => a ++ leBytes 2 w) []
  leBytes 2 0xB4C3 ++ bytes ++ leBytes 2 (crc16 bytes)

/-- Strands in use: NSTR of the geometry in force. -/
def strandsUsed (s : State) : List Nat :=
  match s.str.geo with
  | some g => List.range (u8 g 5)
  | none => []

/-- Sends a packet on a strand and counts it. -/
def strandSend (st : Nat) (pkt : List Byte) (s : State) : State :=
  send (addF s (R.STR_S_PACKETS_N st) 1) (.strand st pkt)

/-- Sends a packet with ALL on every strand in use. -/
def strandAll (op : Nat) (params : List Nat) (s : State) : State :=
  (strandsUsed s).foldl (fun a st => strandSend st (strandPacket op 0 true params) a) s

/-- BLANK to every driver, then the clocks stop and sync goes low (R43, R380). -/
def strandsStop (s : State) : State :=
  let t := strandAll 0x4 [] s
  let u := setF (setF t R.STR_STATUS_STATE 0) R.STR_STATUS_CLK_RUN 0
  { u with str := { u.str with queue := [], inWindow := false, armed := none, reading := [], waiting := [], enums := []
                               blanked := true } }

/-- The PCIe link is down, in a training state: the changes count in PCI_EVT (R554). -/
def pcieOff (ltssm : Nat) (s : State) : State :=
  let z := fun (a : State) f => setLevel 18 f 0 a
  setF (setF (z (z (z (z (z s R.PCI_STATUS_LINK_UP) R.PCI_STATUS_SPEED) R.PCI_STATUS_WIDTH) R.PCI_STATUS_BME) R.PCI_STATUS_D3)
    R.PCI_STATUS_MSIX_EN 0) R.PCI_STATUS_LTSSM ltssm

/-- Commands under way and waiting acquires are answered LOCKDOWN (R45). -/
def endAll (s : State) : State :=
  let l := s.cps.bg.map Prod.snd ++ s.cps.semWaits.map SemWait.pkt
  l.foldl (fun a k => sendFinal k true St.lockdown [] a) { s with cps := { s.cps with bg := [], semWaits := [] } }

/-- Entry to LOCKDOWN with a cause (Table 2.5), from any mode but itself and not in reset. An activation in progress is
abandoned (R506). (DEDUCED log 17) -/
def enterLockdown (cause : Nat) (s : State) : State :=
  if inReset s || mode s == mLockdown then s
  else
    let s1 := setF (enterMode mLockdown 0 s) R.SYS_MODE_LOCK_CAUSE cause
    let s2 := sendNotices cause s1
    let s3 := endDebug (gpioReset (pcieOff 6 (twillSilent (if sender s then s2 else strandsStop s2))))
    let s4 : State :=
      { s3 with cmp := { s3.cmp with pass := none }
                srf := { s3.srf with running := false, uploads := [] }
                upd := { s3.upd with activation := none, staging := none, cfgWrite := none }
                nv := { s3.nv with abandoned := s3.nv.abandoned || s3.upd.activation.any (fun a => !a.verifying) }
                sys := { s3.sys with warmWait := false }
                flt := { s3.flt with containing := [] } }
    endAll s4

/-! ### Reset causes -/

/-- As a reset begins, SEC latches tamper events until the next arming (R454). -/
def resetBegins (s : State) : State :=
  { s with sys := { s.sys with tamperArmed := false, fwRunning := false, pulses := [] } }

/-- An internal warm reset begins (R46, R599): by the watchdog, a command, or an activation timeout. LOCKDOWN ignores it
(R44). -/
def beginInternal (wdog cmd act : Bool) (s : State) : State :=
  if mode s == mLockdown && !inReset s then s
  else
    let r := s.sys.rst
    resetBegins { s with sys := { s.sys with rst := { r with
        internal := true, sawWdog := r.sawWdog || wdog, sawCmd := r.sawCmd || cmd, sawAct := r.sawAct || act } } }

/-! ### Containment (Table 18.4) -/

/-- A flow uses an Ethernet port on one of its legs. -/
def flowOnPort (f : Flow) (port : Nat) : Bool :=
  u8 f.desc 0x30 == port || (u8 f.desc 1 == 2 && u8 f.desc 0x58 == port)

/-- Changes a flow's state and counts the change (R67). -/
def flowState (i st : Nat) (s : State) : State :=
  if getF s (R.ING_F_STATE_STATE i) = st then s else raise 3 (setF s (R.ING_F_STATE_STATE i) st)

/-- A flow returns to LOCKING: frames begun are dropped. -/
def flowLocking (i : Nat) (s : State) : State :=
  let t := flowState i 2 s
  { t with ing := { t.ing with flows := t.ing.flows.map (fun e =>
      if e.1 = i then (e.1, { e.2 with frames := [], newest := none, marked := [], lockTs := none, lastEnd := none }) else e) } }

/-- Every VALID bit of a slot's queue descriptors is cleared: the slot is delivered in full (R184). Queue descriptors
are numbered slot times 4,096 plus cell. -/
def slotFull (i : Nat) (s : State) : State :=
  { s with cel := { s.cel with queues := s.cel.queues.map (fun e =>
      if e.1 / 4096 = i then (e.1, { e.2 with valid := false }) else e) } }

/-- Sends the slot notice of Table 7.4 out of the slot's route. -/
def sendSlotNotice (i nflags : Nat) (s : State) : State :=
  match Tab.get s.cel.slots i with
  | none => s
  | some sl =>
    let w := u16 sl.entry 0x0C
    let h := u16 sl.entry 0x0E
    let pl := leBytes 2 w ++ leBytes 2 h ++ leBytes 1 (getF s (R.CEL_S_W0_EPOCH i)) ++ leBytes 1 nflags ++
      leBytes 2 ((w + 15) / 16 * ((h + 15) / 16)) ++ zeros 8
    let p := getF s (R.CEL_S_W0_ROUTE i)
    if linkUp s p then sendMsg p (mkMsg s 1 0x10 (getF s (R.CEL_S_W0_DEVNUM i)) pl) s else s

/-- A slot returns to state 1 and its notice is sent again. -/
def slotReadmit (i nflags : Nat) (s : State) : State :=
  let t := slotFull i (setF s (R.CEL_S_W0_STATE i) 1)
  sendSlotNotice i nflags { t with cel := { t.cel with slots := t.cel.slots.map (fun e =>
      if e.1 = i then (e.1, { e.2 with notices := 1, mismatch := false, takeover := nflags == 1 }) else e) } }

/-- Announces a rate step with its reason (Table 9.7), EFF_SLOT 8 slots ahead, and enters RETRAIN at that step (R269). -/
def announceStep (p step reason : Nat) (s : State) : State :=
  enterRetrain p step (sendLink p (leBytes 1 4 ++ leBytes 1 step ++ leBytes 2 ((slotNow s p + 8) % 65536) ++
    leBytes 1 reason) s)

/-- A source has a containment (Table 18.4). -/
def containable (b src : Nat) : Bool :=
  b == 4 || b == 5 || b == 6 || b == 7 || b == 9 || b == 12 || b == 13 || (decide (16 ≤ b) && decide (b < 24)) ||
    (b == 3 && src == 3)

/-- Aborts the running upload (R106). -/
def abortUpload (s : State) : State :=
  if s.srf.running then
    match s.srf.uploads with
    | [] => s
    | u :: rest => sendFinal u.pkt true St.dmaError [] { s with srf := { s.srf with uploads := rest, running := !rest.isEmpty } }
  else s

/-- The action of CONTAIN on a block, for the DETAIL of the fault. (DEDUCED log 23) -/
def containAct (o : Occ) (s : State) : State :=
  match o.block with
  | 3 => beginInternal true false false s
  | 4 => { s with eth := { s.eth with up := s.eth.up.filter (· != o.detail)
                                      restarting := o.detail / 4 :: s.eth.restarting } }
  | 5 =>
    if o.src = 1 then (s.ing.flows.filter (fun e => flowOnPort e.2 o.detail)).foldl (fun a e => flowLocking e.1 a) s
    else flowLocking o.detail s
  | 6 => abortUpload s
  | 7 => { s with cmp := { s.cmp with pass := s.cmp.pass.map (fun p => { p with todo := [] })
                                      startAt := match s.cmp.pass with
                                        | some p => (match p.todo.head? with | some r => r.2 * 65536 + r.1 | none => 0)
                                        | none => s.cmp.startAt } }
  | 9 => if o.src = 5 ∨ o.src = 2 then slotReadmit o.detail 0 s
         else (s.cel.slots.map Prod.fst).foldl (fun a i => slotFull i a) s
  | 12 => { s with dmk := { s.dmk with newCode := [], marks := s.dmk.corrected ++ s.dmk.marks, corrected := [] } }
  | 13 =>
    let t := strandAll 0x7 [] s
    { t with str := { t.str with queue := [], carry := (t.str.queue.map (fun e => e.2.map Prod.fst)).flatten ++ t.str.carry
                                 enums := Tab.put t.str.enums (o.detail / 64) ([], none) } }
  | b => if 16 ≤ b then announceStep (b - 16) (getF s (R.TWL_PHY_STATUS_RATE (b - 16))) 3 s else s

/-- Starts the containment of a block; the block stays `containing` until CONTAINMENT_END, but for SRF and MEM. -/
def contain (o : Occ) (s : State) : State :=
  let t := containAct o s
  if o.block = 6 ∨ o.block = 3 then t
  else setF { t with flt := { t.flt with containing := Tab.put t.flt.containing o.block o.detail } }
    R.SYS_FAULT_STATUS_CONTAINING 1

/-! ### Occurrences (R555, R559, R560) -/

/-- Writes a first-fault record (Table 18.2) and counts it. -/
def writeRecord (o : Occ) (sev : Nat) (s : State) : State :=
  let b := o.block
  let w0 := setF (setF (setF (setF s (R.FREC_W0_SOURCE b) o.src) (R.FREC_W0_SEV b) sev) (R.FREC_W0_VALID b) 1)
    (R.FREC_W0_DETAIL b) o.detail
  let lt := setF (setF w0 (R.FREC_LT_LO_VAL b) (ltNs s)) (R.FREC_LT_HI_VAL b) (ltNs s / 4294967296)
  let wt := setF (setF lt (R.FREC_WT_LO_VAL b) (wtNs s)) (R.FREC_WT_HI_VAL b) (wtNs s / 4294967296)
  raise 1 (setF wt (R.FREC_INFO_VAL b) o.info)

/-- The fault against its block's record (R559). (DEDUCED log 23) -/
def recordFault (o : Occ) (sev : Nat) (s : State) : State :=
  if isSet s (R.FREC_W0_VALID o.block) && sev != 3 then
    setSat s (R.FREC_W0_EXTRA o.block) (getF s (R.FREC_W0_EXTRA o.block) + 1)
  else writeRecord o sev s

/-- The key of a source in `recent` and `levels`. -/
abbrev srcKey (b src : Nat) : Nat := b * 32 + src

/-- SYS_FAULT_STATUS.DEGRADED is set for an occurrence of an event source (R563). -/
def noteDegraded (o : Occ) (s : State) : State :=
  setF { s with flt := { s.flt with recent := srcKey o.block o.src :: s.flt.recent.filter (· != srcKey o.block o.src) } }
    R.SYS_FAULT_STATUS_DEGRADED 1

/-- A HALT fault: HALT_BLOCK, HALT_VALID, then LOCKDOWN, with cause 2 for a tamper source (R569). (DEDUCED log 23) -/
def haltFault (o : Occ) (s : State) : State :=
  enterLockdown (if o.block = 14 ∧ 1 ≤ o.src ∧ o.src ≤ 11 then 2 else 1)
    (setF (setF s R.SYS_FAULT_STATUS_HALT_BLOCK o.block) R.SYS_FAULT_STATUS_HALT_VALID 1)

/-- A fault lost while its block carries out a containment (R560). -/
def loseFault (o : Occ) (s : State) : State :=
  incF (incF s (R.FREC_LOST_LOST o.block)) R.SYS_FAULT_LOST_COUNT

/-- One occurrence at its severity; `busy` says that its block was carrying out a containment before this cycle. -/
def actFault (busy : Bool) (sev : Nat) (o : Occ) (s : State) : State :=
  if sev = 0 then s
  else if sev = 3 then haltFault o (noteDegraded o (recordFault o 3 s))
  else if busy then loseFault o s
  else if sev = 2 ∧ containable o.block o.src then contain o (noteDegraded o (recordFault o 2 s))
  else noteDegraded o (recordFault o 1 s)

/-- Faults of one cycle: the higher severity first, and in the order given within a severity (R559). -/
def occurs (l : List Occ) (s : State) : State :=
  let busy := fun (o : Occ) => (Tab.get s.flt.containing o.block).isSome
  let pass := fun (sev : Nat) (a : State) =>
    (l.filter (fun o => sevOf s o.block o.src == sev)).foldl (fun x o => actFault (busy o) sev o x) a
  pass 1 (pass 2 (pass 3 s))

/-- One fault. -/
def occur (b src detail info : Nat) (s : State) : State := occurs [⟨b, src, detail, info⟩] s

/-- Counts an event in an EC field that backs a fault source (R556). -/
def tally (f : Fld) (b src detail : Nat) (s : State) : State := occur b src detail 0 (incF s f)

/-- Counts n events that back a fault source. -/
def tallyN (n : Nat) (f : Fld) (b src detail : Nat) (s : State) : State :=
  (List.range n).foldl (fun a _ => tally f b src detail a) s

/-- A level cause rises: one occurrence, and DEGRADED for as long as it holds (R556, R563). -/
def levelRise (b src detail : Nat) (s : State) : State :=
  let t := occur b src detail 0 s
  if sevOf s b src = 0 then t
  else setF { t with flt := { t.flt with levels := srcKey b src :: t.flt.levels } } R.SYS_FAULT_STATUS_DEGRADED 1

/-- A level cause ends. -/
def levelFall (b src : Nat) (s : State) : State :=
  let t := { s with flt := { s.flt with levels := s.flt.levels.erase (srcKey b src) } }
  setB t R.SYS_FAULT_STATUS_DEGRADED (!(t.flt.levels.isEmpty && t.flt.recent.isEmpty))

/-! ### Tamper events (R453 to R457) -/

/-- Restricts the device (R457): in the store, or apart from it while UNOWNED. -/
def restrict (s : State) : State :=
  match storeOf s with
  | some st => { s with nv := { s.nv with store := some { st with restricted := true } } }
  | none => { s with nv := { s.nv with restricted := true } }

/-- Records an event (R456): the always-on list, the signed log, the counters and the source's record (Table 14.14). -/
def recordTamper (e : TamperRec) (s : State) : State :=
  let n := e.source
  let e' := { e with policy := policyOf s n, seq := s.nv.events + 1 }
  let s1 := raise 16 (incF s (R.SEC_T_COUNT_COUNT n))
  let s2 := setF (setF s1 (R.SEC_T_LT_LO_V n) e.lt) (R.SEC_T_LT_HI_V n) (e.lt / 4294967296)
  let s3 := setF (setF s2 (R.SEC_T_WT_LO_V n) e.wt) (R.SEC_T_WT_HI_V n) (e.wt / 4294967296)
  let s4 := setF s3 (R.SEC_T_DETAIL_V n) e.detail
  { s4 with nv := { s4.nv with log := (e' :: s4.nv.log).take 64, events := s4.nv.events + 1 }
            sec := { s4.sec with recent := (e' :: s4.sec.recent).take 16 } }

/-- What a policy does (Table 14.9) beside the fault it raises: restriction, zeroisation, end of a debug unlock. A level
of zeroisation takes effect whatever the device's mode (R455). -/
def applyPolicy (p : Nat) (s : State) : State :=
  if p = 0 then s
  else if p = 1 then endDebug (restrict s)
  else zeroise (p - 2) (endDebug s)

/-- Handles one tamper event: record, fault by policy (LOCKDOWN notices go out before keys are destroyed), policy. -/
def handleTamper (e : TamperRec) (s : State) : State :=
  let p := policyOf s e.source
  applyPolicy p (occur 14 (e.source + 1) 0 0 (recordTamper e s))

/-- A tamper event: handled at once, or latched until the inputs are armed (R454). -/
def tamperEvent (src detail : Nat) (s : State) : State :=
  let e : TamperRec := { source := src, policy := 0, lt := ltNs s, wt := wtNs s, detail := detail, seq := 0 }
  if s.sys.tamperArmed then handleTamper e s
  else { s with sec := { s.sec with latched := s.sec.latched ++ [e] } }

/-- Number of occurrences and window, in ns, of the counting sources (Table 14.8). -/
def tamperLimit (src : Nat) : Nat × Nat :=
  match src with
  | 7 => (16, 1000000000)
  | 9 => (16, 10000000000)
  | _ => (4, 60000000000)

/-- An occurrence for source 7, 9 or 10; `unit` separates ports. The event spends its occurrences (R453). -/
def tamperOcc (src unit detail : Nat) (s : State) : State :=
  let key := src * 16 + unit
  let now := ltNs s
  let l := now :: (Tab.getD s.sec.occurrences key []).filter (fun t => decide (now < t + (tamperLimit src).2))
  if (tamperLimit src).1 ≤ l.length then
    tamperEvent src detail { s with sec := { s.sec with occurrences := Tab.del s.sec.occurrences key } }
  else { s with sec := { s.sec with occurrences := Tab.put s.sec.occurrences key l } }

/-! ### Lock violations (R540) -/

/-- Counts a lock violation of block b by requester `req` (0 CP0, 1 CP1, 2 command, 3 firmware) at an offset. (DEDUCED log 23) -/
def lockViol (b req : Nat) (indirect : Bool) (off : Nat) (s : State) : State :=
  let s1 := incF s (R.SYS_LOCKVIOL_COUNT b)
  let s2 := setF (setF (setF (setF s1 R.SYS_LOCKVIOL_LAST_BLOCK b) R.SYS_LOCKVIOL_LAST_REQ req)
    R.SYS_LOCKVIOL_LAST_INDIRECT (if indirect then 1 else 0)) R.SYS_LOCKVIOL_LAST_OFFSET off
  tamperOcc 7 0 0 (occur b 0 0 0 (incF s2 R.SEC_LOCKVIOL_N))

end Sys2Proof.Machine
end

