-- ==== Sys2Proof/Machine/Commands.lean ====
section
/-!
DEFINITION. How a command is handled (R468): the opcode table (Table 15.7), the checks in their order, the classes and
signed envelopes (R437 to R442), references (R472), background commands (R488), and the one final reply.
-/

namespace Sys2Proof.Machine

/-! ### The opcode table (Table 15.7) -/

/-- A row of Table 15.7: class (0 OPEN to 4 ADMIN), role (0 both, 1 sender, 2 tile), Read, and whether it returns
results. -/
structure OpInfo where
  code : Nat
  cls : Nat
  role : Nat
  read : Bool
  result : Bool
  deriving DecidableEq, Repr

/-- Areas 0x00 and 0x01. -/
def opTable0 : List OpInfo :=
  [⟨0x0000, 0, 0, true, true⟩, ⟨0x0001, 0, 0, true, true⟩, ⟨0x0002, 0, 0, false, false⟩, ⟨0x0003, 1, 0, false, false⟩,
   ⟨0x0004, 0, 0, true, true⟩, ⟨0x0005, 0, 0, false, false⟩,
   ⟨0x0100, 0, 0, true, true⟩, ⟨0x0101, 0, 0, false, false⟩, ⟨0x0102, 0, 0, false, false⟩, ⟨0x0103, 0, 0, true, true⟩,
   ⟨0x0104, 0, 0, false, false⟩, ⟨0x0105, 0, 0, true, true⟩, ⟨0x0106, 0, 0, false, false⟩,
   ⟨0x0107, 0, 0, false, false⟩, ⟨0x0108, 0, 0, false, false⟩, ⟨0x0109, 0, 0, false, false⟩]

/-- Areas 0x02 to 0x06. -/
def opTable1 : List OpInfo :=
  [⟨0x0200, 1, 1, false, false⟩, ⟨0x0201, 0, 1, false, false⟩, ⟨0x0202, 0, 1, false, false⟩,
   ⟨0x0203, 0, 1, false, false⟩, ⟨0x0204, 0, 1, false, false⟩, ⟨0x0205, 0, 1, true, true⟩,
   ⟨0x0300, 0, 1, false, true⟩, ⟨0x0301, 0, 1, false, false⟩, ⟨0x0302, 0, 1, true, true⟩,
   ⟨0x0303, 0, 1, false, false⟩, ⟨0x0304, 0, 1, false, true⟩, ⟨0x0305, 0, 1, false, true⟩,
   ⟨0x0400, 0, 1, false, false⟩, ⟨0x0401, 0, 1, false, false⟩, ⟨0x0402, 0, 1, false, false⟩,
   ⟨0x0403, 0, 1, false, false⟩, ⟨0x0404, 0, 1, false, false⟩, ⟨0x0405, 0, 1, false, false⟩,
   ⟨0x0406, 0, 1, false, true⟩, ⟨0x0500, 1, 1, false, false⟩, ⟨0x0501, 0, 1, false, false⟩,
   ⟨0x0502, 0, 1, false, false⟩, ⟨0x0503, 0, 1, false, false⟩, ⟨0x0504, 0, 1, false, true⟩,
   ⟨0x0505, 0, 2, false, false⟩, ⟨0x0600, 0, 1, false, false⟩, ⟨0x0601, 1, 1, false, true⟩,
   ⟨0x0602, 0, 1, true, true⟩]

/-- Areas 0x07 to 0x0B. -/
def opTable2 : List OpInfo :=
  [⟨0x0700, 0, 0, false, true⟩, ⟨0x0701, 0, 1, false, true⟩, ⟨0x0702, 0, 0, false, false⟩, ⟨0x0703, 0, 1, true, true⟩,
   ⟨0x0800, 1, 1, false, false⟩, ⟨0x0801, 1, 0, false, false⟩, ⟨0x0802, 0, 0, false, true⟩,
   ⟨0x0803, 0, 0, false, false⟩, ⟨0x0804, 0, 1, false, false⟩, ⟨0x0805, 0, 0, true, true⟩,
   ⟨0x0900, 3, 2, false, false⟩, ⟨0x0901, 1, 2, false, false⟩, ⟨0x0902, 1, 2, false, false⟩,
   ⟨0x0903, 0, 2, true, true⟩, ⟨0x0904, 0, 2, false, false⟩, ⟨0x0A00, 1, 2, false, false⟩, ⟨0x0A01, 0, 2, true, true⟩,
   ⟨0x0A02, 0, 2, false, false⟩, ⟨0x0A03, 3, 2, false, false⟩, ⟨0x0B00, 1, 1, false, false⟩,
   ⟨0x0B01, 1, 0, false, false⟩, ⟨0x0B02, 0, 0, false, false⟩, ⟨0x0B03, 0, 0, false, false⟩,
   ⟨0x0B04, 0, 0, false, false⟩, ⟨0x0B05, 0, 0, false, false⟩, ⟨0x0B06, 0, 0, false, false⟩]

/-- Areas 0x0C to 0x0E. -/
def opTable3 : List OpInfo :=
  [⟨0x0C00, 4, 0, false, false⟩, ⟨0x0C01, 4, 0, false, false⟩, ⟨0x0C02, 4, 0, false, false⟩,
   ⟨0x0C03, 4, 0, false, false⟩, ⟨0x0C04, 4, 0, false, false⟩, ⟨0x0C05, 4, 0, false, false⟩,
   ⟨0x0C06, 4, 0, false, false⟩, ⟨0x0C07, 4, 0, false, false⟩, ⟨0x0C08, 4, 0, false, false⟩,
   ⟨0x0C09, 4, 0, false, false⟩, ⟨0x0C0A, 4, 0, false, false⟩, ⟨0x0C0B, 0, 0, true, true⟩,
   ⟨0x0C0C, 3, 0, false, false⟩, ⟨0x0C0D, 0, 0, false, false⟩, ⟨0x0C0E, 0, 0, true, true⟩, ⟨0x0C0F, 0, 0, true, true⟩,
   ⟨0x0D00, 0, 0, false, false⟩, ⟨0x0D01, 0, 0, true, true⟩, ⟨0x0D02, 1, 0, false, true⟩, ⟨0x0D03, 1, 0, false, true⟩,
   ⟨0x0D04, 2, 0, false, false⟩, ⟨0x0D05, 2, 0, false, false⟩, ⟨0x0D06, 2, 0, false, false⟩,
   ⟨0x0D07, 2, 0, false, true⟩, ⟨0x0D08, 0, 0, true, true⟩, ⟨0x0E00, 0, 1, true, true⟩, ⟨0x0E01, 0, 0, true, true⟩,
   ⟨0x0E02, 0, 2, true, true⟩]

/-- The opcodes of the MR9600, and no others (R493). -/
def opTable : List OpInfo := opTable0 ++ opTable1 ++ opTable2 ++ opTable3

/-- The row of an opcode. -/
def opInfo (op : Nat) : Option OpInfo := opTable.find? (fun i => i.code == op)

/-- The opcode area. -/
abbrev opArea (op : Nat) : Nat := op / 256

/-- The class of a command (R441): set-mode's depends on the mode named and on MODE_SIGNED. -/
def opClass (s : State) (op : Nat) (par : List Byte) : Nat :=
  if op = 0x0002 then (if u8 par 0 = 4 then 3 else if pflag s 2 then 1 else 0)
  else match opInfo op with | some i => i.cls | none => 0

/-- The semaphore of a class (Table 14.5). -/
def classSem (c : Nat) : Option Nat :=
  match c with
  | 1 => some 0
  | 2 => some 1
  | 3 => some 3
  | 4 => some 2
  | _ => none

/-- The parameter length that a command's layout gives, for counts taken from the parameters (R493). -/
def parLen (op : Nat) (p : List Byte) : Nat :=
  match op with
  | 0x0002 => 4
  | 0x0003 => 4
  | 0x0004 => 8
  | 0x0005 => 8 + 4 * u16 p 4
  | 0x0100 => if p.length ≤ 64 then p.length else 64
  | 0x0101 => 4
  | 0x0102 => 4
  | 0x0104 => 4
  | 0x0105 => 16
  | 0x0106 => 16 + u32 p 12
  | 0x0107 => 24
  | 0x0108 => 4
  | 0x0109 => 4
  | 0x0200 => 4
  | 0x0201 => 20
  | 0x0202 => 128
  | 0x0203 => 128
  | 0x0204 => 4
  | 0x0205 => 4
  | 0x0300 => 64
  | 0x0301 => 4
  | 0x0302 => 4
  | 0x0303 => 8
  | 0x0304 => 16
  | 0x0305 => 48
  | 0x0400 => 64
  | 0x0401 => 28
  | 0x0402 => 8
  | 0x0403 => 20
  | 0x0404 => 20
  | 0x0405 => 16
  | 0x0406 => 12
  | 0x0500 => 16
  | 0x0501 => 64
  | 0x0502 => 4
  | 0x0503 => 4 + 8 * u8 p 0
  | 0x0504 => 12
  | 0x0505 => 4 + 8 * u8 p 0
  | 0x0600 => 16
  | 0x0602 => 16
  | 0x0700 => 4
  | 0x0701 => 4
  | 0x0702 => 4
  | 0x0703 => 4
  | 0x0800 => 12
  | 0x0801 => 32
  | 0x0802 => 12
  | 0x0803 => 4
  | 0x0804 => 8
  | 0x0900 => 20
  | 0x0901 => 16
  | 0x0903 => 16
  | 0x0A00 => 48
  | 0x0A01 => 8
  | 0x0A02 => 4
  | 0x0A03 => 8
  | 0x0B00 => 16
  | 0x0B01 => 4 + 4 * u8 p 1
  | 0x0B02 => 4 + 4 * u8 p 0
  | 0x0B03 => 4
  | 0x0B04 => 8
  | 0x0B05 => 12
  | 0x0B06 => 8
  | 0x0C00 => 96
  | 0x0C01 => 192
  | 0x0C03 => 100
  | 0x0C04 => 4 + 16 * u8 p 0
  | 0x0C05 => 612
  | 0x0C06 => 196
  | 0x0C07 => 16
  | 0x0C09 => 4
  | 0x0C0C => if u8 p 0 = 2 then 456 else 40
  | 0x0C0E => 32
  | 0x0C0F => 8
  | 0x0D00 => 8 + u16 p 4
  | 0x0D01 => if p.length = 4 then 4 else 20
  | 0x0D04 => 20
  | 0x0E00 => 4
  | 0x0E01 => 4
  | 0x0E02 => 4
  | _ => 0

/-- The parameters have the length of their layout. -/
def parLenOk (op : Nat) (p : List Byte) : Bool := p.length == parLen op p

/-! ### Requesters: semaphores and liveness (R490, R491) -/

/-- A requester holds a semaphore. -/
def holds (s : State) (r : Req) (sem : Nat) : Bool := Tab.get s.cps.sems sem == some r

/-- A requester's watchdog runs: it holds a semaphore or has an acquire waiting. -/
def watchdogRuns (s : State) (r : Req) : Bool :=
  s.cps.sems.any (fun e => e.2 == r) || s.cps.semWaits.any (fun w => w.pkt.req == r)

/-- A packet of a requester restarts its watchdog. -/
def restartWatchdog (r : Req) (s : State) : State :=
  if watchdogRuns s r then
    { s with cps := { s.cps with liveStart := (r, ltNs s) :: s.cps.liveStart.filter (fun e => e.1 != r) } }
  else s

/-- The command leaves the held packets as it begins to execute; a packet not held before counts as delivered now. -/
def arrive (k : Pkt) (s : State) : State :=
  if s.cps.held.contains k then { s with cps := { s.cps with held := s.cps.held.erase k } }
  else restartWatchdog k.req s

/-! ### Steps 1 to 10 of R468 -/

/-- The device executes the packet itself (R476, R478): its host's SCOPE 3, broadcast and group packets, or its own
number. -/
def isMine (s : State) (k : Pkt) : Bool :=
  k.req == .muslin || match k.scope with
  | 0 => s.cps.devnum != 0xFFF && k.target == s.cps.devnum
  | 1 => sender s || !k.fromHost
  | 2 => s.cps.groups.getLsbD k.group && (sender s || !k.fromHost)
  | _ => k.fromHost

/-- A tile without a device number (R478). -/
abbrev unnumbered (s : State) : Bool := !sender s && s.cps.devnum == 0xFFF

/-- Commands that need SERVICE. -/
def needsService (op : Nat) : Bool := op == 0x0900 || op == 0x0A03 || op == 0x0C0B || op == 0x0C0C

/-- set-wall and set-strand-geometry are confined to STANDBY and SERVICE (R493). -/
def needsDark (op : Nat) : Bool := op == 0x0500 || op == 0x0A00

/-- The mode accepts the command (Table 15.6). -/
def modeAccepts (m : Nat) (i : OpInfo) : Bool :=
  match m with
  | 1 => !needsService i.code
  | 2 => !needsService i.code && !needsDark i.code
  | 3 => (i.read && i.code != 0x0C0B) || opArea i.code == 1 || opArea i.code == 0x0D || i.code == 2 || i.code == 3 ||
      i.code == 0x0C0A || i.code == 0x0C09
  | 4 => true
  | _ => false

/-- Steps 1 to 10 of R468 for a packet the device is to execute: the status of the first that fails. (DEDUCED log 21) -/
def precheck (s : State) (k : Pkt) : Option Nat :=
  if k.version != 2 then some St.badVersion
  else if !k.lengthOk then some St.badLength
  else if mode s == mLockdown then some St.lockdown
  else if !k.clean then some St.badParam
  else match opInfo k.opcode with
    | none => some St.badOpcode
    | some i =>
      if (i.role == 1 && !sender s) || (i.role == 2 && sender s) then some St.unsupported
      else if !k.targetFits then some St.badParam
      else if !isMine s k then some St.noRoute
      else if k.req != .muslin && unnumbered s && !(k.opcode == 0 || k.opcode == 1 || k.opcode == 4) then some St.notNumbered
      else if !modeAccepts (mode s) i then some St.badState
      else if !i.read && (Tab.get s.cps.bg (opArea k.opcode)).isSome then some St.busy
      else none

/-! ### References (R472) -/

/-- Where the data of a reference lies. -/
inductive RefKind where
  | bad
  | host
  | stage (addr : Nat)
  | remote
  deriving DecidableEq, Repr

/-- Judges a reference on this device. -/
def refKind (s : State) (r : Ref) : RefKind :=
  if r.zero ≠ 0 ∨ 2 ≤ r.space ∨ r.len = 0 then .bad
  else if r.owner = 0xFFF then
    if r.space = 0 then (if r.window = 0 then .host else .bad)
    else if 2 ≤ r.window ∨ (!sender s ∧ r.window = 0) then .bad
    else if 134217728 < r.addr + r.len then .bad
    else .stage (stageMem r.window + r.addr)
  else if r.space ≠ 0 ∨ 16 ≤ r.window then .bad
  else .remote

/-- The data a reference names, at least `need` bytes: from a stage buffer, or as fetched from host memory or from
another device. (DESIGN CHOICE log 28) -/
def refData (s : State) (r : Ref) (need : Nat) (f : Fetch) : Except Nat (List Byte) :=
  match refKind s r with
  | .bad => .error St.badParam
  | .stage a => if r.len < need then .error St.badParam else .ok (memRead s a r.len)
  | .host =>
    if r.len < need then .error St.badParam
    else if !isSet s R.PCI_STATUS_LINK_UP then .error St.dmaError
    else match f with
      | .data b => .ok (b.take r.len)
      | _ => .error St.dmaError
  | .remote =>
    if r.len < need then .error St.badParam
    else match f with
      | .data b => .ok (b.take r.len)
      | .notExported => .error St.notExported
      | _ => .error St.remoteError

/-- Writes data to a destination reference; the outcome of a write outside the device comes with the command. (DESIGN CHOICE log 28) -/
def refWrite (s : State) (r : Ref) (data : List Byte) (f : Fetch) : Except Nat State :=
  match refKind s r with
  | .bad => .error St.badParam
  | .stage a => if r.len < data.length then .error St.badParam else .ok (memWrite s a data)
  | .host =>
    if r.len < data.length then .error St.badParam
    else if !isSet s R.PCI_STATUS_LINK_UP then .error St.dmaError
    else match f with
      | .data _ => .ok (send s (.hostWrite r.addr data))
      | _ => .error St.dmaError
  | .remote =>
    if r.len < data.length then .error St.badParam
    else match f with
      | .data _ => .ok s
      | .notExported => .error St.notExported
      | _ => .error St.remoteError

/-- Offset of the data reference in the parameters of a command that takes bulk data. -/
def bulkRef (op : Nat) : Option Nat :=
  match op with
  | 0x0403 => some 4
  | 0x0600 => some 0
  | 0x0900 => some 4
  | 0x0901 => some 0
  | 0x0D04 => some 4
  | _ => none

/-! ### Envelopes (R437 to R442) -/

/-- A key ID: the first 16 bytes of the SHA-384 of the key (R428). -/
def keyId (key : List Byte) : List Byte := (Config.sha384 key).take 16

/-- The device's CERT_ID (R429). -/
def certId (s : State) : List Byte := (Config.sha384 s.nv.deviceCert).take 16

/-- The public key that a signer slot holds. -/
def signerKey (s : State) (slot : Nat) : Option (List Byte) :=
  match storeOf s with
  | none => none
  | some st => if slot = 0 then some st.owner else (Tab.get st.delegates slot).map Prod.fst

/-- The class mask of a delegate; the owner may sign every class. -/
def signerPermits (s : State) (slot cls : Nat) : Bool :=
  slot == 0 || cls == 0 ||
    (match storeOf s with
     | some st => (match Tab.get st.delegates slot with | some e => cls != 4 && e.2.testBit cls | none => false)
     | none => false)

/-- LAST_CTR of a slot. -/
def lastCtr (s : State) (slot : Nat) : Nat :=
  match storeOf s with
  | some st => Tab.getD st.lastCtr slot 0
  | none => 0

/-- The public keys an inner parameter delivers are points of the curve (R428). -/
def keysOk (op : Nat) (p : List Byte) : Bool :=
  match op with
  | 0x0C00 => Config.keyOnCurve (sub p 0 96)
  | 0x0C01 => Config.keyOnCurve (sub p 0 96)
  | 0x0C03 => zeroAt p 4 96 || Config.keyOnCurve (sub p 4 96)
  | 0x0C05 => p.all (· == 0) || Config.keyOnCurve (sub p 4 96)
  | 0x0C06 => Config.keyOnCurve (sub p 4 96)
  | _ => true

/-- Step 1 of R438. -/
def envForm (k : Pkt) : Bool :=
  let b := k.body
  decide (208 ≤ k.plen) && u32 b 0 == 0x4553524D && u16 b 4 == 1 && k.innerLen ≤ 3872 && k.plen == 208 + k.innerLen &&
    u16 b 0x0A / 4096 == 0 && zeroAt b 0x0D 3 && parLenOk k.opcode k.par && keysOk k.opcode k.par

/-- A requester is throttled now: it is on the list and had an envelope verified less than 1 s ago (R442). -/
def throttledNow (s : State) (r : Req) : Bool :=
  s.sec.throttled.any (fun e => e.1 == r && decide (ltNs s < e.2 + 1000000000))

/-- The target of the header, for the check of step 3: the device's own number for SCOPE 3. -/
def headTarget (s : State) (k : Pkt) : Nat := if k.scope = 3 then s.cps.devnum else k.target

/-- Step 3 of R438. -/
def envBound (s : State) (k : Pkt) : Bool :=
  let b := k.body
  let tgt := u16 b 0x0A
  let bind := sub b 0x20 16
  let zero := bind.all (· == 0)
  u16 b 8 == k.opcode && (tgt == 0xFFF || tgt == headTarget s k) && (headTarget s k != 0xFFF || tgt == 0xFFF) &&
    (zero || bind == certId s) && !(k.opcode == 0x0C0C && zero)

/-- enrol-owner on an UNOWNED device: the inner key signs (R432). -/
def firstEnrol (s : State) (k : Pkt) : Bool := k.opcode == 0x0C00 && ostate s != 1

/-- The key that must have signed, with the signer's slot. -/
def envKey (s : State) (k : Pkt) : Option (List Byte) :=
  if firstEnrol s k then (if u8 k.body 0x0C = 0 then some (sub k.par 0 96) else none)
  else signerKey s (u8 k.body 0x0C)

/-- Steps 2 to 10 of R438: the status of the first check that fails, 0 where all pass. -/
def envChecks (s : State) (k : Pkt) (cls : Nat) : Nat :=
  let b := k.body
  if !envForm k then St.badParam
  else if throttledNow s k.req then St.throttled
  else if !envBound s k then St.notBound
  else if ostate s ≠ 1 ∧ k.opcode ≠ 0x0C00 then St.notOwned
  else match envKey s k with
    | none => St.sigBad
    | some key =>
      if keyId key ≠ sub b 0x30 16 then St.sigBad
      else if !firstEnrol s k ∧ !signerPermits s (u8 b 0x0C) cls then St.notPermitted
      else if !Config.ecdsaVerify key (b.take (0x70 + k.innerLen)) (sub b (0x70 + k.innerLen) 96) then St.sigBad
      else if u64 b 0x10 ≤ lastCtr s (u8 b 0x0C) then St.replay
      else if u64 b 0x18 ≠ 0 ∧ wtHeld s ∧ u64 b 0x18 < wtNs s / 1000000000 then St.expired
      else if restricted s ∧ (cls = 1 ∨ cls = 2 ∨ cls = 3) then St.restricted
      else St.ok

/-- Step 11 of R438: the requester holds the semaphore of the class. -/
def envSem (s : State) (k : Pkt) (cls : Nat) : Nat :=
  match classSem cls with
  | none => St.ok
  | some m =>
    match k.req with
    | .muslin => if (Tab.get s.cps.sems 1).isSome then St.held else St.ok
    | r => if holds s r m then St.ok else St.notHeld

/-- Step 12 of R438 with the copy SEC made of the referenced data (R440). The load area or the loaded map stands in for
a reference where the command says so. -/
def envData (s : State) (k : Pkt) (f : Fetch) : Except Nat (Option (List Byte)) :=
  let hash := sub k.body 0x40 48
  let judge := fun (d : List Byte) => if Config.sha384 d = hash then Except.ok (some d) else .error St.refMismatch
  if k.opcode = 0x0601 then
    match s.cel.loaded with
    | some m => judge m
    | none => .error St.refMismatch
  else if k.opcode = 0x0D04 ∧ k.req = .muslin then
    match s.upd.loadLen with
    | some n => judge (memRead s loadMem n)
    | none => .error St.refMismatch
  else match bulkRef k.opcode with
    | none => .ok none
    | some off =>
      match refData s (refAt k.par off) 1 f with
      | .error e => .error e
      | .ok d => judge d

/-- Every check of R438 after step 1 in order: the status, and the copy made. -/
def envVerdict (s : State) (k : Pkt) (f : Fetch) : Nat × Option (List Byte) :=
  let cls := opClass s k.opcode k.par
  let a := envChecks s k cls
  if a ≠ 0 then (a, none)
  else
    let b := envSem s k cls
    if b ≠ 0 then (b, none)
    else match envData s k f with
      | .error e => (e, none)
      | .ok c => (St.ok, c)

/-- A refusal at one of steps 3 to 9 (R438). -/
def envCounted (st : Nat) : Bool :=
  st == St.notBound || st == St.notOwned || st == St.sigBad || st == St.notPermitted || st == St.replay ||
    st == St.expired

/-- DETAIL of tamper source ENVFAIL (Table 14.14). -/
def reqDetail (r : Req) : Nat :=
  match r with
  | .cp0 => 0
  | .cp1 => 1
  | .vc1 src o => 2 + src * 16 + (if o then 65536 else 0)
  | .muslin => 3

/-- Notes the verification of an envelope for the throttle: the time, for a requester already throttled. -/
def noteVerified (r : Req) (s : State) : State :=
  { s with sec := { s.sec with throttled := s.sec.throttled.map (fun e => if e.1 = r then (r, ltNs s) else e) } }

/-- Counts a refusal at steps 3 to 9 and throttles the requester at the eighth within 10 s (R442). -/
def countRefusal (r : Req) (s : State) : State :=
  let s1 := tally R.SEC_ENV_FAIL_N 14 13 0 s
  let now := ltNs s1
  let mine := (r, now) :: s1.sec.refusals.filter (fun e => e.1 == r && decide (now < e.2 + 10000000000))
  let rest := s1.sec.refusals.filter (fun e => e.1 != r)
  if 8 ≤ mine.length ∧ !s1.sec.throttled.any (fun e => e.1 == r) then
    let s2 := { s1 with sec := { s1.sec with refusals := rest, throttled := (r, now) :: s1.sec.throttled } }
    tamperEvent 8 (reqDetail r) (setF s2 R.SEC_STATUS_THROTTLED 1)
  else { s1 with sec := { s1.sec with refusals := mine ++ rest } }

/-- Writes LAST_CTR of the envelope's signer (R439). -/
def raiseCtr (k : Pkt) (s : State) : State :=
  match storeOf s with
  | none => s
  | some st =>
    { s with nv := { s.nv with store := some { st with lastCtr := Tab.put st.lastCtr (u8 k.body 0x0C) (u64 k.body 0x10) } } }

/-- SEC handles an envelope: the verdict, its counting, and LAST_CTR where it passes. -/
def envelope (k : Pkt) (f : Fetch) (s : State) : State × Nat × Option (List Byte) :=
  let v := envVerdict s k f
  let s1 := if v.1 = St.badParam ∧ !envForm k ∨ v.1 = St.throttled then s else noteVerified k.req s
  if v.1 = St.ok then (raiseCtr k (incF s1 R.SEC_ENV_OK_N), v)
  else if envCounted v.1 then (countRefusal k.req s1, v)
  else (s1, v)

/-- A command SEC has already released, with its copy. -/
def releasedOf (s : State) (k : Pkt) : Option Released := s.sec.released.find? (fun r => r.pkt == k)

/-- Step 11 of R468: state after SEC's handling, status, and the copy of the referenced data. -/
def authorise (k : Pkt) (f : Fetch) (s : State) : State × Nat × Option (List Byte) :=
  if k.signed then
    match releasedOf s k with
    | some r => ({ s with sec := { s.sec with released := s.sec.released.erase r } }, St.ok, r.copy)
    | none => envelope k f s
  else if opClass s k.opcode k.par ≠ 0 then (s, St.sigBad, none)
  else (s, St.ok, none)

/-! ### Results and replies -/

/-- What a command's own part answers: a final result with the state it leaves, a refusal that changes nothing, or a
state in which the command goes on and replies later. -/
inductive Res where
  | ok (s : State) (data : List Byte)
  | err (status : Nat)
  | later (s : State)

/-- The result of a setting without results. -/
def resOf (r : Except Nat State) : Res := match r with | .ok s => .ok s [] | .error e => .err e

/-- The command returns results. -/
def hasResult (k : Pkt) : Bool := match opInfo k.opcode with | some i => i.result | none => false

/-- A reply of n result bytes fits the CP1 reply FIFO; other transports always take it. -/
def replyFits (s : State) (k : Pkt) (n : Nat) : Bool :=
  match k.req with
  | .cp1 => decide (s.cps.cp1Rpl.length + replyWords n ≤ 2048)
  | _ => true

/-- Ends a command with a status and results. -/
def finish (k : Pkt) (status : Nat) (data : List Byte) (s : State) : State := sendFinal k (hasResult k) status data s

/-- The final reply follows from the result of the command's own part, begun in state `s`. -/
def conclude (k : Pkt) (s : State) (r : Res) : State :=
  match r with
  | .ok t data => finish k St.ok data t
  | .err st => finish k st [] s
  | .later t => t

/-- Bytes of results a result carries. -/
def Res.size : Res → Nat
  | .ok _ d => d.length
  | _ => 0

/-- An activation holds the device: the old firmware takes no packets (Table 16.5). -/
def activating (s : State) : Bool := s.upd.activation.any (fun a => !a.verifying)

/-- A packet waits in its transport for the end of an activation; a mode command is answered at once (R28, R29). (DEDUCED log 21) -/
def waitsOut (s : State) (k : Pkt) : Bool := activating s && k.opcode != 2 && k.req != .muslin

/-- Handles a packet by R468: the checks in order, then the command's own part, given the copy of its bulk data. A packet
in BOOT or in reset is lost (Table 15.6); a CP1 command waits until its reply fits (R483). (DEDUCED log 21) -/
def command (k : Pkt) (f : Fetch) (body : Option (List Byte) → State → Res) (s : State) : State :=
  if inReset s || mode s == mBoot then { s with cps := { s.cps with held := s.cps.held.erase k } }
  else if waitsOut s k then s
  else
    let s0 := arrive k s
    match precheck s0 k with
    | some st => if replyFits s k 0 then finish k st [] s0 else s
    | none =>
      match authorise k f s0 with
      | (s1, st, copy) =>
        if st ≠ 0 then (if replyFits s k 0 then finish k st [] s1 else s)
        else if !parLenOk k.opcode k.par then (if replyFits s k 0 then finish k St.badParam [] s1 else s)
        else
          let r := body copy s1
          if replyFits s k r.size then conclude k s1 r else s

/-- A command without referenced data. (DEDUCED log 21) -/
def plain (k : Pkt) (body : State → Res) (s : State) : State := command k .dmaError (fun _ t => body t) s

/-- The bulk data of a command in its own part: the copy SEC made, or the reference resolved now. -/
def bulk (k : Pkt) (f : Fetch) (copy : Option (List Byte)) (off need : Nat) (s : State) : Except Nat (List Byte) :=
  match copy with
  | some d => if d.length < need then .error St.badParam else .ok d
  | none => refData s (refAt k.par off) need f

/-- Refuses with a status unless a condition holds. -/
def need (c : Bool) (status : Nat) (r : Res) : Res := if c then r else .err status

/-- Bytes of the parameters at an offset are zero. -/
abbrev parZero (k : Pkt) (off n : Nat) : Bool := zeroAt k.par off n

/-! ### Configuration items (R512, R513) -/

/-- Places an item among others in ascending order of ITEM and INST, in place of the one of the same pair. -/
def itemsPut : List Item → Item → List Item
  | [], x => [x]
  | y :: t, x =>
    if x.item * 256 + x.inst < y.item * 256 + y.inst then x :: y :: t
    else if x.item = y.item ∧ x.inst = y.inst then x :: t
    else y :: itemsPut t x

/-- Records the running value of a configuration item: the parameter its command was last accepted with (R513). -/
def setItem (item inst : Nat) (data : List Byte) (s : State) : State :=
  { s with upd := { s.upd with items := itemsPut s.upd.items { item := item, inst := inst, data := data } } }

/-- Data of an item among others. -/
def itemData (l : List Item) (item inst : Nat) : Option (List Byte) :=
  (l.find? (fun x => x.item == item && x.inst == inst)).map (fun x => x.data)

/-- Begins the background part of a command (R488). -/
def startBg (k : Pkt) (s : State) : State :=
  { s with cps := { s.cps with bg := Tab.put s.cps.bg (opArea k.opcode) k } }

/-- Ends the background command of an area. -/
def endBg (area : Nat) (s : State) : State := { s with cps := { s.cps with bg := Tab.del s.cps.bg area } }

end Sys2Proof.Machine
end

