-- ==== Sys2Proof/Machine/Messages.lean ====
section
/-!
DEFINITION. Arrival of a complete Twill message (R252 to R254, R260, R270, R271): which link states carry it, whether it
is consumed or forwarded, and the duplicate rule of R23.
-/

namespace Sys2Proof.Machine

/-- The channel a message type belongs to (Table 9.4); none for reserved types. -/
def mtypeVc (t : Nat) : Option Nat :=
  if (1 ≤ t ∧ t ≤ 0x0D) ∨ (0x10 ≤ t ∧ t ≤ 0x15) ∨ (0x18 ≤ t ∧ t ≤ 0x1A) ∨ t = 0x1C then some 1
  else if t = 0x20 then some 2
  else if 0x30 ≤ t ∧ t ≤ 0x3F then some 3
  else none

/-- The link state of port p carries the message (Table 9.8). -/
def carries (s : State) (p : Nat) (m : Msg) : Bool :=
  match getF s (R.TWL_LL_STATUS_LSTATE p) with
  | 2 => m.vc == 1 && m.mtype == 0x1C
  | 3 => true
  | 4 => (m.vc == 1 && m.mtype == 0x1C) || m.vc == 2
  | _ => false

/-- The message is well formed for its channel (R253). -/
def msgOk (m : Msg) : Bool := m.vc == 0 || (mtypeVc m.mtype == some m.vc && decide (m.payload.length ≤ vcMax m.vc))

/-- Message types that a tile without a number consumes on VC1 (R278). -/
def unnumberedTakes (t : Nat) : Bool :=
  t == 0x03 || t == 0x05 || t == 0x07 || t == 0x0A || t == 0x0D || t == 0x1C

/-- What a tile does with a message (R270): consume, forward. A DISCOVER is forwarded up to hop 64 (R276). -/
def tileFate (s : State) (m : Msg) : Bool × Bool :=
  if m.hopaddr then (if m.hops + 1 = m.dest then (true, false) else (false, true))
  else if m.dest = s.cps.devnum ∧ m.dest ≠ 0xFFF then (true, false)
  else if m.dest = 0xFFF then (true, (m.src != s.cps.devnum || unnumbered s) &&
      decide (m.hops < if m.mtype = 0x03 then 64 else 63))
  else (false, true)

/-- What a sender does with a message (R271): consume, forward. -/
def senderFate (s : State) (m : Msg) : Bool × Bool :=
  if m.mtype = 0x0A ∨ m.mtype = 0x03 ∨ m.mtype = 0x09 then (true, false)
  else if m.hopaddr then (m.hops + 1 == m.dest, false)
  else if m.dest = s.cps.devnum then (true, false)
  else if m.dest = 0xFFF then (true, m.src != s.cps.devnum)
  else (false, true)

/-- Forwards a message that came in on port p. -/
def forwardMsg (p : Nat) (m : Msg) (s : State) : State :=
  let m' := { m with hops := m.hops + 1 }
  if sender s then
    if m.dest = 0xFFF then (ports.filter (fun q => q != p && linkUp s q)).foldl (fun a q => sendMsg q m' a) s
    else match senderRoute s m.dest with
      | some q => sendMsg q m' s
      | none => tally (R.TWL_NO_ROUTE_COUNT p) (16 + p) 8 p s
  else match otherPort s p with
    | some q => if linkUp s q then sendMsg q m' s else tally (R.TWL_NO_ROUTE_COUNT p) (16 + p) 8 p s
    | none => tally (R.TWL_NO_ROUTE_COUNT p) (16 + p) 8 p s

/-- Counts a protocol error of port p. -/
def proto (p : Nat) (s : State) : State := tally (R.TWL_PROTO_COUNT p) (16 + p) 3 p s

/-- The port belongs to the device's traffic: any port of a sender, a topology port of a tile. -/
def trafficPort (s : State) (p : Nat) : Bool := sender s || s.twl.topo.contains p

/-- A complete message arrives on port p; `take` is what consuming it does. The forwarding of a consumed broadcast uses
the state before it is consumed. -/
def msgIn (p : Nat) (m : Msg) (take : State → State) (s : State) : State :=
  if inReset s || mode s == mLockdown || !trafficPort s p then s
  else
    let s0 := { addF s (R.LINK_MSG_RX_COUNT p m.vc) 1 with
                twl := { s.twl with ports := s.twl.ports.map (fun e =>
                  if e.1 = p then (e.1, { e.2 with inbox := e.2.inbox.erase m }) else e) } }
    if !carries s p m || !msgOk m then proto p s0
    else
      let fate := if sender s then senderFate s m else tileFate s m
      let s1 := if fate.2 then forwardMsg p m s0 else s0
      if !fate.1 then s1
      else if m.vc == 1 && unnumbered s && !unnumberedTakes m.mtype then proto p s1
      else take s1

/-- A broadcast is a second copy of one already received from its issuer (R23). -/
def seenBefore (s : State) (src tag : Nat) : Bool := s.twl.seen.contains (src, tag)

/-- Notes a broadcast. -/
def noteSeen (src tag : Nat) (s : State) : State :=
  { s with twl := { s.twl with seen := ((src, tag) :: s.twl.seen).take 256 } }

end Sys2Proof.Machine
end

