-- ==== Sys2Proof/Machine/Transport.lean ====
section
/-!
DEFINITION. How command packets travel: the CP0 rings (R480 to R482), the CP1 FIFOs (R483), VC1 (R484 to R486), order and
in-flight limits (R487), and aggregate replies (R479).
-/

namespace Sys2Proof.Machine

/-- Outcome of a step of this machine. -/
abbrev Out := Host.Outcome State Fault Refusal

/-! ### Taking a packet -/

/-- Packets of a requester that are held. -/
def heldBy (s : State) (r : Req) : Nat := (s.cps.held.filter (fun k => k.req == r)).length

/-- In-flight limit of a requester (R487). (DEDUCED log 21) -/
def heldLimit (r : Req) : Nat := match r with | .vc1 _ _ => 32 | _ => 16

/-- Holds a packet for execution, or refuses it once the limit is reached; a check before step 10 that fails comes first
(R468). (DEDUCED log 21) -/
def hold (k : Pkt) (s : State) : State :=
  if heldLimit k.req ≤ heldBy s k.req then
    match precheck s k with
    | some st => finish k st [] s
    | none => finish k St.busy [] s
  else { s with cps := { s.cps with held := s.cps.held ++ [k] } }

/-- Tags in use by packets forwarded or collected. -/
def tagUsed (s : State) (t : Nat) : Bool := (Tab.get s.cps.fwd t).isSome || (Tab.get s.cps.aggs t).isSome

/-- A forwarding tag that is not in use (R484), counted up from a base the spec leaves open: at most 256 packets
and as many aggregates are outstanding. (DESIGN CHOICE log 42) -/
def freshTag (s : State) : Nat :=
  let n := Config.tagBase + s.cps.fwdNext
  (n + ((List.range 1024).find? (fun i => !tagUsed s ((n + i) % 4294967296))).getD 0) % 4294967296

/-- The packet as a sender forwards it: the forwarding tag, and ORIGIN for its host port (R484). (DEDUCED log 22) -/
def fwdPkt (k : Pkt) (tag : Nat) : Pkt :=
  let w2 := k.w2.toNat - wbits k.w2 24 1 * 16777216 + (if k.req = .cp1 then 16777216 else 0)
  { k with w1 := BitVec.ofNat 32 tag, w2 := BitVec.ofNat 32 w2 }

/-- The COMMAND message that carries a forwarded packet. -/
def fwdMsg (s : State) (k : Pkt) (tag : Nat) : Msg :=
  mkMsg s 1 0x01 (if k.scope = 0 then k.target else 0xFFF) (fwdPkt k tag).bytes

/-- Forwards a SCOPE 0 packet of a sender's host (R484). (DEDUCED log 22) -/
def forwardPkt (k : Pkt) (s : State) : State :=
  match senderRoute s k.target with
  | none => finish k St.noRoute [] s
  | some p =>
    if 256 ≤ s.cps.fwd.length then finish k St.busy [] s
    else
      let t := freshTag s
      let s1 := { s with cps := { s.cps with
        fwd := Tab.put s.cps.fwd t { pkt := k, resends := 0, interim := false }, fwdNext := (s.cps.fwdNext + 1) % 4294967296 } }
      sendMsg p (fwdMsg s k t) s1

/-- Issues a broadcast or group packet of a sender's host: collection starts, the packet goes out, and the sender
executes it itself where it is meant (R478, R479). -/
def issueWide (k : Pkt) (s : State) : State :=
  if 256 ≤ s.cps.fwd.length + s.cps.aggs.length then finish k St.busy [] s
  else
    let t := freshTag s
    let s1 := { s with cps := { s.cps with
      aggs := Tab.put s.cps.aggs t { pkt := k, replies := [], interim := [] }, fwdNext := (s.cps.fwdNext + 1) % 4294967296 } }
    let s2 := broadcast (fwdMsg s k t) s1
    if isMine s k then hold k s2 else s2

/-- A whole packet from the device's own host (R468 steps 1 to 7, R478). -/
def fromPort (k : Pkt) (s : State) : State :=
  let s0 := restartWatchdog k.req s
  if k.version != 2 then finish k St.badVersion [] s0
  else if !k.lengthOk then finish k St.badLength [] s0
  else if mode s == mLockdown then finish k St.lockdown [] s0
  else if !k.clean then finish k St.badParam [] s0
  else if (opInfo k.opcode).isNone then finish k St.badOpcode [] s0
  else if k.scope == 3 || !sender s || (k.scope == 0 && k.target == s.cps.devnum) then hold k s0
  else if !k.targetFits then finish k St.badParam [] s0
  else if k.scope == 0 then forwardPkt k s0
  else issueWide k s0

/-! ### CP0 rings -/

/-- The firmware takes packets: started, in no reset, and not in an activation hold (R505). -/
def takesPackets (s : State) : Bool :=
  !inReset s && mode s != mBoot && !(s.upd.activation.any (fun a => !a.verifying))

/-- A host write of CPS_CQ_TAIL (R480): bits above LOG2N are ignored. A tile ignores it. -/
def execCommandRingDoorbell (v : Word) (s : State) : Out :=
  .next (if alive s && sender s then setF s R.CPS_CQ_TAIL_TAIL (v.toNat % 1024 % ringSize s.cps.cqLog) else s)

/-- The device can take the next command entry (R480 to R482, R553). -/
def canFetch (s : State) : Bool :=
  takesPackets s && mode s != mLockdown && sender s && isSet s R.CPS_CQ_CTRL_ENABLE && isSet s R.PCI_STATUS_LINK_UP &&
    !isSet s R.PCI_STATUS_D3 && ringOn s && getF s R.CPS_CQ_HEAD_HEAD != getF s R.CPS_CQ_TAIL_TAIL &&
    decide (s.cps.rqReserved < ringFree s)

/-- Advances CPS_CQ_HEAD. -/
def cqAdvance (s : State) : State :=
  setF s R.CPS_CQ_HEAD_HEAD ((getF s R.CPS_CQ_HEAD_HEAD + 1) % ringSize s.cps.cqLog)

/-- The device takes the entry at the head of the command ring (R480, R481): its bytes, or none on a PCIe error. -/
def execCommandEntryFetch (entry : Option (List Byte)) (s : State) : Out :=
  .next (
    if !canFetch s then s
    else match entry with
      | none => tally R.CPS_DMA_ERR_COUNT 1 1 0 (cqAdvance s)
      | some l =>
        let k0 := packetOf .cp0 0 (l.take 4096)
        let k := { k0 with body := k0.body.take k0.plen }
        let s1 := cqAdvance s
        fromPort k { s1 with cps := { s1.cps with rqReserved := s1.cps.rqReserved + 1 } })

/-- A host write of CPS_RQ_HEAD (R481). -/
def execReplyRingHeadWrite (v : Word) (s : State) : Out :=
  .next (if alive s && sender s then setF s R.CPS_RQ_HEAD_HEAD v.toNat else s)

/-- A write of CPS_CQ_CTRL or CPS_RQ_CTRL (R482, R495): clearing ENABLE zeroes head and tail, setting it takes LOG2N. -/
def ringEnable (reply : Bool) (v : Word) (s : State) : State :=
  let log := max 2 (min 10 (wbits v 4 4))
  let en := wbits v 0 1
  if reply then
    let was := isSet s R.CPS_RQ_CTRL_ENABLE
    let s1 := setF (setF s R.CPS_RQ_CTRL_LOG2N log) R.CPS_RQ_CTRL_ENABLE en
    if en = 0 then setF (setF s1 R.CPS_RQ_HEAD_HEAD 0) R.CPS_RQ_TAIL_TAIL 0
    else if was then s1 else { s1 with cps := { s1.cps with rqLog := log, rqPhase := true } }
  else
    let was := isSet s R.CPS_CQ_CTRL_ENABLE
    let s1 := setF (setF s R.CPS_CQ_CTRL_LOG2N log) R.CPS_CQ_CTRL_ENABLE en
    if en = 0 then setF (setF s1 R.CPS_CQ_HEAD_HEAD 0) R.CPS_CQ_TAIL_TAIL 0
    else if was then s1 else { s1 with cps := { s1.cps with cqLog := log } }

/-- A write of a ring's control register; a tile ignores it (R482). -/
def execRingEnableWrite (reply : Bool) (v : Word) (s : State) : Out :=
  .next (if alive s && sender s then ringEnable reply v s else s)

/-! ### CP1 FIFOs -/

/-- Words of a packet in the command FIFO. -/
def pktWords (k : Pkt) : Nat := 4 + (k.body.length + 3) / 4

/-- Words the command FIFO holds: the partial packet and the whole packets not yet executed. -/
def cp1Level (s : State) : Nat :=
  s.cps.cp1Cmd.length + ((s.cps.held.filter (fun k => k.req == .cp1)).map pktWords).sum

/-- Words as bytes. -/
def wordBytes (l : List Word) : List Byte := (l.map (fun w => leBytes 4 w.toNat)).flatten

/-- The packet in hand as soon as it is whole, or known to be oversize. -/
def cp1Complete (s : State) : State :=
  let ws := s.cps.cp1Cmd
  if ws.length < 4 then s
  else
    let k0 := packetOf .cp1 0 (wordBytes ws)
    let empty := { s with cps := { s.cps with cp1Cmd := [] } }
    if 4080 < k0.plen then tally R.CPS_CP1_ERR_OVERSIZE 1 4 0 (finish { k0 with body := [] } St.badLength [] empty)
    else if ws.length < 4 + (k0.plen + 3) / 4 then s
    else fromPort { k0 with body := k0.body.take k0.plen } empty

/-- A word enters the command FIFO, or overflows it. -/
def cp1Push (v : Word) (s : State) : State :=
  if 2048 ≤ cp1Level s then tally R.CPS_CP1_ERR_OVERFLOW 1 4 0 s
  else cp1Complete { s with cps := { s.cps with cp1Cmd := s.cps.cp1Cmd ++ [v] } }

/-- A word written to CPS_CP1_CMD (R483). CPS is not reachable in BOOT (R531). -/
def execCp1CmdWrite (v : Word) (s : State) : Out :=
  .next (if inReset s || mode s == mBoot || mode s == mLockdown then s else cp1Push v s)

/-- A read of CPS_CP1_RPL (R483): the next reply word, or zero and a count. -/
def execCp1RplRead (s : State) : Out :=
  .next (
    if inReset s then s
    else if mode s == mBoot then send s (.readData 1 0)
    else match s.cps.cp1Rpl with
      | [] => send (tally R.CPS_CP1_ERR_UNDERFLOW 1 4 0 s) (.readData 1 0)
      | w :: rest => send { s with cps := { s.cps with cp1Rpl := rest } } (.readData 1 w))

/-- FLUSH (R483): both FIFOs and any partial packet empty; whole commands still execute, their replies are discarded. (DEDUCED log 22) -/
def cp1Flush (s : State) : State :=
  { s with cps := { s.cps with
      cp1Cmd := [], cp1Rpl := [], mute := s.cps.held.filter (fun k => k.req == .cp1) ++ s.cps.mute } }

/-- A write of 1 to CPS_CP1_CTRL.FLUSH. -/
def execCp1Flush (s : State) : Out := .next (if running s then cp1Flush s else s)

/-- The words of a CP1 packet stop for 100 ms (R483). -/
def execCp1PartialTimeout (s : State) : Out :=
  .next (
    if inReset s || s.cps.cp1Cmd.isEmpty then s
    else tally R.CPS_CP1_ERR_PARTIAL_TO 1 4 0 { s with cps := { s.cps with cp1Cmd := [] } })

/-- The QSPI STATUS byte (R532). -/
def execQspiStatus (s : State) : Out :=
  .next (
    if inReset s then s
    else send s (.qspiStatus ((if s.sys.fwRunning then 1 else 0) + (if s.cps.cp1Rpl.isEmpty then 0 else 2) +
      (if hqIntLow s then 4 else 0))))

/-! ### VC1 -/

/-- A COMMAND message remembered (R486). (DEDUCED log 21) -/
def dupOf (s : State) (src tag : Nat) : Option DupRec := s.cps.dups.find? (fun d => d.src == src && d.tag == tag)

/-- Remembers a COMMAND message of SCOPE 0; the last 256 of each SRC are kept. -/
def dupAdd (src tag scope : Nat) (s : State) : State :=
  let d : DupRec := { src := src, tag := tag, scope := scope, reply := none }
  let mine := (d :: s.cps.dups.filter (fun x => x.src == src)).take 256
  { s with cps := { s.cps with dups := mine ++ s.cps.dups.filter (fun x => x.src != src) } }

/-- A COMMAND message consumed by this device (R484, R486). In BOOT it is discarded and counted (Table 15.6). (DEDUCED log 21) -/
def takeCommand (p : Nat) (m : Msg) (s : State) : State :=
  let k0 := packetOf (.vc1 m.src false) p m.payload
  let k := { k0 with req := .vc1 m.src k0.origin }
  if mode s == mBoot then proto p s
  else if k.scope == 0 then
    match dupOf s m.src k.tag with
    | some d =>
      let s1 := incF s R.CPS_DUP_COUNT
      let s2 := occur 1 4 0 0 s1
      (match d.reply with
       | some b =>
         let r := mkMsg s2 1 0x02 m.src b
         if sender s2 then sendTo m.src r s2 else sendMsg p r s2
       | none => putReply k 1 St.pending [] s2)
    | none => hold k (restartWatchdog k.req (dupAdd m.src k.tag 0 s))
  else if seenBefore s m.src k.tag then s
  else
    let s1 := noteSeen m.src k.tag s
    if isMine s k then hold k (restartWatchdog k.req s1) else s1

/-- A COMMAND message arrives (R484). -/
def execCommand (p : Nat) (m : Msg) (s : State) : Out := .next (msgIn p m (takeCommand p m) s)

/-- A reply reaches the sender that forwarded the packet: restored and passed on (R484, R485), or collected (R479). -/
def takeReply (m : Msg) (s : State) : State :=
  let w0 := u32 m.payload 0
  let tag := u32 m.payload 4
  let status := u32 m.payload 8 / 65536
  let interim := w0.testBit 16
  let data := sub m.payload 16 (u32 m.payload 12 % 8192)
  match Tab.get s.cps.fwd tag with
  | some e =>
    if interim then
      sendInterim e.pkt { s with cps := { s.cps with fwd := Tab.put s.cps.fwd tag { e with interim := true, resends := 0 } } }
    else
      let s1 := { s with cps := { s.cps with fwd := Tab.del s.cps.fwd tag } }
      -- RESPONDER is the device that replied
      let s2 := unreserve e.pkt s1
      if s2.cps.mute.contains e.pkt then { s2 with cps := { s2.cps with mute := s2.cps.mute.erase e.pkt } }
      else
        let d := s2.cps.devnum
        let t := putReply e.pkt 0 status data { s2 with cps := { s2.cps with devnum := u32 m.payload 8 % 4096 } }
        { t with cps := { t.cps with devnum := d } }
  | none =>
    match Tab.get s.cps.aggs tag with
    | some a =>
      if interim then { s with cps := { s.cps with
          aggs := Tab.put s.cps.aggs tag { a with interim := m.src :: a.interim.filter (· != m.src) } } }
      else aggNote tag m.src status s
    | none => s

/-- A REPLY message arrives (R484). -/
def execReply (p : Nat) (m : Msg) (s : State) : Out := .next (msgIn p m (takeReply m) s)

/-- A command has had no final reply for 10 ms, or for a further second (R485). -/
def execInterimReplyTimer (k : Pkt) (s : State) : Out :=
  .next (
    if !running s then s
    else match aggOf s k with
      | some t =>
        { s with cps := { s.cps with aggs := s.cps.aggs.map (fun e =>
            if e.1 = t then (e.1, { e.2 with interim := s.cps.devnum :: e.2.interim.filter (· != s.cps.devnum) }) else e) } }
      | none => sendInterim k s)

/-- A forwarded packet has no reply in time (R485): resent twice, then answered NO_REPLY. (DESIGN CHOICE log 3) -/
def execForwardResendTimeout (tag : Nat) (s : State) : Out :=
  .next (
    if !running s then s
    else match Tab.get s.cps.fwd tag with
      | none => s
      | some e =>
        if e.pkt.quiet then s
        else if e.resends < 2 then
          let s1 := tally R.CPS_FWD_RESENDS 1 4 0
            { s with cps := { s.cps with fwd := Tab.put s.cps.fwd tag { e with resends := e.resends + 1 } } }
          sendTo e.pkt.target (fwdMsg s1 e.pkt tag) s1
        else
          finish e.pkt St.noReply []
            (tally R.CPS_FWD_NO_REPLY 1 3 0 { s with cps := { s.cps with fwd := Tab.del s.cps.fwd tag } }))

/-- A forwarded QUIET packet has gone unanswered for 2 s (R470). -/
def execQuietForget (tag : Nat) (s : State) : Out :=
  .next (
    match Tab.get s.cps.fwd tag with
    | some e =>
      if e.pkt.quiet then unreserve e.pkt { s with cps := { s.cps with fwd := Tab.del s.cps.fwd tag } } else s
    | none => s)

/-- Device numbers of the slots this sender serves. -/
def servedDevices (s : State) : List Nat :=
  ((s.cel.slots.map Prod.fst).filter (fun i => slotState s i == 2)).map (fun i => getF s (R.CEL_S_W0_DEVNUM i))

/-- Devices of a broadcast that gave no final reply (R479); none for a group packet. (DEDUCED log 22) -/
def aggMissing (s : State) (a : Agg) : List Nat :=
  if a.pkt.scope = 1 then (servedDevices s).filter (fun d => (Tab.get a.replies d).isNone) else []

/-- The list of an aggregate result (Table 15.5), ascending by device number within each part. -/
def aggList (s : State) (a : Agg) : List (Nat × Nat) :=
  (a.replies.filter (fun e => e.2 != 0)) ++
    (((List.range 4096).filter (fun d => (aggMissing s a).contains d)).map (fun d => (d, St.noReply)))

/-- The aggregate result. -/
def aggResult (s : State) (a : Agg) : List Byte :=
  let l := (aggList s a).take 1000
  leBytes 2 ((a.replies.filter (fun e => e.2 == 0)).length) ++ leBytes 2 ((a.replies.filter (fun e => e.2 != 0)).length) ++
    leBytes 2 (aggMissing s a).length ++ leBytes 2 l.length ++ (l.map (fun e => leBytes 4 (e.1 + e.2 * 65536))).flatten

/-- Collection of a broadcast or group command ends (R479). -/
def execAggregateCollectionEnd (tag : Nat) (s : State) : Out :=
  .next (
    if !running s then s
    else match Tab.get s.cps.aggs tag with
      | none => s
      | some a =>
        let awaited := a.interim.filter (fun d => (Tab.get a.replies d).isNone)
        let good := a.replies.all (fun e => e.2 == 0) && (aggMissing s a).isEmpty && awaited.isEmpty
        let s1 := unreserve a.pkt { s with cps := { s.cps with aggs := Tab.del s.cps.aggs tag } }
        if s1.cps.mute.contains a.pkt then { s1 with cps := { s1.cps with mute := s1.cps.mute.erase a.pkt } }
        else putReply a.pkt 2 (if good then St.ok else St.part) (aggResult s a) s1)

/-! ### Envelopes -/

/-- SEC finishes the checks of an envelope (R439): the command is released, or answered with the status of the first
check that fails. -/
def execEnvelopeVerified (k : Pkt) (f : Fetch) (s : State) : Out :=
  .next (
    if !running s || !k.signed || !s.cps.held.contains k || (releasedOf s k).isSome then s
    else match precheck s k with
      | some _ => s
      | none =>
        match envelope k f s with
        | (s1, st, copy) =>
          if st = 0 then { s1 with sec := { s1.sec with released := s1.sec.released ++ [{ pkt := k, copy := copy }] } }
          else if replyFits s k 0 then
            finish k st [] { s1 with cps := { s1.cps with held := s1.cps.held.erase k } }
          else s)

/-- A requester's 60 s of throttling end (R442). -/
def execEnvelopeThrottleExpiry (r : Req) (s : State) : Out :=
  .next (
    let l := s.sec.throttled.filter (fun e => e.1 != r)
    setB { s with sec := { s.sec with throttled := l } } R.SEC_STATUS_THROTTLED (!l.isEmpty))

end Sys2Proof.Machine
end

