-- ==== Sys2Proof/Machine/Frames.lean ====
section
/-!
DEFINITION. Present instants (R314, R315, R600), frame boundaries and their setup deadlines (R110, R138): the arithmetic
every block that works by frames shares. Boundary times are held in units of 1/16 ns, so that LEAD × P is exact.
-/

namespace Sys2Proof.Machine

/-- T_N under one set of present parameters (R314). -/
def Params.t (p : Params) (n : Nat) : Nat := p.epochWt + (n - p.epochN) * p.den * 1000000000 / p.num

/-- The largest frame with T_N ≤ w, none before EPOCH_WT. -/
def Params.frameAt (p : Params) (w : Nat) : Option Nat :=
  if w < p.epochWt then none else some (p.epochN + ((w - p.epochWt + 1) * p.num - 1) / (p.den * 1000000000))

/-- The set that frame n falls under: the pending one from its EPOCH_N on. -/
def paramsFor (s : State) (n : Nat) : Option Params :=
  match s.tim.params, s.tim.nextParams with
  | some p, some q => if q.epochN ≤ n then some q else some p
  | some p, none => some p
  | none, some q => if q.epochN ≤ n then some q else none
  | none, none => none

/-- T_N in ns of WT. -/
def tOf (s : State) (n : Nat) : Option Nat :=
  match paramsFor s n with
  | some p => if p.epochN ≤ n then some (p.t n) else none
  | none => none

/-- P_N in ns. -/
def periodOf (s : State) (n : Nat) : Nat :=
  match tOf s n, tOf s (n + 1) with
  | some a, some b => b - a
  | _, _ => 0

/-- Present instants exist (R315, R600): not in BOOT or LOCKDOWN, WT held, parameters known. -/
def hasInstants (s : State) : Bool := running s && wtHeld s && s.tim.params.isSome

/-- The present frame number now (R314). -/
def frameNow (s : State) : Option Nat :=
  if !hasInstants s then none
  else
    match s.tim.params, s.tim.nextParams with
    | some p, some q => if q.epochWt ≤ wtNs s then q.frameAt (wtNs s) else p.frameAt (wtNs s)
    | some p, none => p.frameAt (wtNs s)
    | _, _ => none

/-- The present frame number, zero where there is none. -/
abbrev frameNow0 (s : State) : Nat := (frameNow s).getD 0

/-- WT in units of 1/16 ns. -/
abbrev wt16 (s : State) : Nat := s.tim.wt.t16 / 4096

/-- B_N in units of 1/16 ns (R110). -/
def boundary16 (s : State) (n : Nat) : Option Int :=
  match tOf s n with
  | some t => some (16 * (t : Int) - ((getF s R.CMP_STATUS_LEAD_EFF * periodOf s n : Nat) : Int))
  | none => none

/-- The setup deadline of B_N, 50 µs before it, has passed. -/
def deadlinePassed (s : State) (n : Nat) : Bool :=
  match boundary16 s n with
  | some b => decide (b - 800000 ≤ (wt16 s : Int))
  | none => true

/-- The first frame of the sets held. -/
def firstFrame (s : State) : Nat := match s.tim.params with | some p => p.epochN | none => 0

/-- The first boundary whose setup deadline has not passed. -/
def nextBoundary (s : State) : Nat :=
  let n0 := max (firstFrame s) (frameNow0 s)
  ((List.range 8).map (n0 + ·)).find? (fun n => !deadlinePassed s n) |>.getD (n0 + 8)

/-- The signed 32-bit difference of two frame numbers. -/
def frameDiff (a b : Nat) : Int := signed 32 (unsigned 32 ((a : Int) - b))

/-- The whole frame number whose low 32 bits are `lo`, nearest the present one. -/
def frameOf (s : State) (lo : Nat) : Nat := ((frameNow0 s : Int) + frameDiff lo (frameNow0 s)).toNat

/-- The present cadence as NUM and DEN: the higher of the set in force and a pending one (R129). -/
def cadence (s : State) : Option (Nat × Nat) :=
  match s.tim.params, s.tim.nextParams with
  | some p, some q => if p.num * q.den < q.num * p.den then some (q.num, q.den) else some (p.num, p.den)
  | some p, none => some (p.num, p.den)
  | _, _ => none

end Sys2Proof.Machine
end

