-- ==== Sys2Proof/Machine/Clock.lean ====
section
/-!
DEFINITION. Time bases (R292 to R294), holdover and the oscillator curve (R308, R309), and the trigger units (R310 to
R312): the clocks, their servo, and what one XO cycle does.
-/

namespace Sys2Proof.Machine

/-- As `inexact`, for signed values: exact where it divides, else one of the two neighbours. (DESIGN CHOICE log 8) -/
def inexactZ (site : Nat) (num : Int) (den : Nat) : Int :=
  let q := num / (den : Int)
  if num % (den : Int) = 0 then q else q + (if Config.roundsUp site num.natAbs den then 1 else 0)

/-- One ns in the unit of `Clock.fine`. (DEDUCED log 36) -/
abbrev fineNs : Nat := 2 ^ 60

/-! ### The two derived clocks -/

/-- WT, or NT. -/
def clockOf (s : State) (w : Bool) : Clock := if w then s.tim.wt else s.tim.nt

/-- Changes a derived clock; TIM_RATE shows the rate word of WT (R323). -/
def clockPut (w : Bool) (c : Clock) (s : State) : State :=
  if w then setI { s with tim := { s.tim with wt := c } } R.TIM_RATE_VAL c.r
  else { s with tim := { s.tim with nt := c } }

/-- The servo state field. -/
def servoFld (w : Bool) : Fld := if w then R.TIM_STATUS_WT_STATE else R.TIM_STATUS_NT_STATE

/-- Table 10.2: 0 NONE, 1 ACQUIRE, 2 LOCKED, 3 HOLDOVER. -/
abbrev servoState (s : State) (w : Bool) : Nat := getF s (servoFld w)

/-- A derived clock one XO cycle of 20 ns later (R294). (DESIGN CHOICE log 2) -/
def Clock.tick (c : Clock) : Clock :=
  let add := c.sigma * (20 * 65536)
  let base := c.fine + ((2 : Int) ^ 44 + c.r) * (20 * 65536)
  if c.phi.natAbs ≤ add.natAbs then { c with fine := base + c.phi, phi := 0, sigma := 0 }
  else { c with fine := base + add, phi := c.phi - add }

/-! ### The oscillator curve (R308) -/

/-- The sensor in use: the one TSRC names, or on-die sensor 0 where THM has declared it failed. -/
def oscSensor (s : State) : Nat :=
  let i := getF s R.TIM_OSC_TSRC
  if isSet s (R.THM_SENSM_FAILED i) then 0 else i

/-- Oscillator temperature in 1/16 °C. -/
def oscTemp (s : State) : Int := getI s (R.THM_SENS_USED (oscSensor s))

/-- Centre of a bin in 1/16 °C. -/
def binCentre (b : Nat) : Int := 40 * (b : Int) - 620

/-- The bin of a temperature. -/
def binOf (t : Int) : Option Nat := if t < -640 ∨ 1920 ≤ t then none else some ((t + 640) / 40).toNat

/-- Populated bins with their Y, lowest first. -/
def curvePoints (s : State) : List (Int × Int) :=
  (idxs 64 (fun b => decide (16 ≤ getF s (R.CURVE_N_COUNT b)))).map (fun b => (binCentre b, getI s (R.CURVE_Y_Y b)))

/-- The line through two points at a temperature. -/
def lineAt (a b : Int × Int) (t : Int) : Int :=
  a.2 + inexactZ 9 ((b.2 - a.2) * (t - a.1)) (b.1 - a.1).toNat

/-- y(T) over the populated bins; none for an empty curve. -/
def curveAt (pts : List (Int × Int)) (t : Int) : Option Int :=
  match pts, pts.reverse with
  | a :: b :: _, y :: x :: _ =>
    if t < a.1 then some (lineAt a b (max t (a.1 - 160)))
    else if y.1 < t then some (lineAt x y (min t (y.1 + 160)))
    else ((pts.zip (pts.drop 1)).find? (fun p => decide (p.1.1 ≤ t) && decide (t ≤ p.2.1))).map (fun p => lineAt p.1 p.2 t)
  | _, _ => none

/-! ### Holdover (R309) -/

/-- Time-weighted sum of the rate words in force between two instants of LT, from the changes of r, newest first. -/
def rateSum : List (Nat × Int) → Nat → Nat → Int
  | [], _, _ => 0
  | (at_, r) :: t, from_, to_ =>
    if to_ ≤ from_ then 0
    else if at_ ≤ from_ then r * ((to_ - from_ : Nat) : Int)
    else if at_ < to_ then r * ((to_ - at_ : Nat) : Int) + rateSum t from_ at_
    else rateSum t from_ to_

/-- The mean rate word between two instants; a free value over an empty span. (DEDUCED log 36) -/
def meanRate (s : State) (c : Clock) (from_ to_ : Nat) : Int :=
  if to_ ≤ from_ then signed 32 (freeVal s 32) else inexactZ 10 (rateSum c.history from_ to_) (to_ - from_)

/-- The rate of a clock in HOLDOVER at the present temperature. -/
def holdRate (s : State) (c : Clock) : Int :=
  if !c.everLocked then 0
  else match curveAt (curvePoints s) (oscTemp s), curveAt (curvePoints s) c.tLoss with
    | some a, some b => max (-2147483648) (min 2147483648 (c.rLast - (a - b)))
    | _, _ => c.rLast

/-- Sets the rate word and notes it. -/
def Clock.setRate (c : Clock) (lt : Nat) (r : Int) : Clock :=
  { c with r := r, history := (lt, r) :: c.history.take 4096 }

/-- Changes the servo state: TIM_EVT counts it, HOLDOVER is recorded and is a fault (R309, Table 18.8). `ts` is the
sample interval in 2^-16 ns. -/
def servoEnter (w : Bool) (st ts : Nat) (s : State) : State :=
  if servoState s w = st then s
  else
    let t := raise 11 (setF s (servoFld w) st)
    let c := clockOf t w
    let lt := t.tim.lt
    match st with
    | 1 => clockPut w { c with lastSample := none, good := 0 } t
    | 2 => clockPut w { c with everLocked := true, lockedAt := lt, bad := 0 } t
    | 3 =>
      let from_ := max (lt - 16000000000 * 65536) c.lockedAt
      let c1 := { c with rLast := meanRate t c from_ (lt - 2 * ts), tLoss := oscTemp t, holdAt := lt }
      occur 10 1 (if w then 0 else 1) 0 (clockPut w (c1.setRate lt (holdRate t c1)) (takeFree t))
    | _ => t

/-! ### The servo (R294) -/

/-- STEP_NS. -/
def stepNs (s : State) : Nat := 2 ^ getF s R.TIM_CTRL_STEP_EXP

/-- SLEW in units of 2^-44. -/
def slewLimit (s : State) : Nat := inexact 11 (getF s R.TIM_CTRL_SLEW_PPM * 2 ^ 44) 1000000

/-- TAU in ns. -/
def tauNs (w : Bool) : Nat := if w then 2000000000 else 8000000000

/-- The sync interval in 2^-16 ns. -/
def syncUnits (s : State) : Nat := 1000000000 * 65536 / 2 ^ getF s R.TIM_CTRL_SYNC_EXP

/-- What a sample does to phase and rate in ACQUIRE or LOCKED. The state says whether it stepped. -/
def servoAct (w : Bool) (theta : Int) (ts : Nat) (s : State) : State :=
  let c := clockOf s w
  let lt := s.tim.lt
  let acq := servoState s w == 1
  let delta := match c.lastSample with | some t => lt - t | none => ts
  let big := decide (stepNs s * fineNs < theta.natAbs)
  let c1 := if acq && big then { c with fine := c.fine + theta, phi := 0 }
    else
      let r := if acq then c.r + inexactZ 12 theta (4 * delta) else c.r + inexactZ 13 theta (65536 * tauNs w)
      { c.setRate lt (max (-2147483648) (min 2147483648 r)) with phi := theta }
  let lim := (slewLimit s : Int)
  let c2 := { c1 with sigma := max (-lim) (min lim (inexactZ 14 c1.phi ts)), lastSample := some lt }
  let t := clockPut w c2 s
  if acq && big then tally R.TIM_STEP_CNT_COUNT 10 5 0 t else t

/-- Counts a sample toward LOCKED or back to ACQUIRE (Table 10.2). -/
def servoJudge (w : Bool) (theta : Int) (lock ts : Nat) (s : State) : State :=
  let c := clockOf s w
  if servoState s w = 1 then
    let g := if theta.natAbs ≤ lock * fineNs then c.good + 1 else 0
    let t := clockPut w { c with good := g } s
    if 16 ≤ g then servoEnter w 2 ts t else t
  else
    let b := if 4 * lock * fineNs < theta.natAbs then c.bad + 1 else 0
    let t := clockPut w { c with bad := b } s
    if 8 ≤ b then servoEnter w 1 ts t else t

/-! ### Triggers (R310, R311, R551) -/

/-- The 4 ns ticks of WT that a compare value spans. (DEDUCED log 36) -/
def wtTick (s : State) : Nat := s.tim.wt.ns / 4 % 4294967296

/-- A pulse in progress on a pin ends. -/
def pulseStop (g : Nat) (s : State) : State := { s with sys := { s.sys with pulses := s.sys.pulses.filter (· != g) } }

/-- Gives a pin its bit of SYS_GPIO_OUT; a pulse on it ends. -/
def gpioDrive (g : Nat) (high : Bool) (s : State) : State :=
  let v := getF s R.SYS_GPIO_OUT_OUT
  setF (pulseStop g s) R.SYS_GPIO_OUT_OUT (v % 2 ^ g + (if high then 2 ^ g else 0) + v / 2 ^ (g + 1) * 2 ^ (g + 1))

/-- The GPIO exists and is an output. -/
def gpioOutput (s : State) (g : Nat) : Bool := decide (g < 24) && (getF s R.SYS_GPIO_DIR_DIR).testBit g

/-- The action of a unit on its pin (R551). -/
def triggerAct (k : Nat) (s : State) : State :=
  let g := getF s (R.TRIG_CTL_GPIO k)
  if !gpioOutput s g then s
  else match getF s (R.TRIG_CTL_ACTION k) with
    | 1 => let t := pulseStop g s
           { t with sys := { t.sys with pulses := g :: t.sys.pulses } }
    | 2 => gpioDrive g true s
    | 3 => gpioDrive g false s
    | _ => s

/-- A unit fires, late by a number of ticks where `late` is given. -/
def triggerFire (k : Nat) (late : Option Nat) (s : State) : State :=
  let t := setF (setB (setF s (R.TRIG_CTL_ARMED k) 0) (R.TRIG_CTL_LATE k) late.isSome) (R.TRIG_LATENESS_VAL k) (late.getD 0)
  let u := if late.isSome then raise 12 (occur 10 5 k 0 t) else t
  triggerAct k (raise (40 + k) u)

/-- The outcome of arming a unit at its compare value (R310): 0 armed, 1 fired late, 2 TOO_LATE, 3 no WT. -/
def triggerArm (k : Nat) (s : State) : State × Nat :=
  let refuse := fun (t : State) => setF (setF t (R.TRIG_CTL_ARMED k) 0) (R.TRIG_CTL_REFUSED k) 1
  if !wtValid s then (refuse s, 3)
  else
    let d := signed 32 (unsigned 32 ((getF s (R.TRIG_CMP_CMP k) : Int) - wtTick s))
    if 0 < d then (setF (setF (setF s (R.TRIG_CTL_ARMED k) 1) (R.TRIG_CTL_REFUSED k) 0) (R.TRIG_CTL_LATE k) 0, 0)
    else if -(getF s R.TIM_LATE_WIN_W : Int) < d then (triggerFire k (some (-d).toNat) (setF s (R.TRIG_CTL_REFUSED k) 0), 1)
    else (refuse s, 2)

/-- A step of WT takes each armed unit (R311). `old` is WT in 4 ns ticks before the step, not reduced. -/
def triggerStep (old : Int) (s : State) : State :=
  let new := s.tim.wt.fine / (4 * fineNs : Nat)
  (idxs 16 (fun k => isSet s (R.TRIG_CTL_ARMED k))).foldl (fun a k =>
    let ahead := (unsigned 32 ((getF a (R.TRIG_CMP_CMP k) : Int) - old) : Int)
    let d := ahead - (new - old)
    if 0 < d then a
    else if -(getF a R.TIM_LATE_WIN_W : Int) < d then triggerFire k (some (-d).toNat) a
    else tally R.TIM_MISSED_COUNT 10 2 k (setF a (R.TRIG_CTL_ARMED k) 0)) s

/-- A valid sample of a derived clock: θ in 2^-60 ns, what the clock is to read now where it is not valid yet, LOCK_NS
and T_s. -/
def servoSample (w : Bool) (theta now : Int) (lock ts : Nat) (s : State) : State :=
  let shown := fun (t : State) => if w then setSatI t R.TIM_OFFSET_VAL (inexactZ 15 (theta * 1000) fineNs) else t
  match servoState s w with
  | 0 => servoEnter w 1 ts (clockPut w ({ clockOf s w with fine := now, phi := 0, sigma := 0 }.setRate s.tim.lt 0) (shown s))
  | 3 =>
    let old := (clockOf s w).fine / (4 * fineNs : Nat)
    let t := servoAct w theta ts (servoEnter w 1 ts (shown s))
    let u := if w && decide (stepNs s * fineNs < theta.natAbs) then triggerStep old t else t
    servoJudge w theta lock ts u
  | st =>
    let old := (clockOf s w).fine / (4 * fineNs : Nat)
    let t := servoAct w theta ts (shown s)
    let u := if w && st == 1 && decide (stepNs s * fineNs < theta.natAbs) then triggerStep old t else t
    servoJudge w theta lock ts u

/-- The reference of a clock is lost (R309). -/
def servoLost (w : Bool) (ts : Nat) (s : State) : State :=
  let st := servoState s w
  if st = 1 ∨ st = 2 then servoEnter w 3 ts s else s

/-! ### One XO cycle (R293, R294, R318) -/

/-- Whole seconds of a clock in ns. (DESIGN CHOICE log 2) -/
abbrev wholeSeconds (ns : Nat) : Nat := ns / 1000000000

/-- The pulse that PPS_OUT asks for where a whole second has passed. (DESIGN CHOICE log 2) -/
def ppsOut (old s : State) : State :=
  let m := getF s R.TIM_CTRL_PPS_OUT
  if alive s && ((m == 1 && wtValid s && wholeSeconds (wtNs old) != wholeSeconds (wtNs s)) ||
      (m == 3 && sender s && ntValid s && wholeSeconds (ntNs old) != wholeSeconds (ntNs s))) then send s .pps
  else s

/-- Time advances by one XO cycle: LT outside power-on reset, and the derived clocks that are valid. (DESIGN CHOICE log 2) -/
def tick (s : State) : State :=
  if s.sys.rst.porst || s.sys.rst.power then s
  else
    let t := s.tim
    let s1 := { s with tim := { t with
      lt := (t.lt + 20 * 65536) % 2 ^ 80
      wt := if wtValid s then t.wt.tick else t.wt
      nt := if ntValid s then t.nt.tick else t.nt } }
    ppsOut s s1

/-! ### Learning and holdover, once per second (R308, R309) -/

/-- The clock whose rate is learned: NT for a master with WT_SRC 0, else WT. -/
def learnsFromWt (s : State) : Bool := !(isSet s R.TIM_STATUS_MASTER && getF s R.TIM_CTRL_WT_SRC == 0)

/-- The temperature has stayed within 1 °C over the last 10 s. -/
def tempSteady (l : List (Nat × Int)) : Bool :=
  match l with
  | [] => true
  | (_, t) :: r => decide ((r.foldl (fun a e => max a e.2) t) - (r.foldl (fun a e => min a e.2) t) ≤ 16)

/-- Adds a second's rate to the bin of the present temperature. -/
def learnBin (s : State) (w : Bool) : State :=
  let c := clockOf s w
  let lt := s.tim.lt
  match binOf (oscTemp s) with
  | none => s
  | some b =>
    let n := getF s (R.CURVE_N_COUNT b)
    let y := -(meanRate s c (lt - 1000000000 * 65536) lt)
    let old := getI s (R.CURVE_Y_Y b)
    let t := setI s (R.CURVE_Y_Y b) (old + inexactZ 16 (y - old) (min (n + 1) 256))
    let u := setF t (R.CURVE_N_COUNT b) (min (n + 1) 65535)
    setB u R.TIM_STATUS_CURVE_OK (decide (2 ≤ (curvePoints u).length))

/-- A clock in HOLDOVER takes its rate anew; HOLD_LONG follows the duration of WT's. -/
def holdAgain (w : Bool) (s : State) : State :=
  if servoState s w = 3 then clockPut w ((clockOf s w).setRate s.tim.lt (holdRate s (clockOf s w))) s else s

/-- Seconds of the current HOLDOVER of WT. -/
def holdSeconds (s : State) : Nat :=
  if servoState s true = 3 then min 16777215 ((s.tim.lt - s.tim.wt.holdAt) / (1000000000 * 65536)) else 0

/-- HOLD_LONG as it stands. -/
def holdLong (s : State) : Bool := servoState s true == 3 && decide (getF s R.TIM_HOLD_S_HOLD_WARN ≤ holdSeconds s)

/-- Brings HOLD_LONG up to date; its rise and fall are those of a level cause. -/
def holdLongUpdate (s : State) : State :=
  let now := holdLong s
  if isSet s R.TIM_STATUS_HOLD_LONG = now then s
  else
    let t := setB s R.TIM_STATUS_HOLD_LONG now
    if now then levelRise 10 5 0 t else levelFall 10 5 t

/-- Once per second: learning and holdover (R308, R309). -/
def execOscLearn (s : State) : Out :=
  .next (
    if !running s then s
    else
      let now := ltNs s
      let temps := (now, oscTemp s) :: s.tim.temps.filter (fun e => decide (now ≤ e.1 + 10000000000))
      let s1 := { s with tim := { s.tim with temps := temps } }
      let w := learnsFromWt s1
      let locked := servoState s1 w == 2 && decide ((clockOf s1 w).lockedAt + 60000000000 * 65536 ≤ s1.tim.lt)
      let s2 := if locked && tempSteady temps then learnBin s1 w else s1
      holdLongUpdate (holdAgain true (holdAgain false s2)))

/-- WT reaches an armed compare value (R310). -/
def execTriggerFire (k : Nat) (s : State) : Out :=
  .next (if alive s && decide (k < 16) && isSet s (R.TRIG_CTL_ARMED k) then triggerFire k none s else s)

/-- PULSE ticks have passed: the pin returns to its bit (R551). -/
def execPulseEnd (g : Nat) (s : State) : Out := .next (pulseStop g s)

/-! ### The commands of the trigger units (R312) -/

/-- `arm-trigger`: a refusal leaves the unit as it was. -/
def execArmTrigger (k : Pkt) (s : State) : Out :=
  .next (plain k (fun t =>
    let u := k.p8 0
    if 16 ≤ u ∨ 4 ≤ k.p8 1 ∨ 24 ≤ k.p8 2 ∨ !parZero k 3 1 ∨ !parZero k 10 2 then .err St.badParam
    else
      let a := setF (setF (setF (setF t (R.TRIG_CMP_CMP u) (k.p32 4)) (R.TRIG_CTL_ACTION u) (k.p8 1)) (R.TRIG_CTL_GPIO u) (k.p8 2))
        (R.TRIG_CTL_PULSE u) (max 1 (k.p16 8))
      match triggerArm u a with
      | (_, 3) => .err St.badState
      | (_, 2) => .err St.tooLate
      | (b, o) => .ok b (leBytes 4 o ++ leBytes 4 (if o = 1 then getF b (R.TRIG_LATENESS_VAL u) else 0))) s)

/-- `disarm-trigger`. -/
def execDisarmTrigger (k : Pkt) (s : State) : Out :=
  .next (plain k (fun t =>
    if 16 ≤ k.p8 0 ∨ !parZero k 1 3 then .err St.badParam else .ok (setF t (R.TRIG_CTL_ARMED (k.p8 0)) 0) []) s)

end Sys2Proof.Machine
end

