-- ==== Sys2Proof/Machine/Access.lean ====
section
/-!
DEFINITION. The gate every register write passes (R529 to R531, R534, R535, R540) and the plain storing of a word: which
field kinds a write changes (R7) and the limits some fields keep (the register tables of each chapter).
A requester is 0 for CP0, 1 for CP1, 2 for a command, 3 for the firmware.
-/

namespace Sys2Proof.Machine

/-- The block is powered in the role (Table 17.3). ETH, ING and CMP are a sender's, DMK and STR a tile's. -/
def blockPowered (snd : Bool) (b : Nat) : Bool :=
  if b = 4 ∨ b = 5 ∨ b = 7 then snd
  else if b = 12 ∨ b = 13 then !snd
  else decide (b < 24)

/-- A requester reaches registers of a block: in BOOT only SYS, through CP1 or, for a PCIe boot, CP0, and the firmware
every block; a tile has no BAR. (DEDUCED log 13) -/
def reaches (s : State) (q b : Nat) : Bool :=
  !inReset s &&
    (if mode s = mBoot then q == 3 || b == 0 && (q == 1 || (q == 0 && sender s && getF s R.SYS_MODE_BOOT_SRC == 2)) else true) &&
    (q != 0 || (sender s && isSet s R.PCI_STATUS_LINK_UP))

/-- A limited field: register key, field bits, least and greatest value a write stores. -/
structure Clamp where
  fld : Fld
  least : Nat
  most : Nat

/-- The limits of fields outside the Twill blocks. -/
def clamps : List Clamp :=
  [⟨R.CPS_CQ_CTRL_LOG2N, 2, 10⟩, ⟨R.CPS_RQ_CTRL_LOG2N, 2, 10⟩, ⟨R.CPS_CP1_CFG_DUMMY, 8, 63⟩,
   ⟨R.CPS_LIVE_CP0_TIMEOUT_MS, 100, 60000⟩, ⟨R.CPS_LIVE_CP1_TIMEOUT_MS, 100, 60000⟩, ⟨R.ING_CTRL_LEG_TIMEOUT_MS, 1, 255⟩,
   ⟨R.SRF_FRING_CTRL_LOG2N, 8, 16⟩, ⟨R.CMP_CTRL_LEAD, 0x10, 0x30⟩, ⟨R.TNM_CTRL_UPDATE_FRAMES, 1, 255⟩,
   ⟨R.TNM_CTRL_STEP, 0, 0x1999⟩, ⟨R.TNM_BUDGET_HEADROOM, 0, 0x2000⟩, ⟨R.CEL_CTRL_REFRESH_FRAMES, 1, 240⟩,
   ⟨R.TIM_CTRL_SLEW_PPM, 1, 15⟩, ⟨R.TIM_CTRL_STEP_EXP, 6, 24⟩, ⟨R.TIM_CTRL_SYNC_EXP, 3, 7⟩,
   ⟨R.TIM_LATE_WIN_W, 1, 1073741823⟩, ⟨R.THM_CTRL_STEP_MIN, 0, 4⟩, ⟨R.THM_CTRL_BUDGET_HOLD_S, 1, 255⟩,
   ⟨R.DMK_CTRL_RECORR_DT, 1, 255⟩, ⟨R.DMK_CTRL_SWEEP_CELLS, 1, 64⟩, ⟨R.DMK_AGE_CTRL_AGE_GMAX, 0x4000, 0xFFFF⟩,
   ⟨R.DMK_AGE_CTRL_CKPT_MIN, 5, 240⟩, ⟨R.STR_CTRL_CLK_SEL, 0, 4⟩, ⟨R.STR_CTRL_RET_EXP, 0, 4⟩, ⟨R.STR_CTRL_WMARK, 16, 1008⟩]

/-- The limits of fields of a Twill block, given for port 0 and lane 0. -/
def twlClamps : List Clamp :=
  [⟨R.TWL_PHY_CTRL_RATE_MAX 0, 0, 2⟩, ⟨R.TWL_PHY_CTRL_CAL_DELTA_T 0, 2, 15⟩, ⟨R.TWL_PHY_CTRL_CAL_TOL_PH 0, 1, 15⟩,
   ⟨R.TWL_PHY_CTRL_CAL_TOL_MV 0, 1, 31⟩, ⟨R.TWL_TEST_CTRL_TIMEOUT_S 0, 1, 255⟩, ⟨R.TWL_LL_CTRL_MIN_LANES 0, 1, 3⟩,
   ⟨R.TWL_LL_CTRL_UNC_EXP 0, 4, 15⟩, ⟨R.TWL_LL_CTRL_RETRY_US 0, 1, 15⟩, ⟨R.LANE_INJ_BURST_LEN 0 0, 1, 255⟩,
   ⟨R.LANE_INJ_RATE_EXP 0 0, 10, 31⟩]

/-- The key of a Twill register as if of port 0 and lane 0. -/
def twlBase (key : Nat) : Nat :=
  let off := key % 65536
  if key < 16777216 then dirKey 16 off
  else indKey 16 (if 0x1000 ≤ off ∧ off < 0x1140 then 0x1000 + off % 64 else off)

/-- The limits of a register's fields. (DEDUCED log 13) -/
def clampsOf (key : Nat) : List Clamp :=
  if 16 ≤ key % 16777216 / 65536 then twlClamps.filter (fun c => c.fld.reg == twlBase key)
  else clamps.filter (fun c => c.fld.reg == key)

/-- A word with its limited fields brought into their limits. TNM_CTRL.AMB_SRC 3 is stored as 0. (DEDUCED log 13) -/
def clampWord (key : Nat) (w : Word) : Word :=
  let w1 := (clampsOf key).foldl (fun a c => c.fld.ins a (max c.least (min c.most (c.fld.of a)))) w
  if key = R.TNM_CTRL ∧ R.TNM_CTRL_AMB_SRC.of w1 = 3 then R.TNM_CTRL_AMB_SRC.ins w1 0 else w1

/-- A write changes a field of this kind: RW, and an EA acknowledge. -/
def FieldKind.stores (k : FieldKind) : Bool := match k with | .rw => true | .ea => true | _ => false

/-- A word whose storing fields are taken from `v`. -/
def mergeWord (fs : List FieldDef) (old v : Word) : Word :=
  fs.foldl (fun a f => if f.kind.stores then Fld.ins ⟨0, f.hi, f.lo⟩ a (Fld.of ⟨0, f.hi, f.lo⟩ v) else a) old

/-- Stores a word: RW and EA fields take their bits, within their limits. (DEDUCED log 13) -/
def storeWord (key : Nat) (v : Word) (s : State) : State :=
  match regDef key with
  | none => s
  | some d => regPut s key (clampWord key (mergeWord d.fields (regGet s key) v))

/-- A write by requester q to an offset of block b: what it does where it may act. -/
def access (q b : Nat) (ind : Bool) (off : Nat) (act : State → State) (s : State) : State :=
  if !reaches s q b then s
  else if mode s = mLockdown ∨ !blockPowered (sender s) b then lockViol b q ind off s
  else act s

end Sys2Proof.Machine
end

