-- ==== Sys2Proof/Machine/Feeds.lean ====
section
/-!
DEFINITION. Mains feeds of a sender as the map in force names them (R412, R416): feed entries, claims of other senders and
the status bits that follow.
-/

namespace Sys2Proof.Machine

/-- A level status of THM_STATUS follows its cause: its event (R425) and its fault source (Table 18.8). -/
def thmLevel (f : Fld) (src : Nat) (on : Bool) (s : State) : State :=
  if isSet s f == on then s
  else if on then levelRise 11 src 0 (setLevel 15 f 1 s) else levelFall 11 src (setLevel 15 f 0 s)

/-- Feeds that the map in force names. -/
def mapFeeds (s : State) : List Nat := (s.cel.slots.map (fun e => u8 e.2.entry 4)).eraseDups

/-- Slots of a feed. -/
def feedSlots (s : State) (feed : Nat) : List Nat :=
  (s.cel.slots.filter (fun e => u8 e.2.entry 4 == feed)).map Prod.fst

/-- Feed entry i is enabled. -/
def entryOn (s : State) (i : Nat) : Bool := (getF s (R.THM_FEED_W0_E i)).testBit 8

/-- The enabled entry that holds a feed number (R412). -/
def feedEntry (s : State) (feed : Nat) : Option Nat :=
  (idxs 32 (fun i => entryOn s i && getF s (R.THM_FEED_W0_E i) % 256 == feed)).head?

/-- Claims of peers that are still kept: 3 s (R416). -/
def keptClaims (s : State) : Tab (List Byte × Nat) :=
  s.thm.claims.filter (fun c => decide (ltNs s < c.2.2 + 3000000000))

/-- Kept claims that name a feed. -/
def claimers (s : State) (feed : Nat) : Nat :=
  ((keptClaims s).filter (fun c => bitAt c.2.1 (feed / 8) (feed % 8))).length

/-- A feed is claimed by another sender (R416). -/
def feedClaimed (s : State) (feed : Nat) : Bool := claimers s feed != 0

/-- FEED_UNSET and FEED_CONFLICT of a sender follow the map, the entries and the claims (R412, R416). -/
def feedCheck (s : State) : State :=
  if !sender s then s
  else
    let s1 := thmLevel R.THM_STATUS_FEED_UNSET 5 ((mapFeeds s).any (fun f => (feedEntry s f).isNone)) s
    thmLevel R.THM_STATUS_FEED_CONFLICT 13 ((mapFeeds s1).any (feedClaimed s1)) s1

/-- What a sender keeps of a slot before it has sent or heard anything. -/
def FeedSlot.empty : FeedSlot :=
  { pmax := 0, lamp := 0, noContent := true, telem := false, demandAt := none, since := 0, measured := false, sent := []
    lowered := none, silent := false, floor := 0, vref := 0 }

/-- A slot that the map changes or removes starts again without budget or demand. -/
def slotBudgetClear (i : Nat) (s : State) : State :=
  let z := [R.THM_SLOT_B_MW i, R.THM_SLOT_DEMAND_MW i, R.THM_SLOT_PIN_MW i, R.THM_SLOT_O_MW i, R.THM_SLOT_RV_RHO i,
    R.THM_SLOT_RV_VIN_MIN i, R.THM_SLOT_SEQ_BSEQ_SENT i, R.THM_SLOT_SEQ_BSEQ_ECHO i, R.THM_SLOT_FLAGS_STEP i,
    R.THM_SLOT_FLAGS_SAFE i, R.THM_SLOT_FLAGS_SAG i, R.THM_SLOT_FLAGS_TELEM_VALID i, R.THM_SLOT_FLAGS_FEED i]
  let s1 := z.foldl (fun a f => setF a f 0) s
  { s1 with thm := { s1.thm with slots := Tab.del s1.thm.slots i
                                 heldBack := s1.thm.heldBack.map (fun e => (e.1, e.2.filter (fun h => h.1 != i))) } }

end Sys2Proof.Machine
end

