-- ==== Sys2Proof/Machine/Float.lean ====
section
/-!
DEFINITION. IEEE 754 arithmetic of composition and colour (R90, R121, R132, R153, R163): binary32 and binary16 values,
rounded to nearest even. A finite value is a sign, a whole number and a power of two.
-/

namespace Sys2Proof.Machine

/-- A binary32 value. -/
inductive Flt where
  /-- (-1)^neg × num × 2^exp. -/
  | fin (neg : Bool) (num : Nat) (exp : Int)
  | inf (neg : Bool)
  | nan
  deriving DecidableEq, Repr

/-- Positive zero. -/
def Flt.zero : Flt := .fin false 0 0
/-- One. -/
def Flt.one : Flt := .fin false 1 0

/-- num / den, rounded to nearest, ties to even. -/
def rneDiv (num den : Nat) : Nat :=
  let q := num / den
  let r := num % den
  if 2 * r > den ∨ (2 * r = den ∧ q % 2 = 1) then q + 1 else q

/-- The exponent e with 2^e ≤ num / den < 2^(e+1). -/
def floorLog (num den : Nat) : Int :=
  let l : Int := (Nat.log2 num : Int) - (Nat.log2 den : Int)
  let below := if 0 ≤ l then decide (num < den * 2 ^ l.toNat) else decide (num * 2 ^ (-l).toNat < den)
  if below then l - 1 else l

/-- The quotient num / den as the nearest multiple of 2^q. -/
def quant (num den : Nat) (q : Int) : Nat :=
  if 0 ≤ q then rneDiv num (den * 2 ^ q.toNat) else rneDiv (num * 2 ^ (-q).toNat) den

/-- Rounds (-1)^neg × num / den to a format of p significant bits with smallest exponent emin and largest emax. -/
def roundTo (p : Nat) (emin emax : Int) (neg : Bool) (num den : Nat) : Flt :=
  if num = 0 ∨ den = 0 then .fin neg 0 0
  else
    let q : Int := max (floorLog num den - ((p : Int) - 1)) (emin - ((p : Int) - 1))
    let m := quant num den q
    if (2 : Nat) ^ p ≤ m ∧ emax < q + (p : Int) then .inf neg
    else if emax < q + ((p : Int) - 1) then .inf neg
    else .fin neg m q

/-- Rounds a quotient to binary32. -/
def round32 (neg : Bool) (num den : Nat) : Flt := roundTo 24 (-126) 127 neg num den

/-- Sign of a value. -/
def Flt.neg? : Flt → Bool
  | .fin n _ _ => n
  | .inf n => n
  | .nan => false

/-- A finite value as a whole number of 2^-300; zero for infinities and NaN. Every binary32 value is one. -/
def Flt.fix : Flt → Int
  | .fin n m e => let v : Int := ((m * 2 ^ (e + 300).toNat : Nat) : Int); if n then -v else v
  | _ => 0

/-- Rounds a whole number of 2^-(300 + extra) to binary32; an exact zero takes the sign given. -/
def Flt.ofFix (i : Int) (zeroNeg : Bool) (extra : Nat) : Flt :=
  if i = 0 then .fin zeroNeg 0 0 else round32 (decide (i < 0)) i.natAbs (2 ^ (300 + extra))

/-- Sum in binary32. -/
def Flt.add (a b : Flt) : Flt :=
  match a, b with
  | .nan, _ => .nan
  | _, .nan => .nan
  | .inf n, .inf m => if n = m then .inf n else .nan
  | .inf n, _ => .inf n
  | _, .inf n => .inf n
  | a, b => Flt.ofFix (a.fix + b.fix) (a.neg? && b.neg?) 0

/-- Change of sign. -/
def Flt.negate : Flt → Flt
  | .fin n m e => .fin (!n) m e
  | .inf n => .inf (!n)
  | .nan => .nan

/-- Difference in binary32. -/
def Flt.sub (a b : Flt) : Flt := a.add b.negate

/-- A value is zero. -/
def Flt.isZero : Flt → Bool
  | .fin _ m _ => m == 0
  | _ => false

/-- Product in binary32. -/
def Flt.mul (a b : Flt) : Flt :=
  let n := a.neg? != b.neg?
  match a, b with
  | .nan, _ => .nan
  | _, .nan => .nan
  | .inf _, y => if y.isZero then .nan else .inf n
  | x, .inf _ => if x.isZero then .nan else .inf n
  | .fin _ m e, .fin _ m' e' =>
    let x := e + e'
    if 0 ≤ x then round32 n (m * m' * 2 ^ x.toNat) 1 else round32 n (m * m') (2 ^ (-x).toNat)

/-- Quotient in binary32. -/
def Flt.div (a b : Flt) : Flt :=
  let n := a.neg? != b.neg?
  match a, b with
  | .nan, _ => .nan
  | _, .nan => .nan
  | .inf _, .inf _ => .nan
  | .inf _, _ => .inf n
  | _, .inf _ => .fin n 0 0
  | .fin _ m e, .fin _ m' e' =>
    if m' = 0 then (if m = 0 then .nan else .inf n)
    else
      let x := e - e'
      if 0 ≤ x then round32 n (m * 2 ^ x.toNat) m' else round32 n m (m' * 2 ^ (-x).toNat)

/-- a < b; false where either is NaN. -/
def Flt.lt (a b : Flt) : Bool :=
  match a, b with
  | .nan, _ => false
  | _, .nan => false
  | .inf n, .inf m => n && !m
  | .inf n, _ => n
  | _, .inf n => !n
  | a, b => decide (a.fix < b.fix)

/-- The larger of two values. -/
def Flt.max (a b : Flt) : Flt := if a.lt b then b else a
/-- The smaller of two values. -/
def Flt.min (a b : Flt) : Flt := if b.lt a then b else a

/-- A whole number. -/
def Flt.ofNat (n : Nat) : Flt := round32 false n 1
/-- num / den rounded to binary32. -/
def Flt.ofRat (num den : Nat) : Flt := round32 false num den
/-- An integer over a denominator, rounded to binary32. -/
def Flt.ofIntRat (i : Int) (den : Nat) : Flt := round32 (decide (i < 0)) i.natAbs den

/-- The value of a pattern with eb exponent bits and fb fraction bits. -/
def Flt.ofPattern (eb fb v : Nat) : Flt :=
  let f := v % 2 ^ fb
  let e := v / 2 ^ fb % 2 ^ eb
  let n := v / 2 ^ (fb + eb) % 2 == 1
  let bias : Int := (2 ^ (eb - 1) : Nat) - 1
  if e = 2 ^ eb - 1 then (if f = 0 then .inf n else .nan)
  else if e = 0 then .fin n f (1 - bias - fb)
  else .fin n (2 ^ fb + f) ((e : Int) - bias - fb)

/-- The value of a binary32 pattern. -/
abbrev Flt.of32 (v : Nat) : Flt := Flt.ofPattern 8 23 v
/-- The value of a binary16 pattern. -/
abbrev Flt.of16 (v : Nat) : Flt := Flt.ofPattern 5 10 v

/-- The pattern of a value rounded to eb exponent bits and fb fraction bits. -/
def Flt.pattern (eb fb : Nat) (x : Flt) : Nat :=
  let bias : Int := (2 ^ (eb - 1) : Nat) - 1
  let s := fun (n : Bool) => if n then 2 ^ (eb + fb) else 0
  match x with
  | .nan => (2 ^ eb - 1) * 2 ^ fb + 2 ^ (fb - 1)
  | .inf n => s n + (2 ^ eb - 1) * 2 ^ fb
  | .fin n m e =>
    let r := if 0 ≤ e then roundTo (fb + 1) (1 - bias) bias n (m * 2 ^ e.toNat) 1
      else roundTo (fb + 1) (1 - bias) bias n m (2 ^ (-e).toNat)
    match r with
    | .fin n' m' e' =>
      if m' = 0 then s n'
      else
        let l := floorLog m' 1 + e'
        if l < 1 - bias then s n' + m'
        else s n' + (l + bias).toNat * 2 ^ fb + (if 0 ≤ fb - (floorLog m' 1) then m' * 2 ^ ((fb : Int) - floorLog m' 1).toNat
          else m' / 2 ^ (floorLog m' 1 - fb).toNat) % 2 ^ fb
    | _ => s n + (2 ^ eb - 1) * 2 ^ fb

/-- The binary32 pattern. -/
abbrev Flt.to32 (x : Flt) : Nat := x.pattern 8 23

/-- The canvas pattern (R133): binary16, finite values beyond ±65,504 held there. -/
def Flt.toCanvas (x : Flt) : Nat :=
  let lim := Flt.ofNat 65504
  match x with
  | .nan => 0
  | .inf n => if n then 0xFBFF else 0x7BFF
  | x => if lim.lt x then 0x7BFF else if x.lt lim.negate then 0xFBFF else
    let p := x.pattern 5 10
    if p % 0x8000 = 0x7C00 then p - 1 else p

/-- A surface's binary16 component (R90): NaN as 0, infinities as ±65,504. -/
def Flt.component16 (v : Nat) : Flt :=
  match Flt.of16 v with
  | .nan => .zero
  | .inf n => .fin n 65504 0
  | x => x

/-- A value held to 0 to 1. -/
def Flt.clamp01 (x : Flt) : Flt := if x.lt .zero then .zero else if Flt.one.lt x then .one else x

/-- Infinities held to ±65,504 and NaN to 0 (R153). -/
def Flt.finite : Flt → Flt
  | .nan => .zero
  | .inf n => .fin n 65504 0
  | x => x

/-- The integer square root of n, by Newton steps from above. -/
def isqrtFrom (n : Nat) : Nat → Nat → Nat
  | 0, x => x
  | k + 1, x => let y := (x + n / x) / 2; if y < x then isqrtFrom n k y else x

/-- Floor of the square root. -/
def isqrt (n : Nat) : Nat := if n = 0 then 0 else isqrtFrom n 200 (2 ^ (Nat.log2 n / 2 + 1))

/-- floor(scale × x + 1/2) of a value that is not negative, formed exactly. -/
def Flt.scaleRound (scale : Nat) : Flt → Nat
  | .fin false m e =>
    if 0 ≤ e then scale * m * 2 ^ e.toNat else (2 * scale * m + 2 ^ (-e).toNat) / (2 * 2 ^ (-e).toNat)
  | _ => 0

end Sys2Proof.Machine
end

