-- ==== Sys2Proof/Machine/Surfaces.lean ====
section
/-!
DEFINITION. Surfaces (R84 to R109): descriptors and the heap, the tiled layout and block compression, generations and
release fences, guard mode, uploads and the aperture. Device addresses of planes are heap offsets.
-/

namespace Sys2Proof.Machine

/-! ### Formats and sizes (Table 4.2, R86) -/

/-- The format codes of Table 4.2. -/
abbrev fYC16 : Nat := 1
abbrev fT10 : Nat := 2
abbrev fT16 : Nat := 3
abbrev fT16F : Nat := 4
abbrev fBGRA8 : Nat := 0x10
abbrev fRGBA16F : Nat := 0x12

/-- The format is one of Table 4.2. -/
def fmtKnown (f : Nat) : Bool := (decide (1 ≤ f) && decide (f ≤ 4)) || (decide (16 ≤ f) && decide (f ≤ 19))

/-- Planes of a format. -/
def fmtPlanes (f : Nat) : Nat := if f = 3 ∨ f = 4 ∨ f = 0x12 ∨ f = 0x13 then 2 else 1

/-- The format has an alpha component. -/
def fmtAlpha (f : Nat) : Bool := decide (16 ≤ f)

/-- Formats that MBC applies to (R93). -/
def fmtMbc (f : Nat) : Bool := f == 0x10 || f == 0x11

/-- Fields of a descriptor (Table 4.1). -/
abbrev sFormat (d : List Byte) : Nat := u8 d 4
abbrev sLayout (d : List Byte) : Nat := u8 d 5
abbrev sWidth (d : List Byte) : Nat := u16 d 8
abbrev sHeight (d : List Byte) : Nat := u16 d 0x0A
abbrev sPitch (d : List Byte) : Nat := (sWidth d + 31) / 32
abbrev sPlane0 (d : List Byte) : Nat := u64 d 0x10
abbrev sPlane1 (d : List Byte) : Nat := u64 d 0x18
abbrev sHdr (d : List Byte) : Nat := u64 d 0x20

/-- Macro-tiles of a plane. -/
def macroTiles (d : List Byte) : Nat := sPitch d * ((sHeight d + 31) / 32)

/-- 4 KiB units of a header plane. -/
def hdrUnits (d : List Byte) : Nat := (macroTiles d * 64 + 4095) / 4096

/-! ### The heap (R86) -/

/-- Heap size in 4 KiB units. (DESIGN CHOICE log 11) -/
def heapUnits : Nat := 3145728 + Config.heapExtra % 1048576

/-- Free ranges of the heap: start and length, in units. -/
def freeRanges : Tab Nat → Nat → List (Nat × Nat)
  | [], at_ => if at_ < heapUnits then [(at_, heapUnits - at_)] else []
  | (b, n) :: t, at_ => (if at_ < b then [(at_, b - at_)] else []) ++ freeRanges t (b + n)

/-- Takes n contiguous units somewhere a free value chooses among the ranges that hold them. (DESIGN CHOICE log 11) -/
def heapTake (n : Nat) (s : State) : Option (Nat × State) :=
  let fit := (freeRanges s.srf.heap 0).filter (fun r => decide (n ≤ r.2))
  match fit[Config.free s.free % fit.length]? with
  | none => none
  | some r =>
    let b := r.1 + Config.free (s.free + 1) % (r.2 - n + 1)
    some (b, { s with free := s.free + 2, srf := { s.srf with heap := Tab.put s.srf.heap b n } })

/-- Takes several ranges, or none. (DESIGN CHOICE log 11) -/
def heapTakeAll : List Nat → State → Option (List Nat × State)
  | [], s => some ([], s)
  | n :: t, s =>
    match heapTake n s with
    | none => none
    | some (b, s1) => match heapTakeAll t s1 with
      | none => none
      | some (l, s2) => some (b :: l, s2)

/-- The ranges of a surface go back to the heap. -/
def heapGive (d : List Byte) (s : State) : State :=
  let one := fun (a : Nat) (h : Tab Nat) => Tab.del h (a / 4096)
  let h0 := one (sPlane0 d) s.srf.heap
  let h1 := if fmtPlanes (sFormat d) = 2 then one (sPlane1 d) h0 else h0
  let h2 := if sLayout d = 1 then one (sHdr d) h1 else h1
  { s with srf := { s.srf with heap := h2 } }

/-! ### Handles (R84) -/

/-- The handle of an entry. -/
def handleOf (i : Nat) (f : Surface) : Nat := i + f.instanceNo * 4096

/-- The surface a handle names: its entry is alive with that instance. -/
def surfOf (s : State) (h : Nat) : Option (Nat × Surface) :=
  match Tab.get s.srf.table (h % 4096) with
  | some f => if f.alive && f.instanceNo == h / 4096 then some (h % 4096, f) else none
  | none => none

/-- Changes an entry. -/
def surfUpd (i : Nat) (g : Surface → Surface) (s : State) : State :=
  { s with srf := { s.srf with table := s.srf.table.map (fun e => if e.1 = i then (e.1, g e.2) else e) } }

/-- Surface handles a flow descriptor names. -/
def flowSurfs (d : List Byte) : List Nat := (List.range (u8 d 0x1A)).map (fun k => u32 d (0x20 + 4 * k))

/-- The flow that names a surface. -/
def ownerFlow (s : State) (h : Nat) : Option Flow :=
  ((s.ing.flows.map Prod.snd).filter (fun f =>
    (flowSurfs f.desc).contains h || (match f.next with | some d => (flowSurfs d).contains h | none => false))).head?

/-- A surface is ingest-owned (R87). -/
def ingestOwned (s : State) (h : Nat) : Bool := (ownerFlow s h).isSome

/-- Uploads of a surface pending or running. -/
def uploadPending (s : State) (h : Nat) : Bool := s.srf.uploads.any (fun u => u32 u.par 0 == h)

/-- The whole descriptor of an entry (Table 4.1). -/
def surfDesc (s : State) (i : Nat) (f : Surface) : List Byte :=
  let h := handleOf i f
  leBytes 4 h ++ sub f.desc 4 8 ++ leBytes 1 (u8 f.desc 0x0C % 16 + (if ingestOwned s h then 16 else 0)) ++ [0] ++
    leBytes 2 (sPitch f.desc) ++ sub f.desc 0x10 24 ++ leBytes 4 f.generation ++ leBytes 4 f.releasedGen ++
    leBytes 8 f.tCap ++
    leBytes 1 ((if f.ntMapped then 1 else 0) + (if f.latched.isEmpty then 0 else 2) + (if uploadPending s h then 4 else 0)) ++
    zeros 7

/-- The checks of R85, R89 and R93 on a descriptor for creation: the status, 0 where it passes. -/
def surfCheck (p : List Byte) : Nat :=
  let f := u8 p 4
  if u32 p 0 ≠ 0 ∨ u8 p 0x0C / 16 ≠ 0 ∨ !zeroAt p 0x0D 51 then St.badParam
  else if !fmtKnown f then St.unsupported
  else if 2 ≤ u8 p 5 ∨ 5 ≤ u8 p 6 ∨ 4 ≤ u8 p 7 ∨ u16 p 8 = 0 ∨ 16384 < u16 p 8 ∨ u16 p 0x0A = 0 ∨ 16384 < u16 p 0x0A ∨
      (f = fYC16 ∧ u16 p 8 % 2 = 1) then St.badParam
  else if u8 p 5 = 1 ∧ !fmtMbc f then St.unsupported
  else 0

/-- Entries of the table not in use, in an order a free value starts. (DESIGN CHOICE log 11) -/
def freeEntry (s : State) : Option Nat :=
  ((List.range 4095).map (fun k => (Config.free s.free + k) % 4095 + 1)).find? (fun i => (Tab.get s.srf.table i).isNone)

/-- Creates a surface. (DESIGN CHOICE log 11) -/
def surfCreate (p : List Byte) (s : State) : Res :=
  let c := surfCheck p
  if c ≠ 0 then .err c
  else match freeEntry s with
    | none => .err St.tableFull
    | some i =>
      let mt := macroTiles p
      let sizes := List.replicate (fmtPlanes (u8 p 4)) mt ++ (if u8 p 5 = 1 then [hdrUnits p] else [])
      match heapTakeAll sizes (takeFree s) with
      | none => .err St.noMemory
      | some (bases, t) =>
        let base := fun (k : Nat) => bases.getD k 0 * 4096
        let p1 := if fmtPlanes (u8 p 4) = 2 then base 1 else 0
        let hd := if u8 p 5 = 1 then base 1 else 0
        let inst := Tab.getD t.srf.instances i 0 % 0xFFFFF + 1
        let d := p.take 0x0E ++ leBytes 2 (sPitch p) ++ leBytes 8 (base 0) ++ leBytes 8 p1 ++ leBytes 8 hd ++ zeros 24
        let f : Surface := { desc := d, instanceNo := inst, alive := true, generation := 0, releasedGen := 0, tCap := 0
                             ntMapped := false, pub := [BitVec.ofNat 8 (u8 p 0x0C), BitVec.ofNat 8 (u8 p 6), BitVec.ofNat 8 (u8 p 7)], latched := []
                             guardRefs := [], failed := [], unlatched := [] }
        let u := { t with srf := { t.srf with table := Tab.put t.srf.table i f, instances := Tab.put t.srf.instances i inst } }
        .ok u (surfDesc u i f)

/-- `create-surface` (R85, R86). -/
def execCreateSurface (k : Pkt) (s : State) : Out := .next (plain k (fun t => surfCreate k.par t) s)

/-- `get-surface` (R85). -/
def execGetSurface (k : Pkt) (s : State) : Out :=
  .next (plain k (fun t => match surfOf t (k.p32 0) with
    | none => .err St.badParam
    | some (i, f) => .ok t (surfDesc t i f)) s)

/-- An entry with SFLAGS, COLORIMETRY and TCS changed. -/
def setAttrs (f : Surface) (sflags colorimetry tcs : Nat) : Surface :=
  let d := patch f.desc 6 [BitVec.ofNat 8 colorimetry, BitVec.ofNat 8 tcs]
  { f with desc := patch d 0x0C [BitVec.ofNat 8 sflags] }

/-- `set-surface` (R87): the change applies from the next publication. -/
def execSetSurface (k : Pkt) (s : State) : Out :=
  .next (plain k (fun t => match surfOf t (k.p32 0) with
    | none => .err St.badParam
    | some (i, _) =>
      if 16 ≤ k.p8 4 ∨ 5 ≤ k.p8 5 ∨ 4 ≤ k.p8 6 ∨ k.p8 7 ≠ 0 then .err St.badParam
      else if ingestOwned t (k.p32 0) then .err St.inUse
      else .ok (surfUpd i (fun f => setAttrs f (k.p8 4) (k.p8 5) (k.p8 6)) t) []) s)

/-! ### Release fences (R98, R100) -/

/-- a is newer than b in wrapping order. (DESIGN CHOICE log 30) -/
def genNewer (a b : Nat) : Bool := decide (0 < frameDiff a b)

/-- The address of the fence ring entry of a record number. (DESIGN CHOICE log 30) -/
def fenceAddr (s : State) (seq : Nat) : Nat :=
  getF s R.SRF_FRING_LO_ADDR * 16 + getF s R.SRF_FRING_HI_ADDR * 4294967296 +
    16 * (seq % 2 ^ getF s R.SRF_FRING_CTRL_LOG2N)

/-- Writes a fence record and counts it; a destroyed surface whose last generation is released gives back its memory. (DESIGN CHOICE log 30) -/
def fence (i gen reason : Nat) (s : State) : State :=
  match Tab.get s.srf.table i with
  | none => s
  | some f =>
    let seq := getF s R.SRF_FENCE_EVT_COUNT
    let why := if !f.alive && reason == 0 then 1 else reason
    let rel := if f.releasedGen = 0 ∨ genNewer gen f.releasedGen then gen else f.releasedGen
    let s1 := surfUpd i (fun g => { g with releasedGen := rel }) s
    let s2 := if isSet s1 R.SRF_FRING_CTRL_ENABLE && isSet s1 R.PCI_STATUS_LINK_UP then
        send s1 (.hostWrite (fenceAddr s1 seq) (leBytes 4 (handleOf i f) ++ leBytes 4 gen ++ leBytes 4 seq ++ leBytes 4 why))
      else s1
    let s3 := raise 4 s2
    if !f.alive && f.latched.isEmpty then
      heapGive f.desc { s3 with srf := { s3.srf with table := Tab.del s3.srf.table i } }
    else s3

/-- Releases a latched generation. (DESIGN CHOICE log 30) -/
def release (i gen reason : Nat) (s : State) : State :=
  fence i gen reason (surfUpd i (fun f => { f with latched := f.latched.erase gen, guardRefs := Tab.del f.guardRefs gen }) s)

/-- What a layer keeps from release: what it uses, what R103 keeps for it, and what is under check. -/
def LayerAct.holds (a : LayerAct) : List (Nat × Nat) :=
  (a.used.toList ++ a.prev.toList ++ a.checking.toList).map (fun l => (l.surf, l.gen))

/-- Generations that layers latch or the running pass reads. -/
def heldGens (s : State) : List (Nat × Nat) :=
  (s.cmp.acts.map (fun e => e.2.holds)).flatten ++ (match s.cmp.pass with | some p => p.reads | none => [])

/-- Releases every latched generation that no layer latches and no pass reads (R98). -/
def releaseSweep (s : State) : State :=
  let held := heldGens s
  let due := (s.srf.table.map (fun e => (e.2.latched.filter (fun g => !held.contains (e.1, g))).map (fun g => (e.1, g)))).flatten
  due.foldl (fun a x => release x.1 x.2 0 a) s

/-- Marks a generation as latched; generations superseded unlatched are released (R98). -/
def latchGen (i gen : Nat) (s : State) : State :=
  match Tab.get s.srf.table i with
  | none => s
  | some f =>
    let gone := f.unlatched.filter (fun g => g != gen && genNewer gen g)
    let s1 := surfUpd i (fun g => { g with latched := if g.latched.contains gen then g.latched else g.latched ++ [gen]
                                           unlatched := g.unlatched.filter (fun x => x != gen && !genNewer gen x) }) s
    gone.foldl (fun a g => fence i g 3 a) s1

/-! ### Tiled layout (R91, Table 4.3) -/

/-- Offset of a pixel within its plane. -/
def tileOff (pitch x y : Nat) : Nat :=
  let b := fun (v k : Nat) => v / 2 ^ k % 2
  (y / 32 * pitch + x / 32) * 4096 + b y 4 * 2048 + b x 4 * 1024 + b y 3 * 512 + b x 3 * 256 + b y 2 * 128 + b x 2 * 64 +
    y % 4 * 16 + x % 4 * 4

/-- The 32 bits that a plane holds for a pixel. -/
def planeWord (s : State) (base pitch x y : Nat) : Nat := leVal (memRead s (heapMem + base + tileOff pitch x y) 4)

/-- Writes a pixel of a plane. -/
def planePut (base pitch x y : Nat) (w : List Byte) (s : State) : State :=
  memWrite s (heapMem + base + tileOff pitch x y) w

/-! ### Block compression (R93 to R96) -/

/-- Widths of the components of an MBC format. -/
def mbcWidths (f : Nat) : List Nat := if f = fBGRA8 then [8, 8, 8, 8] else [10, 10, 10, 2]

/-- Number of the block of a pixel: macro-tile times 16 plus its place. -/
def blockNo (pitch x y : Nat) : Nat :=
  (y / 32 * pitch + x / 32) * 16 + y / 16 % 2 * 8 + x / 16 % 2 * 4 + y / 8 % 2 * 2 + x / 8 % 2

/-- Header word of a block. -/
def blockHdr (s : State) (d : List Byte) (b : Nat) : Nat := leVal (memRead s (heapMem + sHdr d + 4 * b) 4)

/-- Delta widths of a header. -/
def hdrWidths (h : Nat) : List Nat := [h / 2 ^ 10 % 16, h / 2 ^ 14 % 16, h / 2 ^ 18 % 16, h / 2 ^ 22 % 16]

/-- SIZE of a header. -/
abbrev hdrSize (h : Nat) : Nat := h / 32 % 32

/-- SIZE that a mode requires. -/
def modeSize (h : Nat) : Nat :=
  match h % 8 with
  | 0 => 0
  | 1 => 1
  | 2 => (32 + 63 * (hdrWidths h).sum + 127) / 128
  | _ => 16

/-- A bad block header (R96). -/
def hdrBad (f h : Nat) : Bool :=
  decide (4 ≤ h % 8) || decide (16 < hdrSize h) || decide (hdrSize h < modeSize h) || h / 2 ^ 26 != 0 ||
    ((hdrWidths h).zip (mbcWidths f)).any (fun p => decide (p.2 < p.1))

/-- Index of a pixel within its block (R95). -/
def inBlock (x y : Nat) : Nat := y / 4 % 2 * 32 + x / 4 % 2 * 16 + y % 4 * 4 + x % 4

/-- Bits [lo, lo + n) of a byte string, least significant bit first. -/
def bitField (l : List Byte) (lo n : Nat) : Nat := leVal (sub l (lo / 8) ((lo % 8 + n + 7) / 8)) / 2 ^ (lo % 8) % 2 ^ n

/-- One pixel of a DELTA block (R95). -/
def deltaPixel (f : Nat) (ws : List Nat) (pay : List Byte) (i : Nat) : Nat :=
  let base := u32 pay 0
  if i = 0 then base
  else
    let start := 32 + (i - 1) * ws.sum
    let cs := mbcWidths f
    ((List.range 4).map (fun c =>
      let w := ws.getD c 0
      let n := cs.getD c 0
      let d : Int := if w = 0 then 0 else signed w (bitField pay (start + (ws.take c).sum) w)
      let v := base / 2 ^ (cs.take c).sum % 2 ^ n
      unsigned n ((v : Int) + d) * 2 ^ (cs.take c).sum)).sum

/-- A pixel of an MBC surface. -/
def mbcPixel (s : State) (d : List Byte) (x y : Nat) : Nat :=
  let b := blockNo (sPitch d) x y
  let h := blockHdr s d b
  let slot := heapMem + sPlane0 d + 256 * b
  if hdrBad (sFormat d) h then 0
  else match h % 8 with
    | 0 => 0
    | 1 => leVal (memRead s slot 4)
    | 2 => deltaPixel (sFormat d) (hdrWidths h) (memRead s slot (16 * hdrSize h)) (inBlock x y)
    | _ => leVal (memRead s (slot + 4 * inBlock x y) 4)

/-- OPACITY of a block: 0 MIXED, 1 CLEAR, 2 OPAQUE; a bad block decodes as CLEAR. -/
def blockOpacity (s : State) (d : List Byte) (b : Nat) : Nat :=
  let h := blockHdr s d b
  if hdrBad (sFormat d) h then 1 else if h / 8 % 4 = 3 then 0 else h / 8 % 4

/-- The smallest width that carries a delta modulo 2^n. -/
def deltaWidth (n delta : Nat) : Nat :=
  ((List.range 16).find? (fun w =>
    if w = 0 then delta == 0 else decide (delta < 2 ^ (w - 1)) || decide (2 ^ n ≤ delta + 2 ^ (w - 1)))).getD n

/-- The component values of a pixel. -/
def mbcComps (f px : Nat) : List Nat :=
  let cs := mbcWidths f
  (List.range 4).map (fun c => px / 2 ^ (cs.take c).sum % 2 ^ cs.getD c 0)

/-- Compresses a block of 64 pixels in tiled order (R105): header without OPACITY, and payload bytes. (DESIGN CHOICE log 30) -/
def mbcPack (f : Nat) (px : List Nat) : Nat × List Byte :=
  let p0 := px.headD 0
  let cs := mbcWidths f
  if px.all (· == 0) then (0, [])
  else if px.all (· == p0) then (1 + 32, leBytes 4 p0)
  else
    let delta := fun (c p : Nat) => ((mbcComps f p).getD c 0 + 2 ^ cs.getD c 0 - (mbcComps f p0).getD c 0) % 2 ^ cs.getD c 0
    let ws := (List.range 4).map (fun c => px.foldl (fun m p => max m (deltaWidth (cs.getD c 0) (delta c p))) 0)
    let size := (32 + 63 * ws.sum + 127) / 128
    if size ≤ 15 then
      let bits := (px.drop 1).foldl (fun (a : Nat × Nat) p =>
        (List.range 4).foldl (fun (b : Nat × Nat) c =>
          (b.1 + delta c p % 2 ^ ws.getD c 0 * 2 ^ b.2, b.2 + ws.getD c 0)) a) (p0, 32)
      (2 + size * 32 + ws.getD 0 0 * 2 ^ 10 + ws.getD 1 0 * 2 ^ 14 + ws.getD 2 0 * 2 ^ 18 + ws.getD 3 0 * 2 ^ 22,
        leBytes (16 * size) bits.1)
    else (3 + 16 * 32, (px.map (leBytes 4)).flatten)

/-! ### Guard values (R102) -/

/-- The bytes a guard value covers. -/
def guardBytes (s : State) (d : List Byte) : List Byte :=
  if sLayout d = 1 then
    memRead s (heapMem + sHdr d) (macroTiles d * 64) ++
      ((List.range (macroTiles d * 16)).map (fun b =>
        memRead s (heapMem + sPlane0 d + 256 * b) (16 * min 16 (hdrSize (blockHdr s d b))))).flatten
  else
    memRead s (heapMem + sPlane0 d) (macroTiles d * 4096) ++
      (if fmtPlanes (sFormat d) = 2 then memRead s (heapMem + sPlane1 d) (macroTiles d * 4096) else [])

/-- The guard value of a surface as memory holds it. -/
def guardValue (s : State) (d : List Byte) : Nat := crc32c (guardBytes s d)

/-! ### Publication (R97, R99) -/

/-- The next generation number. -/
def nextGen (g : Nat) : Nat := if g = 0xFFFFFFFF then 1 else g + 1

/-- Publishes a new generation of an entry, with its T_CAP where one is given. -/
def publishGen (i : Nat) (tCap : Option Nat) (s : State) : State :=
  match Tab.get s.srf.table i with
  | none => s
  | some f =>
    let g := nextGen f.generation
    let attr := [BitVec.ofNat 8 (u8 f.desc 0x0C), BitVec.ofNat 8 (u8 f.desc 6), BitVec.ofNat 8 (u8 f.desc 7)]
    let refs := if u8 f.desc 0x0C / 8 % 2 = 1 then Tab.put f.guardRefs g (guardValue s f.desc) else f.guardRefs
    surfUpd i (fun x => { x with generation := g, tCap := tCap.getD 0, ntMapped := tCap.isSome, pub := attr
                                 guardRefs := refs, unlatched := x.unlatched ++ [g] }) s

/-- A host publication is refused (R99). -/
def publishBlocked (s : State) (h : Nat) (f : Surface) : Bool :=
  ingestOwned s h || (f.releasedGen != f.generation && !f.latched.isEmpty)

/-- `publish` (R97). -/
def execPublish (k : Pkt) (s : State) : Out :=
  .next (plain k (fun t => match surfOf t (k.p32 0) with
    | none => .err St.badParam
    | some (i, f) =>
      if 2 ≤ k.p32 4 then .err St.badParam
      else if publishBlocked t (k.p32 0) f then .err St.inUse
      else .ok (publishGen i (if k.p32 4 = 1 then some (k.p64 8) else none) t) (leBytes 4 (nextGen f.generation))) s)

/-! ### Destruction (R88) -/

/-- An enabled layer of the active configuration, of a pending commit, or a layer kept late refers to a surface. -/
def layerRefers (s : State) (h : Nat) : Bool :=
  let byDesc := fun (d : List Byte) => u8 d 1 % 4 == 1 && u32 d 4 == h
  s.cmp.active.layers.any (fun e => byDesc e.2) || s.cmp.acts.any (fun e => byDesc e.2.desc) ||
    s.cmp.pendings.any (fun p => p.snap.layers.any (fun e => byDesc e.2))

/-- `destroy-surface` (R88). -/
def execDestroySurface (k : Pkt) (s : State) : Out :=
  .next (plain k (fun t => match surfOf t (k.p32 0) with
    | none => .err St.badParam
    | some (i, f) =>
      if ingestOwned t (k.p32 0) || layerRefers t (k.p32 0) || uploadPending t (k.p32 0) then .err St.inUse
      else if f.latched.isEmpty then
        .ok (heapGive f.desc { t with srf := { t.srf with table := Tab.del t.srf.table i } }) []
      else .ok (surfUpd i (fun x => { x with alive := false, unlatched := [] }) t) []) s)

/-! ### Uploads (R104 to R106) -/

/-- The checks of R104 on an upload parameter. -/
def uploadOk (p : List Byte) (d : List Byte) : Bool :=
  let x := u16 p 8
  let y := u16 p 0x0A
  let w := u16 p 0x0C
  let h := u16 p 0x0E
  u8 p 4 < fmtPlanes (sFormat d) && u8 p 5 < 4 && zeroAt p 6 2 && zeroAt p 0x1C 4 && zeroAt p 0x28 8 &&
    decide (1 ≤ w) && decide (1 ≤ h) && decide (x + w ≤ sWidth d) && decide (y + h ≤ sHeight d) &&
    u64 p 0x10 % 4 == 0 && decide (4 * w ≤ u32 p 0x18) && u32 p 0x18 % 4 == 0 &&
    (sLayout d != 1 || (u8 p 4 == 0 && x % 8 == 0 && y % 8 == 0 && ((x + w) % 8 == 0 || x + w == sWidth d) &&
      ((y + h) % 8 == 0 || y + h == sHeight d)))

/-- Starts the next upload where none runs; one that R99 refuses ends at once (R105). -/
def startUpload : Nat → State → State
  | 0, s => s
  | n + 1, s =>
    if s.srf.running then s
    else match s.srf.uploads with
      | [] => s
      | u :: rest =>
        let blocked := u8 u.par 5 % 2 == 1 && (match surfOf s (u32 u.par 0) with
          | some (_, f) => publishBlocked s (u32 u.par 0) f
          | none => true)
        if blocked then startUpload n (finish u.pkt St.inUse [] { s with srf := { s.srf with uploads := rest } })
        else { s with srf := { s.srf with running := true } }

/-- `upload` (R104, R105). -/
def execUpload (k : Pkt) (s : State) : Out :=
  .next (plain k (fun t =>
    if !isSet t R.SRF_CTRL_UPLOAD_EN then .err St.badState
    else match surfOf t (k.p32 0) with
      | none => .err St.badParam
      | some (_, f) =>
        if !uploadOk k.par f.desc then .err St.badParam
        else if ingestOwned t (k.p32 0) then .err St.inUse
        else if 64 ≤ t.srf.uploads.length - (if t.srf.running then 1 else 0) then .err St.busy
        else .later (startUpload 66 { t with srf := { t.srf with uploads := t.srf.uploads ++ [{ pkt := k, par := k.par }] } })) s)

/-- Writes the pixels of an upload in order, as far as the data reaches, into a tiled plane. -/
def uploadTiled (p d : List Byte) (data : List Byte) (s : State) : State :=
  let w := u16 p 0x0C
  let base := if u8 p 4 = 1 then sPlane1 d else sPlane0 d
  (List.range (data.length / 4)).foldl (fun a n =>
    planePut base (sPitch d) (u16 p 8 + n % w) (u16 p 0x0A + n / w) (sub data (4 * n) 4) a) s

/-- OPACITY of a block from the alphas of its pixels inside the surface. -/
def opacityOf (f : Nat) (inside : List Nat) : Nat :=
  let al := inside.map (fun p => (mbcComps f p).getD 3 0)
  if al.all (· == 0) then 1 else if al.all (· == (if f = fBGRA8 then 255 else 3)) then 2 else 0

/-- Coordinates of pixel i of a block, from its left-top pixel. -/
def blockXY (i : Nat) : Nat × Nat := (i / 16 % 2 * 4 + i % 4, i / 32 * 4 + i / 4 % 4)

/-- Compresses one block of an upload. Pixels beyond the surface are free values (R92). -/
def uploadBlock (p d : List Byte) (data : List Byte) (bx by_ : Nat) (s : State) : State :=
  let w := u16 p 0x0C
  let px := (List.range 64).map (fun i =>
    let x := bx + (blockXY i).1
    let y := by_ + (blockXY i).2
    if x < sWidth d ∧ y < sHeight d then some (u32 data (4 * ((y - u16 p 0x0A) * w + (x - u16 p 8)))) else none)
  let all := (List.range 64).map (fun i => (px.getD i none).getD (Config.free (s.free + i) % 2 ^ 32))
  let r := mbcPack (sFormat d) all
  let b := blockNo (sPitch d) bx by_
  let hdr := r.1 + 8 * opacityOf (sFormat d) (px.filterMap id)
  let s1 := memWrite (memWrite s (heapMem + sPlane0 d + 256 * b) r.2) (heapMem + sHdr d + 4 * b) (leBytes 4 hdr)
  { s1 with free := s1.free + 64 }

/-- Writes an upload into a compressed surface: the blocks whose pixels have all arrived. -/
def uploadMbc (p d : List Byte) (data : List Byte) (s : State) : State :=
  let w := u16 p 0x0C
  let rows := data.length / (4 * w)
  let bw := (w + 7) / 8
  let whole := if rows < u16 p 0x0E then rows / 8 else (u16 p 0x0E + 7) / 8
  (List.range (whole * bw)).foldl (fun a n => uploadBlock p d data (u16 p 8 + n % bw * 8) (u16 p 0x0A + n / bw * 8) a) s

/-- The bytes of an upload reach their surface; a write into a latched surface is counted (R101). (DESIGN CHOICE log 30) -/
def uploadWrite (u : Upload) (data : List Byte) (s : State) : State :=
  match surfOf s (u32 u.par 0) with
  | none => s
  | some (_, f) =>
    let bytes := data.take (4 * u16 u.par 0x0C * u16 u.par 0x0E)
    let s1 := if sLayout f.desc = 1 then uploadMbc u.par f.desc bytes s else uploadTiled u.par f.desc bytes s
    if f.latched.isEmpty || bytes.isEmpty then s1 else tally R.SRF_EARLY_WRITE_COUNT 6 2 0 s1

/-- Removes the running upload and starts the next. -/
def uploadPop (s : State) : State :=
  startUpload 66 { s with srf := { s.srf with uploads := s.srf.uploads.drop 1, running := false } }

/-- The running upload finishes (R105): its rows, as read from host memory, are written; publication follows where asked. -/
def uploadDone (data : List Byte) (s : State) : State :=
  match s.srf.uploads with
  | [] => s
  | u :: _ =>
    let s1 := uploadWrite u data s
    if u8 u.par 5 % 2 = 1 then
      match surfOf s1 (u32 u.par 0) with
      | none => s1
      | some (i, f) =>
        let t := publishGen i (if u8 u.par 5 / 2 % 2 = 1 then some (u64 u.par 0x20) else none) s1
        uploadPop (finish u.pkt St.ok (leBytes 4 (nextGen f.generation)) t)
    else uploadPop (finish u.pkt St.ok (leBytes 4 0) s1)

/-- An upload finishes (R105). -/
def execUploadComplete (data : List Byte) (s : State) : Out :=
  .next (if running s && s.srf.running then uploadDone data s else s)

/-- A PCIe error aborts the running upload (R106): `data` is what had been written. -/
def execUploadDmaError (data : List Byte) (s : State) : Out :=
  .next (
    if running s && s.srf.running then
      match s.srf.uploads with
      | [] => s
      | u :: _ => uploadPop (finish u.pkt St.dmaError [] (uploadWrite u data s))
    else s)

/-! ### The aperture (R107, R108) -/

/-- A heap byte lies in an allocated plane or header plane. -/
def heapUsed (s : State) (a : Nat) : Bool :=
  s.srf.heap.any (fun e => decide (e.1 * 4096 ≤ a) && decide (a < (e.1 + e.2) * 4096))

/-- A heap byte lies in a plane of a latched surface. -/
def inLatched (s : State) (a : Nat) : Bool :=
  s.srf.table.any (fun e => !e.2.latched.isEmpty &&
    ((decide (sPlane0 e.2.desc ≤ a) && decide (a < sPlane0 e.2.desc + macroTiles e.2.desc * 4096)) ||
      (fmtPlanes (sFormat e.2.desc) == 2 && decide (sPlane1 e.2.desc ≤ a) &&
        decide (a < sPlane1 e.2.desc + macroTiles e.2.desc * 4096)) ||
      (sLayout e.2.desc == 1 && decide (sHdr e.2.desc ≤ a) && decide (a < sHdr e.2.desc + hdrUnits e.2.desc * 4096))))

/-- A host read of n bytes, or a write of the bytes given, at an offset of the 1 GiB aperture. One access counts once. (DESIGN CHOICE log 30) -/
def execApertureAccess (off n : Nat) (w : Option (List Byte)) (s : State) : Out :=
  .next (
    if !running s || !sender s || !isSet s R.PCI_STATUS_LINK_UP || 1073741824 ≤ off then s
    else if !isSet s R.SRF_CTRL_APERTURE_EN then
      match w with
      | none => send s (.windowData (zeros n))
      | some _ => s
    else
      let a := getF s R.SRF_CTRL_BASE * 268435456 + off
      match w with
      | none =>
        let at_ := (List.range n).map (a + ·)
        let s1 := if at_.all (heapUsed s) then s else tally R.SRF_STRAY_COUNT 6 2 0 s
        send s1 (.windowData (at_.map (fun x => if heapUsed s x then memGet s (heapMem + x) else 0)))
      | some l =>
        let at_ := (List.range l.length).map (a + ·)
        let s1 := (at_.zip l).foldl (fun t x => if heapUsed s x.1 then memPut t (heapMem + x.1) x.2 else t) s
        let s2 := if at_.all (heapUsed s) then s1 else tally R.SRF_STRAY_COUNT 6 2 0 s1
        if at_.any (fun x => heapUsed s x && inLatched s x) then tally R.SRF_EARLY_WRITE_COUNT 6 2 0 s2 else s2)

end Sys2Proof.Machine
end

