-- ==== Sys2Proof/Machine/Tone.lean ====
section
/-!
DEFINITION. Colour and tone (R150 to R173): profiles, the per-layer colour stage, the wall encoder, the wall gain K and
what it is made of, and the ambient measurement of a tile.
-/

namespace Sys2Proof.Machine

/-! ### Profiles (Table 6.3) -/

/-- Profile n after reset. -/
def profileReset (n : Nat) : List Byte :=
  [BitVec.ofNat 8 n, 0, 0xFF, 0xFF, 0, 1, 0, 0] ++ leBytes 4 0x434B0000 ++ leBytes 4 0x447A0000 ++ leBytes 4 0x434B0000 ++
    zeros 8 ++ leBytes 2 0xC000 ++ zeros 34

/-- A profile of a colour configuration. -/
def profileOf (t : TShadow) (n : Nat) : List Byte := (Tab.get t.profiles n).getD (profileReset n)

/-- A binary32 field within limits given as binary32 values. -/
def inF32 (v : Nat) (lo hi : Flt) : Bool :=
  match Flt.of32 v with
  | .fin n m e => !(Flt.lt (.fin n m e) lo) && !(Flt.lt hi (.fin n m e))
  | _ => false

/-- The field is zero or lies from 1 to 20,000. -/
def peakOk (v : Nat) : Bool := (Flt.of32 v).isZero || inF32 v Flt.one (Flt.ofNat 20000)

/-- The values of Table 6.3. -/
def profileOk (p : List Byte) : Bool :=
  decide (u8 p 0 < 32) && decide (u8 p 1 < 3) && (decide (u8 p 2 < 4) || u8 p 2 == 0xFF) &&
    (decide (u8 p 3 < 5) || u8 p 3 == 0xFF) && decide (u8 p 4 < 3) && decide (u8 p 5 < 2) && decide (u8 p 6 < 2) &&
    u8 p 7 == 0 && zeroAt p 0x1E 2 && zeroAt p 0x32 14 && inF32 (u32 p 8) Flt.one (Flt.ofNat 20000) &&
    inF32 (u32 p 0x0C) (Flt.ofNat 100) (Flt.ofNat 10000) && inF32 (u32 p 0x10) (Flt.ofRat 1 100) (Flt.ofNat 20000) &&
    peakOk (u32 p 0x14) && peakOk (u32 p 0x18)

/-! ### The colour stage (Table 6.2) -/

/-- Colour components and alpha of a pixel. -/
structure Px where
  r : Flt
  g : Flt
  b : Flt
  a : Flt
  deriving DecidableEq, Repr

/-- Applies a function to the three colour components. -/
def Px.map (p : Px) (f : Flt → Flt) : Px := { p with r := f p.r, g := f p.g, b := f p.b }

/-- The encoding resolved (R155, R156): true for Y'CbCr. `attr` is SFLAGS, COLORIMETRY, TCS, SAMPLING. -/
def isYcc (prof attr : List Byte) (fmt : Nat) : Bool :=
  match u8 prof 1 with
  | 1 => decide (fmt ≤ 4)
  | 2 => fmt == fYC16
  | _ => fmt == fYC16 || (decide (fmt ≤ 4) && decide (u8 attr 3 < 2))

/-- The profile's explicit ENCODING does not fit the format (R156). -/
def encMismatch (prof : List Byte) (fmt : Nat) : Bool :=
  (u8 prof 1 == 1 && !decide (fmt ≤ 4)) || (u8 prof 1 == 2 && fmt == fYC16)

/-- Transfer code and primaries resolved; unspecified is taken as BT.709. -/
def tcsOf (prof attr : List Byte) : Nat := if u8 prof 2 = 0xFF then u8 attr 2 else u8 prof 2
def primOf (prof attr : List Byte) : Nat :=
  let c := if u8 prof 3 = 0xFF then u8 attr 1 else u8 prof 3
  if c = 4 then 1 else c

/-- The range resolved is narrow. -/
def narrowOf (prof attr : List Byte) : Bool :=
  match u8 prof 4 with
  | 1 => true
  | 2 => false
  | _ => u8 attr 0 % 2 == 0

/-- Bits n of a format that narrow range applies to (R157). -/
def rangeBits (fmt : Nat) : Option Nat := if fmt = fYC16 ∨ fmt = fT16 then some 16 else if fmt = fT10 then some 10 else none

/-- Narrow-range expansion of luma, R', G' or B'. -/
def narrowY (n : Nat) (e : Flt) : Flt :=
  let q := 2 ^ (n - 8)
  ((e.mul (Flt.ofNat (2 ^ n - 1))).sub (Flt.ofNat (16 * q))).div (Flt.ofNat (219 * q))

/-- Narrow-range expansion of Cb or Cr. -/
def narrowC (n : Nat) (e : Flt) : Flt :=
  let q := 2 ^ (n - 8)
  ((e.mul (Flt.ofNat (2 ^ n - 1))).sub (Flt.ofNat (128 * q))).div (Flt.ofNat (224 * q))

/-- Full-range Cb or Cr: E less the value 0.5 of the format. -/
def fullC (fmt : Nat) (e : Flt) : Flt :=
  match rangeBits fmt with
  | some n => e.sub (Flt.ofRat (2 ^ n - 1) (2 ^ (n + 1)))
  | none => e.sub (Flt.ofRat 1 2)

/-- Step 2. -/
def stepRange (fmt : Nat) (narrow ycc : Bool) (p : Px) : Px :=
  let y := fun (e : Flt) => match rangeBits fmt with | some n => if narrow then narrowY n e else e | none => e
  let c := fun (e : Flt) => match rangeBits fmt with | some n => if narrow then narrowC n e else fullC fmt e | none => fullC fmt e
  if ycc then { p with r := y p.r, g := c p.g, b := c p.b } else p.map y

/-- Kr and Kb of a colorimetry (R158), in 1/10,000. -/
def kRB (prim : Nat) : Nat × Nat := match prim with | 0 => (2990, 1140) | 1 => (2126, 722) | _ => (2627, 593)

/-- Step 3: Y'CbCr to R'G'B'. (PRESUMED log 27) -/
def stepMatrix (prim : Nat) (p : Px) : Px :=
  let kr := Flt.ofRat (kRB prim).1 10000
  let kb := Flt.ofRat (kRB prim).2 10000
  let two := Flt.ofNat 2
  let r := p.r.add ((two.mul (Flt.one.sub kr)).mul p.b)
  let b := p.r.add ((two.mul (Flt.one.sub kb)).mul p.g)
  let g := ((p.r.sub (kr.mul r)).sub (kb.mul b)).div ((Flt.one.sub kr).sub kb)
  { p with r := r, g := g, b := b }

/-- A component of a decoded triple within the tolerance of R159. (DESIGN CHOICE log 32) -/
def decodeFree (tcs : Nat) (params comps : List Nat) (i : Nat) : Flt := Flt.of32 (Config.decode tcs params comps i % 2 ^ 32)

/-- Step 4 (R159): linear exactly; SDR, PQ and HLG exact at 0 and 1, elsewhere a value the tolerance leaves open. (DESIGN CHOICE log 32) -/
def stepDecode (prof : List Byte) (tcs prim : Nat) (p : Px) : Px :=
  let sdrW := Flt.of32 (u32 prof 8)
  let hlg := Flt.of32 (u32 prof 0x0C)
  match tcs with
  | 3 => p.map (fun e => e.mul (Flt.of32 (u32 prof 0x10)))
  | 0 => p.map (fun e =>
      if e.isZero then .zero else if e = Flt.one then sdrW else decodeFree 0 [u32 prof 8] [e.to32] 0)
  | 1 => p.map (fun e0 =>
      let e := e0.clamp01
      if e.isZero then .zero else if e = Flt.one then Flt.ofNat 10000 else decodeFree 1 [] [e.to32] 0)
  | _ =>
    let q := p.map Flt.clamp01
    let cs := [q.r.to32, q.g.to32, q.b.to32]
    if q.r = Flt.one ∧ q.g = Flt.one ∧ q.b = Flt.one then { p with r := hlg, g := hlg, b := hlg }
    else
      let one := fun (e : Flt) (i : Nat) => if e.isZero then .zero else decodeFree 2 [u32 prof 0x0C, prim] cs i
      { p with r := one q.r 0, g := one q.g 1, b := one q.b 2 }

/-- Wall primaries as a source code, where they are those of one. (PRESUMED log 27) -/
def wallPrim (gamut : Nat) : Option Nat := match gamut with | 0 => some 1 | 2 => some 2 | _ => none

/-- Coefficient i of the gamut matrix. (DESIGN CHOICE log 32) -/
def gamutCoef (prof : List Byte) (prim : Nat) (wall : List Byte) (i : Nat) : Flt :=
  if bitAt prof 6 0 then Flt.ofIntRat (signed 16 (u16 prof (0x20 + 2 * i))) 8192
  else Flt.of32 (Config.gamut prim wall i % 2 ^ 32)

/-- Step 5 (R160). -/
def stepGamut (prof : List Byte) (prim gamut : Nat) (wall : List Byte) (p : Px) : Px :=
  let same := wallPrim gamut == some (if prim = 3 then 2 else prim)
  if same && !bitAt prof 6 0 then p
  else
    let m := gamutCoef prof prim wall
    let row := fun (i : Nat) => (((m i).mul p.r).add ((m (i + 1)).mul p.g)).add ((m (i + 2)).mul p.b)
    { p with r := row 0, g := row 3, b := row 6 }

/-- The resolved SRC_PEAK (R155). -/
def srcPeak (prof : List Byte) (tcs : Nat) : Flt :=
  if (Flt.of32 (u32 prof 0x14)).isZero then
    match tcs with
    | 0 => Flt.of32 (u32 prof 8)
    | 2 => Flt.of32 (u32 prof 0x0C)
    | 1 => Flt.ofNat 10000
    | _ => (Flt.ofNat 65504).mul (Flt.of32 (u32 prof 0x10))
  else Flt.of32 (u32 prof 0x14)

/-- The layer's destination peak p (R161). -/
def dstPeak (prof : List Byte) (lmax : Flt) : Flt :=
  let d := Flt.of32 (u32 prof 0x18)
  if d.isZero then lmax else d.min lmax

/-- Step 6 (R161). -/
def stepTone (prof : List Byte) (tcs : Nat) (lmax : Flt) (p : Px) : Px :=
  let pk := dstPeak prof lmax
  let sp := srcPeak prof tcs
  let k := (Flt.ofRat (u16 prof 0x1C) 65536).mul pk
  let m := (p.r.max p.g).max p.b
  if u8 prof 5 = 1 ∧ pk.lt sp ∧ k.lt m then
    let mk := m.sub k
    let d := (Flt.one.div (pk.sub k)).sub (Flt.one.div (sp.sub k))
    let y := k.add (mk.div (Flt.one.add (mk.mul d)))
    let f := y.div m
    p.map (fun c => c.mul f)
  else p

/-- The colour stage (R153) of one pixel: premultiplied components in, premultiplied canvas light out. -/
def colourStage (s : State) (prof attr : List Byte) (fmt : Nat) (p : Px) : Px :=
  let out := fun (q : Px) => ({ r := q.r.finite, g := q.g.finite, b := q.b.finite, a := q.a.finite } : Px)
  match s.tnm.wall with
  | none => { r := .zero, g := .zero, b := .zero, a := .zero }
  | some wall =>
    let lmax := Flt.ofNat (getF s R.TNM_WALL_LMAX)
    if p.a.lt (Flt.ofRat 1 65536) then out { r := .zero, g := .zero, b := .zero, a := p.a }
    else
      let tcs := tcsOf prof attr
      let prim := primOf prof attr
      let ycc := isYcc prof attr fmt
      let p1 := p.map (fun c => c.div p.a)
      let p2 := stepRange fmt (narrowOf prof attr) ycc p1
      let p3 := if ycc then stepMatrix prim p2 else p2
      let p4 := stepDecode prof tcs prim p3
      let p5 := stepGamut prof prim (getF s R.TNM_WALL_GAMUT) wall p4
      let p6 := stepTone prof tcs lmax p5
      out (p6.map (fun c => (c.div lmax).mul p.a))

/-! ### The wall encoder (R163) -/

/-- L16 codes of a canvas pixel given as binary16 patterns, with K as u1.15. -/
def wallEncode (k kneeG : Nat) (cr cg cb : Nat) : Nat × Nat × Nat :=
  let kf := Flt.ofRat k 32768
  let kn := Flt.ofRat kneeG 65536
  let pos := fun (v : Nat) => (Flt.of16 v).max .zero
  let r := pos cr
  let g := pos cg
  let b := pos cb
  let x := kf.mul ((r.max g).max b)
  let f :=
    if kn.lt x then
      let u := x.sub kn
      let rest := Flt.one.sub kn
      let y := kn.add ((rest.mul u).div (u.add rest))
      kf.mul (y.div x)
    else kf
  let code := fun (c : Flt) => Flt.scaleRound 65535 (c.mul f)
  (code r, code g, code b)

/-! ### Shadow state and its commands (R154, R162, R166) -/

/-- The next sequence number: 1 after 0xFFFF_FFFF (R136). -/
def nextSeq (n : Nat) : Nat := if n = 0xFFFFFFFF then 1 else n + 1

/-- Writes TNM shadow state: TNM_SHADOW_SEQ counts. -/
def tnmShadow (f : TShadow → TShadow) (s : State) : State :=
  let t := setF s R.TNM_SHADOW_SEQ_SEQ (nextSeq (getF s R.TNM_SHADOW_SEQ_SEQ))
  { t with tnm := { t.tnm with shadow := f t.tnm.shadow } }

/-- `set-profile` (R154). -/
def execSetProfile (k : Pkt) (s : State) : Out :=
  .next (plain k (fun t =>
    if !profileOk k.par then .err St.badParam
    else .ok (tnmShadow (fun x => { x with profiles := Tab.put x.profiles (k.p8 0) k.par }) t) []) s)

/-- K_HOST lies from 0x0020 to 0x8000. -/
def kHostOk (v : Nat) : Bool := decide (0x20 ≤ v) && decide (v ≤ 0x8000)

/-- `set-tone` (R162). -/
def execSetTone (k : Pkt) (s : State) : Out :=
  .next (plain k (fun t =>
    if !kHostOk (k.p16 2) then .err St.badParam
    else .ok (tnmShadow (fun x => { x with kneeG := k.p16 0, kHost := k.p16 2 }) t) []) s)

/-- LUX rises strictly, from at least 1/16 lux (R166). -/
def curveRises : List (Nat × Nat) → Bool
  | [] => true
  | [p] => decide (1 ≤ p.1)
  | p :: q :: t => decide (1 ≤ p.1) && decide (p.1 < q.1) && curveRises (q :: t)

/-- `set-ambient-curve` (R166). -/
def execSetAmbientCurve (k : Pkt) (s : State) : Out :=
  .next (plain k (fun t =>
    let n := k.p8 0
    let pts := (List.range n).map (fun i => (k.p32 (4 + 8 * i), k.p16 (8 + 8 * i)))
    if n < 2 ∨ 16 < n ∨ !parZero k 1 3 ∨ (List.range n).any (fun i => k.p16 (10 + 8 * i) != 0) ∨
        pts.any (fun p => decide (0x8000 < p.2)) ∨ !curveRises pts then .err St.badParam
    else .ok (tnmShadow (fun x => { x with curve := pts }) t) []) s)

/-! ### Placing commits (R137, R138, R140) -/

/-- The device has frame boundaries: SHOW with present instants. -/
def hasBoundaries (s : State) : Bool := mode s == mShow && hasInstants s && sender s

/-- Steps 5 and 6 of R137 for a targeted commit. -/
def targetCheck (s : State) (target : Nat) : Nat :=
  let n := frameOf s target
  if !hasBoundaries s then St.badState
  else if n < firstFrame s ∨ deadlinePassed s n then St.tooLate
  else if frameNow0 s + 256 < n ∧ firstFrame s + 256 < n then St.badParam
  else 0

/-- Where an accepted commit goes: its due frame, and the pending commit it replaces. `l` lists due frame and locked-in. (DEDUCED log 31) -/
def placeCommit (s : State) (target : Option Nat) (l : List (Option Nat × Bool)) : Except Nat (Option Nat × Option Nat) :=
  let nb := nextBoundary s
  let due := if !hasBoundaries s then none
    else match target with
      | some t => some (frameOf s t)
      | none => some (((List.range 3).map (nb + ·)).find? (fun n => !l.any (fun e => e.2 && e.1 == some n)) |>.getD nb)
  let same := fun (e : Option Nat × Bool) => !e.2 && (e.1 == due || (e.1 == none && due == some nb))
  match l.findIdx? same with
  | some i => .ok (due, some i)
  | none => if 2 ≤ l.length then .error St.busy else .ok (due, none)

/-- A list with an element replaced, or added at the end. -/
def replaceAt {α : Type} (l : List α) (i : Option Nat) (x : α) : List α :=
  match i with
  | some n => l.set n x
  | none => l ++ [x]

/-- The reply of a commit: APPLY_FRAME and SEQ. -/
def commitReply (due : Option Nat) (seq : Nat) : List Byte :=
  leBytes 4 (match due with | some n => n | none => 0xFFFFFFFF) ++ leBytes 4 seq

/-- The DST_PEAK check of R162: at most LMAX in every profile while wall settings are held. -/
def dstPeaksOk (s : State) (t : TShadow) : Bool :=
  s.tnm.wall.isNone || (List.range 32).all (fun n =>
    !(Flt.ofNat (getF s R.TNM_WALL_LMAX)).lt (Flt.of32 (u32 (profileOf t n) 0x18)))

/-- `commit-colour` (R162). -/
def execCommitColour (k : Pkt) (s : State) : Out :=
  .next (plain k (fun t =>
    let seq := getF t R.TNM_SHADOW_SEQ_SEQ
    let snap := { t.tnm.shadow with seq := seq }
    let targeted := bitAt k.par 4 0
    if k.p32 0 ≠ 0 ∧ k.p32 0 ≠ seq then .err St.stale
    else if 4 ≤ k.p32 4 then .err St.badParam
    else if !dstPeaksOk t snap then .err St.badParam
    else
      let c := if targeted then targetCheck t (k.p32 8) else 0
      if c ≠ 0 then .err c
      else match placeCommit t (if targeted then some (k.p32 8) else none) (t.tnm.pendings.map (fun p => (p.due, p.locked))) with
        | .error e => .err e
        | .ok (due, i) =>
          let p : TPending := { snap := snap, due := due, targeted := targeted, locked := false, immediate := bitAt k.par 4 1 }
          .ok { t with tnm := { t.tnm with pendings := replaceAt t.tnm.pendings i p } } (commitReply due seq)) s)

/-! ### Ambient and gain (R165 to R169) -/

/-- Insertion of a number in rising order. -/
def insertUp (x : Nat) : List Nat → List Nat
  | [] => [x]
  | y :: t => if x ≤ y then x :: y :: t else y :: insertUp x t

/-- A list in rising order. -/
def sortUp (l : List Nat) : List Nat := l.foldr insertUp []

/-- The median; of an even count the mean of the middle two, in the units given. -/
def median (site : Nat) (l : List Nat) : Nat :=
  let v := sortUp l
  let n := v.length
  if n % 2 = 1 then v.getD (n / 2) 0 else inexact site (v.getD (n / 2 - 1) 0 + v.getD (n / 2) 0) 2

/-- Ambient reports a sender holds from its served tiles, valid and at most 5 s old (R167). -/
def ownReports (s : State) : List Nat :=
  (s.tnm.reports.filter (fun e =>
    e.2.flags % 2 == 1 && decide (ltNs s ≤ e.2.at_ + 5000000000) &&
      (match slotOf s e.1 with | some i => slotState s i == 2 | none => false))).map (fun e => e.2.lux)

/-- Peers' tone states at most 3 s old (R169). -/
def freshPeers (s : State) : List (Nat × AmbRep) := s.tnm.peers.filter (fun e => decide (ltNs s ≤ e.2.at_ + 3000000000))

/-- A weighted median of senders' medians: (median, device, weight) in rising order of median, then device. -/
def weightedMedian (l : List (Nat × Nat × Nat)) : Nat :=
  let total : Nat := (l.map (fun e => e.2.2)).sum
  let rec go : List (Nat × Nat × Nat) → Nat → Nat
    | [], _ => 0
    | [e], _ => e.1
    | e :: f :: t, acc =>
      let c := acc + e.2.2
      if total < 2 * c then e.1
      else if 2 * c = total then (if e.2.1 < f.2.1 then e.1 else f.1)
      else go (f :: t) c
  go l 0

/-- Rising order of (median, device, weight). -/
def insertMedian (x : Nat × Nat × Nat) : List (Nat × Nat × Nat) → List (Nat × Nat × Nat)
  | [] => [x]
  | y :: t => if x.1 < y.1 ∨ (x.1 = y.1 ∧ x.2.1 ≤ y.2.1) then x :: y :: t else y :: insertMedian x t

/-- Bits of TNM_CTRL in force. -/
def ctrlBits (s : State) (lo n : Nat) : Nat := s.tnm.ctrl / 2 ^ lo % 2 ^ n

/-- In mode 1: the level A and the count of valid reports in it; none where ambient is invalid (R167, R169). -/
def ambientTiles (s : State) : Option Nat × Nat :=
  let own := ownReports s
  if ctrlBits s 3 1 = 1 then
    let peers := (freshPeers s).filter (fun e => e.2.flags % 2 == 1)
    let mine := if own.isEmpty then [] else [(median 1 own, s.cps.devnum, own.length)]
    let all := (mine ++ peers.map (fun e => (e.2.lux, e.1, e.2.tiles))).foldr insertMedian []
    let n : Nat := (all.map (fun e => e.2.2)).sum
    (if n < 3 then none else some (weightedMedian all), n)
  else (if own.length < 3 then none else some (median 1 own), own.length)

/-- K_AMB of a level under a curve (R166). (DESIGN CHOICE log 32) -/
def kAmb : List (Nat × Nat) → Nat → Nat
  | [], _ => 0x8000
  | [p], _ => p.2
  | p :: q :: t, a =>
    if a ≤ p.1 then p.2
    else if a < q.1 then max (min p.2 q.2) (min (max p.2 q.2) (Config.ambInterp p q a))
    else kAmb (q :: t) a

/-- u1.15 as binary32. -/
abbrev u115 (v : Nat) : Flt := Flt.ofRat v 32768

/-- A value held as u1.15, rounded half up. -/
def toU115 (x : Flt) : Nat := Flt.scaleRound 32768 x

/-- The ambient part of an update frame (R167). -/
def ambUpdate (s : State) : State :=
  match ctrlBits s 0 2 with
  | 1 =>
    match ambientTiles s with
    | (some a, n) => setSat (setF (setF s R.TNM_AMB_LUX_LUX a) R.TNM_STATUS_AMB_VALID 1) R.TNM_STATUS_AMB_TILES n
    | (none, n) =>
      tally R.TNM_AMB_STALE_COUNT 8 1 0 (setSat (setF s R.TNM_STATUS_AMB_VALID 0) R.TNM_STATUS_AMB_TILES n)
  | _ => s

/-- RHO_MAX of an update frame: the sender's own, with its peers' where PEER_EN is set. -/
def rhoMax (s : State) : Option Nat :=
  let peers := if ctrlBits s 3 1 = 1 then
      ((freshPeers s).filter (fun e => e.2.flags / 2 % 2 == 1)).map (fun e => e.2.rho) else []
  (s.tnm.rho.toList ++ peers).foldl (fun a v => some (max (a.getD 0) v)) none

/-- The budget part of an update frame (R168). -/
def budgetUpdate (s : State) : State :=
  if ctrlBits s 2 1 = 0 then setF (setF s R.TNM_KB_KB 0x8000) R.TNM_STATUS_BUDGET_LIMIT 0
  else match rhoMax s with
    | none => s
    | some r =>
      let rho := Flt.ofRat r 4096
      let h := Flt.ofRat (getF s R.TNM_BUDGET_HEADROOM) 65536
      let one := Flt.one
      let s1 := setSat s R.TNM_RHO_RHO_MAX r
      if (one.sub h).lt rho || rho.lt (one.sub ((Flt.ofNat 2).mul h)) then
        let num := (u115 (getF s R.TNM_K_K)).mul (one.sub h)
        let den := (rho.mul (u115 (getF s R.TNM_KB_K_AMB))).mul (u115 s.tnm.active.kHost)
        let kb := toU115 (one.min (num.div den))
        setF (setF s1 R.TNM_KB_KB kb) R.TNM_STATUS_BUDGET_LIMIT (if kb < 0x8000 then 1 else 0)
      else s1

/-- K_AMB now: 1 with the source off, the curve at the host's level, or the curve at the last valid level of the tiles. -/
def kAmbNow (s : State) : State :=
  match ctrlBits s 0 2 with
  | 1 => if isSet s R.TNM_STATUS_AMB_VALID then setF s R.TNM_KB_K_AMB (kAmb s.tnm.active.curve (getF s R.TNM_AMB_LUX_LUX)) else s
  | 2 => let a := getF s R.TNM_HOST_LUX_LUX
         setF (setF s R.TNM_AMB_LUX_LUX a) R.TNM_KB_K_AMB (kAmb s.tnm.active.curve a)
  | _ => setF s R.TNM_KB_K_AMB 0x8000


/-- The new K: the target at once, or within one STEP of the old K, and within 2^-10 to 1 (R165). -/
def newK (jump : Bool) (k step : Nat) (t : Flt) : Nat :=
  let kf := u115 k
  let st := Flt.ofRat step 65536
  let v := if jump then t else (t.max (kf.mul (Flt.one.sub st))).min (kf.mul (Flt.one.add st))
  max 32 (min 0x8000 (toU115 v))

/-- The boundary of frame n recomputes K (R165). -/
def kUpdate (n : Nat) (immediate : Bool) (s : State) : State :=
  let upd := n % max 1 (ctrlBits s 8 8) == 0
  if !upd && !immediate && !s.tnm.firstShow then s
  else
    let s1 := if upd then { s with tnm := { s.tnm with ctrl := (regGet s R.TNM_CTRL).toNat } } else s
    let s2 := kAmbNow (if upd then ambUpdate s1 else s1)
    let s3 := if upd then let b := budgetUpdate s2; { b with tnm := { b.tnm with rho := none } } else s2
    let t := ((u115 (getF s3 R.TNM_KB_K_AMB)).mul (u115 (getF s3 R.TNM_KB_KB))).mul (u115 s3.tnm.active.kHost)
    let k := newK (immediate || s3.tnm.firstShow) (getF s3 R.TNM_K_K) (ctrlBits s3 16 16) t
    let s4 := setF { s3 with tnm := { s3.tnm with firstShow := false } } R.TNM_K_K_TARGET (toU115 t)
    if k = getF s4 R.TNM_K_K then s4 else raise 8 (setF s4 R.TNM_K_K k)

/-- Colour commits due at the boundary of frame n become active, in the order they were placed; the result says whether
one of them is IMMEDIATE. -/
def colourCommits (n : Nat) (s : State) : State × Bool :=
  let due := s.tnm.pendings.filter (fun p => match p.due with | some d => decide (d ≤ n) | none => true)
  let rest := s.tnm.pendings.filter (fun p => match p.due with | some d => decide (n < d) | none => false)
  let s1 := due.foldl (fun a p => setF { a with tnm := { a.tnm with active := p.snap } } R.TNM_ACTIVE_SEQ_SEQ p.snap.seq) s
  ({ s1 with tnm := { s1.tnm with pendings := rest } }, due.any (fun p => p.immediate))

/-! ### Tile side (R170, R171) -/

/-- The sensors of a set-ambient-sensors parameter (R170). -/
def ambientSet (l : List Byte) (t : State) : Except Nat State :=
  let n := u8 l 0
  let es := (List.range n).map (fun i => sub l (4 + 8 * i) 8)
  if 4 < n ∨ !zeroAt l 1 3 ∨ es.any (fun e => decide (128 ≤ u8 e 0) || decide (2 ≤ u8 e 2) || u8 e 3 != 0) then
    .error St.badParam
  else .ok (setItem 0x0030 0 l { t with tnm := { t.tnm with sensors := es } })

/-- `set-ambient-sensors`. -/
def execSetAmbientSensors (k : Pkt) (s : State) : Out := .next (plain k (fun t => resOf (ambientSet k.par t)) s)

/-- The reading of a sensor in 2^-16 lux: none where it did not acknowledge or returned 0xFFFF. -/
def luxOf (entry : List Byte) (bytes : Option (List Byte)) : Option Nat :=
  match bytes with
  | none => none
  | some b =>
    let c := if bitAt entry 2 0 then beVal (b.take 2) else leVal (b.take 2)
    if c = 0xFFFF then none else some (c * u32 entry 4)

/-- Every 100 ms a tile reads its ambient sensors: the two bytes each returned, none without acknowledgement (R170). -/
def execAmbientSample (reads : List (Option (List Byte))) (s : State) : Out :=
  .next (
    if !running s || sender s || s.tnm.sensors.isEmpty then s
    else
      let vals := (s.tnm.sensors.zip reads).filterMap (fun e => luxOf e.1 e.2)
      let s0 := setF (setB s R.TNM_STATUS_AMB_VALID (!vals.isEmpty)) R.TNM_STATUS_AMB_TILES vals.length
      let s1 := { s0 with tnm := { s0.tnm with validNow := vals.length, validSec := max s0.tnm.validSec vals.length } }
      if vals.isEmpty then s1
      else
        let smp := median 2 (vals.map (65536 * ·))
        let y := match s1.tnm.level with
          | none => smp
          | some y => if y ≤ smp then y + inexact 3 (smp - y) 100 else y - inexact 3 (y - smp) 100
        setSat { s1 with tnm := { s1.tnm with level := some y } } R.TNM_AMB_LUX_LUX (inexact 4 y (2 ^ 28)))

/-- The port towards the tile's serving sender, if its link is UP. -/
def upstreamUp (s : State) : Option Nat :=
  match s.twl.upstream with
  | some p => if linkUp s p then some p else none
  | none => none

/-- A tile sends a message to its serving sender. -/
def toSender (mtype : Nat) (payload : List Byte) (s : State) : State :=
  match upstreamUp s with
  | some p => sendMsg p (mkMsg s 1 mtype (getF s R.CEL_T_STATUS_SENDER) payload) s
  | none => s

/-- Once per second a tile sends its ambient report (R171). -/
def execAmbientReportTimer (s : State) : Out :=
  .next (
    if !running s || sender s || s.tnm.sensors.isEmpty then s
    else
      let pl := leBytes 4 (getF s R.TNM_AMB_LUX_LUX) ++ leBytes 1 s.tnm.validSec ++
        leBytes 1 (if s.tnm.validSec = 0 then 0 else 1) ++ zeros 2
      let s1 := toSender 0x14 pl s
      { s1 with tnm := { s1.tnm with validSec := s1.tnm.validNow } })

/-- A sender stores a tile's ambient report (R167). -/
def execAmbientReport (p : Nat) (m : Msg) (s : State) : Out :=
  .next (msgIn p m (fun t =>
    if !sender t then t
    else
      let r : AmbRep := { lux := u32 m.payload 0, tiles := u8 m.payload 4, flags := u8 m.payload 5, rho := 0, at_ := ltNs t }
      { t with tnm := { t.tnm with reports := Tab.put t.tnm.reports m.src r } }) s)

/-- A sender stores a peer's tone state (R169). -/
def execToneState (p : Nat) (m : Msg) (s : State) : Out :=
  .next (msgIn p m (fun t =>
    if !sender t then t
    else
      let r : AmbRep := { lux := u32 m.payload 0, tiles := u16 m.payload 4, flags := u8 m.payload 6
                          rho := u16 m.payload 8, at_ := ltNs t }
      { t with tnm := { t.tnm with peers := Tab.put t.tnm.peers m.src r } }) s)

/-- Peer senders this sender reaches over Twill. -/
def peerSenders (s : State) : List Nat := (s.twl.ports.filterMap (fun e => if linkUp s e.1 then e.2.peerSender else none)).eraseDups

/-- Each second a sender sends its tone state to the peers it reaches (R169). -/
def execToneStateTimer (s : State) : Out :=
  .next (
    if !running s || !sender s || ctrlBits s 3 1 = 0 then s
    else
      let own := ownReports s
      let pl := leBytes 4 (if own.isEmpty then 0 else median 1 own) ++ leBytes 2 own.length ++
        leBytes 1 ((if own.isEmpty then 0 else 1) + (if s.tnm.rho.isSome then 2 else 0)) ++ [0] ++
        leBytes 2 (min 0xFFFF (s.tnm.rho.getD 0)) ++ zeros 6
      (peerSenders s).foldl (fun a d => sendTo d (mkMsg a 1 0x15 d pl) a) s)

/-- The 16 bytes of wall settings are in force: registers and WALL_SET. -/
def wallStore (w : List Byte) (s : State) : State :=
  let t := setF (setF (setF s R.TNM_WALL_LMAX (u16 w 0)) R.TNM_WALL_GAMUT (u8 w 2)) R.TNM_STATUS_WALL_SET 1
  { t with tnm := { t.tnm with wall := some w } }

end Sys2Proof.Machine
end

