-- ==== Sys2Proof/Machine/Cells.lean ====
section
/-!
DEFINITION. Cells, Gingham maps and delivery (R174 to R205), both roles: maps and slot admission, change detection, the
cell queues, launch and routes in a sender; the pending store, frame close and present in a tile.
-/

namespace Sys2Proof.Machine

/-! ### Slot entries and positions (R174 to R177) -/

abbrev slW (e : List Byte) : Nat := u16 e 0x0C
abbrev slH (e : List Byte) : Nat := u16 e 0x0E
abbrev slX (e : List Byte) : Nat := u16 e 8
abbrev slY (e : List Byte) : Nat := u16 e 0x0A

/-- Cell columns of a width, and cells of a size. -/
abbrev cellCols (w : Nat) : Nat := (w + 15) / 16
def cellCount (w h : Nat) : Nat := cellCols w * cellCols h

/-- The canvas pixel of tile pixel (u, v) (R176). -/
def canvasOf (e : List Byte) (u v : Nat) : Nat × Nat :=
  if bitAt e 5 1 then (slX e + slW e - 1 - u, slY e + slH e - 1 - v) else (slX e + u, slY e + v)

/-- Tile pixels of a cell: first column and row, and how many lie in the tile. -/
def cellRect (w h c : Nat) : Nat × Nat × Nat × Nat :=
  let u0 := c % cellCols w * 16
  let v0 := c / cellCols w * 16
  (u0, v0, min 16 (w - u0), min 16 (h - v0))

/-- Region origin and size of the map in force (Table 7.1). -/
abbrev regX (s : State) : Nat := u16 s.cel.header 8
abbrev regY (s : State) : Nat := u16 s.cel.header 0x0A
abbrev regW (s : State) : Nat := u32 s.cel.header 0x0C
abbrev regH (s : State) : Nat := u32 s.cel.header 0x10

/-- Key of a canvas pixel in the canvas and L16 stores. -/
abbrev pixKey (x y : Nat) : Nat := y * 65536 + x

/-- The cell payload (R175): L16 codes of its pixels, zero beyond the tile and where nothing was encoded. -/
def cellPayload (s : State) (e : List Byte) (c : Nat) : List Byte :=
  let r := cellRect (slW e) (slH e) c
  ((List.range 256).map (fun n =>
    let i := n % 16
    let j := n / 16
    if i < r.2.2.1 ∧ j < r.2.2.2 then
      let p := canvasOf e (r.1 + i) (r.2.1 + j)
      (Tab.get s.cel.l16 (pixKey p.1 p.2)).getD (zeros 6)
    else zeros 6)).flatten

/-- Composition regions, as column times 65,536 plus row, that a cell's canvas pixels overlap. -/
def cellRegions (s : State) (e : List Byte) (c : Nat) : List Nat :=
  let r := cellRect (slW e) (slH e) c
  let a := canvasOf e r.1 r.2.1
  let b := canvasOf e (r.1 + r.2.2.1 - 1) (r.2.1 + r.2.2.2 - 1)
  let x0 := (min a.1 b.1 - regX s) / 64
  let x1 := (max a.1 b.1 - regX s) / 64
  let y0 := (min a.2 b.2 - regY s) / 64
  let y1 := (max a.2 b.2 - regY s) / 64
  ((List.range (x1 + 1 - x0)).map (fun i => (List.range (y1 + 1 - y0)).map (fun j => (x0 + i) * 65536 + y0 + j))).flatten

/-! ### Queues (R185, R186) -/

/-- Key of the descriptor of position (slot, cell). -/
abbrev qKey (sl c : Nat) : Nat := sl * 4096 + c

def QEntry.empty : QEntry :=
  { state := 0, refresh := false, relaunch := false, buf := 0, frame := 0, age := 0, msg := [] }

def QDesc.empty : QDesc :=
  { lastHash := 0, lastFrame := 0, valid := false, entries := [QEntry.empty, QEntry.empty, QEntry.empty] }

/-- The descriptor of a position. -/
def qDesc (s : State) (sl c : Nat) : QDesc := (Tab.get s.cel.queues (qKey sl c)).getD QDesc.empty

/-- Stores a descriptor. -/
def qPut (sl c : Nat) (d : QDesc) (s : State) : State :=
  { s with cel := { s.cel with queues := Tab.put s.cel.queues (qKey sl c) d } }

/-- Pool buffers in use. -/
def usedBufs (s : State) : List Nat :=
  (s.cel.queues.map (fun e => (e.2.entries.filter (fun x => x.state != 0)).map (fun x => x.buf))).flatten

/-- A free pool buffer, from where a free value starts the search; none with the pool empty. -/
def takeBuf (s : State) : Option Nat :=
  let used := usedBufs s
  if 1048576 ≤ used.length then none
  else ((List.range (used.length + 1)).map (fun k => (Config.free s.free + k) % 1048576)).find? (fun b => !used.contains b)

/-- CEL_POOL_FREE follows the buffers in use. -/
def poolCount (s : State) : State := setF s R.CEL_POOL_FREE_FREE (1048576 - (usedBufs s).length)

/-- The entries of a slot are emptied and their buffers freed. -/
def slotEmpty (i : Nat) (s : State) : State :=
  poolCount { s with cel := { s.cel with queues := s.cel.queues.map (fun e =>
    if e.1 / 4096 = i then (e.1, { e.2 with entries := [QEntry.empty, QEntry.empty, QEntry.empty] }) else e) } }

/-- The descriptor as read-queue returns it (Tables 7.5 and 7.6). -/
def qBytes (d : QDesc) : List Byte :=
  let ent := fun (e : QEntry) =>
    leBytes 4 (e.state + (if e.refresh then 4 else 0) + (if e.relaunch then 8 else 0) + e.buf * 4096) ++ leBytes 4 e.frame ++
      leBytes 4 e.age ++ zeros 4
  leBytes 8 d.lastHash.toNat ++ leBytes 4 d.lastFrame ++
    leBytes 4 ((if d.valid then 1 else 0) + (if d.entries.any (fun e => e.state == 1) then 2 else 0)) ++
    (d.entries.map ent).flatten

/-- `read-queue` (R185). -/
def execReadQueue (k : Pkt) (s : State) : Out :=
  .next (plain k (fun t =>
    if 256 ≤ k.p16 0 ∨ 4096 ≤ k.p16 2 then .err St.badParam
    else .ok t (qBytes (qDesc t (k.p16 0) (k.p16 2)))) s)

/-- Index of the entry that comes first in an order, among those that satisfy a condition. -/
def firstBy (l : List QEntry) (p : QEntry → Bool) (before : QEntry → QEntry → Bool) : Option Nat :=
  (List.range l.length).foldl (fun best i =>
    match l[i]? with
    | none => best
    | some e =>
      if !p e then best
      else match best with
        | none => some i
        | some j => if before e (l.getD j QEntry.empty) then some i else best) none

/-- A frame number is before another, as signed 32-bit differences. -/
def frameBefore (a b : Nat) : Bool := decide (frameDiff a b < 0)

/-- The cell message of a version (Table 7.7), RELAUNCH clear. -/
def cellMsg (s : State) (sl c n : Nat) (refresh : Bool) (hash : Nat) (payload : List Byte) : List Byte :=
  leBytes 4 (getF s (R.CEL_S_W0_DEVNUM sl) + c * 4096 + (if refresh then 2 ^ 24 else 0)) ++
    leBytes 4 (n % 65536 + s.cps.devnum % 4096 * 65536 + getF s (R.CEL_S_W0_EPOCH sl) * 2 ^ 28) ++
    leBytes 8 hash ++ payload

/-- Queues a version of a position for frame n (R186). -/
def queueVersion (sl c n : Nat) (refresh : Bool) (hash : Nat) (payload : List Byte) (s : State) : State :=
  let d := qDesc s sl c
  let strict := isSet s (R.CEL_S_W0_STRICT sl)
  let old := d.entries.filter (fun e => e.state == 1)
  -- Supersede and age.
  let es := if strict then d.entries else d.entries.map (fun e => if e.state = 1 then QEntry.empty else e)
  let gone := if strict then 0 else old.length
  let age := if strict then n % 2 ^ 32 else old.foldl (fun a e => if frameBefore e.age a then e.age else a) (n % 2 ^ 32)
  let s1 := addF (addF s R.CEL_SUPERSEDED_COUNT gone) (R.CEL_S_SUPERSEDED_COUNT sl) gone
  -- Place.
  let slot := es.findIdx? (fun e => e.state == 0)
  let older := fun (a b : QEntry) => frameBefore a.frame b.frame
  let drop := firstBy es (fun e => e.state == 1) older
  let early := firstBy es (fun e => e.state == 2) older
  let s2 := match slot, drop with
    | none, some _ => tally R.CEL_STRICT_DROP_COUNT 9 5 sl s1
    | _, _ => s1
  let at_ := match slot with | some i => i | none => match drop with | some i => i | none => early.getD 0
  let s3 := qPut sl c { d with entries := es.set at_ QEntry.empty } s2
  -- Buffer and record.
  match takeBuf s3 with
  | none => poolCount (tally R.CEL_POOL_EMPTY_COUNT 9 1 sl s3)
  | some b =>
    let e : QEntry := { state := 1, refresh := refresh, relaunch := false, buf := b, frame := n % 2 ^ 32, age := age
                        msg := cellMsg s3 sl c n refresh hash payload }
    let d' : QDesc := { lastHash := BitVec.ofNat 64 hash, lastFrame := n % 2 ^ 32, valid := true
                        entries := (es.set at_ QEntry.empty).set at_ e }
    let s4 := qPut sl c d' (takeFree s3)
    let s5 := incF (incF s4 R.CEL_QUEUED_COUNT) (R.CEL_S_QUEUED_COUNT sl)
    poolCount (if refresh then incF s5 R.CEL_REFRESHED_COUNT else s5)

/-! ### Change detection (R181 to R183) -/

/-- The refresh interval F. -/
def refreshF (s : State) (n : Nat) : Nat :=
  let r := max 1 (getF s R.CEL_CTRL_REFRESH_FRAMES)
  match paramsFor s n with
  | some p => min r (max 1 (p.num / p.den))
  | none => r

/-- Hashes a position in pass n, and queues it when it is changed or due. -/
def hashPosition (n sl c : Nat) (e : List Byte) (s : State) : State :=
  let pay := cellPayload s e c
  let h := crc64 pay
  let d := qDesc s sl c
  let changed := !d.valid || d.lastHash.toNat != h
  let due := (n + c + 64 * sl) % refreshF s n == 0
  if changed || due then queueVersion sl c n (due && !changed) h pay s else s

/-- After the encoding of a region: hashes every position whose last region it is (R182). -/
def hashAfter (n region : Nat) (s : State) : State :=
  (s.cel.slots.filter (fun e => slotState s e.1 == 2)).foldl (fun a e =>
    ((List.range (cellCount (slW e.2.entry) (slH e.2.entry))).filter (fun c =>
      let rs := cellRegions s e.2.entry c
      rs.contains region && rs.all (fun r => s.cel.encoded.contains r))).foldl
        (fun b c => hashPosition n e.1 c e.2.entry b) a) s

/-! ### Map validation (R178) -/

/-- Slot entries of a map. -/
def mapSlots (m : List Byte) : List (List Byte) := (List.range (u16 m 6)).map (fun i => sub m (128 + 32 * i) 32)

/-- Port table entry p. -/
def mapPort (m : List Byte) (p : Nat) : List Byte := sub m (64 + 8 * p) 8

/-- The header of Table 7.1. -/
def headerOk (m : List Byte) : Bool :=
  decide (128 ≤ m.length) && u32 m 0 == 0x4D474E47 && u16 m 4 == 1 && decide (1 ≤ u16 m 6) && decide (u16 m 6 ≤ 256) &&
    u16 m 8 % 16 == 0 && u16 m 0x0A % 16 == 0 && decide (16 ≤ u32 m 0x0C) && decide (u32 m 0x0C + u16 m 8 ≤ 65536) &&
    decide (16 ≤ u32 m 0x10) && decide (u32 m 0x10 + u16 m 0x0A ≤ 65536) && zeroAt m 0x14 44 &&
    decide (128 + 32 * u16 m 6 ≤ m.length) && decide (u32 m 0x0C * u32 m 0x10 ≤ 67108864)

/-- A port entry of Table 7.2, with the partner rules of a ring. -/
def portOk (m : List Byte) (p : Nat) : Bool :=
  let e := mapPort m p
  let topo := u8 e 0
  let q := u8 e 1
  decide (topo ≤ 3) && zeroAt e 6 2 && (if topo = 0 then u8 e 2 == 0 else decide (1 ≤ u8 e 2) && decide (u8 e 2 ≤ 64)) &&
    (if topo = 2 then
      decide (q ≤ 7) && q != p && u8 (mapPort m q) 0 == 2 && u8 (mapPort m q) 1 == p && u8 (mapPort m q) 2 == u8 e 2
     else q == 0xFF) &&
    (if topo = 3 then decide (u8 e 3 ≤ 1) && decide (u16 e 4 ≤ 0xFFE) else u8 e 3 == 0 && u16 e 4 == 0)

/-- A slot entry of Table 7.3, inside the region and within its limits. -/
def slotOk (m e : List Byte) : Bool :=
  let p := u8 e 2
  decide (u16 e 0 ≤ 0xFFE) && decide (p ≤ 7) && u8 (mapPort m p) 0 != 0 && decide (1 ≤ u8 e 3) &&
    decide (u8 e 3 ≤ u8 (mapPort m p) 2) && decide (u8 e 5 < 4) && zeroAt e 6 2 && zeroAt e 0x10 16 &&
    (u8 (mapPort m p) 0 != 2 || decide (p < u8 (mapPort m p) 1)) &&
    decide (1 ≤ slW e) && decide (slW e ≤ 16384) && decide (1 ≤ slH e) && decide (slH e ≤ 16384) &&
    decide (u16 m 8 ≤ slX e) && decide (slX e + slW e ≤ u16 m 8 + u32 m 0x0C) && decide (u16 m 0x0A ≤ slY e) &&
    decide (slY e + slH e ≤ u16 m 0x0A + u32 m 0x10) && decide (slW e * slH e ≤ 1048576) &&
    decide (cellCount (slW e) (slH e) ≤ 4096)

/-- Ports of a map whose slots name them: every used port but the higher one of a ring. -/
def slotPorts (m : List Byte) : List Nat :=
  ports.filter (fun p => u8 (mapPort m p) 0 != 0 && (u8 (mapPort m p) 0 != 2 || decide (p < u8 (mapPort m p) 1)))

/-- No two values of a list are equal. -/
def distinct (l : List Nat) : Bool := l.eraseDups.length == l.length

/-- The checks of R178. -/
def mapOk (s : State) (m : List Byte) : Bool :=
  headerOk m && ports.all (portOk m) &&
    (let sl := mapSlots m
     sl.all (slotOk m) && distinct (sl.map (fun e => u16 e 0)) && distinct (sl.map (fun e => u8 e 2 * 256 + u8 e 3)) &&
       (slotPorts m).all (fun p => (sl.filter (fun e => u8 e 2 == p)).length == u8 (mapPort m p) 2) &&
       decide ((sl.map (fun e => slW e * slH e)).sum ≤ 67108864) &&
       decide ((sl.map (fun e => u8 e 4)).eraseDups.length ≤ 32) && !(sl.any (fun e => feedClaimed s (u8 e 4))))

/-! ### Admission (R180) -/

/-- Changes a slot. -/
def slotUpd (i : Nat) (f : Slot → Slot) (s : State) : State :=
  { s with cel := { s.cel with slots := s.cel.slots.map (fun e => if e.1 = i then (e.1, f e.2) else e) } }

/-- A slot on a dual-homed ring whose port has PRIMARY 0. -/
def backupSlot (s : State) (e : List Byte) : Bool := portTopo s (u8 e 2) == 3 && !portPrimary s (u8 e 2)

/-- Sends the wall settings to a slot's tile. -/
def sendWall (i : Nat) (s : State) : State :=
  match s.tnm.wall with
  | none => s
  | some w =>
    let p := getF s (R.CEL_S_W0_ROUTE i)
    if linkUp s p then sendMsg p (mkMsg s 1 0x13 (getF s (R.CEL_S_W0_DEVNUM i)) w) s else s

/-- Admits a slot whose tile holds its number: wall settings, then the slot notice. Without wall settings it waits. -/
def admitSlot (i nflags : Nat) (s : State) : State :=
  if s.tnm.wall.isNone then setF s (R.CEL_S_W0_STATE i) 1 else slotReadmit i nflags (sendWall i s)

/-- `set-wall`: the values of R152, with the determinant of custom primaries, exactly. D65 is (0.3127, 0.3290). -/
def wallOk (w : List Byte) : Bool :=
  let c := fun (i : Nat) => ((u16 w (4 + 2 * i) : Nat) : Int)
  let x := fun (i : Nat) => c (2 * i)
  let y := fun (i : Nat) => c (2 * i + 1)
  let z := fun (i : Nat) => 65536 - x i - y i
  let det := fun (a b d : Int × Int × Int) =>
    a.1 * (b.2.1 * d.2.2 - b.2.2 * d.2.1) - b.1 * (a.2.1 * d.2.2 - a.2.2 * d.2.1) + d.1 * (a.2.1 * b.2.2 - a.2.2 * b.2.1)
  let col := fun (i : Nat) => (x i, y i, z i)
  let wh : Int × Int × Int := (3127, 3290, 3583)
  let d := det (col 0) (col 1) (col 2)
  let n := det wh (col 1) (col 2) * det (col 0) wh (col 2) * det (col 0) (col 1) wh
  decide (100 ≤ u16 w 0) && decide (u16 w 0 ≤ 20000) && decide (u8 w 2 ≤ 3) && u8 w 3 == 0 &&
    (if u8 w 2 = 3 then decide (35611289000 * d.natAbs ^ 2 ≤ 1024 * n.natAbs) else zeroAt w 4 12)

/-- The wall settings of a set-wall parameter (R152): stored, every cell marked changed, sent to the tiles, and waiting
slots admitted. -/
def wallSet (l : List Byte) (t : State) : Except Nat State :=
  if !wallOk l then .error St.badParam
  else
    let is := t.cel.slots.map Prod.fst
    let t1 := setItem 0x0021 0 l (wallStore l t)
    let t2 := is.foldl (fun a i => slotFull i a) t1
    let t3 := (is.filter (fun i => slotState t i == 2 || slotState t i == 6)).foldl (fun a i => sendWall i a) t2
    let waits := t.cel.slots.filter (fun e => slotState t e.1 == 1 && e.2.numbered && e.2.notices == 0)
    .ok (waits.foldl (fun a e => admitSlot e.1 0 a) t3)

/-- `set-wall`. -/
def execSetWall (k : Pkt) (s : State) : Out := .next (plain k (fun t => resOf (wallSet k.par t)) s)

/-! ### Applying a map (R179) -/

/-- The fields that make a slot a changed one: all but FEED and STRICT. -/
def slotKey (e : List Byte) : List Byte := e.take 4 ++ [BitVec.ofNat 8 (u8 e 5 / 2)] ++ e.drop 6

/-- Enters slot i of a map: a changed slot is emptied, its epoch counts and its counters clear. -/
def enterSlot (i : Nat) (e : List Byte) (s : State) : State :=
  let old := Tab.get s.cel.slots i
  let same := match old with | some o => slotKey o.entry == slotKey e | none => false
  let s := setF (if same then s else slotBudgetClear i s) (R.THM_SLOT_FLAGS_FEED i) (u8 e 4)
  let strict := if bitAt e 5 0 then 1 else 0
  if same then setF (slotUpd i (fun o => { o with entry := e }) s) (R.CEL_S_W0_STRICT i) strict
  else
    let ep := (getF s (R.CEL_S_W0_EPOCH i) + 1) % 16
    let sl : Slot := { entry := e, notices := 0, numbered := false, mismatch := false, takeover := false, reportAt := none }
    let s1 := slotFull i (slotEmpty i { s with cel := { s.cel with slots := Tab.put s.cel.slots i sl } })
    let w0 := u16 e 0 % 4096 + u8 e 2 * 4096 + u8 e 3 * 65536 + 2 ^ 24 + strict * 2 ^ 27 + ep * 2 ^ 28
    let s2 := regPut s1 (R.CEL_S_W0_DEVNUM i).reg (BitVec.ofNat 32 w0)
    [R.CEL_S_QUEUED_COUNT i, R.CEL_S_SUPERSEDED_COUNT i, R.CEL_S_LAUNCHED_COUNT i, R.CEL_S_RELAUNCHED_COUNT i,
     R.CEL_S_OVERDUE_COUNT i].foldl (fun a f => setF a f 0) s2

/-- Clears a slot that the map removes. -/
def removeSlot (i : Nat) (s : State) : State :=
  let s1 := slotBudgetClear i (slotEmpty i s)
  let s2 := { s1 with cel := { s1.cel with slots := Tab.del s1.cel.slots i
                                           queues := s1.cel.queues.filter (fun e => e.1 / 4096 != i) } }
  setF s2 (R.CEL_S_W0_STATE i) 0

/-- The numbers of the slots in UNREACHABLE. (DEDUCED log 33) -/
def countUnreach (s : State) : State :=
  setF s R.CEL_STATUS_UNREACH ((s.cel.slots.filter (fun e => slotState s e.1 == 3)).length)

/-- Applies a map (R179). Tiles of changed slots are numbered and admitted by discovery, or at once where the tile is
known at its position. (DEDUCED log 33) -/
def applyMap (m : List Byte) (s : State) : State :=
  let n := u16 m 6
  let removed := (s.cel.slots.map Prod.fst).filter (fun i => decide (n ≤ i))
  let regionChanged := sub m 8 12 != sub s.cel.header 8 12
  let s1 := removed.foldl (fun a i => removeSlot i a) s
  let s2 := { s1 with cel := { s1.cel with header := m.take 128, mapPending := none } }
  let s3 := (List.range n).foldl (fun a i => enterSlot i (sub m (128 + 32 * i) 32) a) s2
  let s4 := if regionChanged then { s3 with cmp := { s3.cmp with startAt := 0 } } else s3
  let s5 := if regionChanged then (List.range n).foldl (fun a i => slotFull i a) s4 else s4
  let s6 := setF (setF (addF s5 R.CEL_STATUS_MAP_SEQ 1) R.CEL_STATUS_SLOTS n) R.CEL_STATUS_MAP_VALID 1
  setItem 0x0020 0 (m.take (128 + 32 * n)) (feedCheck (countUnreach s6))

/-- `load-map` (R178): the copy of the referenced map. -/
def execLoadMap (k : Pkt) (f : Fetch) (s : State) : Out :=
  .next (command k f (fun copy t =>
    match bulk k f copy 0 1 t with
    | .error e => .err e
    | .ok d => .ok { t with cel := { t.cel with loaded := some d } } []) s)

/-- The bytes of the map in force. -/
def mapBytes (s : State) : List Byte := s.cel.header ++ (s.cel.slots.map (fun e => e.2.entry)).flatten

/-- `get-map`. -/
def execGetMap (k : Pkt) (f : Fetch) (s : State) : Out :=
  .next (command k f (fun _ t =>
    if !mapValid t then .err St.badState
    else match refWrite t (refAt k.par 0) (mapBytes t) f with
      | .error e => .err e
      | .ok u => .ok u (leBytes 4 (mapBytes t).length)) s)

/-! ### Slot notices and reports in the sender (R180, R201) -/

/-- The reply of a tile to its slot notice. (DEDUCED log 33) -/
def slotReply (i status : Nat) (s : State) : State :=
  if slotState s i ≠ 1 then s
  else if status = St.ok then
    setF (slotFull i (slotUpd i (fun o => { o with notices := 0, mismatch := false }) s)) (R.CEL_S_W0_STATE i) 2
  else if status = St.geomMismatch then slotUpd i (fun o => { o with mismatch := true }) s
  else s

/-- SLOT_REPLY arrives (R180). -/
def execSlotReply (p : Nat) (m : Msg) (s : State) : Out :=
  .next (msgIn p m (fun t => match slotOf t m.src with
    | some i => if sender t then slotReply i (u16 m.payload 0) t else t
    | none => t) s)

/-- No OK reply 10 ms after a slot notice: sent again up to 3 times, then GEOM_BAD or NO_REPLY (R180). -/
def execSlotNoticeRetry (i : Nat) (s : State) : Out :=
  .next (
    if !running s || slotState s i != 1 then s
    else match Tab.get s.cel.slots i with
      | none => s
      | some sl =>
        if sl.notices = 0 then s
        else if sl.notices < 4 then
          sendSlotNotice i (if sl.takeover then 1 else 0) (slotUpd i (fun o => { o with notices := o.notices + 1 }) s)
        else setF (slotUpd i (fun o => { o with notices := 0 }) s) (R.CEL_S_W0_STATE i) (if sl.mismatch then 4 else 5))

/-- DELIVERY_REPORT arrives (R201): copied into the slot's record. -/
def deliveryReport (i : Nat) (l : List Byte) (s : State) : State :=
  let s1 := setF (setF s (R.CEL_S_PREP_FIXED i) (u16 l 0)) (R.CEL_S_PREP_CELL i) (u16 l 2)
  let s2 := setF (setF (setF s1 (R.CEL_S_T_LATE_VAL i) (u32 l 4)) (R.CEL_S_T_STALE_VAL i) (u32 l 8))
    (R.CEL_S_T_BAD_VAL i) (u32 l 12)
  let s3 := setF s2 (R.CEL_S_MARGIN_MARGIN i) (leAt l 20 3)
  let s4 := slotUpd i (fun o => { o with reportAt := some (ltNs s) }) s3
  if bitAt l 23 0 then slotFull i s4 else s4

def execDeliveryReport (p : Nat) (m : Msg) (s : State) : Out :=
  .next (msgIn p m (fun t => match slotOf t m.src with
    | some i => if sender t then deliveryReport i m.payload t else t
    | none => t) s)

/-- FORCE_FULL (R184). -/
def forceFull (s : State) : State := (s.cel.slots.map Prod.fst).foldl (fun a i => slotFull i a) s

/-- A write of 1 to CEL_CTRL.FORCE_FULL; a tile's other side ignores it. -/
def execForceFull (s : State) : Out := .next (if running s && sender s then forceFull s else s)

/-! ### Launch (R188 to R192) -/

/-- A queued entry as the scheduler sees it: slot, cell, place in the queue, entry. -/
abbrev LaunchCand : Type := Nat × Nat × Nat × QEntry

/-- QUEUED entries of the slots routed to port p. -/
def queuedOn (s : State) (p : Nat) : List LaunchCand :=
  (s.cel.queues.map (fun q =>
    let sl := q.1 / 4096
    if slotState s sl = 2 ∧ getF s (R.CEL_S_W0_ROUTE sl) = p then
      (List.range 3).filterMap (fun i => match q.2.entries[i]? with
        | some e => if e.state = 1 then some (sl, q.1 % 4096, i, e) else none
        | none => none)
    else [])).flatten

/-- Launch order (R190): AGE, then FRAME, then slot, then cell. -/
def launchBefore (a b : LaunchCand) : Bool :=
  if a.2.2.2.age ≠ b.2.2.2.age then frameBefore a.2.2.2.age b.2.2.2.age
  else if a.2.2.2.frame ≠ b.2.2.2.frame then frameBefore a.2.2.2.frame b.2.2.2.frame
  else if a.1 ≠ b.1 then decide (a.1 < b.1)
  else decide (a.2.1 < b.2.1)

/-- An entry of frame M may be launched: T_(M-3) has passed. -/
def launchable (s : State) (e : QEntry) : Bool :=
  match tOf s (frameOf s e.frame - 3) with
  | some t => decide (t ≤ wtNs s) || decide (frameOf s e.frame < 3)
  | none => true

/-- The next entry of port p. -/
def nextLaunch (s : State) (p : Nat) : Option LaunchCand :=
  ((queuedOn s p).filter (fun c => launchable s c.2.2.2)).foldl (fun b c =>
    match b with
    | none => some c
    | some x => if launchBefore c x then some c else b) none

/-- Cells of a slot. -/
def slotCells (s : State) (i : Nat) : Nat :=
  match Tab.get s.cel.slots i with | some sl => cellCount (slW sl.entry) (slH sl.entry) | none => 0

/-- The planning deadline of an entry of frame M has passed (R192). -/
def overdue (s : State) (sl m : Nat) : Bool :=
  match tOf s m with
  | none => false
  | some t =>
    let prep := getF s (R.CEL_S_PREP_FIXED sl) * 1000 + slotCells s sl * getF s (R.CEL_S_PREP_CELL sl) + 150000
    decide (t < wtNs s + prep + getF s (R.CEL_S_W0_HOPS sl) * getF s R.CEL_CTRL_HOP_NS)

/-- Launches an entry on port p. -/
def launch (p : Nat) (c : LaunchCand) (s : State) : State :=
  let d := qDesc s c.1 c.2.1
  let e := c.2.2.2
  let m := if e.relaunch then patch e.msg 3 [BitVec.ofNat 8 (u8 e.msg 3 ||| 2)] else e.msg
  let s1 := qPut c.1 c.2.1 { d with entries := d.entries.set c.2.2.1 { e with state := 2 } } s
  let s2 := incF (incF s1 R.CEL_LAUNCHED_COUNT) (R.CEL_S_LAUNCHED_COUNT c.1)
  let s3 := if overdue s c.1 (frameOf s e.frame) then
      tally R.CEL_OVERDUE_COUNT 9 5 c.1 (incF s2 (R.CEL_S_OVERDUE_COUNT c.1)) else s2
  sendMsg p { vc := 0, mtype := 0, dest := getF s (R.CEL_S_W0_DEVNUM c.1), src := s.cps.devnum, hopaddr := false, hops := 0
              payload := m } s3

/-- A port launches its next eligible entry (R190). HOLD stops launches (R40). -/
def execCellLaunch (p : Nat) (s : State) : Out :=
  .next (
    if running s && sender s && mode s != mHold && isSet s R.CEL_CTRL_LAUNCH_EN && linkUp s p then
      match nextLaunch s p with
      | some c => launch p c s
      | none => s
    else s)

/-- At T_N: SENT entries of frames up to n are freed (R187). -/
def freeSent (n : Nat) (s : State) : State :=
  poolCount { s with cel := { s.cel with queues := s.cel.queues.map (fun q =>
    (q.1, { q.2 with entries := q.2.entries.map (fun e =>
      if e.state = 2 ∧ frameDiff e.frame n ≤ 0 then QEntry.empty else e) })) } }

/-! ### Route changes (R189, R193, R194) -/

/-- SENT entries of a position whose present instant has not passed return to QUEUED: all of them in a STRICT slot, else
the newest, the others being freed. -/
def relaunchEntries (s : State) (strict : Bool) (es : List QEntry) : List QEntry :=
  let live := fun (e : QEntry) => e.state == 2 &&
    (match tOf s (frameOf s e.frame) with | some t => decide (wtNs s < t) | none => true)
  let newest := firstBy es live (fun a b => frameBefore b.frame a.frame)
  (List.range es.length).map (fun i =>
    let e := es.getD i QEntry.empty
    if e.state ≠ 2 then e
    else if live e && (strict || newest == some i) then { e with state := 1, relaunch := true }
    else if strict then e
    else QEntry.empty)

/-- Entries of a position that a relaunch returns to QUEUED. -/
def relaunched (old new : List QEntry) : Nat :=
  ((old.zip new).filter (fun p => p.1.state == 2 && p.2.state == 1)).length

/-- Moves a slot to a port at a distance (R193). -/
def moveRoute (i p hops : Nat) (s : State) : State :=
  let strict := isSet s (R.CEL_S_W0_STRICT i)
  let mine := s.cel.queues.filter (fun q => q.1 / 4096 == i)
  let n := (mine.map (fun q => relaunched q.2.entries (relaunchEntries s strict q.2.entries))).sum
  let s1 := { s with cel := { s.cel with queues := s.cel.queues.map (fun q =>
    if q.1 / 4096 = i then (q.1, { q.2 with entries := relaunchEntries s strict q.2.entries }) else q) } }
  let s2 := setF (setF s1 (R.CEL_S_W0_ROUTE i) p) (R.CEL_S_W0_HOPS i) hops
  poolCount (addF (addF s2 R.CEL_RELAUNCHED_COUNT n) (R.CEL_S_RELAUNCHED_COUNT i) n)

/-- A slot that no port reaches (R194). -/
def slotUnreachable (i : Nat) (s : State) : State :=
  setF (slotFull i (slotEmpty i (slotUpd i (fun o => { o with notices := 0, numbered := false }) s))) (R.CEL_S_W0_STATE i) 3

/-! ### Tile: geometry and versions (R195 to R197) -/

/-- W and H of the factory layer in memory. -/
def layerGeom (s : State) : Nat × Nat :=
  match s.dmk.factory with
  | some l => (u16 l 0x0C, u16 l 0x0E)
  | none => (0, 0)

/-- The layer is loaded and the strand geometry valid: the tile has a geometry to be admitted with (R330, R373). -/
def geomReady (s : State) : Bool := getF s R.DMK_STATUS_FL_STATE == 2 && getF s R.STR_STATUS_GEO_STATE == 1

/-- The geometry the pending store works with: the loaded layer's, or the one held before the module left (R355, R356). -/
def tileGeom (s : State) : Nat × Nat :=
  if geomReady s then layerGeom s
  else if getF s R.DMK_STATUS_FL_STATE = 0 ∨ getF s R.DMK_STATUS_FL_STATE = 7 then s.dmk.oldGeom.getD (0, 0)
  else (0, 0)

/-- FACTORY_ID of a layer (R330). -/
def factoryIdOf (l : List Byte) : List Byte := (Config.sha384 (l.take (u32 l 8))).take 16

/-- Sets FL_STATE (R330, R356) with its event, its fault while it is 3 to 7, and the FACTORY_ID registers. -/
def setFl (code : Nat) (s : State) : State :=
  let old := getF s R.DMK_STATUS_FL_STATE
  if code = old then s
  else
    let s1 := setLevel 13 R.DMK_STATUS_FL_STATE code s
    let s2 := if 3 ≤ code ∧ old < 3 then levelRise 12 1 0 s1 else if code < 3 ∧ 3 ≤ old then levelFall 12 1 s1 else s1
    let id := match s2.dmk.factory with | some l => if code = 2 then factoryIdOf l else zeros 16 | none => zeros 16
    (List.range 4).foldl (fun a i => setF a (R.DMK_FACTORY_ID_ID i) (u32 id (4 * i))) s2

/-- A DISCOVER reaches a tile whose geometry changed with its module (R356): it takes the new geometry with an empty
store, and waits for admission. -/
def adoptGeometry (s : State) : State :=
  if sender s || getF s R.DMK_STATUS_FL_STATE != 7 then s
  else
    let s1 := setFl 2 { s with dmk := { s.dmk with oldGeom := none }
                               celT := { s.celT with shown := [], pend := [], storeEmpty := true } }
    setF (setF s1 R.CEL_T_STATUS_SERVED 0) R.CEL_T_STATUS_COMPLETE 0

/-- The tile's cells. -/
def tileCells (s : State) : Nat := cellCount (tileGeom s).1 (tileGeom s).2

/-- The lowest frame whose close has not happened. -/
abbrev openFrame (s : State) : Nat := s.celT.openFrame

/-- Pending versions of a position. -/
def pendOf (s : State) (c : Nat) : List Version := Tab.getD s.celT.pend c []

/-- All versions of a position, the one shown first. (DEDUCED log 33) -/
def versionsOf (s : State) (c : Nat) : List Version := (Tab.get s.celT.shown c).toList ++ pendOf s c

/-- The number of the frame that a 16-bit FRAME means (R195). -/
def extendFrame (s : State) (f : Nat) : Int := (s.celT.nCur : Int) + signed 16 (unsigned 16 ((f : Int) - s.celT.nCur))

/-- Stores an accepted version (R197). (DEDUCED log 33) -/
def acceptCell (c : Nat) (m : Nat) (hash : Nat) (payload : List Byte) (s : State) : State :=
  let late := decide (m < openFrame s)
  let frame := if late then openFrame s else m
  let s1 := if late then raise 10 (occur 9 5 c 0 s) else s
  let stale := (versionsOf s1 c).any (fun v => decide (m ≤ v.tag) && decide (v.frame ≤ frame))
  if stale then tally R.CEL_T_STALE_COUNT 9 5 c s1
  else
    let v : Version := { tag := m, hash := BitVec.ofNat 64 hash, payload := payload, frame := frame }
    let keep := (pendOf s1 c).filter (fun x => !(x.frame == frame && decide (x.tag < m)))
    { s1 with celT := { s1.celT with pend := Tab.put s1.celT.pend c (keep ++ [v])
                                     lastArrival := if late then s1.celT.lastArrival else some (wtNs s1) } }

/-- The checks of R196, in order. -/
def cellIn (payload : List Byte) (s : State) : State :=
  let w0 := u32 payload 0
  let w1 := u32 payload 4
  let c := w0 / 4096 % 4096
  let hash := u64 payload 8
  let body := sub payload 16 1536
  let m := extendFrame s (w1 % 65536)
  if w0 % 4096 ≠ s.cps.devnum ∨ !isSet s R.CEL_T_STATUS_SERVED ∨ w1 / 65536 % 4096 ≠ getF s R.CEL_T_STATUS_SENDER ∨
      w1 / 2 ^ 28 ≠ getF s R.CEL_T_STATUS_EPOCH ∨ tileCells s ≤ c then tally R.CEL_T_REFUSED_COUNT 9 5 c s
  else if crc64 body ≠ hash then tally R.CEL_T_BAD_COUNT 9 2 c s
  else if (s.celT.nCur : Int) + 3 < m then tally R.CEL_T_EARLY_COUNT 9 5 c s
  else if (versionsOf s c).any (fun v => (v.tag : Int) == m && v.hash.toNat == hash) then tally R.CEL_T_DUP_COUNT 9 5 c s
  else acceptCell c m.toNat hash body s

/-- A cell message arrives on port p (R196, R270). -/
def execCellMessage (p : Nat) (m : Msg) (s : State) : Out :=
  .next (msgIn p m (fun t => if sender t then t else cellIn m.payload t) s)

/-- A tile served by the backup that accepts its primary's notice releases the backup (R285). -/
def backupRelease (old : Option Nat) (new : Nat) (s : State) : State :=
  match s.twl.backup with
  | some (b, q) =>
    if old = some b ∧ s.twl.primary = some new ∧ b ≠ new ∧ linkUp s q then
      sendMsg q (mkMsg s 1 0x0C b (leBytes 2 new ++ zeros 2)) s
    else s
  | none => s

/-- SLOT_NOTICE arrives at a tile (R180). -/
def execSlotNotice (p : Nat) (m : Msg) (s : State) : Out :=
  .next (msgIn p m (fun t =>
    if sender t then t
    else
      let l := m.payload
      let good := (u16 l 0, u16 l 2) == tileGeom t && geomReady t
      let t1 := if good then
          setF (setF (setF (setF t R.CEL_T_STATUS_SERVED 1) R.CEL_T_STATUS_GEOM_BAD 0) R.CEL_T_STATUS_EPOCH (u8 l 4))
            R.CEL_T_STATUS_SENDER m.src
        else setF t R.CEL_T_STATUS_GEOM_BAD 1
      let t2 := if linkUp t1 p then
          sendMsg p (mkMsg t1 1 0x11 m.src (leBytes 2 (if good then St.ok else St.geomMismatch))) t1 else t1
      if good then backupRelease (if isSet t R.CEL_T_STATUS_SERVED then some (getF t R.CEL_T_STATUS_SENDER) else none) m.src t2
      else t2) s)

/-- Once per second, and after a change of PREP, a tile sends its delivery report (R201, Table 7.9). -/
def execDeliveryReportTimer (s : State) : Out :=
  .next (
    if !running s || sender s then s
    else
      let mg := match s.celT.margin with | some n => min 0xFFFFFF (n / 1000) | none => getF s R.CEL_T_MARGIN_MARGIN
      let pl := leBytes 2 (getF s R.CEL_T_PREP_PREP_FIXED) ++ leBytes 2 (getF s R.CEL_T_PREP_PREP_CELL) ++
        leBytes 4 (getF s R.CEL_T_LATE_EVT_COUNT) ++ leBytes 4 (getF s R.CEL_T_STALE_COUNT) ++
        leBytes 4 (getF s R.CEL_T_BAD_COUNT) ++ leBytes 4 (getF s R.CEL_T_REFUSED_COUNT + getF s R.CEL_T_EARLY_COUNT) ++
        leBytes 3 mg ++ leBytes 1 ((if s.celT.storeEmpty then 1 else 0) + (if isSet s R.CEL_T_STATUS_COMPLETE then 2 else 0)) ++
        zeros 8
      let s1 := setF s R.CEL_T_MARGIN_MARGIN mg
      let s2 := { s1 with celT := { s1.celT with margin := none } }
      if isSet s2 R.CEL_T_STATUS_SERVED then
        toSender 0x12 pl { s2 with celT := { s2.celT with storeEmpty := s2.celT.storeEmpty && (upstreamUp s2).isNone } }
      else s2)

/-- Positions whose shown version would change at T_N: a pending version of a frame up to n. -/
def changedAt (s : State) (n : Nat) : List Nat :=
  (s.celT.pend.filter (fun e => e.2.any (fun v => decide (v.frame ≤ n)))).map Prod.fst

/-- The newest version, by tag, among those of frames up to n. -/
def newestUpTo (n : Nat) (l : List Version) : Option Version :=
  (l.filter (fun v => decide (v.frame ≤ n))).foldl (fun b v =>
    match b with
    | none => some v
    | some x => if x.tag < v.tag then some v else b) none

/-- The version position c shows at T_N. -/
def shownAt (s : State) (n c : Nat) : Option Version :=
  match newestUpTo n (pendOf s c) with
  | some v => some v
  | none => Tab.get s.celT.shown c

/-- The close of frame n (R198): the open frame moves on, and the margin is noted. `now` is WT in ns. -/
def closeFrame (n : Nat) (s : State) : State :=
  let now := wtNs s
  let mg := match s.celT.lastArrival with | some a => now - a | none => now - s.celT.lastClose
  { s with celT := { s.celT with openFrame := n + 1, lastClose := now, lastArrival := none
                                 margin := some (match s.celT.margin with | some x => min x mg | none => mg) } }

/-- At T_N the store advances (R199): each position shows its newest version of frames up to n. -/
def advanceStore (n : Nat) (s : State) : State :=
  let upd := changedAt s n
  let shown := upd.foldl (fun t c => match shownAt s n c with | some v => Tab.put t c v | none => t) s.celT.shown
  let pend := (s.celT.pend.map (fun e => (e.1, e.2.filter (fun v => decide (n < v.frame))))).filter (fun e => !e.2.isEmpty)
  let s1 := { s with celT := { s.celT with shown := shown, pend := pend, nCur := n, openFrame := max s.celT.openFrame (n + 1) } }
  let whole := decide (0 < tileCells s1) && (List.range (tileCells s1)).all (fun c => (Tab.get shown c).isSome)
  setF (setB s1 R.CEL_T_STATUS_COMPLETE whole) R.CEL_T_FRAME_FRAME n

/-- In HOLD a present instant passes (R38): pending content of frames up to n folds into the next frame, newest kept. (DEDUCED log 33) -/
def foldStore (n : Nat) (s : State) : State :=
  let fold := fun (l : List Version) =>
    match newestUpTo (n + 1) l with
    | none => l
    | some v => { v with frame := n + 1 } :: l.filter (fun x => decide (n + 1 < x.frame))
  let s1 := { s with celT := { s.celT with pend := s.celT.pend.map (fun e => (e.1, fold e.2)), nCur := n
                                           openFrame := max s.celT.openFrame (n + 1) } }
  setF s1 R.CEL_T_FRAME_FRAME n

/-- `read-cell`. -/
def execReadCell (k : Pkt) (s : State) : Out :=
  .next (plain k (fun t =>
    let c := k.p16 0
    if tileCells t ≤ c ∨ 4 ≤ k.p8 2 ∨ k.p8 3 ≠ 0 then .err St.badParam
    else
      let v := if k.p8 2 = 0 then Tab.get t.celT.shown c else (pendOf t c)[k.p8 2 - 1]?
      match v with
      | none => .err St.badState
      | some v => .ok t (leBytes 4 v.tag ++ zeros 4 ++ leBytes 8 v.hash.toNat ++ v.payload)) s)

end Sys2Proof.Machine
end

