-- ==== Sys2Proof/Machine/Cert.lean ====
section
/-!
DEFINITION. Certificates (R428 to R430) and what the device says of itself on Twill: its protocol levels and its owner.
-/

namespace Sys2Proof.Machine

/-- USAGE bit numbers of Table 14.2. -/
abbrev useDevice : Nat := 0
abbrev useImage : Nat := 1
abbrev useModule : Nat := 2
abbrev useDebug : Nat := 3
abbrev useIssuer : Nat := 4

abbrev certPub (c : List Byte) : List Byte := sub c 0x40 96
abbrev certSig (c : List Byte) : List Byte := sub c 0xA0 96

/-- A certificate of a usage by its own fields: MAGIC, VERSION, USAGE, CODE and reserved bytes. -/
def certForm (c : List Byte) (usage : Nat) : Bool :=
  c.length == 256 && u32 c 0 == 0x5443524D && u16 c 4 == 1 && u16 c 6 == 2 ^ usage && zeroAt c 0x32 14 &&
    (if usage = useDevice then decide (u8 c 0x31 ≤ 1) else u8 c 0x31 == 0)

/-- The vendor root slot that a certificate names, if it is present and not revoked. -/
def rootSlotOf (s : State) (issuer : List Byte) : Option Nat :=
  ([0, 1, 2, 3].filter (fun r =>
    (match Tab.get s.nv.roots r with | some h => h == Config.sha384 (Config.rootKey r) | none => false) &&
      !s.nv.revoked.testBit r && sub issuer 0x18 16 == keyId (Config.rootKey r))).head?

/-- The chain of exactly two certificates of R430. -/
def certChain (s : State) (issuer leaf : List Byte) (usage : Nat) : Bool :=
  certForm leaf usage && certForm issuer useIssuer && sub leaf 0x18 16 == keyId (certPub issuer) &&
    (match rootSlotOf s issuer with
     | some r => Config.ecdsaVerify (Config.rootKey r) (issuer.take 0xA0) (certSig issuer)
     | none => false) &&
    Config.ecdsaVerify (certPub issuer) (leaf.take 0xA0) (certSig leaf) &&
    (usage != useDevice || u8 leaf 0x30 == 0x96)

/-- CERT_ID of a certificate. -/
abbrev certIdOf (c : List Byte) : List Byte := (Config.sha384 c).take 16

/-- A signature with the device identity key (private key 0). -/
abbrev dikSign (msg : List Byte) : List Byte := Config.ecdsaSign 0 msg

/-! ### What the running firmware advertises (R261, R519) -/

/-- TPL, CSL and MFLAGS of the running main firmware, zero before one runs. -/
def ownTpl (s : State) : Nat := match s.upd.running with | some r => r.rec_.tpl | none => 0
def ownCsl (s : State) : Nat := match s.upd.running with | some r => r.rec_.csl | none => 0
def ownBackward (s : State) : Bool := match s.upd.running with | some r => r.rec_.mflags.testBit 0 | none => false

/-- The level a link runs at (R261): levels, sender role and BACKWARD of the two ends; none is INCOMPAT. -/
def linkLevelOf (ta : Nat) (sa ba : Bool) (tb : Nat) (sb bb : Bool) : Option Nat :=
  if ta = tb then some ta
  else if tb = ta + 1 then (if sb || bb then some ta else none)
  else if ta = tb + 1 then (if sa || ba then some tb else none)
  else none

/-- The level the link of port p may run at, by the peer's last HELLO. -/
def portLevel (s : State) (p : Nat) : Option Nat :=
  linkLevelOf (ownTpl s) (sender s) (ownBackward s) (getF s (R.TWL_PEER_TPL p)) (isSet s (R.TWL_PEER_SENDER p))
    (isSet s (R.TWL_PEER_BACKWARD p))

/-! ### Owners (R431, R445) -/

/-- The owner key ID of a device, zero while it has none. -/
def ownerId (s : State) : List Byte := match storeOf s with | some st => keyId st.owner | none => zeros 16

/-- AFLAGS of Table 14.6. -/
def authFlags (s : State) : Nat := (if ostate s = 0 then 1 else 0) + (if pflag s 0 then 2 else 0)

/-- Owners fit (R445, reason 3). -/
def ownersFit (s : State) (aflags : Nat) (owner : List Byte) : Bool :=
  (owner == ownerId s && !owner.all (· == 0)) ||
    (ostate s == 0 && !aflags.testBit 1) || (aflags.testBit 0 && !pflag s 0)

/-- A CERT_ID is on the deny list. -/
def denied (s : State) (id : List Byte) : Bool := match storeOf s with | some st => st.deny.contains id | none => false

end Sys2Proof.Machine
end

