-- ==== Sys2Proof/Machine/TimeLink.lean ====
section
/-!
DEFINITION. Wall time over Twill (R297 to R307): the timing master and its election, time offers and the source of a
device, the exchange of time messages, and the present parameters that travel with them (R313). T_SYNC and T_FOLLOW go
out on every UP port, with NOT_SEL on the port of the source (R302 and R304 read together).
-/

namespace Sys2Proof.Machine

/-! ### Ports -/

/-- (DESIGN CHOICE log 42) -/
def TimPort.zero : TimPort :=
  { seqid := 0, dseq := 0, t2 := none, dreq := none, syncs := 0, delays := [], nDelay := 0, disturbed := false
    offered := false, cls := 2 }

/-- Time transfer on a port. -/
def timPort (s : State) (p : Nat) : TimPort := Tab.getD s.tim.ports p TimPort.zero

/-- Changes a port's time transfer. -/
def timPortUpd (p : Nat) (g : TimPort → TimPort) (s : State) : State :=
  { s with tim := { s.tim with ports := Tab.put s.tim.ports p (g (timPort s p)) } }

/-- A timestamp of a message: 8 bytes of ns and 2 of fraction, in 2^-16 ns. -/
def stampAt (l : List Byte) (off : Nat) : Nat := leAt l off 8 * 65536 + u16 l (off + 8)

/-- The bytes of a timestamp. -/
def stampBytes (t16 : Nat) : List Byte := leBytes 8 (t16 / 65536) ++ leBytes 2 (t16 % 65536)

/-- A VC3 message for the neighbour of a port (R300). -/
def timeMsg (s : State) (mtype : Nat) (payload : List Byte) : Msg := { mkHop s mtype 1 payload with vc := 3 }

/-- Ports on which time messages go out. -/
def timePorts (s : State) : List Nat := ports.filter (fun p => linkUp s p && trafficPort s p)

/-- UP ports of dual-homed rings. -/
def dualPorts (s : State) : List Nat := ports.filter (fun p => linkUp s p && portTopo s p == 3)

/-- This sender is its group's timing master. -/
abbrev isMaster (s : State) : Bool := sender s && isSet s R.TIM_STATUS_MASTER

/-- The port time is taken from. -/
def timeSource (s : State) : Option Nat := if isSet s R.TIM_STATUS_SRC_TWILL then some (getF s R.TIM_STATUS_SRC_PORT) else none

/-! ### What a device offers (R304) -/

/-- CLASS of a sender (R298). A sender that is not master is CLASS 0 once the NT of its WT_SRC 0 is LOCKED. (DEDUCED log 36) -/
def ownClass (s : State) : Nat :=
  if isMaster s then (match servoState s true with | 2 => 0 | 3 => 1 | _ => 2)
  else if getF s R.TIM_CTRL_WT_SRC = 0 ∧ servoState s false = 2 then 0
  else 2

/-- HOLDOVER as a device offers it. -/
def offerHold (s : State) : Bool :=
  if isMaster s then servoState s true == 3 && !s.tim.wt.everLocked
  else servoState s true == 3 || (match timeSource s with | some p => isSet s (R.TIM_P_W0_OFFER_HOLD p) | none => false)

/-- CLASS of the master as a device offers it. -/
def offerClass (s : State) : Nat := if isMaster s then ownClass s else getF s R.TIM_STATUS_CLASS

/-- The parts of an offer whose change is sent at once (R305). -/
def offerKey (s : State) : Option Nat × Bool × Nat × Nat :=
  (timeSource s, offerHold s, getF s R.TIM_MASTER_DEVNUM, offerClass s)

/-- T_SYNC and T_FOLLOW on a port. (DEDUCED log 36) -/
def sendOffer (p : Nat) (s : State) : State :=
  let q := timPort s p
  let fl := (if wtValid s then 1 else 0) + (if offerHold s then 2 else 0) + (if timeSource s = some p then 4 else 0)
  let follow := leBytes 2 q.seqid ++ leBytes 1 fl ++ leBytes 1 (offerClass s) ++ leBytes 2 (getF s R.TIM_MASTER_DEVNUM) ++
    leBytes 1 (getF s R.TIM_STATUS_STEPS) ++ zeros 1 ++ stampBytes s.tim.wt.t16 ++
    leBytes 2 (match s.tim.params with | some x => x.pseq | none => 0) ++ zeros 12
  let s1 := timPortUpd p (fun x => { x with seqid := (x.seqid + 1) % 65536 }) s
  sendMsg p (timeMsg s 0x31 follow) (sendMsg p (timeMsg s 0x30 (leBytes 2 q.seqid ++ zeros 6)) s1)

/-- T_SYNC and T_FOLLOW on every port. (DEDUCED log 36) -/
def sendOffers (s : State) : State := (timePorts s).foldl (fun a p => sendOffer p a) s

/-- Sends the offers where they have changed since `old` (R305). -/
def offerChange (old s : State) : State := if offerKey old = offerKey s then s else sendOffers s

/-! ### The source of a device (R304, R309) -/

/-- The offer of a port is valid. -/
def offerValid (s : State) (p : Nat) : Bool :=
  let q := timPort s p
  linkUp s p && trafficPort s p && q.offered && !isSet s (R.TIM_P_W0_OFFER_NOTSEL p) && !q.delays.isEmpty

/-- Rank of an offer: HOLDOVER, CLASS, STEPS, port. -/
def offerRank (s : State) (p : Nat) : Nat × Nat × Nat × Nat :=
  (getF s (R.TIM_P_W0_OFFER_HOLD p), (timPort s p).cls, getF s (R.TIM_P_W0_OFFER_STEPS p), p)

/-- One rank is before another. -/
def rankLt (a b : Nat × Nat × Nat × Nat) : Bool :=
  decide (a.1 < b.1) || (a.1 == b.1 && (decide (a.2.1 < b.2.1) || (a.2.1 == b.2.1 &&
    (decide (a.2.2.1 < b.2.2.1) || (a.2.2.1 == b.2.2.1 && decide (a.2.2.2 < b.2.2.2))))))

/-- The best valid offer. -/
def bestOffer (s : State) : Option Nat :=
  (ports.filter (offerValid s)).foldl (fun b p =>
    match b with
    | none => some p
    | some q => if rankLt (offerRank s p) (offerRank s q) then some p else some q) none

/-- Brings OFFER_VALID and SELECTED of every port up to date. -/
def offerFlags (src : Option Nat) (s : State) : State :=
  ports.foldl (fun a p => setB (setB a (R.TIM_P_W0_OFFER_VALID p) (offerValid s p)) (R.TIM_P_W0_SELECTED p) (src == some p)) s

/-- A device that is not master chooses its source anew; without one its WT has lost its reference. -/
def chooseSource (s : State) : State :=
  if isMaster s then
    offerFlags none (setF (setF (setF (setF s R.TIM_STATUS_SRC_TWILL 0) R.TIM_STATUS_STEPS 0) R.TIM_STATUS_CLASS (ownClass s))
      R.TIM_MASTER_DEVNUM s.cps.devnum)
  else match bestOffer s with
    | none => servoLost true (syncUnits s) (offerFlags none (setF s R.TIM_STATUS_SRC_TWILL 0))
    | some p =>
      let s1 := setF (setF s R.TIM_STATUS_SRC_TWILL 1) R.TIM_STATUS_SRC_PORT p
      let s2 := setF (setF s1 R.TIM_STATUS_STEPS (min 127 (getF s (R.TIM_P_W0_OFFER_STEPS p) + 1))) R.TIM_STATUS_CLASS (timPort s p).cls
      offerFlags (some p) (setF s2 R.TIM_MASTER_DEVNUM (getF s (R.TIM_P_W0_OFFER_MASTER p)))

/-! ### Mastership (R297 to R299) -/

/-- The reference of the master's WT_SRC is valid (Table 10.4). -/
def srcValid (s : State) : Bool :=
  match getF s R.TIM_CTRL_WT_SRC with
  | 0 => servoState s false == 2 || servoState s false == 3
  | 1 => s.tim.edgeOk && s.tim.align == 2 && s.tim.params.isSome
  | 2 => s.tim.edgeOk
  | _ => false

/-- The master's WT on its own source: WT_SRC 3 sets a WT that is not valid and holds it over throughout; another source
that is not valid leaves it in HOLDOVER. -/
def masterWt (s : State) : State :=
  if getF s R.TIM_CTRL_WT_SRC = 3 then
    let s1 := if servoState s true = 0 then
        clockPut true { s.tim.wt with fine := if ntValid s then s.tim.nt.fine else (s.tim.lt : Int) * 2 ^ 44 } s
      else s
    servoEnter true 3 (syncUnits s) s1
  else if srcValid s then s
  else servoLost true (syncUnits s) s

/-- A sender may be chosen: MASTER_EN, and 1 s after its first dual-homed port came up where one is up. (DEDUCED log 36) -/
def mayBeMaster (s : State) : Bool :=
  sender s && isSet s R.TIM_CTRL_MASTER_EN && ((dualPorts s).isEmpty || (match s.tim.firstUp with
    | some t => decide (t + 1000000000 ≤ ltNs s)
    | none => false))

/-- The candidates: announcements that count, the sender's own included. -/
def candidates (s : State) : List Announce :=
  (if mayBeMaster s then
    [{ dev := s.cps.devnum, cls := ownClass s, prio := getF s R.TIM_CTRL_PRIO, masterEn := true, at_ := ltNs s }] else []) ++
    s.tim.anns.filter (fun a => a.masterEn && decide (ltNs s < a.at_ + 750000000))

/-- One candidate is ahead of another (R298). -/
def annAhead (a b : Announce) : Bool := rankLt (a.cls, a.prio, a.dev, 0) (b.cls, b.prio, b.dev, 0)

/-- The best candidate. -/
def bestMaster (s : State) : Option Nat :=
  ((candidates s).foldl (fun b a => match b with
    | none => some a
    | some x => if annAhead a x then some a else some x) none).map Announce.dev

/-- The master as this sender sees it: itself, or the one its group takes time from. -/
def masterNow (s : State) : Nat := if isMaster s then s.cps.devnum else getF s R.TIM_MASTER_DEVNUM

/-- Takes or gives up mastership; TIM_EVT counts the change. -/
def setMaster (on : Bool) (s : State) : State :=
  let s0 := { s with tim := { s.tim with dwell := none } }
  if isSet s0 R.TIM_STATUS_MASTER = on then s0
  else
    let s1 := raise 11 (setB s0 R.TIM_STATUS_MASTER on)
    if on then masterWt (chooseSource s1) else chooseSource s1

/-- The group's master becomes a device. -/
def masterIs (dev : Nat) (s : State) : State :=
  if dev = s.cps.devnum then setMaster true s
  else setF (setMaster false s) R.TIM_MASTER_DEVNUM dev

/-- A sender compares the announcements it holds. A change that CLASS alone has caused waits for its dwell; the loss of
the master takes effect at once (R298). (DEDUCED log 36) -/
def elect (classOnly : Bool) (s : State) : State :=
  if !sender s || !running s then s
  else
    match bestMaster s with
    | none => setMaster false s
    | some b =>
      if b = masterNow s ∧ (isMaster s = true ∨ b ≠ s.cps.devnum) then { s with tim := { s.tim with dwell := none } }
      else if !(candidates s).any (fun a => a.dev == masterNow s) then masterIs b s
      else if s.tim.dwell = some b then s
      else if classOnly then { s with tim := { s.tim with dwell := some b } }
      else masterIs b s

/-- What follows a change of WT, NT or the links: the election, the source, and the offers. -/
def timeUpdate (old s : State) : State := offerChange old (chooseSource (elect true s))

/-- A port reaches UP. -/
def timeUp (p : Nat) (s : State) : State :=
  let s1 := if sender s && portTopo s p == 3 && s.tim.firstUp.isNone
    then { s with tim := { s.tim with firstUp := some (ltNs s) } } else s
  offerChange s (chooseSource (elect false s1))

/-- A port leaves UP: it offers no time. -/
def timeDown (p : Nat) (s : State) : State :=
  offerChange s (chooseSource (elect false (timRestart p (timPortUpd p (fun q => { q with offered := false, t2 := none }) s))))

/-! ### Samples of WT -/

/-- The master's WT takes a sample from NT (Table 10.4, WT_SRC 0), at each sample of NT. -/
def wtFromNt (ts : Nat) (s : State) : State :=
  if !isMaster s || getF s R.TIM_CTRL_WT_SRC != 0 then s
  else if servoState s false = 2 then
    let off := getF s R.TIM_WT_OFFSET_LO_VAL + getF s R.TIM_WT_OFFSET_HI_VAL * 4294967296
    let ref := s.tim.nt.fine - (signed 64 off) * (fineNs : Nat)
    servoSample true (ref - s.tim.wt.fine) ref Config.lockFromNt ts s
  else if servoState s false = 3 then s
  else servoLost true ts s

/-- An offset sample from the source port (R302): T1 in 2^-16 ns, t2 in LT and WT at t2. -/
def wtFromTwill (p t1 t2 : Nat) (wtAt : Int) (s : State) : State :=
  let q := timPort s p
  let n := q.delays.length
  let ref := (t1 : Int) * 2 ^ 44 + inexactZ 8 (q.delays.sum * 500 + getI s (R.TIM_P_ASYM_PS_VAL p) * (fineNs : Nat) * n) (1000 * n)
  let theta := ref - wtAt
  let s1 := setSatI (incF s (R.TIM_P_SAMPLES_COUNT p)) (R.TIM_P_LAST_OFS_PS_VAL p) (inexactZ 17 (theta * 1000) fineNs)
  servoSample true theta (ref + ((s.tim.lt - t2 : Nat) : Int) * 2 ^ 44) 2 (syncUnits s) s1

/-! ### The messages (R302, R303) -/

/-- T_SYNC: its arrival is stamped. (DEDUCED log 36) -/
def takeSync (p : Nat) (m : Msg) (s : State) : State :=
  timPortUpd p (fun q => { q with t2 := some (u16 m.payload 0, s.tim.lt, s.tim.wt.fine), syncs := q.syncs + 1, disturbed := false }) s

/-- T_SYNC (R302). -/
def execTSync (p : Nat) (m : Msg) (s : State) : Out := .next (msgIn p m (takeSync p m) s)

/-- A T_DREQ on a port, for the Sync of T1 and t2. -/
def sendDreq (p t1 t2 : Nat) (s : State) : State :=
  let q := timPort s p
  let s1 := timPortUpd p (fun x => { x with
    dseq := (x.dseq + 1) % 65536, syncs := 0
    dreq := some { seq := x.dseq, t1 := t1, t2 := t2, t3 := s.tim.lt, bad := false } }) s
  sendMsg p (timeMsg s 0x32 (leBytes 2 q.dseq ++ zeros 6)) s1

/-- T_FOLLOW (R302 to R304): the offer, T_DREQ where one is due, and an offset sample from the source. -/
def takeFollow (p : Nat) (m : Msg) (s : State) : State :=
  let b := m.payload
  let q := timPort s p
  let valid := bitAt b 2 0
  let fresh := !q.offered || getF s (R.TIM_P_W0_OFFER_MASTER p) != u16 b 4 % 4096
  let s1 := setB (setB s (R.TIM_P_W0_OFFER_HOLD p) (bitAt b 2 1)) (R.TIM_P_W0_OFFER_NOTSEL p) (bitAt b 2 2)
  let s2 := setF (setF s1 (R.TIM_P_W0_OFFER_STEPS p) (u8 b 6)) (R.TIM_P_W0_OFFER_MASTER p) (u16 b 4)
  let s3 := timPortUpd p (fun x => { x with offered := true, cls := u8 b 3 % 4 }) s2
  let good := valid && !q.disturbed
  let s4 := if good then s3 else tally (R.TIM_P_DISCARD_COUNT p) 10 5 p s3
  let hit := match q.t2 with | some (seq, t2, w) => if seq = u16 b 0 then some (t2, w) else none | none => none
  let s5 := match hit with
    | some (t2, _) => if good && !bitAt b 2 2 && (fresh || decide (4 ≤ q.syncs)) then sendDreq p (stampAt b 8) t2 s4 else s4
    | none => s4
  let s6 := chooseSource s5
  let s7 := match hit with
    | some (t2, w) => if good && timeSource s6 == some p then wtFromTwill p (stampAt b 8) t2 w s6 else s6
    | none => s6
  timeUpdate s s7

/-- T_FOLLOW. -/
def execTFollow (p : Nat) (m : Msg) (s : State) : Out := .next (msgIn p m (takeFollow p m) s)

/-- T_DREQ is answered with its arrival in WT. (DEDUCED log 36) -/
def takeDreq (p : Nat) (m : Msg) (s : State) : State :=
  sendMsg p (timeMsg s 0x33 (m.payload.take 2 ++ leBytes 1 (if wtValid s then 1 else 0) ++ zeros 1 ++ stampBytes s.tim.wt.t16 ++
    zeros 2)) s

/-- T_DREQ (R302). -/
def execTDreq (p : Nat) (m : Msg) (s : State) : Out := .next (msgIn p m (takeDreq p m) s)

/-- A delay sample differs from the mean of those held by more than 1 ns, both doubled. -/
def delayFar (q : TimPort) (d2 : Int) : Bool :=
  decide (16 ≤ q.nDelay) && decide (2 * fineNs * q.delays.length < (d2 * q.delays.length - q.delays.sum).natAbs)

/-- T_DRESP (R302, R303): a delay sample of its port. -/
def takeDresp (p : Nat) (m : Msg) (s : State) : State :=
  let q := timPort s p
  match q.dreq with
  | none => s
  | some d =>
    if d.seq ≠ u16 m.payload 0 then s
    else
      let s1 := timPortUpd p (fun x => { x with dreq := none }) s
      let d2 := ((stampAt m.payload 4 : Int) - d.t1) * 2 ^ 44 - ((d.t3 : Int) - d.t2) * (2 ^ 44 + s.tim.wt.r)
      if !bitAt m.payload 2 0 || d.bad || delayFar q d2 then tally (R.TIM_P_DISCARD_COUNT p) 10 5 p s1
      else
        let s2 := timPortUpd p (fun x => { x with delays := (d2 :: x.delays).take 16, nDelay := x.nDelay + 1 }) s1
        let l := (timPort s2 p).delays
        timeUpdate s (chooseSource (setI s2 (R.TIM_P_DELAY_PS_VAL p) (inexactZ 18 (l.sum * 500) (fineNs * l.length))))

/-- T_DRESP. -/
def execTDresp (p : Nat) (m : Msg) (s : State) : Out := .next (msgIn p m (takeDresp p m) s)

/-- T_ANNOUNCE enters the election of a sender (R298). -/
def takeAnnounce (m : Msg) (s : State) : State :=
  if !sender s then s
  else
    let a : Announce := { dev := m.src, cls := u8 m.payload 1, prio := u8 m.payload 2, masterEn := u8 m.payload 0 == 1, at_ := ltNs s }
    let old := s.tim.anns.find? (fun x => x.dev == a.dev)
    let classOnly := match old with
      | some o => o.prio == a.prio && o.masterEn == a.masterEn
      | none => false
    let s1 := { s with tim := { s.tim with anns := a :: s.tim.anns.filter (fun x => x.dev != a.dev) } }
    offerChange s (elect classOnly s1)

/-- T_ANNOUNCE. -/
def execTAnnounce (p : Nat) (m : Msg) (s : State) : Out := .next (msgIn p m (takeAnnounce m) s)

/-- Every 250 ms: a sender with MASTER_EN announces itself on its dual-homed ports, and compares (R298). -/
def execAnnounceTimer (s : State) : Out :=
  .next (
    if !running s || !sender s then s
    else
      let pl := leBytes 1 1 ++ leBytes 1 (ownClass s) ++ leBytes 1 (getF s R.TIM_CTRL_PRIO) ++
        leBytes 1 (getF s R.TIM_CTRL_WT_SRC) ++ zeros 4
      let s1 := if isSet s R.TIM_CTRL_MASTER_EN then
          (dualPorts s).foldl (fun a p => sendMsg p (mkMsg s 3 0x34 0xFFF pl) a) s
        else s
      offerChange s (elect false s1))

/-- An announcement older than 750 ms lapses (R298). -/
def execAnnounceExpiry (dev : Nat) (s : State) : Out :=
  .next (if running s && sender s then
      offerChange s (elect false { s with tim := { s.tim with anns := s.tim.anns.filter (fun a => a.dev != dev) } })
    else s)

/-- The new order has held for 5 s (R298). -/
def execMasterChangeDwell (s : State) : Out :=
  .next (match s.tim.dwell with
    | none => s
    | some b => if !running s then s
      else if bestMaster s = some b then offerChange s (masterIs b s)
      else { s with tim := { s.tim with dwell := none } })

/-- No T_FOLLOW within 4 sync intervals: the port's offer lapses (R304). -/
def execOfferExpiry (p : Nat) (s : State) : Out :=
  .next (if running s && decide (p < 8) && (timPort s p).offered then
      timeUpdate s (chooseSource (timPortUpd p (fun q => { q with offered := false }) s))
    else s)

/-- The sync interval expires (R302). -/
def execSyncInterval (s : State) : Out := .next (if running s then sendOffers s else s)

/-! ### Present parameters (R313, R316) -/

/-- The bytes of Table 10.7. -/
def Params.bytes (p : Params) : List Byte :=
  leBytes 2 p.pseq ++ zeros 2 ++ leBytes 4 p.num ++ leBytes 4 p.den ++ leBytes 8 p.epochN ++ leBytes 8 p.epochWt ++
    leBytes 1 p.pwmMul ++ leBytes 1 p.adcEvery ++ zeros 2 ++ leBytes 4 p.pwmPhase ++ leBytes 4 p.adcOfs ++ zeros 8

/-- The parameters a T_PARAMS carries. -/
def paramsOf (b : List Byte) : Params :=
  { pseq := u16 b 0, num := u32 b 4, den := u32 b 8, epochN := u64 b 0x0C, epochWt := u64 b 0x14, pwmMul := u8 b 0x1C
    adcEvery := u8 b 0x1D, pwmPhase := u32 b 0x20, adcOfs := u32 b 0x24 }

/-- T_PARAMS on every port but that of the source: the set in force, and a pending one. (DEDUCED log 36) -/
def sendParams (s : State) : State :=
  ((timePorts s).filter (fun p => timeSource s != some p)).foldl (fun a p =>
    (s.tim.params.toList ++ s.tim.nextParams.toList).foldl (fun b x => sendMsg p (timeMsg s 0x35 x.bytes) b) a) s

/-- Promotes a pending set whose first frame has come. -/
def promoteParams (s : State) : State :=
  match s.tim.nextParams with
  | some q =>
    if wtValid s ∧ q.epochWt ≤ wtNs s then
      { s with tim := { s.tim with oldParams := s.tim.params, params := some q, nextParams := none } }
    else s
  | none => s

/-- Holds a set of present parameters (R313, R316). -/
def holdParams (q : Params) (s0 : State) : State :=
  let s := promoteParams s0
  let t := s.tim
  if t.params = some q ∨ t.nextParams = some q ∨ t.oldParams = some q then s
  else
    let s1 := match t.params with
      | none => { s with tim := { t with params := some q } }
      | some _ =>
        if frameNow0 s < q.epochN ∧ wtNs s < q.epochWt then { s with tim := { t with nextParams := some q } }
        else { s with tim := { t with params := some q, nextParams := none } }
    sendParams (setF s1 R.TIM_STATUS_PARAMS 1)

/-- T_PARAMS is taken from the source only. -/
def takeParams (p : Nat) (m : Msg) (s : State) : State :=
  let q := paramsOf m.payload
  if timeSource s ≠ some p ∨ m.payload.length < 48 ∨ q.num = 0 ∨ q.den = 0 ∨ q.pwmMul = 0 then s else holdParams q s

/-- T_PARAMS (R313). -/
def execTParams (p : Nat) (m : Msg) (s : State) : Out := .next (msgIn p m (takeParams p m) s)

/-- Once per second the parameters are regenerated (R313). -/
def execTParamsTimer (s : State) : Out := .next (if running s then sendParams s else s)

end Sys2Proof.Machine
end

