-- ==== Sys2Proof/Machine/TwillLink.lean ====
section
/-!
DEFINITION. The Twill link layer (R247 to R291) and link authentication (R444 to R449): flits and retry, lane changes,
the rate ladder, link states, loss of a link with the routes and discovery that follow, and session keys.
-/

namespace Sys2Proof.Machine

/-! ### Reach and routes of a sender (R18, R193, R281) -/

/-- REACH of a port. -/
abbrev reach (s : State) (p : Nat) : Nat := getF s (R.TWL_TOPO_REACH p)

/-- The paths to hop h of port p: hops and port, through p itself and through the partner of a ring. -/
def pathsTo (s : State) (p h : Nat) : List (Nat × Nat) :=
  (if h ≤ reach s p ∧ linkUp s p then [(h, p)] else []) ++
    (if portTopo s p = 2 ∧ portTiles s p + 1 - h ≤ reach s (portPartner s p) ∧ linkUp s (portPartner s p) then
      [(portTiles s p + 1 - h, portPartner s p)] else [])

/-- The nearer path, the lower-numbered port at equal distance (R18). -/
def bestPath (l : List (Nat × Nat)) : Option (Nat × Nat) :=
  l.foldl (fun b x => match b with
    | none => some x
    | some y => if x.1 < y.1 ∨ (x.1 = y.1 ∧ x.2 < y.2) then some x else some y) none

/-- Routes one slot from the reaches: moved, unreachable, or awaiting admission again. -/
def rerouteSlot (i : Nat) (sl : Slot) (s : State) : State :=
  match bestPath (pathsTo s (u8 sl.entry 2) (u8 sl.entry 3)) with
  | none => if slotState s i = 3 ∨ slotState s i = 6 then s else slotUnreachable i s
  | some b =>
    let s1 := if getF s (R.CEL_S_W0_ROUTE i) = b.2 ∧ getF s (R.CEL_S_W0_HOPS i) = b.1 then s else moveRoute i b.2 b.1 s
    if slotState s i = 3 then setF s1 (R.CEL_S_W0_STATE i) (if backupSlot s sl.entry then 6 else 1) else s1

/-- Routes and reachability of every slot. -/
def routesOf (s : State) : List (Nat × Nat × Bool) :=
  s.cel.slots.map (fun e => (getF s (R.CEL_S_W0_ROUTE e.1), getF s (R.CEL_S_W0_HOPS e.1), slotState s e.1 == 3))

/-- Routes every slot; CEL_ROUTE_EVT counts once where a route changed. -/
def reroute (s : State) : State :=
  let t := countUnreach (s.cel.slots.foldl (fun a e => rerouteSlot e.1 e.2 a) s)
  if routesOf t = routesOf s then t else raise 9 t

/-- A port's reach falls to a number of hops. -/
def reachFall (p n : Nat) (s : State) : State :=
  if n < reach s p then reroute (setF s (R.TWL_TOPO_REACH p) n) else s

/-! ### Discovery starts (R275) -/

/-- Starts a run on a sender's port: a new RUN, DISCOVER with HOPS 0. -/
def startRun (p : Nat) (s : State) : State :=
  let r := ((portOf s p).run + 1) % 256
  let s1 := portUpd p (fun q => { q with run := r, replies := [], closed := none }) s
  sendMsg p (mkMsg s1 1 0x03 0xFFF (leBytes 1 p ++ leBytes 1 r ++ leBytes 1 (ownTpl s1) ++ zeros 5)) s1

/-! ### Loss of a link (R279, R280) -/

/-- LINK_EVENT of a tile, out of its other topology port. -/
def linkEvent (p event : Nat) (s : State) : State :=
  match otherPort s p with
  | some o => if linkUp s o then
      sendMsg o (mkMsg s 1 0x09 0xFFF (leBytes 1 p ++ leBytes 1 event ++ leBytes 2 (getF s (R.TWL_PEER_DEVNUM p)) ++ zeros 4)) s
    else s
  | none => s

/-- What the rest of the device does when a port leaves UP. -/
def linkGone (p event : Nat) (s : State) : State :=
  if sender s then reachFall p 0 s
  else
    let s1 := if s.twl.upstream = some p then { s with twl := { s.twl with upstream := otherPort s p } } else s
    linkEvent p event s1

/-- The link layer's own state at DOWN: replay buffer, SEQ, credit, session and partial messages are discarded. -/
def Port.linkReset (q : Port) : Port :=
  { q with maskRx := 0, helloRx := false, rtogTx := false, rtogRx := false, expected := 0, nextSeq := 0, replay := []
           timeouts := 0, used := [], credRx := [], accepted := [], txq := [], rxMsg := [], inbox := [], session := none
           helloTx := [], priv := 0, peerHello := none, th := [], verified := false, rekeyTx := none, rekeyRx := none
           tagFails := [], before := 0 }

/-- The port leaves its link state for DOWN. -/
def linkDown (p event : Nat) (s : State) : State :=
  let was := linkUp s p
  let s1 := linkLevel p R.TWL_LL_STATUS_RX_MASK 0 (linkLevel p R.TWL_LL_STATUS_TX_MASK 0
    (linkLevel p R.TWL_LL_STATUS_LSTATE 0 s))
  let s2 := setF (setF (setF s1 (R.TWL_LL_STATUS_RETRYING p) 0) (R.TWL_LL_STATUS_TPL_RUN p) 0) (R.TWL_LL_STATUS_TPL_BACK p) 0
  let s3 := timeDown p (portUpd p Port.linkReset s2)
  if was then linkGone p event s3 else s3

/-- The link is lost with a cause (R279) and the port trains again. (DEDUCED log 34) -/
def linkLost (p cause : Nat) (s : State) : State :=
  if lstate s p = 0 then s
  else
    let s1 := setF (linkDown p (if cause = 4 then 2 else 0) s) (R.TWL_LL_STATUS_LOST_CAUSE p) cause
    let s2 := tally (R.TWL_LINK_CHG_LOST p) (16 + p) 1 p s1
    startTrain p (ownStep s2 p) s2

/-! ### LINK flits sent (Table 9.7) -/

/-- Sends a LINK flit a number of times. -/
def sendLinkN (p n : Nat) (l : List Byte) (s : State) : State := (List.range n).foldl (fun a _ => sendLink p l a) s

/-- HELLO, 8 times. (DEDUCED log 35) -/
def sendHello (p : Nat) (s : State) : State :=
  let fl := (if ownBackward s then 1 else 0) + (if sender s then 2 else 0) + (if encVc0 s p then 4 else 0)
  sendLinkN p 8 (leBytes 1 1 ++ leBytes 2 s.cps.devnum ++ leBytes 1 (ownTpl s) ++ leBytes 1 fl ++
    leBytes 1 (getF s (R.TWL_PHY_CTRL_RATE_MAX p)) ++ leBytes 1 p) s

/-- LANE_REQ with OUT, READY and CUR as they stand. -/
def laneReqBytes (s : State) (p : Nat) : List Byte :=
  leBytes 1 2 ++ leBytes 1 (portOf s p).out ++ leBytes 1 (portOf s p).ready ++
    leBytes 1 (getF s (R.TWL_LL_STATUS_RX_MASK p))

/-- LANE_REQ at a change: once, and 4 more times. (DEDUCED log 35) -/
def sendLaneReq (p : Nat) (s : State) : State := sendLinkN p 5 (laneReqBytes s p) s

/-- LANESET of a mask, EFF_SLOT 16 slots ahead. (DEDUCED log 35) -/
def sendLaneSet (p mask : Nat) (s : State) : State :=
  sendLink p (leBytes 1 3 ++ leBytes 1 mask ++ leBytes 2 ((slotNow s p + 16) % 65536)) s

/-! ### Retry (R257, R258) -/

/-- Toggles RTOG and counts it. -/
def toggleRtog (p : Nat) (s : State) : State :=
  tally (R.TWL_RETRY_REQ_COUNT p) (16 + p) 8 p (portUpd p (fun q => { q with rtogTx := !q.rtogTx }) s)

/-- A bad flit: the receiver enters RETRY, or stays there. -/
def enterRetry (p : Nat) (s : State) : State :=
  if isSet s (R.TWL_LL_STATUS_RETRYING p) then s
  else toggleRtog p (setF (portUpd p (fun q => { q with timeouts := 0 }) s) (R.TWL_LL_STATUS_RETRYING p) 1)

/-- The transmitter replays every unacknowledged flit. -/
def replayAll (p : Nat) (s : State) : State :=
  timReplay p (addF (tally (R.TWL_REPLAY_COUNT p) (16 + p) 8 p s) (R.LINK_REPLAY_FLITS_COUNT p) (portOf s p).replay.length)

/-! ### Lane sparing (R263 to R266) -/

/-- The receiver asks for a lane's removal. -/
def laneOut (p l : Nat) (s : State) : State :=
  sendLaneReq p (portUpd p (fun q => { q with out := maskBit q.out l true, ready := maskBit q.ready l false }) s)

/-- The receiver reports a lane ready to rejoin. -/
def laneReady (p l : Nat) (s : State) : State :=
  sendLaneReq p (portUpd p (fun q => { q with out := maskBit q.out l false, ready := maskBit q.ready l true }) s)

/-- The calibration of lane c is given up because no other lane is left (R233): counted, the lane back with its previous
values, and the calibration waits. -/
def calGiveUp (p c : Nat) (s : State) : State :=
  let s1 := setF (tally (R.TWL_CAL_DEFER_COUNT p) (16 + p) 8 p s) (R.TWL_PHY_STATUS_CAL_LANE p) 0xF
  let s2 := calOutcome p c 2 (portUpd p (fun q => { q with calDefer := q.calDefer.erase c ++ [c] }) s1)
  laneReady p c (laneUpd p c (fun x => { x with aligned := true, calibrating := false, runs := [] }) (laneLock p c true s2))

/-- A receive data lane in lock goes out of lock (R227): its calibration, if one runs, is abandoned, its flit positions
count as bad, and with no lane left the link is lost. (DEDUCED log 35) -/
def laneLost (p l : Nat) (s : State) : State :=
  if pstate s p ≠ 3 ∨ !inLock s p l then s
  else
    let s1 := occur (16 + p) 8 p 0 (incF s (R.LANE_CNT_LOL_CNT p l))
    let s2 := laneLock p l false s1
    let wasData := (laneOf s2 p l).data
    let s3 := laneUpd p l (fun x => { x with aligned := false, data := false, calibrating := false, runs := [], last8 := []
                                             fails := if wasData then x.fails else x.fails + 1 }) s2
    let s4 := laneOut p l s3
    if dataLanes.all (fun i => !inLock s4 p i) then
      (if getF s4 (R.TWL_PHY_STATUS_CAL_LANE p) < 4 then calGiveUp p (getF s4 (R.TWL_PHY_STATUS_CAL_LANE p)) s4
       else linkLost p 2 s4)
    else if 1 ≤ lstate s4 p ∧ lstate s4 p ≤ 4 then enterRetry p s4 else s4

/-- The transmitter changes its mask: announced, in effect, and with it the lanes that carry data. The announced
EFF_SLOT is not waited for. (DEDUCED log 35) -/
def setTxMask (p mask : Nat) (s : State) : State :=
  let old := getF s (R.TWL_LL_STATUS_TX_MASK p)
  let s1 := sendLaneSet p mask s
  let s2 := phyLevel p R.TWL_PHY_STATUS_TX_LANES mask (linkLevel p R.TWL_LL_STATUS_TX_MASK mask s1)
  let s3 := addF s2 (R.TWL_LANE_CHG_OUT p) (maskCount (old &&& (0xF ^^^ mask)))
  timDisturb p (addF s3 (R.TWL_LANE_CHG_IN p) (maskCount (mask &&& (0xF ^^^ old))))

/-- LANE_REQ at the transmitting end (R264 to R266). (DEDUCED log 35) -/
def laneReq (p out ready cur : Nat) (s : State) : State :=
  let mask := getF s (R.TWL_LL_STATUS_TX_MASK p)
  let less := mask &&& (0xF ^^^ out)
  let parked := (dataLanes.filter (fun l => isSet s (R.LANE_W0_PARKED p l))).foldl (fun a l => a ||| 2 ^ l) 0
  let more := less ||| (ready % 16 &&& (0xF ^^^ out) &&& (0xF ^^^ parked))
  if less = 0 then s
  else if less ≠ mask then replayAll p (setTxMask p more s)
  else if more ≠ mask then setTxMask p more s
  else if cur ≠ mask then sendLaneSet p mask s
  else s

/-- LANE_REQ arrives (R264 to R266): OUT, READY and CUR after LCODE. -/
def execLaneReq (p : Nat) (l : List Byte) (s : State) : Out :=
  .next (if alive s && decide (1 ≤ lstate s p) && decide (lstate s p ≤ 4) then
    laneReq p (u8 l 1 % 16) (u8 l 2 % 16) (u8 l 3 % 16) s else s)

/-- LANESET at the receiving end: the mask applies, removed lanes leave OUT, and rejoined lanes carry data. -/
def laneSet (p mask : Nat) (s : State) : State :=
  let old := getF s (R.TWL_LL_STATUS_RX_MASK p)
  let s1 := linkLevel p R.TWL_LL_STATUS_RX_MASK mask s
  let s2 := addF (addF s1 (R.TWL_LANE_CHG_OUT p) (maskCount (old &&& (0xF ^^^ mask)))) (R.TWL_LANE_CHG_IN p)
    (maskCount (mask &&& (0xF ^^^ old)))
  let s3 := portUpd p (fun q => { q with maskRx := mask, out := q.out &&& mask, ready := q.ready &&& (0xF ^^^ mask) }) s2
  timDisturb p (dataLanes.foldl (fun a l =>
    laneUpd p l (fun x => { x with data := mask.testBit l && x.aligned
                                   fails := if mask.testBit l then 0 else x.fails }) a) s3)

/-- LANESET arrives (R265). -/
def execLaneset (p : Nat) (l : List Byte) (s : State) : Out :=
  .next (if alive s && decide (1 ≤ lstate s p) && decide (lstate s p ≤ 4) && u8 l 1 % 16 != 0 then
    laneSet p (u8 l 1 % 16) s else s)

/-- LANE_REQ is sent again every 10 µs while something is outstanding (Table 9.7). -/
def execLaneReqTimer (p : Nat) (s : State) : Out :=
  .next (if alive s && decide (1 ≤ lstate s p) && decide (lstate s p ≤ 4) &&
      ((portOf s p).out != 0 || (portOf s p).ready != 0 ||
        getF s (R.TWL_LL_STATUS_RX_MASK p) != (portOf s p).maskRx) then
    sendLink p (laneReqBytes s p) s else s)

/-! ### The rate ladder (R267 to R269) -/

/-- The fastest step both ends allow. -/
def fastest (s : State) (p : Nat) : Nat := max (getF s (R.TWL_PHY_CTRL_RATE_MAX p)) (getF s (R.TWL_PEER_RATE_MAX p))

/-- The port requests a step: by STEP where its link is UP, else as its target for the next training (R268). -/
def requestStep (p step reason : Nat) (s : State) : State :=
  if lstate s p = 3 then announceStep p (max step (fastest s p)) reason s
  else portUpd p (fun q => { q with target := step }) s

/-- A criterion for stepping down that the state shows: training failed 3 times, or too few lanes with one held out. -/
def stepDownHolds (s : State) (p : Nat) : Bool :=
  decide (3 ≤ (portOf s p).trainFails) ||
    (dataLanes.any (fun l => decide (8 ≤ (laneOf s p l).fails)) &&
      (decide (maskCount (getF s (R.TWL_LL_STATUS_TX_MASK p)) < getF s (R.TWL_LL_CTRL_MIN_LANES p)) ||
        decide (maskCount (getF s (R.TWL_LL_STATUS_RX_MASK p)) < getF s (R.TWL_LL_CTRL_MIN_LANES p))))

/-- The wait before a step up, in seconds (R268). -/
def stepUpWait (s : State) (p : Nat) : Nat :=
  if (portOf s p).stepWait = 0 then getF s (R.TWL_LL_CTRL_STEP_UP_S p) else (portOf s p).stepWait

/-- A failure within 60 s of a step up doubles the wait. -/
def noteStepFail (p : Nat) (s : State) : State :=
  match (portOf s p).stepUpAt with
  | some t => if ltNs s < t + 60000000000 then
      portUpd p (fun q => { q with stepUpAt := none, stepWait := min 65535 (2 * stepUpWait s p) }) s else s
  | none => s

/-- The port takes the next slower step: REASON 1 errors, 2 lanes, 3 training (R267). -/
def stepDown (p reason : Nat) (s : State) : State :=
  let r := getF s (R.TWL_PHY_STATUS_RATE p)
  let s1 := noteStepFail p s
  if 2 ≤ r then s1 else requestStep p (r + 1) reason s1

/-- A step-down criterion holds (R267): more than 2^UNC_EXP uncorrectable codewords within 1 s, as the event reports, or
what the state shows. -/
def execAutoStepDown (p reason : Nat) (s : State) : Out :=
  .next (if alive s && isSet s (R.TWL_LL_CTRL_AUTO_STEP p) && (reason == 1 || stepDownHolds s p) then stepDown p reason s else s)

/-- STEP_UP_S below RATE_MAX have passed (R268). -/
def execStepUpTimer (p : Nat) (s : State) : Out :=
  .next (
    let r := getF s (R.TWL_PHY_STATUS_RATE p)
    if alive s && lstate s p == 3 && getF s (R.TWL_LL_CTRL_STEP_UP_S p) != 0 && decide (fastest s p < r) then
      announceStep p (r - 1) 4 (portUpd p (fun q => { q with stepUpAt := some (ltNs s) }) s)
    else s)

/-- A STEP flit arrives (R267, R269): TARGET and REASON after LCODE and EFF_SLOT. A faster step is answered with the
slower one where this end's own criterion holds. -/
def stepFlit (p target : Nat) (s : State) : State :=
  let r := getF s (R.TWL_PHY_STATUS_RATE p)
  if target < r ∧ isSet s (R.TWL_LL_CTRL_AUTO_STEP p) ∧ stepDownHolds s p then announceStep p (min 2 (r + 1)) 2 s
  else timeUpdate s (chooseSource (enterRetrain p target s))

def execStepFlit (p : Nat) (l : List Byte) (s : State) : Out :=
  .next (if alive s && decide (1 ≤ lstate s p) && decide (lstate s p ≤ 4) then
    (if u8 l 1 ≤ 2 then stepFlit p (u8 l 1) s else proto p s) else s)

/-- `step` (R268). -/
def execStep (k : Pkt) (s : State) : Out :=
  .next (plain k (fun t =>
    if 8 ≤ k.p8 0 ∨ 3 ≤ k.p8 1 ∨ !parZero k 2 2 then .err St.badParam
    else .ok (requestStep (k.p8 0) (k.p8 1) 0 t) []) s)

/-- A write of TWL_STEP_CMD (R268): TARGET is stored, GO requests it; TARGET 3 names no step. -/
def stepCmdWrite (p : Nat) (v : Word) (s : State) : State :=
  let s1 := storeWord (R.TWL_STEP_CMD p) v s
  if R.TWL_STEP_CMD_GO p |>.of v |> (· = 1) then
    (if getF s1 (R.TWL_STEP_CMD_TARGET p) ≤ 2 then requestStep p (getF s1 (R.TWL_STEP_CMD_TARGET p)) 0 s1 else s1)
  else s1

def execStepCmdGo (q p : Nat) (v : Word) (s : State) : Out :=
  .next (access q (16 + p) false 0x44 (stepCmdWrite p v) s)

/-- A RETRAIN has lasted 2 ms (R269). -/
def execRetrainTimeout (p : Nat) (s : State) : Out :=
  .next (if alive s && lstate s p == 5 then linkLost p 5 (noteStepFail p s) else s)

/-! ### Link states (R260, R261) -/

/-- The link reaches UP, or INCOMPAT where the levels do not allow it; what follows from reaching UP. -/
def enterUp (p : Nat) (s : State) : State :=
  match portLevel s p with
  | none => linkLevel p R.TWL_LL_STATUS_LSTATE 4 s
  | some lv =>
    let was := lstate s p
    let s1 := setB (setF s (R.TWL_LL_STATUS_TPL_RUN p) lv) (R.TWL_LL_STATUS_TPL_BACK p) (decide (lv < ownTpl s))
    let s2 := linkLevel p R.TWL_LL_STATUS_LSTATE 3 s1
    if was = 5 then pump p s2
    else if sender s2 then timeUp p (startRun p s2)
    else timeUp p (linkEvent p 1 s2)

/-! ### Authentication (R444 to R449) -/

/-- The certificates of a HELLO payload, issuer first. -/
abbrev helloIssuer (h : List Byte) : List Byte := sub h 148 256
abbrev helloCert (h : List Byte) : List Byte := sub h 404 256

/-- Sends an AUTH message on a port. (DEDUCED log 35) -/
def sendAuth (p : Nat) (payload : List Byte) (s : State) : State := sendMsg p (mkHop s 0x1C 1 payload) s

/-- n fresh bytes. -/
def freshBytes (n : Nat) (s : State) : List Byte × State := (leBytes n (freeVal s (8 * n)), takeFree s)

/-- Sends the AUTH HELLO of Table 14.6 with a fresh nonce and ephemeral key. (DEDUCED log 35) -/
def sendAuthHello (p : Nat) (s : State) : State :=
  let k := s.free + 1
  let n := freshBytes 32 s
  let h := leBytes 1 1 ++ leBytes 1 (authFlags s) ++ zeros 2 ++ n.1 ++ ownerId s ++ Config.publicKey k ++
    s.nv.issuerCert ++ s.nv.deviceCert
  sendAuth p h (portUpd p (fun q => { q with helloTx := h, priv := k }) n.2)

/-- This end is the lo end: its CERT_ID is the smaller. -/
def isLo (s : State) (peerCert : List Byte) : Bool := decide (beVal (certId s) < beVal (certIdOf peerCert))

/-- Once both HELLOs are there: TH, and PROOF. A device in IDENTITY_DEAD cannot complete one. -/
def tryProof (p : Nat) (s : State) : State :=
  let q := portOf s p
  match q.peerHello with
  | none => s
  | some h =>
    if q.helloTx = [] then s
    else
      let th := Config.sha384 (if isLo s (helloCert h) then q.helloTx ++ h else h ++ q.helloTx)
      let s1 := portUpd p (fun q => { q with th := th }) s
      if ostate s = 2 then s1 else sendAuth p (leBytes 1 2 ++ zeros 3 ++ dikSign (ascii "TWL1" ++ th)) s1

/-- An authentication fails on a port: counted, the link lost with cause 6, and a wait before the next HELLO (R448). -/
def authFail (p : Nat) (s : State) : State :=
  let s1 := tally R.SEC_AUTH_FAIL 14 13 p s
  let s2 := portUpd p (fun q => { q with authFails := q.authFails + 1, inBackoff := true }) (linkLost p 6 s1)
  tamperOcc 10 p p s2

/-- Sends FAIL with a reason and fails. -/
def authReject (p reason : Nat) (s : State) : State :=
  authFail p (sendAuth p (leBytes 1 3 ++ leBytes 1 reason ++ zeros 2) s)

/-- The first reason of R445 to refuse a HELLO, 0 for none. -/
def helloReason (s : State) (h : List Byte) : Nat :=
  if h.length ≠ 660 ∨ 4 ≤ u8 h 1 ∨ !zeroAt h 2 2 then 5
  else if !certChain s (helloIssuer h) (helloCert h) useDevice then 1
  else if denied s (certIdOf (helloCert h)) then 2
  else if !ownersFit s (u8 h 1) (sub h 36 16) then 3
  else 0

/-- AUTH HELLO arrives (R444, R445). -/
def takeAuthHello (p : Nat) (h : List Byte) (s : State) : State :=
  if lstate s p ≠ 2 then s
  else if helloReason s h ≠ 0 then authReject p (helloReason s h) s
  else tryProof p (portUpd p (fun q => { q with peerHello := some h }) s)

def execAuthHello (p : Nat) (m : Msg) (s : State) : Out := .next (msgIn p m (takeAuthHello p m.payload) s)

/-- PROOF arrives (R445): verified with the peer's device key, session keys derived, and the link goes up. The peer's
own PROOF stands for its acceptance, which it would withdraw by FAIL. (DEDUCED log 35) -/
def takeProof (p : Nat) (l : List Byte) (s : State) : State :=
  let q := portOf s p
  match q.peerHello with
  | none => s
  | some h =>
    if lstate s p ≠ 2 ∨ q.helloTx = [] then s
    else if l.length ≠ 100 ∨ !zeroAt l 1 3 then authReject p 5 s
    else if !Config.ecdsaVerify (certPub (helloCert h)) (ascii "TWL1" ++ q.th) (sub l 4 96) then authReject p 4 s
    else
      let src : KeySrc := { priv := q.priv, peer := sub h 52 96, th := q.th, lo := isLo s (helloCert h) }
      let ss : Session := { src := src, kph := false, txCount := [], rxCount := [], old := none, shown := [] }
      enterUp p (incF (portUpd p (fun q => { q with verified := true, authFails := 0, session := some ss }) s) R.SEC_AUTH_OK)

def execProof (p : Nat) (m : Msg) (s : State) : Out := .next (msgIn p m (takeProof p m.payload) s)

/-- FAIL arrives, or the authentication fails in another way (R448). -/
def execAuthFail (p : Nat) (m : Msg) (s : State) : Out := .next (msgIn p m (authFail p) s)

/-- The wait of R448 ends: HELLO is sent again. -/
def execAuthBackoffExpiry (p : Nat) (s : State) : Out :=
  .next (
    if !running s then s
    else
      let s1 := portUpd p (fun q => { q with inBackoff := false }) s
      if lstate s1 p = 2 ∧ (portOf s1 p).helloTx = [] then tryProof p (sendAuthHello p s1) else s1)

/-- Sends REKEY with a fresh nonce and key (R447). -/
def sendRekey (p : Nat) (s : State) : State :=
  let k := s.free + 1
  let n := freshBytes 32 s
  let body := leBytes 1 4 ++ leBytes 1 (authFlags s) ++ zeros 2 ++ n.1 ++ ownerId s ++ Config.publicKey k
  let r := body ++ dikSign (ascii "TWLR" ++ (portOf s p).th ++ body)
  sendAuth p r (portUpd p (fun q => { q with rekeyTx := some (r, k) }) n.2)

/-- Starts a rekey where a session runs and none is under way. -/
def startRekey (p : Nat) (s : State) : State :=
  if (portOf s p).session.isSome ∧ (portOf s p).rekeyTx = none then sendRekey p s else s

/-- With both REKEYs there, the new keys: KPH flips, the old key stays for the receiver for up to 1 ms (R288, R446). -/
def rekeyDone (p : Nat) (s : State) : State :=
  let q := portOf s p
  match q.session, q.rekeyTx, q.rekeyRx with
  | some ss, some (tx, k), some rx =>
    let th := Config.sha384 (q.th ++ (if ss.src.lo then tx ++ rx else rx ++ tx))
    let src : KeySrc := { priv := k, peer := sub rx 52 96, th := th, lo := ss.src.lo }
    let n : Session := { src := src, kph := !ss.kph, txCount := [], rxCount := []
                         old := some (ss.src, ss.rxCount, ltNs s + 1000000), shown := [] }
    portUpd p (fun q => { q with session := some n, th := th, rekeyTx := none, rekeyRx := none }) s
  | _, _, _ => s

/-- REKEY arrives (R447). -/
def takeRekey (p : Nat) (l : List Byte) (s : State) : State :=
  let q := portOf s p
  match q.session, q.peerHello with
  | some _, some h =>
    if l.length ≠ 244 ∨ !zeroAt l 2 2 ∨
        !Config.ecdsaVerify (certPub (helloCert h)) (ascii "TWLR" ++ q.th ++ l.take 148) (sub l 148 96) ∨
        !ownersFit s (u8 l 1) (sub l 36 16) then linkLost p 6 s
    else
      let s1 := portUpd p (fun q => { q with rekeyRx := some l }) s
      rekeyDone p (startRekey p s1)
  | _, _ => s

def execRekey (p : Nat) (m : Msg) (s : State) : Out := .next (msgIn p m (takeRekey p m.payload) s)

/-- Largest count of messages on a channel under the current key. -/
def maxCount (ss : Session) : Nat := (ss.txCount ++ ss.rxCount).foldl (fun a e => max a e.2) 0

/-- REKEY_H hours pass, or a count reaches 2^31 (R447); a count of 2^32 loses the link with cause 7. -/
def execRekeyTimer (p : Nat) (s : State) : Out :=
  .next (
    if !running s then s
    else match (portOf s p).session with
      | some ss => if 4294967296 ≤ maxCount ss then linkLost p 7 s else rekeyDone p (startRekey p s)
      | none => s)

/-- A port becomes physically ACTIVE (R260, R269): HELLO, or the end of a RETRAIN with its replay. Every lane is in the
mask; lanes that are not in lock are asked out. -/
def linkActive (p : Nat) (s : State) : State :=
  let s1 := phyLevel p R.TWL_PHY_STATUS_TX_LANES 0xF (linkLevel p R.TWL_LL_STATUS_RX_MASK 0xF
    (linkLevel p R.TWL_LL_STATUS_TX_MASK 0xF (portUpd p (fun q => { q with maskRx := 0xF, trainFails := 0 }) s)))
  let s2 :=
    if lstate s1 p = 5 then
      let b := (portOf s1 p).before
      let r := replayAll p s1
      if b = 3 then enterUp p r else linkLevel p R.TWL_LL_STATUS_LSTATE b r
    else sendHello p (linkLevel p R.TWL_LL_STATUS_LSTATE 1 s1)
  (dataLanes.filter (fun l => !inLock s2 p l)).foldl (fun a l => laneOut p l a) s2

/-- Notes what a HELLO says of the peer of port p. -/
def helloPeer (p : Nat) (l : List Byte) (s : State) : State :=
  let fl := u8 l 4
  let s1 := setF (setF (setF s (R.TWL_PEER_DEVNUM p) (u16 l 1)) (R.TWL_PEER_TPL p) (u8 l 3)) (R.TWL_PEER_BACKWARD p) (fl % 2)
  let s2 := setF (setF (setF s1 (R.TWL_PEER_SENDER p) (fl / 2 % 2)) (R.TWL_PEER_RATE_MAX p) (u8 l 5)) (R.TWL_PEER_PORT p) (u8 l 6)
  portUpd p (fun q => { q with helloRx := true }) s2

/-- What follows a HELLO with these bytes in the link state of port p. -/
def helloNext (p : Nat) (l : List Byte) (s : State) : State :=
  match lstate s p with
  | 1 =>
    let t := linkLevel p R.TWL_LL_STATUS_LSTATE 2 s
    if (portOf t p).inBackoff then t else sendAuthHello p t
  | 3 =>
    match portLevel s p with
    | some lv =>
      if getF s (R.TWL_LL_STATUS_TPL_RUN p) < lv ∧ s.cps.devnum < u16 l 1 then
        announceStep p (getF s (R.TWL_PHY_STATUS_RATE p)) 3 s
      else s
    | none => s
  | 4 => if (portLevel s p).isSome then enterUp p s else s
  | _ => s

/-- HELLO arrives (R260, R261, R521): TWL_PEER takes its fields; the port goes on to AUTH; an end of lower number lifts a
level that a changed HELLO allows. -/
def takeHello (p : Nat) (l : List Byte) (s : State) : State := helloNext p l (helloPeer p l s)

def execHello (p : Nat) (l : List Byte) (s : State) : Out :=
  .next (if alive s && decide (1 ≤ lstate s p) && decide (lstate s p ≤ 4) then takeHello p l s else s)

/-! ### Flits received (R248 to R258, R286 to R288) -/

/-- Flits of a channel's receive buffer in use: the partial message and whole messages not yet handled. -/
def occupancy (q : Port) (vc : Nat) : Nat :=
  (match Tab.get q.rxMsg vc with | some r => flitsOf r.1.length | none => 0) +
    ((q.inbox.filter (fun m => m.vc == vc)).map (fun m => flitsOf (msgBytes m).length)).sum

/-- A message from its decrypted bytes. -/
def msgOf (vc : Nat) (l : List Byte) : Msg :=
  if vc = 0 then { vc := 0, mtype := 0, dest := u32 l 0 % 4096, src := u32 l 4 / 65536 % 4096, hopaddr := false, hops := 0
                   payload := l }
  else
    { vc := vc, mtype := u8 l 3, dest := u32 l 0 % 4096, src := u32 l 0 / 4096 % 4096, hopaddr := (u32 l 4).testBit 13
      hops := u32 l 4 / 65536 % 128, payload := l.drop 8 }

/-- Key source and message count to open a message of a key phase with: the current key, or the old one while it is
kept. -/
def openKey (s : State) (ss : Session) (vc : Nat) (kph : Bool) : Option (KeySrc × Nat) :=
  if kph = ss.kph then some (ss.src, Tab.getD ss.rxCount vc 0)
  else match ss.old with
    | some (src, cnt, till) => if ltNs s < till ∧ !ss.shown.contains vc then some (src, Tab.getD cnt vc 0) else none
    | none => none

/-- Counts a message received on a channel; with every channel in the new phase, the old key goes. -/
def Session.received (ss : Session) (vc : Nat) (kph : Bool) : Session :=
  if kph = ss.kph then
    let sh := if ss.shown.contains vc then ss.shown else vc :: ss.shown
    { ss with rxCount := Tab.put ss.rxCount vc (Tab.getD ss.rxCount vc 0 + 1), shown := sh
              old := if [0, 1, 2, 3].all sh.contains then none else ss.old }
  else
    { ss with old := ss.old.map (fun o => (o.1, Tab.put o.2.1 vc (Tab.getD o.2.1 vc 0 + 1), o.2.2)) }

/-- A tag fails (R287): counted, watched by source TAGFAIL, and at the fourth within 1 s the link is lost. -/
def tagFailure (p : Nat) (s : State) : State :=
  let s1 := tamperOcc 9 0 0 (tally (R.TWL_DECRYPT_FAIL_COUNT p) (16 + p) 2 p s)
  let l := ltNs s :: (portOf s p).tagFails.filter (fun t => decide (ltNs s < t + 1000000000))
  if 4 ≤ l.length then linkLost p 7 s1 else portUpd p (fun q => { q with tagFails := l }) s1

/-- A message has been received whole: `body` is its bytes with the tag. -/
def msgWhole (p vc : Nat) (body : List Byte) (enc kph : Bool) (s : State) : State :=
  let q := portOf s p
  let put := fun (l : List Byte) (t : State) => portUpd p (fun q => { q with inbox := q.inbox ++ [msgOf vc l] }) t
  if !enc then
    if (vc = 0 ∧ pflag s 1) ∨ (vc ≠ 0 ∧ (msgOf vc body).mtype ≠ 0x1C) then proto p s else put body s
  else match q.session with
    | none => tagFailure p s
    | some ss =>
      match openKey s ss vc kph with
      | none => tagFailure p s
      | some (src, n) =>
        let c := body.take (body.length - 16)
        let s1 := portUpd p (fun q => { q with session := some (ss.received vc kph) }) s
        let key := src.key false
        let iv := src.iv false vc n
        if Config.gcmTag key iv c = body.drop (body.length - 16) then put (gcmXor key iv c) s1 else tagFailure p s1

/-- Bytes of the message whose first bytes are `l`: fixed on VC0, from LEN elsewhere; the tag included. -/
def wholeLength (s : State) (p vc : Nat) (l : List Byte) (enc kph : Bool) : Nat :=
  let head := match enc, (portOf s p).session with
    | true, some ss => (match openKey s ss vc kph with
      | some (src, n) => gcmXor (src.key false) (src.iv false vc n) (l.take 8)
      | none => l.take 8)
    | _, _ => l.take 8
  (if vc = 0 then 1552 else 8 + min (vcMax vc) (u32 head 4 % 8192)) + (if enc then 16 else 0)

/-- An accepted DATA flit goes to its channel (R252). -/
def dataFlit (p vc : Nat) (som enc kph : Bool) (payload : List Byte) (s : State) : State :=
  let cur := if som then some (([] : List Byte), enc, kph) else Tab.get (portOf s p).rxMsg vc
  match cur with
  | none => proto p s
  | some (l, e, k) =>
    let l' := l ++ payload
    let n := wholeLength s p vc l' e k
    if l'.length < n then portUpd p (fun q => { q with rxMsg := Tab.put q.rxMsg vc (l', e, k) }) s
    else msgWhole p vc (l'.take n) e k (portUpd p (fun q => { q with rxMsg := Tab.del q.rxMsg vc }) s)

/-- RTOG, ACK, CVC and CRED of a good flit (R250, R256, R257). -/
def takeFields (p : Nat) (h : Nat) (s : State) : State :=
  let q := portOf s p
  let ack := h / 2 ^ 20 % 4096
  let vc := h / 2 ^ 32 % 4
  let cred := h / 2 ^ 34 % 4096
  let freed := match q.replay with
    | f :: _ => let n := (ack + 1 + 4096 - f.seq) % 4096
                if n ≤ q.replay.length then n else 0
    | [] => 0
  let back := (cred + 4096 - Tab.getD q.credRx vc 0) % 4096
  let rt := h.testBit 7
  let s1 := portUpd p (fun q => { q with
      replay := q.replay.drop freed, used := Tab.put q.used vc (Tab.getD q.used vc 0 - back)
      credRx := Tab.put q.credRx vc cred, rtogRx := rt }) s
  pump p (if rt = q.rtogRx then s1 else replayAll p s1)

/-- A good DATA flit in sequence, with room for it (R256, R258). -/
def acceptFlit (p h : Nat) (payload : List Byte) (s : State) : State :=
  let vc := h / 16 % 4
  let s1 := portUpd p (fun q => { q with expected := (q.expected + 1) % 4096, timeouts := 0
                                         accepted := Tab.put q.accepted vc (Tab.getD q.accepted vc 0 + 1) }) s
  let s2 := setF (add48 s1 (R.LINK_FRX_LO_COUNT p) (R.LINK_FRX_HI_COUNT p) 1) (R.TWL_LL_STATUS_RETRYING p) 0
  dataFlit p vc (h.testBit 6) (h.testBit 46) (h.testBit 47) payload s2

/-- A good flit by its type (R250, R258, R259). -/
def goodFlit (p : Nat) (b : List Byte) (s : State) : State :=
  let h := leVal (b.take 6)
  let s1 := takeFields p h s
  match h % 16 with
  | 0 => s1
  | 1 =>
    let e := (portOf s1 p).expected
    let seq := h / 256 % 4096
    if seq = e then
      if vcBuffer (h / 16 % 4) ≤ occupancy (portOf s1 p) (h / 16 % 4) then enterRetry p (proto p s1)
      else acceptFlit p h (sub b 6 56) s1
    else if 2048 ≤ (seq + 4096 - e) % 4096 then incF s1 (R.LINK_DUP_FLITS_COUNT p)
    else enterRetry p s1
  | 2 => if 1 ≤ u8 b 6 ∧ u8 b 6 ≤ 4 then s1 else proto p s1
  | _ => proto p s1

/-- The result of a codeword on a lane: corrected symbols, none where it is uncorrectable (R227, R248). (DESIGN CHOICE log 28) -/
def codeword (p l : Nat) (corr : Option Nat) (s : State) : State :=
  let s1 := match corr with
    | some n => add48 s (R.LINK_CORR_LO_COUNT p) (R.LINK_CORR_HI_COUNT p) n
    | none => tally (R.TWL_UNC_CW_COUNT p) (16 + p) 8 p s
  laneUpd p l (fun x => { x with last8 := (corr.isNone :: x.last8).take 8 }) s1

/-- A flit arrives on lane l, the i-th of its codeword, whose decoding corrected a number of symbols or failed (R248 to
R258). -/
def flitRx (p l i : Nat) (corr : Option Nat) (b : List Byte) (s : State) : State :=
  let s1 := if i = 0 then codeword p l corr s else s
  let crcOk := crc16 (b.take 62) == u16 b 62
  let good := corr.isSome && crcOk && inLock s1 p l
  let s2 := if good then goodFlit p b s1
            else enterRetry p (if corr.isSome && !crcOk then tally (R.TWL_FLIT_BAD_COUNT p) (16 + p) 8 p s1 else s1)
  if i = 4 ∧ 3 ≤ ((laneOf s2 p l).last8.filter id).length then laneLost p l s2 else s2

/-- (DESIGN CHOICE log 28) -/
def execFlitRx (p l i : Nat) (corr : Option Nat) (b : List Byte) (s : State) : Out :=
  .next (if alive s && decide (p < 8) && decide (l < 4) && pstate s p == 3 && decide (1 ≤ lstate s p) &&
      decide (lstate s p ≤ 4) && b.length == 64 then flitRx p l i corr b s else s)

/-- The retry timer reaches RETRY_US (R258). -/
def execRetryTimeout (p : Nat) (s : State) : Out :=
  .next (
    if !alive s || !isSet s (R.TWL_LL_STATUS_RETRYING p) then s
    else
      let s1 := portUpd p (fun q => { q with timeouts := q.timeouts + 1 }) s
      if 8 ≤ (portOf s1 p).timeouts then linkLost p 3 s1 else toggleRtog p s1)

/-- The oldest unacknowledged flit has waited 128 µs (R258). -/
def execUnackedTimeout (p : Nat) (s : State) : Out :=
  .next (if alive s && !(portOf s p).replay.isEmpty && lstate s p != 5 then linkLost p 3 s else s)

end Sys2Proof.Machine
end

