-- ==== Sys2Proof/Machine/TwillPhy.lean ====
section
/-!
DEFINITION. The Twill physical layer (R206 to R246): loss of signal, training, calibration, equalisation settings and the
test facilities.
-/

namespace Sys2Proof.Machine

/-! ### The topology ports of a tile (R16) -/

/-- A tile takes a port that reaches ACTIVE as its next topology port; with the second, the others are held. -/
def chooseTopo (p : Nat) (s : State) : State :=
  if sender s ∨ s.twl.topo.contains p ∨ 2 ≤ s.twl.topo.length then s
  else
    let s1 := { s with twl := { s.twl with topo := s.twl.topo ++ [p] } }
    if s1.twl.topo.length < 2 then s1
    else (ports.filter (fun q => !s1.twl.topo.contains q)).foldl (fun a q => holdPort q (linkDown q 0 a)) s1

/-! ### Loss of signal and lock (R225 to R227) -/

/-- The clock lane goes out of lock: every receive lane with it, and the link is lost with cause 1. -/
def clockLost (p : Nat) (s : State) : State :=
  let s1 := phyLevel p R.TWL_PHY_STATUS_CLK_LOL 1 (setB s (R.LANE_W0_LOCK p 4) false)
  let locked := dataLanes.filter (inLock s1 p)
  let s2 := if pstate s p = 3 then
      locked.foldl (fun a l => occur (16 + p) 8 p 0 (incF a (R.LANE_CNT_LOL_CNT p l))) s1 else s1
  if lstate s2 p = 0 then
    (if pstate s2 p = 2 ∨ pstate s2 p = 3 then startTrain p (ownStep s2 p) (dataLanes.foldl (fun a l => laneLock p l false a) s2) else s2)
  else linkLost p 1 (dataLanes.foldl (fun a l => laneLock p l false a) s2)

/-- Loss of signal asserts on a data lane 0 to 3, or on the clock lane as lane 4 (R225). A HELD port ignores it. -/
def execLosAssert (p l : Nat) (s : State) : Out :=
  .next (
    if !alive s || pstate s p == 0 || decide (8 ≤ p) || decide (5 ≤ l) || isSet s (R.LANE_W0_LOS p l) then s
    else
      let s1 := occur (16 + p) 8 p 0 (incF (setB s (R.LANE_W0_LOS p l) true) (R.LANE_CNT_LOS_CNT p l))
      if l = 4 then clockLost p (phyLevel p R.TWL_PHY_STATUS_CLK_LOS 1 s1)
      else if pstate s1 p = 3 then laneLost p l s1
      else laneUpd p l Lane.fresh (laneLock p l false s1))

/-- Loss of signal deasserts (R225). With the clock lane's, a port in WAIT goes on to TRAIN (R218). -/
def execLosDeassert (p l : Nat) (s : State) : Out :=
  .next (
    if !alive s || pstate s p == 0 || decide (8 ≤ p) || decide (5 ≤ l) then s
    else
      let s1 := setB s (R.LANE_W0_LOS p l) false
      if l ≠ 4 then s1
      else
        let s2 := phyLevel p R.TWL_PHY_STATUS_CLK_LOS 0 s1
        if pstate s2 p = 1 then setF s2 (R.TWL_PHY_STATUS_PSTATE p) 2 else s2)

/-- The clock lane leaves its frequency window (R226). -/
def execClockOutOfLock (p : Nat) (s : State) : Out :=
  .next (if alive s && decide (p < 8) && (pstate s p == 2 || pstate s p == 3) then clockLost p s else s)

/-- A receive data lane's phase tracker would leave ±0.35 UI (R213, R227). -/
def execLaneOutOfLock (p l : Nat) (s : State) : Out :=
  .next (if alive s && decide (p < 8) && decide (l < 4) then laneLost p l s else s)

/-! ### Training (R218 to R220) -/

/-- The nominal clock-lane frequency of a step in Hz (Table 8.1). -/
def clockHz (step : Nat) : Nat := match step with | 0 => 6640625000 | 1 => 3320312500 | _ => 1660156250

/-- A frequency is measured as a step within ±1,000 ppm. -/
def stepOfHz (f : Nat) : Option Nat :=
  [0, 1, 2].find? (fun st => decide ((max f (clockHz st) - min f (clockHz st)) * 1000 ≤ clockHz st))

/-- The 20 µs measurement of the received clock ends, with a frequency in Hz (R218, R219). -/
def frequencyMeasured (p f : Nat) (s : State) : State :=
  match stepOfHz f with
  | none => tally (R.TWL_FREQ_BAD_COUNT p) (16 + p) 7 p s
  | some m =>
    let r := getF s (R.TWL_PHY_STATUS_RATE p)
    if r < m then portUpd p (fun q => { q with measured := some m }) (startTrain p m s)
    else
      let s1 := portUpd p (fun q => { q with measured := some m }) s
      if m = r then phyLevel p R.TWL_PHY_STATUS_CLK_LOL 0 (setB s1 (R.LANE_W0_LOCK p 4) true) else s1

def execFrequencyMeasured (p f : Nat) (s : State) : Out :=
  .next (if alive s && decide (p < 8) && pstate s p == 2 then frequencyMeasured p f s else s)

/-- Receive lanes that the neighbour's signal reaches. -/
def receivedLanes (s : State) (p : Nat) : List Nat :=
  dataLanes.filter (fun l => !isSet s (R.LANE_W0_LOS p l) && !(getF s (R.TWL_PHY_STATUS_MISWIRE p)).testBit l)

/-- ACK is set once every received lane is aligned; with ACK in both directions the countdown runs and data slots begin;
with a lane that expects data as well, the port is ACTIVE. The countdown's 15 slots are not waited for. -/
def trainStep (p : Nat) (s : State) : State :=
  if pstate s p ≠ 2 then s
  else
    let rl := receivedLanes s p
    let ack := (portOf s p).ackTx || (!rl.isEmpty && rl.all (fun l => (laneOf s p l).aligned))
    let s1 := portUpd p (fun q => { q with ackTx := ack }) s
    let go := ack && (portOf s1 p).ackRx
    let s2 := if go && !(portOf s1 p).sending then
        phyLevel p R.TWL_PHY_STATUS_TX_LANES 0xF (portUpd p (fun q => { q with sending := true }) s1) else s1
    if go ∧ dataLanes.any (fun l => (laneOf s2 p l).data) then
      linkActive p (chooseTopo p (setF s2 (R.TWL_PHY_STATUS_PSTATE p) 3))
    else s2

/-- A calibration takes its first run on a lane. -/
def calBegin (p l : Nat) (s : State) : State := laneUpd p l (fun x => { x with calibrating := true, runs := [] }) s

/-- MISWIRE of a lane (R220). -/
def miswire (p l : Nat) (bad : Bool) (s : State) : State :=
  let was := (getF s (R.TWL_PHY_STATUS_MISWIRE p)).testBit l
  let s1 := phyBit p R.TWL_PHY_STATUS_MISWIRE l bad s
  let any := getF s1 (R.TWL_PHY_STATUS_MISWIRE p) != 0
  if bad && !was then levelRise (16 + p) 6 p s1
  else if was && !bad && !any then levelFall (16 + p) 6 s1
  else s1

/-- A training block is well formed (R216). -/
def blockGood (b : List Byte) : Bool :=
  decide (20 ≤ b.length) && u16 b 18 == crc16 (sub b 8 10) && decide (0 < u32 b 14) && decide (u32 b 14 < 2147483648) &&
    decide (u8 b 8 < 64) && decide (u8 b 9 < 32) && decide (u8 b 10 < 16) && u8 b 11 == 0 &&
    sub b 0 8 == [0xE7, 0x3A, 0x1C, 0x5B, 0xE7, 0x3A, 0x1C, 0x5B]

/-- A training block arrives on receive lane l (R216 to R220, R228): its first 20 bytes as read with the input inverted
where `inv` says so, and the deskew depth the lane needs. -/
def trainingBlock (p l skew : Nat) (inv : Bool) (b : List Byte) (s : State) : State :=
  let s0 := setF s (R.TWL_PHY_STATUS_PEER_PORT p) (u8 b 8 / 8)
  if u8 b 8 % 8 ≠ l then miswire p l true (laneUpd p l Lane.fresh (laneLock p l false s0))
  else
    let s1 := setB (miswire p l false s0) (R.LANE_W0_POL_AUTO p l) inv
    let s2 := setF (laneUpd p l (fun x => { x with scr := u32 b 14 }) s1) (R.LANE_W0_DESKEW p l) (min 47 skew)
    let x := laneOf s2 p l
    let s3 := if !x.aligned && !x.calibrating && !x.retry && decide (x.fails < 8) then calBegin p l s2 else s2
    if pstate s3 p ≠ 2 then s3
    else
      let s4 := portUpd p (fun q => { q with ackRx := (u8 b 9).testBit 4 }) s3
      let s5 := if u8 b 10 % 16 = 0 ∧ (laneOf s4 p l).aligned then laneUpd p l (fun x => { x with data := true }) s4 else s4
      trainStep p s5

def execTrainingBlock (p l skew : Nat) (inv : Bool) (b : List Byte) (s : State) : Out :=
  .next (
    if alive s && decide (p < 8) && decide (l < 4) && blockGood b && !isSet s (R.LANE_W0_LOS p l) &&
        !isSet s (R.TWL_PHY_STATUS_CLK_LOL p) && !isSet s (R.LANE_W0_PARKED p l) &&
        (pstate s p == 2 || (pstate s p == 3 && !(laneOf s p l).data)) then trainingBlock p l skew inv b s
    else s)

/-- A port has not reached ACTIVE within 2 ms (R218, R267). -/
def execTrainingTimeout (p : Nat) (s : State) : Out :=
  .next (
    if !alive s || decide (8 ≤ p) || pstate s p != 2 then s
    else
      let s1 := noteStepFail p (tally (R.TWL_TRAIN_FAIL_COUNT p) (16 + p) 8 p s)
      let s2 := portUpd p (fun q => { q with trainFails := q.trainFails + 1 }) s1
      startTrain p (ownStep s2 p) s2)

/-! ### Calibration (R230 to R233) -/

/-- One run's values: phase and the lower, middle and upper threshold. -/
abbrev CalRun : Type := Nat × Int × Int × Int

/-- Two runs agree (R231). -/
def runsAgree (s : State) (p : Nat) (a b : Option CalRun) : Bool :=
  match a, b with
  | some x, some y =>
    let tol := getF s (R.TWL_PHY_CTRL_CAL_TOL_MV p)
    decide (max x.1 y.1 - min x.1 y.1 ≤ getF s (R.TWL_PHY_CTRL_CAL_TOL_PH p)) && decide ((x.2.1 - y.2.1).natAbs ≤ tol) &&
      decide ((x.2.2.1 - y.2.2.1).natAbs ≤ tol) && decide ((x.2.2.2 - y.2.2.2).natAbs ≤ tol)
  | _, _ => false

/-- A mean rounded half up, toward +∞. -/
def meanUp (a b : Int) : Int := (a + b + 1) / 2

/-- The mean of two runs. (DEDUCED log 34) -/
def runMean (a b : Option CalRun) : Option CalRun :=
  match a, b with
  | some x, some y => some ((x.1 + y.1 + 1) / 2, meanUp x.2.1 y.2.1, meanUp x.2.2.1 y.2.2.1, meanUp x.2.2.2 y.2.2.2)
  | _, _ => none

/-- What the runs so far decide: nothing yet, values, or disagreement. (DEDUCED log 34) -/
def calVerdict (s : State) (p : Nat) (l : List (Option CalRun)) : Option (Option CalRun) :=
  match l with
  | [a, b] => if runsAgree s p a b then some (runMean a b) else none
  | [a, b, c] =>
    if runsAgree s p b c then some (runMean b c)
    else if runsAgree s p a c then some (runMean a c)
    else some none
  | _ => none

/-- A signed quotient whose rounding the spec does not state. (DESIGN CHOICE log 8) -/
def inexactI (site : Nat) (num : Int) (den : Nat) : Int :=
  let q := num / (den : Int)
  if num % (den : Int) = 0 then q else q + (if Config.roundsUp site num.natAbs den then 1 else 0)

/-- Applies calibration values to a lane. (DEDUCED log 34) -/
def calApply (p l : Nat) (v : CalRun) (s : State) : State :=
  let s1 := setI (setI (setI s (R.LANE_THR_THR_LO p l) v.2.1) (R.LANE_THR_THR_MID p l) v.2.2.1) (R.LANE_THR_THR_HI p l) v.2.2.2
  let s2 := setI (setF (setF s1 (R.LANE_CAL_CAL_PHASE p l) v.1) (R.LANE_W0_PH_OFS p l) 0) (R.LANE_CAL_T_CAL p l)
    (inexactI 5 (getI s (R.THM_SENS_USED (12 + p))) 16)
  laneUpd p l (fun x => { x with calibrated := true }) (incF (incF s2 (R.LANE_CAL_CAL_COUNT p l)) (R.TWL_CAL_DONE_COUNT p))

/-- The lane threshold of THM is tripped (R232, R395). -/
def laneTripped (s : State) (p l : Nat) : Bool :=
  match Tab.get s.thm.lanes (4 * p + l) with | some e => e.1 == 2 || e.1 == 3 | none => false

/-- A calibration ends on a lane: aligned again where it holds values. -/
def calEnd (p l : Nat) (applied : Bool) (s : State) : State :=
  let held := (laneOf s p l).calibrated
  let mine := getF s (R.TWL_PHY_STATUS_CAL_LANE p) == l
  let s1 := laneUpd p l (fun x => { x with calibrating := false, runs := []
                                           retry := !applied && (!held || laneTripped s p l)
                                           fails := if applied then x.fails else if held then x.fails else x.fails + 1 }) s
  let s2 := if mine then calOutcome p l (if applied then 0 else 1) (setF s1 (R.TWL_PHY_STATUS_CAL_LANE p) 0xF) else s1
  if !held then s2
  else
    let t := laneUpd p l (fun x => { x with aligned := true }) (laneLock p l true s2)
    if pstate t p = 3 then laneReady p l t else trainStep p t

/-- A calibration run ends (R230, R231): its values, none where it failed. -/
def calRunDone (p l : Nat) (r : Option CalRun) (s : State) : State :=
  let s1 := laneUpd p l (fun x => { x with runs := x.runs ++ [r] }) s
  match calVerdict s1 p (laneOf s1 p l).runs with
  | none => s1
  | some (some v) => calEnd p l true (calApply p l v s1)
  | some none => calEnd p l false (tally (R.TWL_CAL_DISAGREE_COUNT p) (16 + p) 4 p s1)

def execCalRunDone (p l : Nat) (r : Option CalRun) (s : State) : Out :=
  .next (if alive s && decide (p < 8) && decide (l < 4) && (laneOf s p l).calibrating then calRunDone p l r s else s)

/-- Another data lane would stay in traffic. -/
def otherStays (s : State) (p l : Nat) : Bool := (trafficLanes s p).any (· != l)

/-- A lane's calibration is deferred (R233). -/
def calDeferLane (p l : Nat) (s : State) : State :=
  let s1 := tally (R.TWL_CAL_DEFER_COUNT p) (16 + p) 8 p s
  calOutcome p l 2 (portUpd p (fun q => { q with
    calReq := q.calReq.erase l, calDefer := if q.calDefer.contains l then q.calDefer else q.calDefer ++ [l] }) s1)

/-- Starts the calibration of the lowest lane that waits, one at a time; a parked lane waits for its test to end. -/
def calStart (p : Nat) (s : State) : State :=
  let q := portOf s p
  let cand := dataLanes.filter (fun l => (q.calReq.contains l || q.calDefer.contains l) && !isSet s (R.LANE_W0_PARKED p l))
  match cand.head? with
  | none => s
  | some l =>
    if getF s (R.TWL_PHY_STATUS_CAL_LANE p) ≠ 0xF then s
    else if !otherStays s p l then (if q.calReq.contains l then calDeferLane p l s else s)
    else
      let s1 := portUpd p (fun q => { q with calReq := q.calReq.erase l, calDefer := q.calDefer.erase l }) s
      let s2 := laneUpd p l (fun x => { x with aligned := false, data := false, calibrating := false, runs := [] }) s1
      laneOut p l (laneLock p l false (setF s2 (R.TWL_PHY_STATUS_CAL_LANE p) l))

def execCalStart (p : Nat) (s : State) : Out :=
  .next (if alive s && decide (p < 8) && pstate s p == 3 then calStart p s else s)

/-- Requests calibration of receive lanes (R232): requests that wait are served by one calibration; a lane that could not
leave traffic is deferred. -/
def calRequest (p mask : Nat) (s : State) : State :=
  let want := dataLanes.filter (fun l => mask.testBit l && getF s (R.TWL_PHY_STATUS_CAL_LANE p) != l)
  want.foldl (fun a l =>
    if (portOf a p).calReq.contains l ∨ (portOf a p).calDefer.contains l then a
    else
      let b := portUpd p (fun q => { q with calReq := q.calReq ++ [l], calRes := Tab.del q.calRes l }) a
      if otherStays b p l || isSet b (R.LANE_W0_PARKED p l) then b else calDeferLane p l b) s

/-- `calibrate` (R232): the reply follows when every named lane has an outcome. -/
def execCalibrate (k : Pkt) (s : State) : Out :=
  .next (plain k (fun t =>
    let p := k.p8 0
    if 8 ≤ p ∨ 16 ≤ k.p8 1 ∨ !parZero k 2 2 then .err St.badParam
    else if k.p8 1 = 0 then .ok t [3, 3, 3, 3]
    else .later (calRequest p (k.p8 1) (startBg k (portUpd p (fun q => { q with calRes := [] }) t)))) s)

/-- A write of TWL_CAL_CMD (R232, R244). -/
def calCmdWrite (p : Nat) (v : Word) (s : State) : State :=
  if mode s = mBoot then s else calRequest p (v.toNat % 16) s

def execCalCmdWrite (q p : Nat) (v : Word) (s : State) : Out :=
  .next (access q (16 + p) false 0x10 (calCmdWrite p v) s)

/-- The retry timer of a lane that disagreed or was not aligned runs out: 10 ms, or 10 s with its threshold tripped
(R231, R232). -/
def execCalRetryTimer (p l : Nat) (s : State) : Out :=
  .next (
    if !alive s || decide (8 ≤ p) || decide (4 ≤ l) || !(laneOf s p l).retry then s
    else
      let s1 := laneUpd p l (fun x => { x with retry := false }) s
      if (laneOf s1 p l).calibrated then (if laneTripped s1 p l then calRequest p (2 ^ l) s1 else s1)
      else calBegin p l s1)

/-! ### Equalisation (R222 to R224) -/

/-- CRC-32 of IEEE 802.3. -/
def crc32 (l : List Byte) : Nat := l.foldl (crcByte 0xEDB88320) 0xFFFFFFFF ^^^ 0xFFFFFFFF

/-- A lane setting is inside Table 8.8. -/
def eqOk (e : List Byte) (clock : Bool) : Bool :=
  decide (u8 e 0 ≤ 16) && decide (u8 e 1 ≤ 24) && decide (u8 e 0 + u8 e 1 ≤ 32) && decide (u8 e 2 ≤ 15) &&
    decide (u8 e 3 ≤ 15) && decide (u8 e 4 ≤ 48) && (!clock || u8 e 4 == 0) && decide (u8 e 5 < 4) && zeroAt e 6 2

/-- The board record a table holds for a strapped BOARD_ID, if the table and the record are good (R222, R223). -/
def eqRecord (t : List Byte) (board : Nat) : Option (List Byte) :=
  let n := u8 t 6
  let len := 32 + 992 * n
  if u32 t 0 = 0x51455754 ∧ u16 t 4 = 1 ∧ 1 ≤ n ∧ n ≤ 16 ∧ u32 t 8 = len ∧ len ≤ t.length ∧
      crc32 (patch (t.take len) 0x0C (zeros 4)) = u32 t 0x0C then
    match ((List.range n).map (fun i => sub t (32 + 992 * i) 992)).find? (fun r => u8 r 0 == board) with
    | some r =>
      if zeroAt r 1 1 && zeroAt r 0x14 12 && (List.range 120).all (fun i => eqOk (sub r (0x20 + 8 * i) 8) (i % 5 == 4)) then
        some r else none
    | none => none
  else none

/-- The table setting of a port, step and lane, 4 for the clock lane; the default of R223 where no record is in use. -/
def eqSetting (s : State) (p step l : Nat) : List Byte :=
  match eqRecord s.nv.eqTable (getF s R.SYS_MODE_BOARD_ID) with
  | some r => sub r (0x20 + 8 * (15 * p + 5 * step + l)) 8
  | none => [4, 10, 10, 8, if l = 4 then 0 else 16, 0, 0, 0]

/-- A setting as bits 25 to 0 of the EQ word (Table 8.17). -/
def eqPack (e : List Byte) : Nat :=
  u8 e 0 + u8 e 1 * 2 ^ 5 + u8 e 2 * 2 ^ 10 + u8 e 3 * 2 ^ 14 + u8 e 4 * 2 ^ 18 + u8 e 5 % 4 * 2 ^ 24

/-- The EQ word of a lane: the override in force, or the setting of the step in effect. -/
def eqWord (s : State) (p l : Nat) : Nat :=
  if isSet s (R.LANE_OVR_OVR_EN p l) && mode s == mService then getF s (R.LANE_OVR_EQ_OVR p l) + 2 ^ 31
  else eqPack (eqSetting s p (getF s (R.TWL_PHY_STATUS_RATE p)) l)

/-- At boot the equalisation table is read: EQ_DEFAULT of every port follows (R222, R223). -/
def eqLoad (s : State) : State :=
  let bad := (eqRecord s.nv.eqTable (getF s R.SYS_MODE_BOARD_ID)).isNone
  ports.foldl (fun a p =>
    let was := isSet a (R.TWL_PHY_STATUS_EQ_DEFAULT p)
    let b := phyLevel p R.TWL_PHY_STATUS_EQ_DEFAULT (if bad then 1 else 0) a
    if bad && !was then levelRise (16 + p) 5 p b else if was && !bad then levelFall (16 + p) 5 b else b) s

/-- A write of a lane's EQ_OVR word: an override is set only in SERVICE, and one that ends has its lane calibrated. -/
def eqOverrideWrite (q p l : Nat) (v : Word) (s : State) : State :=
  let en := (R.LANE_OVR_OVR_EN p l).of v == 1
  if en ∧ mode s ≠ mService then lockViol (16 + p) q true (0x1038 + 64 * l) s
  else storeWord (R.LANE_OVR p l) v s

def execEqOverrideWrite (q p l : Nat) (v : Word) (s : State) : Out :=
  .next (access q (16 + p) true (0x1038 + 64 * l) (eqOverrideWrite q p l v) s)

/-! ### Test facilities (R234 to R238) -/

/-- Both directions keep at least two data lanes in traffic beside lane l. -/
def twoOthers (s : State) (p l : Nat) : Bool :=
  decide (2 ≤ ((trafficLanes s p).filter (· != l)).length) &&
    decide (2 ≤ maskCount (maskBit (getF s (R.TWL_LL_STATUS_TX_MASK p)) l false))

/-- A lane may be under test now: in SERVICE, or with two others in traffic outside it. -/
def testAllowed (s : State) (p l : Nat) : Bool :=
  mode s == mService || (mode s != mBoot && (isSet s (R.LANE_W0_PARKED p l) || twoOthers s p l))

/-- A lane is parked: out of traffic in both directions. (DEDUCED log 34) -/
def parkLane (p l : Nat) (s : State) : State :=
  if isSet s (R.LANE_W0_PARKED p l) then s
  else
    let s1 := setB s (R.LANE_W0_PARKED p l) true
    if pstate s1 p ≠ 3 then s1
    else
      let mask := maskBit (getF s1 (R.TWL_LL_STATUS_TX_MASK p)) l false
      let s2 := if mask = 0 ∨ mask = getF s1 (R.TWL_LL_STATUS_TX_MASK p) then s1 else replayAll p (setTxMask p mask s1)
      laneOut p l (laneUpd p l (fun x => { x with aligned := false, data := false, calibrating := false, runs := [] })
        (laneLock p l false s2))

/-- A parked lane is released: it retrains alone (R228). -/
def unparkLane (p l : Nat) (s : State) : State :=
  setB (setB s (R.LANE_W0_PARKED p l) false) (R.LANE_W0_CHK_LOCK p l) false

/-- A write of a lane's test word (R234): patterns need a parked lane. A change of CHK_PAT starts a new search. (DEDUCED log 34) -/
def parkReqWrite (q p l : Nat) (v : Word) (s : State) : State :=
  let want := (R.LANE_TEST_PARK_REQ p l).of v == 1
  let pats := (R.LANE_TEST_GEN_PAT p l).of v != 0 || (R.LANE_TEST_CHK_PAT p l).of v != 0
  if 4 ≤ l then s
  else if (want && !testAllowed s p l) || (pats && !want) then lockViol (16 + p) q true (0x1004 + 64 * l) s
  else
    let new := (R.LANE_TEST_CHK_PAT p l).of v != getF s (R.LANE_TEST_CHK_PAT p l)
    let s1 := storeWord (R.LANE_TEST p l) v s
    let s2 := if new then setB s1 (R.LANE_W0_CHK_LOCK p l) false else s1
    if want then parkLane p l s2 else if isSet s2 (R.LANE_W0_PARKED p l) then unparkLane p l s2 else s2

def execParkReqWrite (q p l : Nat) (v : Word) (s : State) : Out :=
  .next (access q (16 + p) true (0x1004 + 64 * l) (parkReqWrite q p l v) s)

/-- Error injection is allowed: into data in SERVICE, into a generated pattern as the generator (R234). -/
def injAllowed (s : State) (p l : Nat) : Bool :=
  mode s == mService || (getF s (R.LANE_TEST_GEN_PAT p l) != 0 && testAllowed s p l)

/-- A write of a lane's injection word (R238): a mode other than off needs permission; INJ_GO inverts one bit or a burst,
which is over at once in this model. (DEDUCED log 34) -/
def injWrite (q p l : Nat) (v : Word) (s : State) : State :=
  let m := (R.LANE_INJ_INJ_MODE p l).of v
  if 4 ≤ l then s
  else if m ≠ 0 ∧ !injAllowed s p l then lockViol (16 + p) q true (0x1008 + 64 * l) s
  else
    let s1 := storeWord (R.LANE_INJ p l) v s
    if (R.LANE_INJ_INJ_GO p l).of v = 0 then s1
    else
      let n := if m = 1 then 1 else if m = 2 then getF s1 (R.LANE_INJ_BURST_LEN p l) else 0
      if n = 0 then s1 else send (addF s1 (R.LANE_INJECTED_COUNT p l) n) (.phy p 4 (l * 256 + n))

def execInjGo (q p l : Nat) (v : Word) (s : State) : Out :=
  .next (access q (16 + p) true (0x1008 + 64 * l) (injWrite q p l v) s)

/-- A test loop ends: the port trains from step 1, unless it must be held. (DEDUCED log 34) -/
def loopEnd (p : Nat) (s : State) : State :=
  let s1 := setF s (R.TWL_TEST_CTRL_LOOP p) 0
  if mustHold s1 p then holdPort p s1 else startTrain p (ownStep s1 p) s1

/-- A write of TWL_TEST_CTRL (R234, R235): allowed in SERVICE only. (DEDUCED log 34) -/
def testCtrlWrite (q p : Nat) (v : Word) (s : State) : State :=
  if mode s ≠ mService then lockViol (16 + p) q false 0x20 s
  else
    let was := getF s (R.TWL_TEST_CTRL_LOOP p)
    let s1 := storeWord (R.TWL_TEST_CTRL p) v s
    let now := getF s1 (R.TWL_TEST_CTRL_LOOP p)
    if now = was then s1
    else if now = 0 then loopEnd p s1
    else if was = 0 then send (setF (lanesDown p (linkDown p 0 s1)) (R.TWL_PHY_STATUS_PSTATE p) 4) (.phy p 5 now)
    else send s1 (.phy p 5 now)

def execTestLoopWrite (q p : Nat) (v : Word) (s : State) : Out :=
  .next (access q (16 + p) false 0x20 (testCtrlWrite q p v) s)

/-- TIMEOUT_S seconds have passed in a test loop (R235). -/
def execLoopTimeout (p : Nat) (s : State) : Out :=
  .next (if alive s && decide (p < 8) && pstate s p == 4 then loopEnd p s else s)

/-- A write of TWL_PHY_CTRL (R217, R243): TX_IDLE holds the port or releases it to WAIT. (DEDUCED log 34) -/
def phyCtrlWrite (p : Nat) (v : Word) (s : State) : State :=
  let was := isSet s (R.TWL_PHY_CTRL_TX_IDLE p)
  let s1 := storeWord (R.TWL_PHY_CTRL p) v s
  let now := isSet s1 (R.TWL_PHY_CTRL_TX_IDLE p)
  if now && !was then holdPort p (linkDown p 0 s1)
  else if was && !now && !mustHold s1 p then releasePort p s1
  else s1

def execTxIdleWrite (q p : Nat) (v : Word) (s : State) : Out :=
  .next (access q (16 + p) false 0 (phyCtrlWrite p v) s)

/-- A lane's checker locks (R237). -/
def execCheckerLock (p l : Nat) (s : State) : Out :=
  .next (if alive s && decide (p < 8) && decide (l < 4) && getF s (R.LANE_TEST_CHK_PAT p l) != 0 then
    setB s (R.LANE_W0_CHK_LOCK p l) true else s)

/-- A locked checker loses lock (R237): the bits it compared and the errors it saw since it locked count now. -/
def execCheckerLockLoss (p l bits errs : Nat) (s : State) : Out :=
  .next (if alive s && decide (p < 8) && decide (l < 4) && isSet s (R.LANE_W0_CHK_LOCK p l) then
    add48 (add48 (setB s (R.LANE_W0_CHK_LOCK p l) false) (R.LANE_BITS_LO_COUNT p l) (R.LANE_BITS_HI_COUNT p l) bits)
      (R.LANE_ERR_LO_COUNT p l) (R.LANE_ERR_HI_COUNT p l) errs
  else s)

/-- Leaving SERVICE: loops end, test settings reset, overrides end and their lanes are calibrated (R224, R235, R244). -/
def twillLeaveService (s : State) : State :=
  ports.foldl (fun a p =>
    let ovr := (dataLanes.filter (fun l => isSet a (R.LANE_OVR_OVR_EN p l))).foldl (fun m l => m + 2 ^ l) 0
    let b := (if getF a (R.TWL_TEST_CTRL_LOOP p) ≠ 0 then loopEnd p a else a)
    let c := regPut b (R.TWL_TEST_CTRL p) (regReset (R.TWL_TEST_CTRL p))
    let d := [0, 1, 2, 3, 4].foldl (fun x l => setB x (R.LANE_OVR_OVR_EN p l) false) c
    if ovr = 0 then d else calRequest p ovr d) s

end Sys2Proof.Machine
end

