-- ==== Sys2Proof/Machine/Discovery.lean ====
section
/-!
DEFINITION. Discovery and numbering, link events, LIVENESS and dual-homed failover (R271 to R285), and commit-map, whose
slots are admitted by what discovery found.
-/

namespace Sys2Proof.Machine

/-! ### Replies of a run (R275 to R277) -/

/-- Tiles found so far: replies from tiles at consecutive hops, at most 64. -/
def foundTiles (q : Port) : Nat :=
  (List.range 64).foldl (fun n h =>
    if n = h then (match Tab.get q.replies (h + 1) with
      | some r => if bitAt r 2 3 || bitAt r 2 0 then n else n + 1
      | none => n) else n) 0

/-- The reply of a peer sender, or of a tile beyond hop 64, after the tiles found. -/
def endReply (q : Port) : Option (List Byte) := Tab.get q.replies (foundTiles q + 1)

/-- The run has reached its end: a tile without a further link, a peer sender, a tile beyond hop 64, or its own DISCOVER
back on another port. -/
def runEnded (q : Port) : Bool :=
  let n := foundTiles q
  q.closed.isSome || (match endReply q with | some r => bitAt r 2 3 || bitAt r 2 0 | none => false) ||
    (decide (0 < n) && (match Tab.get q.replies n with | some r => !bitAt r 2 1 | none => false))

/-- KIND of a run: 2 a ring, 3 dual-homed, 1 a chain, 0 nothing found. -/
def runKind (q : Port) : Nat :=
  if q.closed.isSome then 2
  else if (match endReply q with | some r => bitAt r 2 3 | none => false) then 3
  else if foundTiles q = 0 then 0 else 1

/-- The slot of the position at hop h of port p (R277). -/
def positionSlot (s : State) (p h : Nat) : Option Nat :=
  let at_ := fun (pp hh : Nat) =>
    ((s.cel.slots.filter (fun e => u8 e.2.entry 2 == pp && u8 e.2.entry 3 == hh)).map Prod.fst).head?
  match at_ p h with
  | some i => some i
  | none => if portTopo s p = 2 ∧ h ≤ portTiles s p then at_ (portPartner s p) (portTiles s p + 1 - h) else none

/-- Where a run differs from the port table (R277). -/
def runMismatch (s : State) (p : Nat) : Bool :=
  let q := portOf s p
  mapValid s && (runKind q != portTopo s p || foundTiles q != portTiles s p ||
    (portTopo s p == 2 && q.closed != some (portPartner s p)))

/-! ### Numbering (R278) and admission (R180, R520) -/

/-- A sender at TPL n admits a tile of TPL t (R520). -/
def tplAdmits (n t : Nat) (backward : Bool) : Bool := t + 1 == n || t == n || (t == n + 1 && backward)

/-- Admits the tile of a slot that holds its number: not where the slot is served, backed up, or its TPL is refused. -/
def admitFound (i : Nat) (r : List Byte) (s : State) : State :=
  match Tab.get s.cel.slots i with
  | none => s
  | some sl =>
    let s1 := slotUpd i (fun o => { o with numbered := true }) s
    if backupSlot s1 sl.entry then (if slotState s1 i = 1 ∨ slotState s1 i = 3 then setF s1 (R.CEL_S_W0_STATE i) 6 else s1)
    else if slotState s1 i = 2 ∨ (slotState s1 i = 1 ∧ sl.notices ≠ 0) then s1
    else if !tplAdmits (ownTpl s1) (u8 r 3) (bitAt r 2 2) then
      tally R.UPD_TPL_REFUSE_N 15 4 0 (setF s1 (R.CEL_S_W0_STATE i) 1)
    else admitSlot i 0 s1

/-- Numbers the tile at hop h of port p, found with reply r: its number is right, or a PROBE starts. -/
def numberTile (p h : Nat) (r : List Byte) (s : State) : State :=
  match positionSlot s p h with
  | none => s
  | some i =>
    let n := getF s (R.CEL_S_W0_DEVNUM i)
    if u16 r 6 = n then admitFound i r s
    else
      let s1 := portUpd p (fun q => { q with numbering := Tab.put q.numbering h (sub r 16 16, 0, false) })
        (slotUpd i (fun o => { o with numbered := false }) s)
      broadcast (mkMsg s1 1 0x07 0xFFF (leBytes 2 n ++ zeros 2)) s1

/-- The reply of the discover command. -/
def discoverResult (s : State) (p : Nat) : List Byte :=
  let k := getF s (R.TWL_TOPO_KIND p)
  leBytes 1 (getF s (R.TWL_TOPO_FOUND p)) ++
    leBytes 1 (getF s (R.TWL_TOPO_OVER p) + (if k = 2 then 2 else 0) + (if k = 3 then 4 else 0) +
      8 * getF s (R.TWL_TOPO_MISMATCH p)) ++ leBytes 1 (getF s (R.TWL_TOPO_CLOSE_PORT p)) ++ [0]

/-- The discover command of a port ends with its run. -/
def discoverReply (p : Nat) (s : State) : State :=
  match Tab.get s.cps.bg 7 with
  | some k => if k.opcode == 0x0701 && k.p8 0 == p then finish k St.ok (discoverResult s p) (endBg 7 s) else s
  | none => s

/-- TWL_TOPO follows what a run has found so far; at its end REACH is the number of tiles found, and MISMATCH is judged
(R276, R277, R281). -/
def runUpdate (p : Nat) (s : State) : State :=
  let q := portOf s p
  let n := foundTiles q
  let overOn := match endReply q with | some r => bitAt r 2 0 | none => false
  let s1 := setF (setF (setB s (R.TWL_TOPO_OVER p) overOn) (R.TWL_TOPO_FOUND p) n) (R.TWL_TOPO_KIND p) (runKind q)
  let s2 := setF s1 (R.TWL_TOPO_CLOSE_PORT p) (q.closed.getD 0)
  if runEnded q then
    let was := isSet s2 (R.TWL_TOPO_MISMATCH p)
    let bad := runMismatch s2 p
    let s3 := setB (setF s2 (R.TWL_TOPO_REACH p) n) (R.TWL_TOPO_MISMATCH p) bad
    let s4 := if bad && !was then levelRise 9 4 p s3 else if was && !bad then levelFall 9 4 s3 else s3
    discoverReply p (reroute s4)
  else if reach s2 p < n then reroute (setF s2 (R.TWL_TOPO_REACH p) n)
  else s2

/-- `discover` (R275): refused where the port is not UP; the reply follows the end of the run. (DEDUCED log 35) -/
def execDiscover (k : Pkt) (s : State) : Out :=
  .next (plain k (fun t =>
    if 8 ≤ k.p8 0 ∨ !parZero k 1 3 then .err St.badParam
    else if lstate t (k.p8 0) ≠ 3 then .err St.badState
    else .later (startRun (k.p8 0) (startBg k t))) s)

/-- `get-topology`: one record for each tile found. -/
def execGetTopology (k : Pkt) (s : State) : Out :=
  .next (plain k (fun t =>
    let p := k.p8 0
    if 8 ≤ p ∨ !parZero k 1 3 then .err St.badParam
    else
      let q := portOf t p
      let one := fun (j : Nat) =>
        let h := j + 1
        let r := (Tab.get q.replies h).getD (zeros 32)
        let sl := positionSlot t p h
        let st := match sl with | some i => slotState t i | none => 0
        let dev := match sl with
          | some i => (match Tab.get t.cel.slots i with
            | some o => if o.numbered then getF t (R.CEL_S_W0_DEVNUM i) else u16 r 6 | none => u16 r 6)
          | none => u16 r 6
        leBytes 1 h ++ leBytes 1 st ++ leBytes 2 dev ++ leBytes 1 (u8 r 2) ++ leBytes 1 (u8 r 3) ++ leBytes 1 (u8 r 4) ++ [0]
      .ok t (((List.range (foundTiles q)).map one).flatten)) s)

/-! ### DISCOVER and its replies -/

/-- DISCOVER_REPLY of this device (Table 9.10). -/
def discoverReplyBytes (s : State) (p run hop : Nat) (overOn : Bool) : List Byte :=
  let other := !sender s && (match otherPort s p with | some o => linkUp s o | none => false)
  let g := if geomReady s then layerGeom s else (0, 0)
  let fl := (if overOn then 1 else 0) + (if other then 2 else 0) + (if ownBackward s then 4 else 0) +
    (if sender s then 8 else 0) + (if getF s R.DMK_STATUS_FL_STATE = 2 then 16 else 0)
  leBytes 1 run ++ leBytes 1 hop ++ leBytes 1 fl ++ leBytes 1 (ownTpl s) ++ leBytes 1 (ownCsl s) ++ leBytes 1 p ++
    leBytes 2 s.cps.devnum ++ leBytes 2 g.1 ++ leBytes 2 g.2 ++ zeros 4 ++ certId s

/-- DISCOVER at a tile: it replies out of the arrival port. (DEDUCED log 35) -/
def discoverTile (p : Nat) (m : Msg) (s0 : State) : State :=
  let s := adoptGeometry s0
  let hop := m.hops + 1
  let overOn := decide (65 ≤ hop)
  let s1 := { setF (setB s (R.TWL_TOPO_OVER p) overOn) (R.TWL_TOPO_FOUND p) hop with
              twl := { s.twl with discTpl := Tab.put s.twl.discTpl m.src (u8 m.payload 2) } }
  sendMsg p (mkMsg s1 1 0x04 m.src (discoverReplyBytes s1 p (u8 m.payload 1) hop overOn)) s1

/-- DISCOVER at a sender (R276): its own, back on another port, closes a ring; another sender's is answered. -/
def discoverSender (p : Nat) (m : Msg) (s : State) : State :=
  if m.src = s.cps.devnum then
    let o := u8 m.payload 0
    if o < 8 ∧ o ≠ p ∧ u8 m.payload 1 = (portOf s o).run then
      runUpdate o (portUpd o (fun q => { q with closed := some p }) s)
    else s
  else sendMsg p (mkMsg s 1 0x04 m.src (discoverReplyBytes s p (u8 m.payload 1) (m.hops + 1) false)) s

/-- DISCOVER arrives (R275, R276). -/
def execDiscoverMessage (p : Nat) (m : Msg) (s : State) : Out :=
  .next (msgIn p m (fun t => if sender t then discoverSender p m t else discoverTile p m t) s)

/-- DISCOVER_REPLY arrives at the sender (R277, R278). -/
def takeDiscoverReply (p : Nat) (m : Msg) (s : State) : State :=
  let r := m.payload
  let h := u8 r 1
  if !sender s ∨ u8 r 0 ≠ (portOf s p).run ∨ h = 0 ∨ 65 < h then s
  else
    let isSender := bitAt r 2 3
    let s1 := portUpd p (fun q => { q with replies := Tab.put q.replies h r
                                           peerSender := if isSender then some (u16 r 6) else q.peerSender }) s
    let s2 := runUpdate p s1
    if isSender || bitAt r 2 0 || decide (64 < h) || !mapValid s2 then s2 else numberTile p h r s2

def execDiscoverReply (p : Nat) (m : Msg) (s : State) : Out := .next (msgIn p m (takeDiscoverReply p m) s)

/-! ### PROBE and ASSIGN -/

/-- PROBE arrives: a device that holds the number answers out of the arrival port. -/
def execProbe (p : Nat) (m : Msg) (s : State) : Out :=
  .next (msgIn p m (fun t =>
    if u16 m.payload 0 = t.cps.devnum ∧ t.cps.devnum ≠ 0xFFF then
      sendMsg p (mkMsg t 1 0x08 m.src (leBytes 2 t.cps.devnum ++ zeros 2 ++ certId t)) t
    else t) s)

/-- The positions under numbering whose number is `n`: port and hop. -/
def seeking (s : State) (n : Nat) : List (Nat × Nat) :=
  (ports.map (fun p => ((portOf s p).numbering.filter (fun e =>
    match positionSlot s p e.1 with | some i => getF s (R.CEL_S_W0_DEVNUM i) == n | none => false)).map
      (fun e => (p, e.1)))).flatten

/-- PROBE_REPLY arrives: another device holds the number, and DUP_DEVICE is raised (R22, R278). -/
def takeProbeReply (m : Msg) (s : State) : State :=
  if !sender s then s
  else (seeking s (u16 m.payload 0)).foldl (fun a e =>
    match Tab.get (portOf a e.1).numbering e.2 with
    | some x =>
      if x.1 = sub m.payload 4 16 ∨ x.2.2 then a
      else
        let b := portUpd e.1 (fun q => { q with numbering := Tab.put q.numbering e.2 (x.1, x.2.1, true) }) a
        occur 9 3 ((positionSlot b e.1 e.2).getD 0) 0 b
    | none => a) s

def execProbeReply (p : Nat) (m : Msg) (s : State) : Out := .next (msgIn p m (takeProbeReply m) s)

/-- Sends ASSIGN to hop h, and counts it. -/
def sendAssign (p h : Nat) (x : List Byte × Nat × Bool) (s : State) : State :=
  match positionSlot s p h with
  | none => portUpd p (fun q => { q with numbering := Tab.del q.numbering h }) s
  | some i =>
    let s1 := portUpd p (fun q => { q with numbering := Tab.put q.numbering h (x.1, x.2.1 + 1, x.2.2) }) s
    sendMsg p (mkHop s1 0x05 h (leBytes 1 (portOf s1 p).run ++ [0] ++ leBytes 2 (getF s1 (R.CEL_S_W0_DEVNUM i)) ++ zeros 4 ++ x.1)) s1

/-- 2 ms after PROBE (R278): ASSIGN, or no admission where the number is held elsewhere. -/
def execProbeWaitExpiry (p h : Nat) (s : State) : Out :=
  .next (
    if !running s || !sender s then s
    else match Tab.get (portOf s p).numbering h with
      | some x =>
        if x.2.1 ≠ 0 then s
        else if x.2.2 then portUpd p (fun q => { q with numbering := Tab.del q.numbering h }) s
        else sendAssign p h x s
      | none => s)

/-- ASSIGN arrives at a tile: it takes the number where the CERT_ID is its own. -/
def takeAssign (p : Nat) (m : Msg) (s : State) : State :=
  if sender s then s
  else
    let mine := sub m.payload 8 16 == certId s
    let n := u16 m.payload 2
    let s1 := if mine then { s with cps := { s.cps with devnum := n } } else s
    sendMsg p (mkMsg s1 1 0x06 m.src (leBytes 2 n ++ leBytes 1 (if mine then 0 else 1) ++ [0])) s1

def execAssign (p : Nat) (m : Msg) (s : State) : Out := .next (msgIn p m (takeAssign p m) s)

/-- ASSIGN_ACK with STATUS 0: the tile holds its number and is admitted (R180, R278). -/
def takeAssignAck (m : Msg) (s : State) : State :=
  if !sender s ∨ u8 m.payload 2 ≠ 0 then s
  else (seeking s (u16 m.payload 0)).foldl (fun a e =>
    match Tab.get (portOf a e.1).numbering e.2, positionSlot a e.1 e.2 with
    | some x, some i =>
      if x.2.1 = 0 then a
      else admitFound i ((Tab.get (portOf a e.1).replies e.2).getD (zeros 32))
        (portUpd e.1 (fun q => { q with numbering := Tab.del q.numbering e.2 }) a)
    | _, _ => a) s

def execAssignAck (p : Nat) (m : Msg) (s : State) : Out := .next (msgIn p m (takeAssignAck m) s)

/-- No ASSIGN_ACK within 10 ms: sent again up to 3 times (R278). -/
def execAssignRetryTimeout (p h : Nat) (s : State) : Out :=
  .next (
    if !running s || !sender s then s
    else match Tab.get (portOf s p).numbering h with
      | some x =>
        if x.2.1 = 0 then s
        else if x.2.1 < 4 then sendAssign p h x s
        else portUpd p (fun q => { q with numbering := Tab.del q.numbering h }) s
      | none => s)

/-! ### Link events (R280, R281) -/

/-- LINK_EVENT at a sender: a loss lowers the reach; a return starts HEAL_HOLD. -/
def takeLinkEvent (p : Nat) (m : Msg) (s : State) : State :=
  if !sender s then s
  else if u8 m.payload 1 = 1 then portUpd p (fun q => { q with heal := true }) s
  else reachFall p (m.hops + 1) s

def execLinkEvent (p : Nat) (m : Msg) (s : State) : Out := .next (msgIn p m (takeLinkEvent p m) s)

/-- HEAL_HOLD after the last LINK_UP event: discovery runs (R275). -/
def execHealHoldExpiry (p : Nat) (s : State) : Out :=
  .next (
    if running s && sender s && (portOf s p).heal then
      let s1 := portUpd p (fun q => { q with heal := false }) s
      if lstate s1 p = 3 then startRun p s1 else s1
    else s)

/-! ### LIVENESS and failover (R273, R283 to R285) -/

/-- LIVENESS of a sender on each port whose map entry has TOPO not 0. -/
def sendLiveness (frame : Nat) (s : State) : State :=
  if !mapValid s then s
  else (ports.filter (fun p => portTopo s p != 0 && linkUp s p)).foldl (fun a p =>
    let fl := if portTopo s p = 3 then (if portPrimary s p then 1 else 2) else 0
    sendMsg p (mkMsg a 1 0x0A 0xFFF (leBytes 4 frame ++ leBytes 1 fl ++ zeros 3)) a) s

/-- Every 10 ms a sender without present instants sends LIVENESS with FRAME 0. -/
def execLivenessIdleTimer (s : State) : Out :=
  .next (if running s && sender s && !hasInstants s then sendLiveness 0 s else s)

/-- The sender a tile is served by. -/
def servedBy (s : State) : Option Nat :=
  if isSet s R.CEL_T_STATUS_SERVED then some (getF s R.CEL_T_STATUS_SENDER) else none

/-- FRAME of a LIVENESS against the device's own frame number (R315); a FRAME of 0 names none. -/
def livenessFrame (fr : Nat) (s : State) : State :=
  if fr ≠ 0 ∧ hasInstants s ∧ 1 < (frameDiff fr (frameNow0 s)).natAbs then tally R.FRAME_MISMATCH_COUNT 10 5 0 s else s

/-- LIVENESS at a tile: the upstream port follows the serving sender's, the smaller HOPS for one FRAME; a dual-homed ring
names its primary and backup. (DEDUCED log 23) -/
def takeLiveness (p : Nat) (m : Msg) (s : State) : State :=
  if sender s then s
  else
    let fr := u32 m.payload 0
    let fl := u8 m.payload 4
    let s1 := if fl % 2 = 1 then { s with twl := { s.twl with primary := some m.src } } else s
    let s2 := if fl / 2 % 2 = 1 then { s1 with twl := { s1.twl with backup := some (m.src, p) } } else s1
    if servedBy s2 ≠ some m.src then s2
    else
      let worse := match s2.twl.lastLive with
        | some (f, h, t) => f == fr && (fr != 0 || decide (ltNs s2 < t + 10000000)) && decide (h ≤ m.hops) &&
            s2.twl.upstream != some p
        | none => false
      if worse then s2
      else { s2 with twl := { s2.twl with upstream := some p, lastLive := some (fr, m.hops, ltNs s2) } }

def execLiveness (p : Nat) (m : Msg) (s : State) : Out := .next (msgIn p m (fun t => takeLiveness p m (livenessFrame (u32 m.payload 0) t)) s)

/-- No LIVENESS from the serving primary for three present periods: BACKUP_REQ to the backup (R284). -/
def execPrimaryLost (s : State) : Out :=
  .next (
    match s.twl.primary, s.twl.backup with
    | some a, some (b, p) =>
      if running s && !sender s && servedBy s == some a && linkUp s p then
        sendMsg p (mkMsg s 1 0x0B b (leBytes 2 a ++ zeros 2)) s
      else s
    | _, _ => s)

/-- BACKUP_REQ at the backup: the tile is admitted with a takeover slot notice (R19, R284). -/
def takeBackupReq (m : Msg) (s : State) : State :=
  match slotOf s m.src with
  | some i => if sender s && slotState s i == 6 then admitSlot i 1 (slotUpd i (fun o => { o with numbered := true }) s) else s
  | none => s

def execBackupReq (p : Nat) (m : Msg) (s : State) : Out := .next (msgIn p m (takeBackupReq m) s)

/-- BACKUP_RELEASE at the backup: the slot returns to state 6, its VALID bits cleared (R285). -/
def takeBackupRelease (m : Msg) (s : State) : State :=
  match slotOf s m.src with
  | some i => match Tab.get s.cel.slots i with
    | some sl => if sender s && backupSlot s sl.entry then setF (slotFull i (slotEmpty i s)) (R.CEL_S_W0_STATE i) 6 else s
    | none => s
  | none => s

def execBackupRelease (p : Nat) (m : Msg) (s : State) : Out := .next (msgIn p m (takeBackupRelease m) s)

/-- A neighbour's LOCKDOWN_NOTICE loses the link with cause 4 (R279). -/
def execLockdownNotice (p : Nat) (m : Msg) (s : State) : Out := .next (msgIn p m (fun t => linkLost p 4 t) s)

/-! ### commit-map -/

/-- After a map takes effect: routes, and the numbering of every tile that the last runs found (R277, R278). -/
def afterMap (s : State) : State :=
  let s1 := reroute s
  ports.foldl (fun a p =>
    ((List.range (foundTiles (portOf a p))).map (· + 1)).foldl (fun b h =>
      match Tab.get (portOf b p).replies h, positionSlot b p h with
      | some r, some i => (match Tab.get b.cel.slots i with
        | some o => if o.numbered then b else numberTile p h r b
        | none => b)
      | _, _ => b) a) s1

/-- Applies a map with what follows from it. -/
def mapTakes (m : List Byte) (s : State) : State := afterMap (applyMap m s)

/-- Commits a map (R178, R179): APPLY_FRAME and the state, none where a check fails. In SHOW it waits for a boundary. -/
def mapCommit (m : List Byte) (t : State) : Option (Nat × State) :=
  if !mapOk t m then none
  else if mode t = mShow then
    let n := nextBoundary t
    some (if hasBoundaries t then n else 0xFFFFFFFF,
      { t with cel := { t.cel with mapPending := some (m, if hasBoundaries t then n else 0) } })
  else some (0xFFFFFFFF, mapTakes m t)

/-- `commit-map`. -/
def execCommitMap (k : Pkt) (s : State) : Out :=
  .next (plain k (fun t =>
    match t.cel.loaded with
    | none => .err St.refMismatch
    | some m => match mapCommit m t with
      | none => .err St.badParam
      | some e => .ok e.2 (leBytes 4 e.1)) s)

end Sys2Proof.Machine
end

