-- ==== Sys2Proof/Machine/Ingest.lean ====
section
/-!
DEFINITION. Stream ingest (R52 to R83): Ethernet ports and their addresses, the flow table and its checks, leg merging,
frames and their publication, the sample formats, and the media clock. The ST 2110-20 packet layout and pixel groups,
which the spec names without giving, are taken from that standard (PRESUMED).
-/

namespace Sys2Proof.Machine

/-! ### Ethernet ports (R52 to R57) -/

/-- Sub-ports of a configuration (Table 3.1). -/
def cfgSubs (c : Nat) : Nat := if c = 0 then 1 else if c = 1 then 2 else 4

/-- Sub-ports of a port as configured. -/
def portSubs (s : State) (p : Nat) : Nat := cfgSubs (Tab.getD s.eth.cfg p 0)

/-- Rate of each sub-port of a port in Gb/s. -/
def subRate (s : State) (p : Nat) : Nat := 200 / portSubs s p

/-- The key of a sub-port. -/
abbrev subKey (p sub : Nat) : Nat := p * 4 + sub

/-- The enabled legs of a descriptor, 40 bytes each (Table 3.4). -/
def legsOf (d : List Byte) : List (List Byte) := if u8 d 1 = 2 then [sub d 0x30 40, sub d 0x58 40] else [sub d 0x30 40]

/-- Sub-port of a leg. -/
abbrev legSub (l : List Byte) : Nat := subKey (u8 l 0) (u8 l 1)

/-- The descriptors a flow holds: the one in force and one that waits. -/
def flowDescs (f : Flow) : List (List Byte) := f.desc :: f.next.toList

/-- Every enabled leg of the flow table. -/
def allLegs (s : State) : List (List Byte) := ((s.ing.flows.map (fun e => ((flowDescs e.2).map legsOf).flatten))).flatten

/-- Changes a flow. -/
def flowUpd (i : Nat) (g : Flow → Flow) (s : State) : State :=
  { s with ing := { s.ing with flows := s.ing.flows.map (fun e => if e.1 = i then (e.1, g e.2) else e) } }

/-- Sets or clears the LEG_ACTIVE bit of a leg (R69). -/
def legActive (i l : Nat) (on : Bool) (s : State) : State :=
  let v := getF s (R.ING_F_STATE_LEG_ACTIVE i)
  let r := v % 2 ^ l + v / 2 ^ (l + 1) * 2 ^ (l + 1)
  setF s (R.ING_F_STATE_LEG_ACTIVE i) (if on then r + 2 ^ l else r)

/-- Every leg on a port is handled as idle (R55). (DEDUCED log 29) -/
def idlePort (p : Nat) (s : State) : State :=
  s.ing.flows.foldl (fun a e =>
    ((List.range 2).zip (legsOf e.2.desc)).foldl (fun b x => if u8 x.2 0 = p then legActive e.1 x.1 false b else b) a) s

/-- The port configuration of a set-eth-port parameter (R52, R55). (DEDUCED log 29) -/
def ethPortSet (l : List Byte) (t : State) : Except Nat State :=
  let p := u8 l 0
  if 2 ≤ p ∨ 3 ≤ u8 l 1 ∨ 16 ≤ u8 l 2 ∨ 2 ≤ u8 l 3 ∨ (8 ≤ u8 l 2 ∧ u8 l 1 ≠ 2) then .error St.badParam
  else if (allLegs t).any (fun g => u8 g 0 == p && decide (cfgSubs (u8 l 1) ≤ u8 g 1)) then .error St.inUse
  else
    let e := t.eth
    .ok (setItem 0x0010 p l (idlePort p { t with eth := { e with
      cfg := Tab.put e.cfg p (u8 l 1), pflags := Tab.put e.pflags p (u8 l 2), ref := Tab.put e.ref p (u8 l 3)
      restarting := if e.restarting.contains p then e.restarting else p :: e.restarting
      up := e.up.filter (fun x => x / 4 != p) } }))

/-- `set-eth-port`. -/
def execSetEthPort (k : Pkt) (s : State) : Out := .next (plain k (fun t => resOf (ethPortSet k.par t)) s)

/-- A restarted port comes back up (R55), and ends the containment of ETH that waited for it (Table 18.4). -/
def execEthPortRestartDone (p : Nat) (s : State) : Out :=
  .next (if running s && s.eth.restarting.contains p then
      { s with eth := { s.eth with
        restarting := s.eth.restarting.filter (· != p)
        up := s.eth.up.filter (fun x => x / 4 != p) ++ (List.range (portSubs s p)).map (subKey p) } }
    else s)

/-- The address of a set-address parameter (R57). -/
def addressSet (l : List Byte) (t : State) : Except Nat State :=
  let six := u8 l 2 % 2 == 1
  if 2 ≤ u8 l 0 ∨ portSubs t (u8 l 0) ≤ u8 l 1 ∨ 2 ≤ u8 l 2 ∨ (if six then 128 else 32) < u8 l 3 ∨
      (!six && !zeroAt l 8 12) then .error St.badParam
  else
    let key := subKey (u8 l 0) (u8 l 1)
    let v := sub l 3 17
    .ok (setItem 0x0011 key l { t with eth := if six then { t.eth with ip6 := Tab.put t.eth.ip6 key v }
                                              else { t.eth with ip4 := Tab.put t.eth.ip4 key v } })

/-- `set-address`. -/
def execSetAddress (k : Pkt) (s : State) : Out := .next (plain k (fun t => resOf (addressSet k.par t)) s)

/-- A sub-port gains or loses link (R53): LINK_DOWN of a configured sub-port is a level cause (Table 18.8). -/
def execEthLinkChange (p sub : Nat) (up : Bool) (s : State) : Out :=
  .next (
    if !running s || !sender s || 2 ≤ p || portSubs s p ≤ sub then s
    else
      let key := subKey p sub
      let e := s.eth
      if up then
        let t := { s with eth := { e with up := if e.up.contains key then e.up else key :: e.up
                                          lost := e.lost.filter (· != key) } }
        if e.lost.contains key then levelFall 4 1 t else t
      else if e.up.contains key then
        levelRise 4 1 key { s with eth := { e with up := e.up.filter (· != key), lost := key :: e.lost } }
      else s)

/-! ### Flow descriptors (R59 to R65) -/

abbrev fWidth (d : List Byte) : Nat := u16 d 4
abbrev fHeight (d : List Byte) : Nat := u16 d 6
abbrev fSampling (d : List Byte) : Nat := u8 d 8
abbrev fDepth (d : List Byte) : Nat := u8 d 9
abbrev fRateNum (d : List Byte) : Nat := u32 d 0x10
abbrev fRateDen (d : List Byte) : Nat := u32 d 0x14
/-- The flow carries two fields or segments in a frame. -/
def fTwo (d : List Byte) : Bool := u8 d 0x0A % 4 != 0

/-- The surface format that Table 3.2 gives, none for a combination that is not supported (R59). -/
def flowFormat (sampling depth : Nat) : Option Nat :=
  match sampling with
  | 0 => if depth = 8 ∨ depth = 10 ∨ depth = 12 ∨ depth = 16 then some fYC16 else none
  | 1 => if depth = 8 ∨ depth = 10 then some fT10 else if depth = 12 ∨ depth = 16 then some fT16 else none
  | 2 => if depth = 8 ∨ depth = 10 then some fT10 else if depth = 12 ∨ depth = 16 then some fT16
         else if depth = 0x90 then some fT16F else none
  | _ => none

/-- Bits of a sample. -/
def sampleBits (d : List Byte) : Nat := if fDepth d = 0x90 then 16 else fDepth d

/-- Bits per pixel of the declared rate (R63). -/
def flowBpp (d : List Byte) : Nat := (if fSampling d = 0 then 2 else 3) * sampleBits d

/-- 1.05 × B of one leg as a fraction of bit/s (R63). -/
def legRate (d : List Byte) : Nat × Nat := (105 * fWidth d * fHeight d * flowBpp d * fRateNum d, 100 * fRateDen d)

/-- The sum of fractions. -/
def fracSum (l : List (Nat × Nat)) : Nat × Nat := l.foldl (fun a b => (a.1 * b.2 + b.1 * a.2, a.2 * b.2)) (0, 1)

/-- A fraction is above a limit in Gb/s. -/
def overRate (x : Nat × Nat) (gbps : Nat) : Bool := decide (gbps * 1000000000 * x.2 < x.1)

/-- The fields of a leg are in range (Table 3.4). -/
def legOk (s : State) (l : List Byte) : Bool :=
  decide (u8 l 0 < 2) && decide (u8 l 1 < portSubs s (u8 l 0)) && decide (u8 l 2 < 8) && u8 l 3 == 0 &&
    (if bitAt l 2 2 then decide (1 ≤ u16 l 4) && decide (u16 l 4 ≤ 4094) else u16 l 4 == 0) && decide (1 ≤ u16 l 6) &&
    (bitAt l 2 0 || (zeroAt l 12 12 && zeroAt l 28 12))

/-- What a leg matches (R62): with the source address left out where it is not filtered. -/
def legMatch (l : List Byte) : List Byte :=
  sub l 0 3 ++ sub l 4 4 ++ (if bitAt l 2 1 then sub l 8 16 else zeros 16) ++ sub l 24 16

/-- Two legs of a list match the same packets. -/
def legsClash : List (List Byte) → Bool
  | [] => false
  | l :: t => t.any (fun m => legMatch m == legMatch l) || legsClash t

/-- The surfaces of a descriptor suit it (R64). (DEDUCED log 29) -/
def surfacesFit (s : State) (d : List Byte) : Bool :=
  (List.range 4).all (fun j =>
    let h := u32 d (0x20 + 4 * j)
    if j < u8 d 0x1A then
      match surfOf s h with
      | some (_, f) => some (sFormat f.desc) == flowFormat (fSampling d) (fDepth d) && sLayout f.desc == 0 &&
          decide (fWidth d ≤ sWidth f.desc) && decide (fHeight d ≤ sHeight f.desc)
      | none => false
    else h == 0)

/-- The ranges of Table 3.3, but for sampling, legs and surfaces. -/
def flowRanges (d : List Byte) : Bool :=
  decide (u8 d 0 < 64) && (u8 d 1 == 1 || u8 d 1 == 2) && decide (96 ≤ u8 d 2) && decide (u8 d 2 ≤ 127) &&
    decide (u8 d 3 ≤ 2) && decide (64 ≤ fWidth d) && decide (fWidth d ≤ 8192) && decide (64 ≤ fHeight d) &&
    decide (fHeight d ≤ 4320) && !(fSampling d == 0 && fWidth d % 2 == 1) && !(bitAt d 0x0A 0 && fHeight d % 2 == 1) &&
    decide (u8 d 0x0A < 16) && decide (u8 d 0x0B ≤ 4) && decide (u8 d 0x0C ≤ 3) && decide (u8 d 0x0D ≤ 1) &&
    decide (1 ≤ fRateNum d) && decide (fRateNum d ≤ 240000) && decide (1 ≤ fRateDen d) && decide (fRateDen d ≤ 1001) &&
    decide (23976 * fRateDen d ≤ 1000 * fRateNum d) && decide (fRateNum d ≤ 240 * fRateDen d) &&
    decide (10 ≤ u16 d 0x18) && decide (u16 d 0x18 ≤ 2000) && decide (2 ≤ u8 d 0x1A) && decide (u8 d 0x1A ≤ 4) &&
    zeroAt d 0x1B 5

/-- The conditions of two legs (R64). -/
def mergeOk (d : List Byte) : Bool :=
  if u8 d 1 = 2 then
    decide (3 ≤ u8 d 0x1A) && decide (1 ≤ u16 d 0x0E) && decide (u16 d 0x0E ≤ 50) &&
      decide (u16 d 0x0E * fRateNum d ≤ (u8 d 0x1A - 2) * fRateDen d * 1000)
  else zeroAt d 0x58 40

/-- The descriptors that other flows hold, the later one where a modification waits. -/
def otherDescs (s : State) (i : Nat) : List (List Byte) :=
  (s.ing.flows.filter (fun e => e.1 != i)).map (fun e => e.2.next.getD e.2.desc)

/-- The checks of a descriptor beside the others (R59, R61 to R64): the status, 0 where it passes. (DEDUCED log 29) -/
def flowCheck (s : State) (d : List Byte) : Nat :=
  let others := otherDescs s (u8 d 0)
  let all := d :: others
  let rates := (all.map (fun x => (legsOf x).map (fun l => (legSub l, legRate x)))).flatten
  if !flowRanges d || !mergeOk d then St.badParam
  else if (flowFormat (fSampling d) (fDepth d)).isNone then St.unsupported
  else if !(legsOf d).all (legOk s) || legsClash ((all.map legsOf).flatten) || !surfacesFit s d then St.badParam
  else if overRate (fracSum (rates.map Prod.snd)) 360 ||
      (List.range 8).any (fun k => overRate (fracSum ((rates.filter (fun r => r.1 == k)).map Prod.snd)) (subRate s (k / 4)))
    then St.rateExceeded
  else 0

/-! ### Groups (R57, R65) -/

/-- The destination of a leg is a multicast group. -/
def legMulticast (l : List Byte) : Bool :=
  if bitAt l 2 0 then u8 l 24 == 255 else decide (224 ≤ u8 l 24) && decide (u8 l 24 < 240)

/-- Firmware's membership report for the group of each leg: kind 1 joins, 2 leaves; the content is the leg. (DEDUCED log 29) -/
def groupReport (kind : Nat) (d : List Byte) (s : State) : State :=
  (legsOf d).foldl (fun a l => if legMulticast l then send a (.eth (u8 l 0) (u8 l 1) kind l) else a) s

/-! ### Flow commands (R61 to R66) -/

/-- A flow as it enters the table. -/
def flowNew (s : State) (d : List Byte) : Flow :=
  { desc := d, next := none, newest := none, marked := [], lockTs := none, lastEnd := none, pd := [], ssrc := 0
    frames := [], published := none, holding := [], lastTs := []
    order := (flowSurfs d).filterMap (fun h => (surfOf s h).map Prod.fst) }

/-- `add-flow` (R61 to R65). (DEDUCED log 29) -/
def execAddFlow (k : Pkt) (s : State) : Out :=
  .next (plain k (fun t =>
    if 64 ≤ t.ing.flows.length then .err St.tableFull
    else
      let c := flowCheck t k.par
      if c ≠ 0 then .err c
      else if (Tab.get t.ing.flows (k.p8 0)).isSome then .err St.badState
      else
        let u := { t with ing := { t.ing with flows := Tab.put t.ing.flows (k.p8 0) (flowNew t k.par) } }
        .ok (groupReport 1 k.par (flowState (k.p8 0) 1 u)) []) s)

/-- `modify-flow` (R66): the change waits for the flow's next frame start. (DEDUCED log 29) -/
def execModifyFlow (k : Pkt) (s : State) : Out :=
  .next (plain k (fun t =>
    let c := flowCheck t k.par
    if c ≠ 0 then .err c
    else if (Tab.get t.ing.flows (k.p8 0)).isNone then .err St.badState
    else .ok (groupReport 1 k.par (flowUpd (k.p8 0) (fun f => { f with next := some k.par }) t)) []) s)

/-- Every register of a flow's record is cleared (R82). -/
def flowClear (i : Nat) (s : State) : State :=
  (List.range 16).foldl (fun a j => regPut a (R.ING_F_STATE i + 4 * j) 0) s

/-- `remove-flow` (R66, R82). (DEDUCED log 29) -/
def execRemoveFlow (k : Pkt) (s : State) : Out :=
  .next (plain k (fun t =>
    if 64 ≤ k.p8 0 ∨ !parZero k 1 3 then .err St.badParam
    else match Tab.get t.ing.flows (k.p8 0) with
      | none => .err St.badState
      | some f =>
        let u := (flowDescs f).foldl (fun a d => groupReport 2 d a) (flowState (k.p8 0) 0 t)
        .ok (flowClear (k.p8 0) { u with ing := { u.ing with flows := Tab.del u.ing.flows (k.p8 0) } }) []) s)

/-- `get-flow`: the descriptor in force. (DEDUCED log 29) -/
def execGetFlow (k : Pkt) (s : State) : Out :=
  .next (plain k (fun t =>
    if 64 ≤ k.p8 0 ∨ !parZero k 1 3 then .err St.badParam
    else match Tab.get t.ing.flows (k.p8 0) with
      | none => .err St.badState
      | some f => .ok t f.desc) s)

/-! ### Sample formats (R73, R74) -/

/-- n bits from a bit offset of a byte string, most significant bit first. -/
def beBits (l : List Byte) (off n : Nat) : Nat :=
  let nb := (off % 8 + n + 7) / 8
  beVal (sub l (off / 8) nb) / 2 ^ (8 * nb - off % 8 - n) % 2 ^ n

/-- Octets and pixels of a pixel group (ST 2110-20). (PRESUMED log 27) -/
def pgroup (sampling depth : Nat) : Nat × Nat :=
  match sampling with
  | 0 => if depth = 8 then (4, 2) else if depth = 10 then (5, 2) else if depth = 12 then (6, 2) else (8, 2)
  | _ => if depth = 8 then (3, 1) else if depth = 10 then (15, 4) else if depth = 12 then (9, 2) else (6, 1)

/-- A sample of depth d widened to w bits by bit replication (R74). -/
def replicateBits (d w v : Nat) : Nat := if w ≤ d then v else v * 2 ^ (w - d) + v / 2 ^ (2 * d - w)

/-- The plane words of pixel n of a row segment whose first pixel is at column x0. -/
def segPixel (d : List Byte) (data : List Byte) (x0 n : Nat) : List Nat :=
  let b := sampleBits d
  let samp := fun (i : Nat) => beBits data (i * b) b
  if fSampling d = 0 then
    let y := replicateBits b 16 (samp (4 * (n / 2) + 1 + 2 * (n % 2)))
    let c := replicateBits b 16 (samp (4 * (n / 2) + (if (x0 + n) % 2 = 0 then 0 else 2)))
    [y + c * 65536]
  else
    let ord := if fSampling d = 1 then [1, 0, 2] else [0, 1, 2]
    let w := if b ≤ 10 then 10 else 16
    let comp := fun (c : Nat) => replicateBits b w (samp (3 * n + ord.getD c 0))
    if w = 10 then [comp 0 + comp 1 * 1024 + comp 2 * 1048576]
    else [comp 0 + comp 1 * 65536, comp 2]

/-- Writes the words of a pixel into the planes of a surface. -/
def surfWrite (sd : List Byte) (x y : Nat) (ws : List Nat) (s : State) : State :=
  let s1 := planePut (sPlane0 sd) (sPitch sd) x y (leBytes 4 (ws.getD 0 0)) s
  if ws.length = 2 then planePut (sPlane1 sd) (sPitch sd) x y (leBytes 4 (ws.getD 1 0)) s1 else s1

/-- The words of a pixel in the planes of a surface. -/
def surfRead (s : State) (sd : List Byte) (x y : Nat) : List Nat :=
  planeWord s (sPlane0 sd) (sPitch sd) x y ::
    (if fmtPlanes (sFormat sd) = 2 then [planeWord s (sPlane1 sd) (sPitch sd) x y] else [])

/-! ### Packets (R60) -/

/-- A sample row data header with its data: row, field bit, offset, octets. -/
structure Srd where
  row : Nat
  field : Nat
  offset : Nat
  data : List Byte
  deriving DecidableEq, Repr

/-- A video packet: what its RTP header and sample row headers say. -/
structure Video where
  marker : Bool
  ts : Nat
  ssrc : Nat
  esn : Nat
  srds : List Srd
  deriving DecidableEq, Repr

/-- Octets of the RTP header with its contributing sources and extension. (PRESUMED log 27) -/
def rtpHeader (l : List Byte) : Nat :=
  let n := 12 + 4 * (u8 l 0 % 16)
  if bitAt l 0 4 then n + 4 + 4 * beVal (sub l (n + 2) 2) else n

/-- The sample row data headers from an offset, at most `fuel`: length, row with field bit, offset, and continuation. (PRESUMED log 27) -/
def srdHeads (l : List Byte) : Nat → Nat → Option (List (Nat × Nat × Nat × Nat))
  | 0, _ => none
  | fuel + 1, at_ =>
    let row := beVal (sub l (at_ + 2) 2)
    let off := beVal (sub l (at_ + 4) 2)
    let h := (beVal (sub l at_ 2), row % 32768, row / 32768, off % 32768)
    if off < 32768 then some [h]
    else match srdHeads l fuel (at_ + 6) with
      | some t => some (h :: t)
      | none => none

/-- The row segments in order, each with its data. -/
def srdData (l : List Byte) : List (Nat × Nat × Nat × Nat) → Nat → List Srd
  | [], _ => []
  | h :: t, at_ => { row := h.2.1, field := h.2.2.1, offset := h.2.2.2, data := sub l at_ h.1 } :: srdData l t (at_ + h.1)

/-- The RTP sequence fields of a UDP payload: SSRC, timestamp, marker and ESN. -/
def rtpOf (l : List Byte) : Video :=
  { marker := bitAt l 1 7, ts := beVal (sub l 4 4), ssrc := beVal (sub l 8 4)
    esn := beVal (sub l (rtpHeader l) 2) * 65536 + beVal (sub l 2 2), srds := [] }

/-- A row segment keeps R60 under a descriptor. -/
def srdOk (d : List Byte) (x : Srd) : Bool :=
  let pg := pgroup (fSampling d) (fDepth d)
  decide (x.row < (if fTwo d then fHeight d / 2 else fHeight d)) && x.data.length % pg.1 == 0 &&
    decide (x.offset + x.data.length / pg.1 * pg.2 ≤ fWidth d)

/-- A video packet of a flow, none where R60 discards it. -/
def videoOf (d l : List Byte) : Option Video :=
  let n := rtpHeader l
  if l.length < 12 ∨ u8 l 0 / 64 ≠ 2 ∨ u8 l 1 % 128 ≠ u8 d 2 ∨ 8960 < l.length ∨ l.length < n + 8 then none
  else match srdHeads l 3 (n + 2) with
    | none => none
    | some hs =>
      let start := n + 2 + 6 * hs.length
      let v := { rtpOf l with srds := srdData l hs start }
      if decide (start + (hs.map Prod.fst).sum ≤ l.length) && v.srds.all (srdOk d) then some v else none

/-! ### Frames (R70 to R76) -/

/-- The number of a flow counts an event of its record, a FLOW_ERR source (Table 18.8). (DEDUCED log 29) -/
def flowTally (f : Nat → Fld) (i : Nat) (s : State) : State := tally (f i) 5 2 i s

/-- Signed difference of two 32-bit sequence numbers. -/
abbrev esnDiff (a b : Nat) : Int := frameDiff a b

/-- ESNs of a frame, first to last. -/
def frameEsns (f : FrameRx) : List Nat :=
  if esnDiff f.lastEsn f.firstEsn < 0 then []
  else (List.range ((esnDiff f.lastEsn f.firstEsn).toNat + 1)).map (fun j => (f.firstEsn + j) % 4294967296)

/-- ESNs of a frame not received. -/
def missing (fl : Flow) (f : FrameRx) : Nat := ((frameEsns f).filter (fun e => (Tab.get fl.marked e).isNone)).length

/-- Writes a row segment into the surface of its frame; fields are woven (R75). -/
def writeSrd (d sd : List Byte) (x : Srd) (s : State) : State :=
  let pg := pgroup (fSampling d) (fDepth d)
  let y := if fTwo d then 2 * x.row + x.field else x.row
  (List.range (x.data.length / pg.1 * pg.2)).foldl (fun a n =>
    surfWrite sd (x.offset + n) y (segPixel d x.data x.offset n) a) s

/-- The run of a segment: surface row, column, pixels. -/
def srdRun (d : List Byte) (x : Srd) : Nat × Nat × Nat :=
  let pg := pgroup (fSampling d) (fDepth d)
  (if fTwo d then 2 * x.row + x.field else x.row, x.offset, x.data.length / pg.1 * pg.2)

/-- Fills every pixel of a frame that no packet wrote, from the frame published before it, or with zero (R71). -/
def conceal (d sd : List Byte) (runs : List (Nat × Nat × Nat)) (prev : Option (List Byte)) (s : State) : State :=
  (List.range (fHeight d)).foldl (fun a y =>
    (List.range (fWidth d)).foldl (fun b x =>
      if runs.any (fun r => r.1 == y && decide (r.2.1 ≤ x) && decide (x < r.2.1 + r.2.2)) then b
      else surfWrite sd x y (match prev with
        | some pd => surfRead b pd x y
        | none => List.replicate (fmtPlanes (sFormat sd)) 0) b) a) s

/-- t_cap of a timestamp (R78): NT in ns of arrival. -/
def capture (rtp arrival : Nat) : Int :=
  let now90 := arrival * 9 / 100000
  let d := signed 32 (unsigned 32 ((rtp : Int) - (now90 % 4294967296 : Nat)))
  (((now90 : Int) + d) * 100000).tdiv 9

/-- t_cap is plausible: at most 1 ms after arrival and 1 s before it. -/
def capturePlausible (cap : Int) (arrival : Nat) : Bool :=
  decide (cap ≤ (arrival : Int) + 1000000) && decide ((arrival : Int) - 1000000000 ≤ cap)

/-- Attributes that a publication gives its surface: range, colorimetry and transfer characteristic of the flow. -/
def flowAttrs (d : List Byte) (i : Nat) (s : State) : State :=
  surfUpd i (fun f => setAttrs f (u8 f.desc 0x0C % 16 / 2 * 2 + u8 d 0x0A / 8 % 2) (u8 d 0x0B) (u8 d 0x0C)) s

/-- FLOW_OFFSET: arrival minus t_cap in µs, its rounding stated only by an example of a positive value. -/
def offsetUs (x : Int) : Int :=
  if 0 ≤ x then x / 1000 else -((inexact 6 x.natAbs 1000 : Nat) : Int)

/-- A frame becomes a new generation of its surface (R70, R78). -/
def publishFrame (i b : Nat) (f : FrameRx) (s : State) : State :=
  let nt := ntValid s
  let cap := capture f.rtp f.arrival
  let good := nt && capturePlausible cap f.arrival
  let s1 := publishGen b (if nt then some (unsigned 64 cap) else none) (flowAttrs f.desc b s)
  let s2 := if good then s1 else surfUpd b (fun x => { x with ntMapped := false }) s1
  let s3 := if nt && !good then flowTally R.ING_F_SEQ_TS_BAD i s2 else s2
  let s4 := setB s3 (R.ING_F_STATE_NT_MAPPED i) good
  let s5 := if nt then setI s4 (R.ING_F_FLOW_OFFSET_VAL i) (offsetUs ((f.arrival : Int) - cap))
            else takeFree (setF s4 (R.ING_F_FLOW_OFFSET_VAL i) (freeVal s4 32))
  flowUpd i (fun x => { x with published := some (f.rtp, b), holding := b :: x.holding.filter (· != b) })
    (flowTally R.ING_F_FRAMES_COUNT i (setF s5 (R.ING_F_LAST_RTP_VAL i) f.rtp))

/-- The ESNs of a published frame stay known as late for as long as the window reaches back (R68). -/
def rememberTs (f : FrameRx) (x : Flow) : Flow :=
  let l := (f.rtp :: f.rtp2.toList).map (fun t => (t, f.lastEsn)) ++ x.lastTs
  { x with frames := x.frames.erase f
           lastTs := l.filter (fun e => match x.newest with
             | some n => decide (esnDiff n e.2 ≤ 262144)
             | none => true) }

/-- Ends a frame: counts what it misses, conceals, and publishes it where it was written (R70, R71, R76). (DEDUCED log 29) -/
def endFrame (i : Nat) (f : FrameRx) (s : State) : State :=
  match Tab.get s.ing.flows i with
  | none => s
  | some fl =>
    let lost := missing fl f
    let s1 := flowUpd i (rememberTs f) s
    let s2 := if lost = 0 then s1
      else flowTally R.ING_F_FRAMES_INCOMPLETE_COUNT i (tallyN lost (R.ING_F_PKT_LOST_COUNT i) 5 2 i s1)
    match f.buf with
    | none => s2
    | some b =>
      if mode s ≠ mShow then s2
      else if lost ≠ 0 ∧ u8 f.desc 0x0D = 1 ∧ fl.published.isSome then s2
      else
        let sd := fun (j : Nat) => (Tab.get s2.srf.table j).map Surface.desc
        let s3 := if lost = 0 then s2
          else match sd b with
            | some d => conceal f.desc d f.runs (match fl.published with | some e => sd e.2 | none => none) s2
            | none => s2
        publishFrame i b f (setB s3 (R.ING_F_STATE_LAST_INCOMPLETE i) (lost ≠ 0))

/-- A frame is due for publication (R70): its end has come and, for two legs, every packet of it. (DEDUCED log 29) -/
def frameDue (fl : Flow) (f : FrameRx) : Bool := f.overOn && (u8 f.desc 1 == 1 || missing fl f == 0)

/-- Publishes the frames of a flow that are due. -/
def endDue (i : Nat) (s : State) : State :=
  match Tab.get s.ing.flows i with
  | none => s
  | some fl => (fl.frames.filter (frameDue fl)).foldl (fun a f => endFrame i f a) s

/-- The surface the next frame goes into (R72): the oldest neither latched, nor published last, nor awaiting
publication. (DEDUCED log 29) -/
def freeBuf (s : State) (fl : Flow) : Option Nat :=
  fl.order.find? (fun j =>
    !fl.frames.any (fun f => f.buf == some j) && (fl.published.map Prod.snd) != some j &&
      (match Tab.get s.srf.table j with | some f => f.latched.isEmpty | none => false))

/-- A change at a descriptor's offsets 0x04 to 0x14, or of its surfaces, sends the flow back to LOCKING (R66). -/
def relocks (a b : List Byte) : Bool := sub a 4 20 != sub b 4 20 || sub a 0x1A 22 != sub b 0x1A 22

/-- The frame under way ends without its last packet: the next timestamp has begun at an ESN. -/
def closeNewest (esn : Nat) (fl : Flow) : Flow :=
  match fl.frames.getLast? with
  | some f => if f.overOn then fl
    else { fl with frames := fl.frames.dropLast ++ [{ f with overOn := true, lastEsn := (esn + 4294967295) % 4294967296 }] }
  | none => fl

/-- A modification that waits takes effect (R66): frames begun end under the old descriptor first. -/
def applyModify (i : Nat) (s : State) : State :=
  match Tab.get s.ing.flows i with
  | none => s
  | some fl =>
    match fl.next with
    | none => s
    | some d =>
      let s1 := fl.frames.foldl (fun a f => endFrame i f a) s
      let s2 := groupReport 2 fl.desc s1
      let s3 := flowUpd i (fun x => { x with desc := d, next := none
                                             order := (flowSurfs d).filterMap (fun h => (surfOf s h).map Prod.fst)
                                             published := if sub fl.desc 0x1A 22 == sub d 0x1A 22 then x.published else none
                                             holding := if sub fl.desc 0x1A 22 == sub d 0x1A 22 then x.holding else [] }) s2
      if relocks fl.desc d then flowState i 2 s3 else s3

/-- A frame start (R70, R72): the packet with a new timestamp. -/
def beginFrame (i : Nat) (v : Video) (s : State) : State :=
  let s1 := endDue i (flowUpd i (closeNewest v.esn) s)
  let s2 := flowState i 3 (applyModify i s1)
  match Tab.get s2.ing.flows i with
  | none => s2
  | some fl =>
    let b := if mode s2 = mShow then freeBuf s2 fl else none
    let f : FrameRx := { desc := fl.desc, rtp := v.ts, rtp2 := none, buf := b
                         firstEsn := match fl.lastEnd with | some m => (m + 1) % 4294967296 | none => v.esn
                         lastEsn := v.esn, ends := 0, overOn := false, arrival := ntNs s2, runs := [] }
    let s3 := flowUpd i (fun x => { x with
      frames := x.frames ++ [f], lastEnd := none, lockTs := none
      holding := x.holding.filter (fun j => b != some j)
      order := match b with | some j => x.order.filter (· != j) ++ [j] | none => x.order }) s2
    if mode s2 = mShow ∧ b.isNone then flowTally R.ING_F_FRAME_DROP_COUNT i s3 else s3

/-- The field bit of a packet. -/
def fieldBit (v : Video) : Nat := match v.srds.getLast? with | some x => x.field | none => 0

/-- A marker packet on a frame. Where the next timestamp came first, the boundary between the two moves to the marker. -/
def markEnd (d : List Byte) (v : Video) (fl : Flow) : Flow :=
  let hit := fun (f : FrameRx) => f.rtp == v.ts || f.rtp2 == some v.ts
  let grow := fun (f : FrameRx) =>
    { f with ends := f.ends + 1, overOn := f.overOn || decide ((if fTwo d then 2 else 1) ≤ f.ends + 1), lastEsn := v.esn }
  let last : Bool := match fl.frames.getLast? with | some f => hit f | none => false
  let ended := fl.frames.any (fun f => hit f && (grow f).overOn)
  let frames := (fl.frames.zip (none :: fl.frames.map some)).map (fun e =>
    if hit e.1 then grow e.1
    else match e.2 with
      | some f => if hit f ∧ f.overOn then { e.1 with firstEsn := (v.esn + 1) % 4294967296 } else e.1
      | none => e.1)
  { fl with frames := frames, lastEnd := if last && ended then some v.esn else fl.lastEnd }

/-- A packet of a frame under way: written in SHOW; outside SHOW its frame is given up (R76). -/
def framePacket (i : Nat) (f : FrameRx) (v : Video) (s : State) : State :=
  let show_ := mode s == mShow
  let buf := if show_ then f.buf else none
  let s1 := match buf with
    | some b => (match Tab.get s.srf.table b with
      | some sf => v.srds.foldl (fun a x => writeSrd f.desc sf.desc x a) s
      | none => s)
    | none => s
  let g := { f with buf := buf, runs := (v.srds.map (srdRun f.desc)).reverse ++ f.runs
                    firstEsn := if esnDiff v.esn f.firstEsn < 0 then v.esn else f.firstEsn
                    lastEsn := if !f.overOn ∧ 0 < esnDiff v.esn f.lastEsn then v.esn else f.lastEsn }
  let s2 := flowUpd i (fun x => { x with frames := x.frames.map (fun y => if y = f then g else y) }) s1
  endDue i (if v.marker then flowUpd i (markEnd f.desc v) s2 else s2)

/-- The second field of the newest frame begins with its own timestamp. -/
def secondField (v : Video) (fl : Flow) : Flow :=
  match fl.frames.getLast? with
  | some f => if f.overOn ∨ f.rtp2.isSome then fl
    else { fl with frames := fl.frames.dropLast ++ [{ f with rtp2 := some v.ts, ends := max f.ends 1 }] }
  | none => fl

/-- The frame of a timestamp. -/
def frameFor (fl : Flow) (ts : Nat) : Option FrameRx := fl.frames.find? (fun f => f.rtp == ts || f.rtp2 == some ts)

/-- A new ESN of a flow in LOCKING or RUNNING goes to its frame (Table 3.5, R70). -/
def placePacket (i : Nat) (v : Video) (s : State) : State :=
  let add := fun (t : State) => match Tab.get t.ing.flows i with
    | some fl => (match frameFor fl v.ts with | some f => framePacket i f v t | none => t)
    | none => t
  match Tab.get s.ing.flows i with
  | none => s
  | some fl =>
    let firstField := !bitAt fl.desc 0x0A 0 || fieldBit v == 0
    if getF s (R.ING_F_STATE_STATE i) = 2 then
      let note := fun (x : Flow) => { x with
        lockTs := some v.ts
        lastEnd := if v.marker ∧ (!fTwo fl.desc ∨ fieldBit v = 1) then some v.esn else none }
      match fl.lockTs with
      | none => flowUpd i note s
      | some t => if 0 < esnDiff v.ts t ∧ firstField then add (beginFrame i v s)
        else if 0 ≤ esnDiff v.ts t then flowUpd i note s else s
    else if (frameFor fl v.ts).isSome then add s
    else
      let newer := match fl.frames.getLast? with
        | some f => decide (0 < esnDiff v.ts f.rtp)
        | none => true
      if !newer then s
      else if firstField then add (beginFrame i v s)
      else add (flowUpd i (secondField v) s)

/-- The ESN record forgets what has left the window. -/
def trimMarks (n : Nat) (m : Tab (Nat × Nat)) : Tab (Nat × Nat) := m.filter (fun e => decide (esnDiff n e.1 < 262144))

/-- Marks a new ESN. -/
def markEsn (l : Nat) (v : Video) (now : Nat) (fl : Flow) : Flow :=
  let n := match fl.newest with | some x => if 0 < esnDiff v.esn x then v.esn else x | none => v.esn
  { fl with newest := some n, marked := trimMarks n (Tab.put fl.marked v.esn (l, now)), ssrc := v.ssrc }

/-- A second copy from the other leg shows the path differential. -/
def notePd (l : Nat) (v : Video) (now : Nat) (fl : Flow) : Flow :=
  match Tab.get fl.marked v.esn with
  | some (m, t) => if m = l then fl
    else { fl with pd := (now, (now - t) / 1000) :: fl.pd.filter (fun e => decide (now < e.1 + 1000000000)) }
  | none => fl

/-- PD_MAX_US: the largest path differential of the last second. -/
def pdMax (s : State) (i : Nat) : Nat :=
  match Tab.get s.ing.flows i with
  | some fl => (fl.pd.filter (fun e => decide (ltNs s < e.1 + 1000000000))).foldl (fun a e => max a e.2) 0
  | none => 0

/-- A sequence reset (R68). -/
def seqReset (s : State) (fl : Flow) (v : Video) : Bool :=
  match fl.newest with
  | some n => decide (262144 < esnDiff v.esn n) || fl.ssrc != v.ssrc
  | none => false

/-- A packet that kept R60 (R68). -/
def mergePacket (i l : Nat) (v : Video) (s : State) : State :=
  match Tab.get s.ing.flows i with
  | none => s
  | some fl0 =>
    let s1 := if seqReset s fl0 v then flowLocking i (flowTally R.ING_F_SEQ_SEQ_RESET i s) else s
    match Tab.get s1.ing.flows i with
    | none => s1
    | some fl =>
      if (Tab.get fl.marked v.esn).isSome then flowTally R.ING_F_DUP_DROP_COUNT i (flowUpd i (notePd l v (ltNs s1)) s1)
      else if (match fl.newest with | some n => decide (262144 ≤ esnDiff n v.esn) | none => false) ||
          fl.lastTs.any (fun e => e.1 == v.ts) then flowTally R.ING_F_LATE_PKT_COUNT i s1
      else placePacket i v (flowUpd i (markEsn l v (ltNs s1)) s1)

/-- A UDP payload that matched a leg of a flow. -/
def flowPacket (i l bytes : Nat) (pay : List Byte) (s : State) : State :=
  let now := ltNs s
  let s0 := { s with ing := { s.ing with
    recent := (now, bytes) :: s.ing.recent.filter (fun e => decide (now < e.1 + 1000000)) } }
  let s1 := legActive i l true (flowTally (if l = 0 then R.ING_F_LEG0_PKTS_COUNT else R.ING_F_LEG1_PKTS_COUNT) i s0)
  let st := getF s1 (R.ING_F_STATE_STATE i)
  let s2 := if st = 1 ∨ st = 4 then flowState i 2 s1 else s1
  let s3 := if mode s2 = mHold then flowTally R.ING_F_HOLD_DROP_COUNT i s2 else s2
  match Tab.get s3.ing.flows i with
  | none => s3
  | some fl =>
    match videoOf fl.desc pay with
    | none => flowTally R.ING_F_FORMAT_ERR_COUNT i s3
    | some v => mergePacket i l v s3

/-- RATE_MBPS: matched traffic of the last 1 ms. (DEDUCED log 29) -/
def rateMbps (s : State) : Nat :=
  min 400000 (((s.ing.recent.filter (fun e => decide (ltNs s < e.1 + 1000000))).map Prod.snd).sum * 8 / 1000)

/-- Entry to SHOW, or the end of HOLD: every flow publishes from its next frame start (R76). -/
def ingestRestart (s : State) : State :=
  { s with ing := { s.ing with flows := s.ing.flows.map (fun e =>
      (e.1, { e.2 with frames := e.2.frames.map (fun f => { f with buf := none }) })) } }

/-! ### Timers (R67, R69, R70) -/

/-- MERGE_WIN_MS passes after the end of a flow's oldest frame that waits (R70, rule 2). -/
def execMergeWindowExpiry (i : Nat) (s : State) : Out :=
  .next (match Tab.get s.ing.flows i with
    | none => s
    | some fl => if !running s then s
      else match fl.frames.find? (fun f => f.overOn && u8 f.desc 1 == 2) with
        | some f => endFrame i f s
        | none => s)

/-- A leg receives nothing for LEG_TIMEOUT_MS (R69). -/
def execLegIdle (i l : Nat) (s : State) : Out :=
  .next (if running s && (Tab.get s.ing.flows i).isSome && decide (l < 2) then legActive i l false s else s)

/-- No packet on any leg of a RUNNING flow for TIMEOUT_MS (R67). -/
def execFlowTimeout (i : Nat) (s : State) : Out :=
  .next (if running s && (Tab.get s.ing.flows i).isSome && getF s (R.ING_F_STATE_STATE i) == 3 then
      flowState i 4 (flowUpd i (fun f => { f with frames := [], lockTs := none, lastEnd := none }) s)
    else s)

end Sys2Proof.Machine
end

