-- ==== Sys2Proof/Machine/Scaler.lean ====
section
/-!
DEFINITION. Reading source pixels (R90, R120) and the scaler (R121 to R127): positions, phases, coefficients and the two
filter passes.
-/

namespace Sys2Proof.Machine

/-! ### Layer descriptors (Table 5.2) -/

abbrev lEnable (d : List Byte) : Bool := bitAt d 1 0
abbrev lFlow (d : List Byte) : Bool := bitAt d 1 1
abbrev lTimed (d : List Byte) : Bool := bitAt d 1 2
abbrev lEdge (d : List Byte) : Bool := bitAt d 1 3
abbrev lVhalf (d : List Byte) : Bool := bitAt d 1 4
abbrev lBlend (d : List Byte) : Nat := u8 d 2
abbrev lSource (d : List Byte) : Nat := u32 d 4
abbrev lCropX (d : List Byte) : Nat := u16 d 8
abbrev lCropY (d : List Byte) : Nat := u16 d 0x0A
abbrev lCropW (d : List Byte) : Nat := u16 d 0x0C
abbrev lCropH (d : List Byte) : Nat := u16 d 0x0E
abbrev lDstX (d : List Byte) : Int := signed 32 (u32 d 0x10)
abbrev lDstY (d : List Byte) : Int := signed 32 (u32 d 0x14)
abbrev lDstW (d : List Byte) : Nat := u32 d 0x18
abbrev lDstH (d : List Byte) : Nat := u32 d 0x1C
abbrev lGalpha (d : List Byte) : Nat := u16 d 0x20

/-! ### Source pixels (R90, R120) -/

/-- A layer's source as it reads it: the surface descriptor, SFLAGS of the generation, and alpha read as 1. -/
structure Source where
  desc : List Byte
  sflags : Nat
  opaque_ : Bool
  deriving DecidableEq, Repr

/-- Words of a pixel. -/
def srcWords (s : State) (q : Source) (x y : Nat) : Nat × Nat :=
  if sLayout q.desc = 1 then (mbcPixel s q.desc x y, 0)
  else (planeWord s (sPlane0 q.desc) (sPitch q.desc) x y,
    if fmtPlanes (sFormat q.desc) = 2 then planeWord s (sPlane1 q.desc) (sPitch q.desc) x y else 0)

/-- Components of a pixel: three colours and alpha. The chroma of YC16 is that of the pixel's pair. -/
def srcComps (s : State) (q : Source) (x y : Nat) : List Flt :=
  let w := srcWords s q x y
  let n := fun (v lo bits : Nat) => Flt.ofRat (v / 2 ^ lo % 2 ^ bits) (2 ^ bits - 1)
  let h := fun (v lo : Nat) => Flt.component16 (v / 2 ^ lo % 65536)
  match sFormat q.desc with
  | 1 => [n w.1 0 16, n (srcWords s q (x / 2 * 2) y).1 16 16, n (srcWords s q (x / 2 * 2 + 1) y).1 16 16, .one]
  | 2 => [n w.1 0 10, n w.1 10 10, n w.1 20 10, .one]
  | 3 => [n w.1 0 16, n w.1 16 16, n w.2 0 16, .one]
  | 4 => [h w.1 0, h w.1 16, h w.2 0, .one]
  | 0x10 => [n w.1 16 8, n w.1 8 8, n w.1 0 8, n w.1 24 8]
  | 0x11 => [n w.1 0 10, n w.1 10 10, n w.1 20 10, n w.1 30 2]
  | 0x12 => [h w.1 0, h w.1 16, h w.2 0, h w.2 16]
  | _ => [n w.1 0 16, n w.1 16 16, n w.2 0 16, n w.2 16 16]

/-- Components as fetched: alpha as R90 and BLEND read it, colours multiplied by straight alpha (R120). -/
def fetchComps (s : State) (q : Source) (x y : Nat) : List Flt :=
  let l := srcComps s q x y
  let a := if q.opaque_ || !fmtAlpha (sFormat q.desc) || q.sflags.testBit 2 then Flt.one else l.getD 3 .one
  let c := l.take 3
  (if fmtAlpha (sFormat q.desc) && !q.sflags.testBit 1 then c.map (fun v => v.mul a) else c) ++ [a]

/-! ### Positions (R122, R124) -/

/-- Source pixel and phase for output index x of an axis, given its fraction bits: 20, or 21 for chroma. -/
def scalerPos (crop in_ out x frac : Nat) : Int × Nat :=
  let step := (2 * in_ * 2 ^ 20 + out) / (2 * out)
  let pos : Int := (crop * 2 ^ 20 : Nat) + ((step : Int) - 2 ^ 20).tdiv 2 + ((x * step : Nat) : Int)
  let i := pos / (2 ^ frac : Nat)
  let f := (pos % (2 ^ frac : Nat)).toNat
  let ph := (f + 2 ^ (frac - 7)) / 2 ^ (frac - 6)
  if ph = 64 then (i + 1, 0) else (i, ph)

/-! ### Coefficients (R125 to R127) -/

/-- One in the fixed point of the sine: 2^240. -/
abbrev sinOne : Int := 2 ^ 240

/-- Pi in the fixed point of the sine. -/
def sinPi : Int :=
  314159265358979323846264338327950288419716939937510582097494459230781640628620899 * sinOne / 10 ^ 80

/-- Terms of the sine series from a term on: x², the term, the sum, and the index of the term. -/
def sinSeries (xx : Int) : Nat → Int → Int → Nat → Int
  | 0, _, acc, _ => acc
  | n + 1, t, acc, k =>
    sinSeries xx n (-(t * xx) / (sinOne * ((k + 1) * (k + 2) : Nat))) (acc + t) (k + 2)

/-- sin x, to well over 200 bits for |x| up to 13. -/
def sinFix (x : Int) : Int := sinSeries (x * x / sinOne) 90 x 0 1

/-- sinc of num / den of a unit, that is sin(pi u) / (pi u), for u not zero. -/
def sincFix (num : Int) (den : Nat) : Int :=
  let x := sinPi * num / (den : Int)
  sinFix x * sinOne / x

/-- The window w of R126 at t = num / den. -/
def sincW (a : Nat) (num : Int) (den : Nat) : Int :=
  if num = 0 then sinOne
  else if (a * den : Nat) ≤ num.natAbs then 0
  else sincFix num den * sincFix num (a * den) / sinOne

/-- Tap offsets of an axis: horizontal, vertical, vertical with VHALF. -/
def tapOffsets (vert vhalf : Bool) : List Int :=
  if !vert then [-3, -2, -1, 0, 1, 2, 3, 4] else if vhalf then [-1, 0, 1] else [-2, -1, 0, 1, 2, 3]

/-- The SINC coefficients of a phase (R126), in the order of the taps. -/
def sincSet (vert vhalf : Bool) (in_ out p : Nat) : List Int :=
  let a := if !vert then 4 else if vhalf then 2 else 3
  let os := tapOffsets vert vhalf
  let num := if out < in_ then out else 1
  let den := if out < in_ then 64 * in_ else 64
  let ws := os.map (fun o => sincW a ((64 * o - (p : Int)) * (num : Int)) den)
  let sum := ws.sum
  let cs := ws.map (fun w => (2048 * w + sum) / (2 * sum))
  let rest := 1024 - cs.sum
  let big : Int := if p ≤ 32 then 0 else 1
  (os.zip cs).map (fun e => if e.1 = big then e.2 + rest else e.2)

/-- A coefficient of a user bank: bytes of the bank, axis, phase and tap. -/
def bankCoef (b : List Byte) (vert : Bool) (p k : Nat) : Int :=
  signed 16 (u16 b (if vert then 1024 + 2 * (6 * p + k) else 2 * (8 * p + k)))

/-- The coefficients of a set at a phase, in the order of the taps in use. (DEDUCED log 31) -/
def coefSet (banks : Tab (List Byte)) (code : Nat) (vert vhalf : Bool) (in_ out p : Nat) : List Int :=
  let os := tapOffsets vert vhalf
  match code with
  | 0 => os.map (fun o => if o = (if p < 32 then 0 else 1) then 1024 else 0)
  | 1 => os.map (fun o => if o = 0 then 1024 - 16 * (p : Int) else if o = 1 then 16 * (p : Int) else 0)
  | 2 => sincSet vert vhalf in_ out p
  | c =>
    let b := Tab.getD banks (c - 4) []
    os.map (fun o => bankCoef b vert p (o + (if vert then 2 else 3)).toNat)

/-! ### The filter passes (R121, R123, R124) -/

/-- Coefficient times sample over the taps, formed exactly and rounded once. -/
def filterSum (l : List (Int × Flt)) : Flt := Flt.ofFix ((l.map (fun e => e.1 * e.2.fix)).sum) false 10

/-- An index held to its limits. -/
def holdTo (lo hi : Nat) (i : Int) : Nat := if i < (lo : Int) then lo else if (hi : Int) < i then hi else i.toNat

/-- One axis of a scaled output: taps in use as source index and coefficient. -/
def axisTaps (banks : Tab (List Byte)) (code : Nat) (vert vhalf : Bool) (crop in_ out x frac lo hi : Nat) : List (Int × Nat) :=
  let pp := scalerPos crop in_ out x frac
  let cs := coefSet banks code vert vhalf in_ out pp.2
  (cs.zip (tapOffsets vert vhalf)).map (fun e => (e.1, holdTo lo hi (pp.1 + e.2)))

/-- A component filtered vertically, then horizontally. -/
def filter2 (vt ht : List (Int × Nat)) (get : Nat → Nat → Flt) : Flt :=
  filterSum (ht.map (fun h => (h.1, filterSum (vt.map (fun v => (v.1, get h.2 v.2))))))

/-- The premultiplied components of output pixel (x, y) of a video layer. -/
def scaledComps (s : State) (banks : Tab (List Byte)) (d : List Byte) (q : Source) (x y : Nat) : List Flt :=
  let hset := u8 d 3 % 16
  let vset := u8 d 3 / 16
  let x0 := if lEdge d then 0 else lCropX d
  let x1 := if lEdge d then sWidth q.desc - 1 else lCropX d + lCropW d - 1
  let y0 := if lEdge d then 0 else lCropY d
  let y1 := if lEdge d then sHeight q.desc - 1 else lCropY d + lCropH d - 1
  let vt := axisTaps banks vset true (lVhalf d) (lCropY d) (lCropH d) (lDstH d) y 20 y0 y1
  let ht := axisTaps banks hset false false (lCropX d) (lCropW d) (lDstW d) x 20 x0 x1
  let comp := fun (c : Nat) => filter2 vt ht (fun i j => (fetchComps s q i j).getD c .zero)
  if sFormat q.desc = fYC16 then
    let hc := axisTaps banks hset false false (lCropX d) (lCropW d) (lDstW d) x 21 (x0 / 2) (x1 / 2)
    let chroma := fun (c : Nat) => filter2 vt hc (fun j r => (fetchComps s q (2 * j) r).getD c .zero)
    [comp 0, chroma 1, chroma 2, (comp 3).clamp01]
  else [comp 0, comp 1, comp 2, (comp 3).clamp01]

end Sys2Proof.Machine
end

