-- ==== Sys2Proof/Machine/Compose.lean ====
section
/-!
DEFINITION. Layer composition (R110 to R149): shadow state and commits, frame boundaries and the latching of sources, guard
checks, the blending and encoding of regions, writeback and preview, and the start and stop of composition.
-/

namespace Sys2Proof.Machine

/-! ### Layer sources -/

/-- What a layer descriptor reads: width, height, format and NSURF, if its source exists. -/
def layerSource (s : State) (d : List Byte) : Option (Nat × Nat × Nat) :=
  if lFlow d then (Tab.get s.ing.flows (lSource d)).map (fun f =>
    (fWidth f.desc, fHeight f.desc, (flowFormat (fSampling f.desc) (fDepth f.desc)).getD 0))
  else (surfOf s (lSource d)).map (fun e => (sWidth e.2.desc, sHeight e.2.desc, sFormat e.2.desc))

/-- A coefficient set code of Table 5.3. -/
def coefCodeOk (c : Nat) : Bool := decide (c ≤ 2) || (decide (4 ≤ c) && decide (c ≤ 7))

/-- The rules of Table 5.2 and R115 that the source does not enter. -/
def layerStatic (d : List Byte) : Bool :=
  let v := decide (u8 d 0 < 8)
  decide (u8 d 0 < 24) && decide (u8 d 1 < 32) && decide (lBlend d ≤ 2) && decide (1 ≤ lCropW d) && decide (1 ≤ lCropH d) &&
    decide (-65536 ≤ lDstX d) && decide (lDstX d ≤ 65535) && decide (-65536 ≤ lDstY d) && decide (lDstY d ≤ 65535) &&
    decide (1 ≤ lDstW d) && decide (lDstW d ≤ 262144) && decide (1 ≤ lDstH d) && decide (lDstH d ≤ 262144) &&
    decide (u8 d 0x22 < 32) && u8 d 0x23 == 0 && zeroAt d 0x28 24 && decide (u32 d 0x24 ≤ 200000) &&
    (lTimed d || u32 d 0x24 == 0) && (!lTimed d || lFlow d) && (!lFlow d || decide (lSource d < 64)) &&
    (if v then coefCodeOk (u8 d 3 % 16) && coefCodeOk (u8 d 3 / 16) && decide (lCropW d ≤ 8 * lDstW d) &&
        decide (lDstW d ≤ 16 * lCropW d) && decide (lCropH d ≤ 8 * lDstH d) && decide (lDstH d ≤ 16 * lCropH d)
      else lDstW d == lCropW d && lDstH d == lCropH d && u8 d 3 == 0 && u8 d 1 / 2 == 0)

/-- The rules of Table 5.2 and R115 on a source that exists: width, height and format. -/
def layerFits (d : List Byte) (q : Nat × Nat × Nat) : Bool :=
  decide (lCropX d + lCropW d ≤ q.1) && decide (lCropY d + lCropH d ≤ q.2.1) &&
    !(q.2.2 == fYC16 && (decide (8 ≤ u8 d 0) || lCropX d % 2 == 1))

/-! ### Shadow writes (R114, R127, R130, R131, R136, R144, R146) -/

/-- Writes composition shadow state: CMP_SHADOW_SEQ counts. -/
def cmpShadow (f : Shadow → Shadow) (s : State) : State :=
  let t := setF s R.CMP_SHADOW_SEQ_SEQ (nextSeq (getF s R.CMP_SHADOW_SEQ_SEQ))
  { t with cmp := { t.cmp with shadow := f t.cmp.shadow } }

/-- `set-layer` (R114, R115). -/
def execSetLayer (k : Pkt) (s : State) : Out :=
  .next (plain k (fun t =>
    let ok := layerStatic k.par && (match layerSource t k.par with | some q => layerFits k.par q | none => true)
    if !ok then .err St.badParam
    else .ok (cmpShadow (fun x => { x with layers := Tab.put x.layers (k.p8 0) k.par }) t) []) s)

/-- `set-z-order` (R130). -/
def execSetZOrder (k : Pkt) (s : State) : Out :=
  .next (plain k (fun t =>
    let l := (sub k.par 4 24).map (fun b => b.toNat)
    if 2 ≤ k.p8 0 ∨ !parZero k 1 3 ∨ (k.p8 0 = 1 ∧ !(List.range 24).all (fun i => l.contains i)) then .err St.badParam
    else .ok (cmpShadow (fun x => if k.p8 0 = 1 then { x with zMode := 1, zList := l } else { x with zMode := 0 }) t) []) s)

/-- A binary16 pattern is an infinity or NaN. -/
def notFinite16 (v : Nat) : Bool := v / 1024 % 32 == 31

/-- `set-background` (R131, R133). -/
def execSetBackground (k : Pkt) (s : State) : Out :=
  .next (plain k (fun t =>
    if (List.range 4).any (fun i => notFinite16 (k.p16 (2 * i))) then .err St.badParam
    else .ok (cmpShadow (fun x => { x with bg := k.par }) t) []) s)

/-- The checks of R127 on a bank. -/
def bankOk (b : List Byte) : Bool :=
  let ok := fun (c : Int) => decide (-2048 ≤ c) && decide (c ≤ 2047)
  let axis := fun (vert : Bool) (taps : Nat) => (List.range 64).all (fun p =>
    let l := (List.range taps).map (fun k => bankCoef b vert p k)
    l.all ok && l.sum == 1024)
  axis false 8 && axis true 6

/-- `load-bank` (R127). -/
def execLoadBank (k : Pkt) (f : Fetch) (s : State) : Out :=
  .next (command k f (fun copy t =>
    if 4 ≤ k.p8 0 ∨ !parZero k 1 3 then .err St.badParam
    else match bulk k f copy 4 1792 t with
      | .error e => .err e
      | .ok data =>
        let b := data.take 1792
        if !bankOk b then .err St.badParam
        else .ok (cmpShadow (fun x => { x with banks := Tab.put x.banks (k.p8 0) b }) t) []) s)

/-- `set-writeback` (R144). -/
def execSetWriteback (k : Pkt) (s : State) : Out :=
  .next (plain k (fun t =>
    if 2 ≤ k.p8 0 ∨ !parZero k 1 3 then .err St.badParam
    else .ok (cmpShadow (fun x => { x with wb := k.par }) t) []) s)

/-- `set-preview` (R146). -/
def execSetPreview (k : Pkt) (s : State) : Out :=
  .next (plain k (fun t =>
    if 2 ≤ k.p8 0 ∨ !parZero k 3 1 ∨ !parZero k 6 2 then .err St.badParam
    else .ok (cmpShadow (fun x => { x with pv := k.par }) t) []) s)

/-! ### Writeback and preview settings -/

abbrev wbEn (w : List Byte) : Bool := u8 w 0 == 1
abbrev wbX (w : List Byte) : Nat := u16 w 4
abbrev wbY (w : List Byte) : Nat := u16 w 6
abbrev wbW (w : List Byte) : Nat := u16 w 8
abbrev wbH (w : List Byte) : Nat := u16 w 0x0A
abbrev pvEn (p : List Byte) : Bool := u8 p 0 == 1
abbrev pvDiv (p : List Byte) : Nat := u8 p 1
abbrev pvEvery (p : List Byte) : Nat := u8 p 2
abbrev pvWhite (p : List Byte) : Nat := u16 p 4

/-- The surfaces of a setting: the second one can be absent. -/
def twoSurfs (l : List Byte) (off : Nat) : List Nat := u32 l off :: (if u32 l (off + 4) = 0 then [] else [u32 l (off + 4)])

/-- A surface is tiled, of a format, and large enough. -/
def surfSuits (s : State) (h fmt w hgt : Nat) : Bool :=
  match surfOf s h with
  | some (_, f) => sFormat f.desc == fmt && sLayout f.desc == 0 && decide (w ≤ sWidth f.desc) && decide (hgt ≤ sHeight f.desc)
  | none => false

/-- R144 on settings that are enabled. (DEDUCED log 31) -/
def wbOk (s : State) (w : List Byte) : Bool :=
  !wbEn w || (decide (regX s ≤ wbX w) && decide (wbX w + wbW w ≤ regX s + regW s) && decide (regY s ≤ wbY w) &&
    decide (wbY w + wbH w ≤ regY s + regH s) &&
    (twoSurfs w 0x0C).all (fun h => surfSuits s h fRGBA16F (wbW w) (wbH w) && !ingestOwned s h))

/-- R146 on settings that are enabled. (DEDUCED log 31) -/
def pvOk (s : State) (p : List Byte) : Bool :=
  let d := pvDiv p
  !pvEn p || ((d == 2 || d == 4 || d == 8 || d == 16) && decide (1 ≤ pvEvery p) && decide (1 ≤ pvWhite p) &&
    decide (pvWhite p < 0x7C00) &&
    (twoSurfs p 8).all (fun h => surfSuits s h fBGRA8 ((regW s + d - 1) / d) ((regH s + d - 1) / d)))

/-! ### Commit (R137 to R140) -/

/-- The enabled layers of a configuration. -/
def enabledLayers (x : Shadow) : List (List Byte) := (x.layers.filter (fun e => lEnable e.2)).map Prod.snd

/-- SEL_DELAY lies in the range of R118; LEAD × P is that of the parameters in force. (DEDUCED log 31) -/
def selDelayOk (s : State) (d : List Byte) : Bool :=
  match s.tim.params, Tab.get s.ing.flows (lSource d) with
  | some p, some f =>
    let sel := u32 d 0x24 * 16 * p.num
    let lead := getF s R.CMP_STATUS_LEAD_EFF * p.den * 1000000
    decide (lead ≤ sel) &&
      decide (sel * fRateNum f.desc ≤ lead * fRateNum f.desc + (u8 f.desc 0x1A - 2) * fRateDen f.desc * 1000000 * 16 * p.num)
  | _, _ => true

/-- VHALF with a user bank: taps 1 to 3 of every phase sum to 1,024 (R127). -/
def vhalfBankOk (x : Shadow) (d : List Byte) : Bool :=
  if lVhalf d ∧ 4 ≤ u8 d 3 / 16 then
    let b := Tab.getD x.banks (u8 d 3 / 16 - 4) []
    (List.range 64).all (fun p => bankCoef b true p 1 + bankCoef b true p 2 + bankCoef b true p 3 == 1024)
  else true

/-- Step 2 of R137 on an enabled layer. -/
def layerCommitOk (s : State) (x : Shadow) (d : List Byte) : Bool :=
  layerStatic d && (match layerSource s d with | some q => layerFits d q | none => false) && vhalfBankOk x d &&
    (!lTimed d || selDelayOk s d)

/-- R128: the line buffer is too short for a layer. -/
def lineTooLong (d : List Byte) : Bool :=
  decide (u8 d 0 < 8) && decide ((if lVhalf d then 16384 else 8192) < lCropW d + (if lEdge d then 8 else 0))

/-- Length of the overlap of [a, a + n) and [b, b + m). -/
def overlapLen (a : Int) (n : Nat) (b : Int) (m : Nat) : Nat := (min (a + n) (b + m) - max a b).toNat

/-- R129: a layer exceeds a rate. -/
def rateTooHigh (s : State) (d : List Byte) : Bool :=
  match cadence s with
  | none => false
  | some (num, den) =>
    let area := overlapLen (lDstX d) (lDstW d) (regX s) (regW s) * overlapLen (lDstY d) (lDstH d) (regY s) (regH s)
    let taps := if lVhalf d then 3 else 6
    let lines := min (lCropH d) (taps * lDstH d)
    decide (u8 d 0 < 8) && (decide (4400000000 * den < area * num) || decide (8800000000 * den < lCropW d * lines * num))

/-- Steps 2 to 4 of R137: the status of the first that fails. -/
def commitCheck (s : State) (x : Shadow) : Nat :=
  let l := enabledLayers x
  if !l.all (layerCommitOk s x) || !wbOk s x.wb || !pvOk s x.pv then St.badParam
  else if l.any lineTooLong then St.lbTooShort
  else if l.any (rateTooHigh s) then St.rateExceeded
  else 0

/-- CMP_STATUS.PENDING follows the pending commits. -/
def cmpPending (s : State) : State := setB s R.CMP_STATUS_PENDING (!s.cmp.pendings.isEmpty)

/-- `commit` (R137). -/
def execCommit (k : Pkt) (s : State) : Out :=
  .next (plain k (fun t =>
    let seq := getF t R.CMP_SHADOW_SEQ_SEQ
    let snap := { t.cmp.shadow with seq := seq }
    let targeted := bitAt k.par 4 0
    if k.p32 0 ≠ 0 ∧ k.p32 0 ≠ seq then .err St.stale
    else if 2 ≤ k.p32 4 then .err St.badParam
    else
      let a := commitCheck t snap
      let c := if a ≠ 0 then a else if targeted then targetCheck t (k.p32 8) else 0
      if c ≠ 0 then .err c
      else match placeCommit t (if targeted then some (k.p32 8) else none) (t.cmp.pendings.map (fun p => (p.due, p.locked))) with
        | .error e => .err e
        | .ok (due, i) =>
          let p : Pending := { snap := snap, due := due, targeted := targeted, locked := false }
          .ok (cmpPending { t with cmp := { t.cmp with pendings := replaceAt t.cmp.pendings i p } }) (commitReply due seq)) s)

/-- The setup deadline of boundary n passes: what is due there is locked in (R138). -/
def execCommitLockIn (n : Nat) (s : State) : Out :=
  .next (
    if !hasBoundaries s then s
    else
      let hit := fun (d : Option Nat) => match d with | some m => m == n | none => true
      { s with cmp := { s.cmp with pendings := s.cmp.pendings.map (fun p => { p with locked := p.locked || hit p.due }) }
               tnm := { s.tnm with pendings := s.tnm.pendings.map (fun p => { p with locked := p.locked || hit p.due }) } })

/-- Commits due at the boundary of frame n become active in the order they were placed (R139). -/
def applyCommits (n : Nat) (s : State) : State :=
  let due := s.cmp.pendings.filter (fun p => match p.due with | some d => decide (d ≤ n) | none => true)
  let rest := s.cmp.pendings.filter (fun p => match p.due with | some d => decide (n < d) | none => false)
  let s1 := due.foldl (fun a p =>
    let b := setF { a with cmp := { a.cmp with active := p.snap } } R.CMP_ACTIVE_SEQ_SEQ p.snap.seq
    raise 7 (setF b R.CMP_STATUS_LAYERS_EN (enabledLayers p.snap).length)) s
  cmpPending { s1 with cmp := { s1.cmp with pendings := rest } }

/-! ### Latching (R97, R117 to R119, R141, R142) -/

/-- The latch of an entry's newest generation. -/
def latchOf (s : State) (i : Nat) (f : Surface) : Latch :=
  let smp := match ownerFlow s (handleOf i f) with | some q => fSampling q.desc | none => 0xFF
  { surf := i, handle := handleOf i f, gen := f.generation, tCap := f.tCap, attr := f.pub ++ [BitVec.ofNat 8 smp] }

/-- S_N in NT, in ns (R117). -/
def selInstant (s : State) (n : Nat) (d : List Byte) : Int :=
  ((ntNs s : Nat) : Int) + (((tOf s n).getD 0 : Nat) : Int) - ((wtNs s : Nat) : Int) - ((u32 d 0x24 * 1000 : Nat) : Int)

/-- Published entries of a flow that still hold a frame. -/
def flowCands (s : State) (f : Flow) : List (Nat × Surface) :=
  f.holding.filterMap (fun i => (Tab.get s.srf.table i).bind (fun x => if x.generation = 0 then none else some (i, x)))

/-- The candidate with the greatest T_CAP at or before an instant. -/
def bestTimed (l : List (Nat × Surface)) (at_ : Int) : Option (Nat × Surface) :=
  (l.filter (fun e => e.2.ntMapped && decide ((e.2.tCap : Int) ≤ at_))).foldl (fun a e =>
    match a with
    | none => some e
    | some b => if b.2.tCap < e.2.tCap then some e else some b) none

/-- What a layer selects at boundary n: its latch if it has one, and whether R119 made it select as NEWEST. -/
def selectFor (s : State) (n : Nat) (d : List Byte) : Option Latch × Bool :=
  if !lFlow d then
    ((surfOf s (lSource d)).bind (fun e => if e.2.generation = 0 then none else some (latchOf s e.1 e.2)), false)
  else match Tab.get s.ing.flows (lSource d) with
    | none => (none, false)
    | some f =>
      let l := flowCands s f
      let newest := (f.published.bind (fun p => l.find? (fun e => e.1 == p.2)))
      let pick := fun (e : Option (Nat × Surface)) => e.map (fun x => latchOf s x.1 x.2)
      if !lTimed d then (pick newest, false)
      else match newest with
        | none => (none, false)
        | some x =>
          if !ntValid s || !x.2.ntMapped then (pick newest, true)
          else (pick (bestTimed l (selInstant s n d)), false)

/-- The generation a layer latched at the previous boundary, as far as it may be used. -/
def LayerAct.last (a : LayerAct) : Option Latch :=
  match a.checking with
  | some _ => a.used
  | none => match a.prev with | some l => some l | none => a.used

/-- A latch's generation failed its check, and no newer one has been published since. -/
def latchFailed (s : State) (l : Latch) : Bool :=
  match Tab.get s.srf.table l.surf with | some f => f.failed.contains l.gen | none => false

/-- A guarded generation (R102). -/
def latchGuarded (l : Latch) : Bool := bitAt l.attr 0 3

/-- Puts what a layer latched into its record (R149). (DEDUCED log 31) -/
def layerRecord (i st : Nat) (timed : Bool) (l : Option Latch) (s : State) : State :=
  let s1 := setB (setF s (R.CMP_L_STATE_STATE i) st) (R.CMP_L_STATE_SEL_TIMED i) timed
  let cap := match l with | some x => x.tCap | none => 0
  let s2 := setF (setF s1 (R.CMP_L_HANDLE_VAL i) (match l with | some x => x.handle | none => 0)) (R.CMP_L_GEN_VAL i)
    (match l with | some x => x.gen | none => 0)
  setF (setF s2 (R.CMP_L_TCAP_LO_VAL i) cap) (R.CMP_L_TCAP_HI_VAL i) (cap / 4294967296)

/-- Counts a late layer (R142). -/
def countLate (i : Nat) (s : State) : State := raise 6 (tally (R.CMP_L_LATE_COUNT i) 7 2 i s)

/-- Gives a layer its active state. -/
def setAct (i : Nat) (a : LayerAct) (s : State) : State := { s with cmp := { s.cmp with acts := Tab.put s.cmp.acts i a } }

/-- A layer latches a generation at boundary n: the guard check of a guarded one starts (R103). -/
def latchLayer (i : Nat) (d : List Byte) (l : Latch) (timed : Bool) (s : State) : State :=
  let old := (Tab.get s.cmp.acts i).bind LayerAct.last
  let keep := latchFailed s l && (match old with | some o => o.surf == l.surf && o.gen != l.gen | none => false)
  let l1 := if keep then old.getD l else l
  let check := latchGuarded l1 && !latchFailed s l1 && !keep
  let a : LayerAct := { desc := d, used := some l1, prev := if check then old else none
                        checking := if check then some l1 else none, late := false, timed := timed }
  let s1 := layerRecord i 1 timed (some l1) (setAct i a (latchGen l1.surf l1.gen s))
  let s2 := if encMismatch (profileOf s1.tnm.active (u8 d 0x22)) (match Tab.get s1.srf.table l1.surf with
      | some f => sFormat f.desc | none => 0) then tally R.TNM_PROF_MISMATCH_COUNT 8 2 i s1 else s1
  if check then { s2 with cmp := { s2.cmp with guardLeft := s2.cmp.guardLeft ++ [i] } } else s2

/-- A layer late under cases 1 to 3 of R141 keeps its state of frame N − 1. -/
def keepLayer (i : Nat) (s : State) : State :=
  match Tab.get s.cmp.acts i with
  | none => countLate i (layerRecord i 2 false none s)
  | some a => countLate i (layerRecord i 2 a.timed a.last
      (setAct i { a with used := a.last, prev := none, checking := none, late := true } s))

/-- Layer i at boundary n (R111, step 2). -/
def layerBoundary (n i : Nat) (s : State) : State :=
  match Tab.get s.cmp.active.layers i with
  | none => layerRecord i 0 false none { s with cmp := { s.cmp with acts := Tab.del s.cmp.acts i } }
  | some d =>
    if !lEnable d then layerRecord i 0 false none { s with cmp := { s.cmp with acts := Tab.del s.cmp.acts i } }
    else
      let r := selectFor s n d
      let s1 := if r.2 then tally R.CMP_SEL_FALLBACK_COUNT 7 4 i s else s
      match r.1 with
      | some l => latchLayer i d l (lTimed d && !r.2) s1
      | none => keepLayer i s1

/-! ### Passes (R111, R112, R143 to R146) -/

/-- Columns and rows of regions. -/
def regCols (s : State) : Nat := (regW s + 63) / 64
def regRows (s : State) : Nat := (regH s + 63) / 64

/-- The regions in order from the one given as row times 65,536 plus column. -/
def regionOrder (s : State) (start : Nat) : List (Nat × Nat) :=
  let l := ((List.range (regRows s)).map (fun r => (List.range (regCols s)).map (fun c => (c, r)))).flatten
  let after := fun (e : Nat × Nat) => decide (start ≤ e.2 * 65536 + e.1)
  l.filter after ++ l.filter (fun e => !after e)

/-- A map is in force: the sender has a region. -/
abbrev hasRegion (s : State) : Bool := isSet s R.CEL_STATUS_MAP_VALID

/-- The first of two surfaces that no layer latches (R144). -/
def freeOfTwo (s : State) (l : List Nat) : Option Nat :=
  let held := ((s.cmp.acts.map (fun e => e.2.holds)).flatten).map Prod.fst
  (l.filterMap (fun h => (surfOf s h).map Prod.fst)).find? (fun i => !held.contains i)

/-- The first of two surfaces free for a writeback or preview: none from throttle step 1 on (R403). -/
def wbFree (s : State) (l : List Nat) : Option Nat := if 1 ≤ s.cmp.stepIn then none else freeOfTwo s l

/-- Skips a writeback or preview (R145). -/
def skipWb (s : State) : State := tally R.CMP_WB_SKIP_WB 7 3 0 s
def skipPv (s : State) : State := tally R.CMP_WB_SKIP_PV 7 3 1 s

/-- The writeback of frame n takes place. -/
def wbWanted (s : State) : Bool := hasRegion s && wbEn s.cmp.active.wb
/-- The preview of frame n takes place. -/
def pvWanted (n : Nat) (s : State) : Bool := hasRegion s && pvEn s.cmp.active.pv && n % max 1 (pvEvery s.cmp.active.pv) == 0

/-- Starts pass n; layers whose checks are outstanding are late and use what they latched in frame N − 1 (R142). -/
def startPass (n : Nat) (s : State) : State :=
  let late := s.cmp.guardLeft
  let s1 := late.foldl (fun a i => match Tab.get a.cmp.acts i with
    | some x => countLate i (setF (setAct i { x with used := x.prev, prev := none, late := true } a) (R.CMP_L_STATE_STATE i) 2)
    | none => a) { s with cmp := { s.cmp with guardLeft := [] } }
  let s2 := (List.range 24).foldl (fun a i => setF a (R.CMP_L_CULLED_CULLED i) 0) s1
  let wb := if wbWanted s2 then wbFree s2 (twoSurfs s2.cmp.active.wb 0x0C) else none
  let pv := if pvWanted n s2 then wbFree s2 (twoSurfs s2.cmp.active.pv 8) else none
  let p : Pass := { frame := n, todo := regionOrder s2 s2.cmp.startAt, started := ltNs s2
                    reads := s2.cmp.acts.filterMap (fun e => e.2.used.map (fun l => (l.surf, l.gen)))
                    wbSurf := wb, pvSurf := pv }
  let s3 := setF (setF (setF s2 R.CMP_FRAME_FRAME n) R.CMP_STATUS_PASS_ACTIVE 1) R.CMP_STATUS_GUARD_WAIT 0
  { s3 with cmp := { s3.cmp with pass := some p }, cel := { s3.cel with encoded := [] } }

/-- The duration of a pass that ends now, in 100 ns. (DEDUCED log 31) -/
def passTime (p : Pass) (s : State) : State :=
  let t := inexact 24 (ltNs s - p.started) 100
  setSat (setSat s R.CMP_PASS_TIME_LAST t) R.CMP_PASS_MAX_MAX (max t (getF s R.CMP_PASS_MAX_MAX))

/-- A pass ends with every region composed: its writeback and preview are published. -/
def passDone (p : Pass) (s : State) : State :=
  let pub := fun (o : Option Nat) (a : State) => match o with | some i => publishGen i none a | none => a
  let s1 := setF (passTime p s) R.CMP_STATUS_PASS_ACTIVE 0
  releaseSweep (pub p.pvSurf (pub p.wbSurf { s1 with cmp := { s1.cmp with pass := none, startAt := 0 } }))

/-- A pass that has not ended at the next boundary is cut off (R112, R145). -/
def passCut (p : Pass) (s : State) : State :=
  let rot := isSet s R.CMP_CTRL_ROTATE
  let at_ := match p.todo.head? with | some r => r.2 * 65536 + r.1 | none => 0
  let s1 := setF (passTime p s) R.CMP_STATUS_PASS_ACTIVE 0
  let s2 := addF { s1 with cmp := { s1.cmp with pass := none } } R.CMP_REG_SKIP_COUNT p.todo.length
  let s3 := if p.wbSurf.isSome then skipWb s2 else s2
  let s4 := if p.pvSurf.isSome then skipPv s3 else s3
  let s5 := tally R.CMP_OVERRUN_COUNT 7 1 0 s4
  { s5 with cmp := { s5.cmp with startAt := if rot then at_ else 0 } }

/-- Ends the pass under way at a boundary. -/
def endPassAt (s : State) : State :=
  match s.cmp.pass with
  | none => s
  | some p => if p.todo.isEmpty then passDone p s else passCut p s

/-- PASS_END: the pass under way has composed its last region. -/
def execPassEnd (s : State) : Out :=
  .next (match s.cmp.pass with
    | some p => if running s && p.todo.isEmpty then passDone p s else s
    | none => s)

/-- A map that waits for this boundary takes effect (R179). -/
def pendingMap (n : Nat) (s : State) : State :=
  match s.cel.mapPending with
  | some (m, due) => if due ≤ n then mapTakes m s else s
  | none => s

/-- The throttle step's actions on a sender take effect (R403): from step 1 on the ports with TOPO 0 are HELD. -/
def takeStep (s : State) : State :=
  let was := s.cmp.stepIn
  let s1 := { s with cmp := { s.cmp with stepIn := getF s R.THM_STATUS_STEP } }
  let idle := ports.filter (fun p => portTopo s1 p == 0)
  if was = 0 ∧ 1 ≤ s1.cmp.stepIn then idle.foldl (fun a p => holdPort p (linkDown p 0 a)) s1
  else if 1 ≤ was ∧ s1.cmp.stepIn = 0 then idle.foldl (fun a p => if mustHold a p then a else releasePort p a) s1
  else s1

/-- The boundary of frame n (R111). -/
def boundary (n : Nat) (s : State) : State :=
  let s1 := applyCommits n (takeStep (endPassAt s))
  let c := colourCommits n s1
  let s2 := pendingMap n c.1
  let s3 := { s2 with cmp := { s2.cmp with guardLeft := [], lastFrame := some n } }
  let s4 := kUpdate n c.2 ((List.range 24).foldl (fun a i => layerBoundary n i a) s3)
  let s5 := if wbWanted s4 && (wbFree s4 (twoSurfs s4.cmp.active.wb 0x0C)).isNone then skipWb s4 else s4
  let s6 := if pvWanted n s5 && (wbFree s5 (twoSurfs s5.cmp.active.pv 8)).isNone then skipPv s5 else s5
  let s7 := releaseSweep s6
  if !hasRegion s7 then s7
  else if s7.cmp.guardLeft.isEmpty then startPass n s7
  else setF s7 R.CMP_STATUS_GUARD_WAIT 1

/-- FRAME_BOUNDARY: B_n. -/
def execFrameBoundary (n : Nat) (s : State) : Out := .next (if hasBoundaries s then boundary n s else s)

/-- The guard value of a latched generation agrees with its reference. (DEDUCED log 31) -/
def guardHolds (s : State) (l : Latch) : Bool :=
  match Tab.get s.srf.table l.surf with
  | some f => (match Tab.get f.guardRefs l.gen with | some v => guardValue s f.desc == v | none => true)
  | none => true

/-- The generation a layer used before passes its own check. -/
def prevGood (s : State) (a : LayerAct) (l : Latch) : Bool :=
  match a.prev with
  | some p => !(p.surf == l.surf && p.gen == l.gen) && !latchFailed s p && (!latchGuarded p || guardHolds s p)
  | none => false

/-- A check fails (R103): counted, the generation released with REASON 2, and remembered as failed. (DEDUCED log 31) -/
def guardFail (l : Latch) (s : State) : State :=
  let s1 := occur 6 2 l.surf 0 (raise 5 s)
  let held := match Tab.get s1.srf.table l.surf with | some f => f.latched.contains l.gen | none => false
  surfUpd l.surf (fun f => { f with failed := [l.gen] }) (if held then release l.surf l.gen 2 s1 else s1)

/-- A guard check of layer i finishes (R103, R143). (DEDUCED log 31) -/
def guardDone (i : Nat) (s : State) : State :=
  match Tab.get s.cmp.acts i with
  | none => s
  | some a =>
    match a.checking with
    | none => s
    | some l =>
      let inTime := s.cmp.guardLeft.contains i
      let s1 := { s with cmp := { s.cmp with guardLeft := s.cmp.guardLeft.filter (· != i) } }
      let s2 :=
        if guardHolds s1 l then setAct i { a with checking := none, prev := if inTime then none else some l } s1
        else if !inTime then guardFail l (setAct i { a with checking := none } s1)
        else if prevGood s1 a l then guardFail l (setAct i { a with used := a.prev, prev := none, checking := none } s1)
        else tally R.SRF_GUARD_BOTH_COUNT 6 1 l.surf
          (guardFail l (setAct i { a with used := some l, prev := none, checking := none } s1))
      let s3 := releaseSweep s2
      if inTime && s3.cmp.guardLeft.isEmpty && isSet s3 R.CMP_STATUS_GUARD_WAIT then startPass (s3.cmp.lastFrame.getD 0) s3
      else s3

/-- GUARD_CHECK_DONE: the check of a layer's latched generation finishes. -/
def execGuardCheckDone (layer : Nat) (s : State) : Out := .next (if running s then guardDone layer s else s)

/-- GUARD_WAIT_EXPIRY: 500 µs after the boundary (R143). -/
def execGuardWaitExpiry (s : State) : Out :=
  .next (if running s && isSet s R.CMP_STATUS_GUARD_WAIT then startPass (s.cmp.lastFrame.getD 0) s else s)

/-! ### Regions: culling, blending and encoding (R131 to R135) -/

/-- A canvas rectangle: left, top, width, height. -/
structure Rect where
  x : Int
  y : Int
  w : Nat
  h : Nat
  deriving DecidableEq, Repr

/-- The canvas rectangle of a region. -/
def regionRect (s : State) (r : Nat × Nat) : Rect :=
  { x := regX s + 64 * r.1, y := regY s + 64 * r.2, w := min 64 (regW s - 64 * r.1), h := min 64 (regH s - 64 * r.2) }

/-- The destination of a layer. -/
def dstRect (d : List Byte) : Rect := { x := lDstX d, y := lDstY d, w := lDstW d, h := lDstH d }

/-- The common part of two rectangles. -/
def Rect.meet (a b : Rect) : Rect :=
  { x := max a.x b.x, y := max a.y b.y, w := overlapLen a.x a.w b.x b.w, h := overlapLen a.y a.h b.y b.h }

/-- A rectangle holds no pixel. -/
def Rect.void (a : Rect) : Bool := a.w == 0 || a.h == 0

/-- The surface a layer reads. -/
def actSource (s : State) (a : LayerAct) (l : Latch) : Source :=
  { desc := match Tab.get s.srf.table l.surf with | some f => f.desc | none => []
    sflags := u8 l.attr 0, opaque_ := lBlend a.desc == 2 }

/-- Numbers of the MBC blocks of a source rectangle: first column and row, last column and row. -/
def blocksOf (d : List Byte) (x0 y0 x1 y1 : Nat) : List Nat :=
  ((List.range (y1 / 8 + 1 - y0 / 8)).map (fun j => (List.range (x1 / 8 + 1 - x0 / 8)).map (fun i =>
    blockNo (sPitch d) ((x0 / 8 + i) * 8) ((y0 / 8 + j) * 8)))).flatten

/-- The source rectangle that a part of a layer's destination reads: first column and row, last column and row. -/
def srcSpan (q : Source) (d : List Byte) (m : Rect) : Nat × Nat × Nat × Nat :=
  let dx := (m.x - lDstX d).toNat
  let dy := (m.y - lDstY d).toNat
  if 8 ≤ u8 d 0 then (lCropX d + dx, lCropY d + dy, lCropX d + dx + m.w - 1, lCropY d + dy + m.h - 1)
  else
    let x0 := if lEdge d then 0 else lCropX d
    let x1 := if lEdge d then sWidth q.desc - 1 else lCropX d + lCropW d - 1
    let y0 := if lEdge d then 0 else lCropY d
    let y1 := if lEdge d then sHeight q.desc - 1 else lCropY d + lCropH d - 1
    let px := fun (x : Nat) => (scalerPos (lCropX d) (lCropW d) (lDstW d) x 20).1
    let py := fun (y : Nat) => (scalerPos (lCropY d) (lCropH d) (lDstH d) y 20).1
    let vo := if lVhalf d then 1 else 2
    let vp := if lVhalf d then 1 else 3
    (holdTo x0 x1 (px dx - 3), holdTo y0 y1 (py dy - vo), holdTo x0 x1 (px (dx + m.w - 1) + 4),
      holdTo y0 y1 (py (dy + m.h - 1) + vp))

/-- Every block a graphic layer reads in a region has an OPACITY. -/
def allBlocks (s : State) (q : Source) (d : List Byte) (m : Rect) (op : Nat) : Bool :=
  let p := srcSpan q d m
  decide (8 ≤ u8 d 0) && sLayout q.desc == 1 && (blocksOf q.desc p.1 p.2.1 p.2.2.1 p.2.2.2).all (fun b => blockOpacity s q.desc b == op)

/-- A layer is empty in a region (R134). (DEDUCED log 31) -/
def layerEmpty (s : State) (d : List Byte) (q : Source) (r : Rect) : Bool :=
  let m := r.meet (dstRect d)
  m.void || lGalpha d == 0 || (lBlend d != 2 && allBlocks s q d m 1)

/-- A layer is opaque in a region (R134). (DEDUCED log 31) -/
def layerOpaque (s : State) (d : List Byte) (q : Source) (r : Rect) : Bool :=
  let m := r.meet (dstRect d)
  m == r && lGalpha d == 65535 &&
    (lBlend d == 2 || (lBlend d == 0 && (!fmtAlpha (sFormat q.desc) || q.sflags.testBit 2 || allBlocks s q d m 2)))

/-- The enabled layers in blending order, bottom first (R130). -/
def layerOrder (s : State) : List (Nat × LayerAct × Latch) :=
  let ids := if s.cmp.active.zMode = 1 then s.cmp.active.zList else List.range 24
  ids.filterMap (fun i => (Tab.get s.cmp.acts i).bind (fun a => a.used.map (fun l => (i, a, l))))

/-- The layers blended in a region: from the topmost opaque one, without the empty ones (R135). -/
def blendedIn (s : State) (r : Rect) : List (Nat × LayerAct × Latch) :=
  let l := layerOrder s
  let opq := fun (e : Nat × LayerAct × Latch) => layerOpaque s e.2.1.desc (actSource s e.2.1 e.2.2) r
  let above := l.reverse.takeWhile (fun e => !opq e)
  let base := (l.reverse.dropWhile (fun e => !opq e)).take 1
  (above ++ base).reverse.filter (fun e => !layerEmpty s e.2.1.desc (actSource s e.2.1 e.2.2) r)

/-- Components of a layer at a canvas pixel, before its colour stage. -/
def layerComps (s : State) (d : List Byte) (q : Source) (x y : Int) : List Flt :=
  let dx := (x - lDstX d).toNat
  let dy := (y - lDstY d).toNat
  if 8 ≤ u8 d 0 then fetchComps s q (lCropX d + dx) (lCropY d + dy) else scaledComps s s.cmp.active.banks d q dx dy

/-- A layer's pixel as it reaches the blender. -/
def layerPixel (s : State) (a : LayerAct) (l : Latch) (x y : Int) : Px :=
  let q := actSource s a l
  let c := layerComps s a.desc q x y
  colourStage s (profileOf s.tnm.active (u8 a.desc 0x22)) l.attr (sFormat q.desc)
    { r := c.getD 0 .zero, g := c.getD 1 .zero, b := c.getD 2 .zero, a := c.getD 3 .zero }

/-- The blender (R132). -/
def blendPx (add : Bool) (galpha : Nat) (dst src : Px) : Px :=
  let ga := Flt.ofRat galpha 65535
  let a := src.a.mul ga
  let one := fun (d c : Flt) => if add then d.add (c.mul ga) else (c.mul ga).add ((Flt.one.sub a).mul d)
  { r := one dst.r src.r, g := one dst.g src.g, b := one dst.b src.b
    a := if add then Flt.one.min (dst.a.add a) else a.add ((Flt.one.sub a).mul dst.a) }

/-- The background. -/
def bgPx (s : State) : Px :=
  let c := fun (i : Nat) => Flt.of16 (u16 s.cmp.active.bg (2 * i))
  { r := c 0, g := c 1, b := c 2, a := c 3 }

/-- The finished canvas pixel, 8 bytes (R131 to R133). -/
def composePixel (s : State) (ls : List (Nat × LayerAct × Latch)) (x y : Int) : List Byte :=
  let p := ls.foldl (fun (dst : Px) e =>
    if ((dstRect e.2.1.desc).meet { x := x, y := y, w := 1, h := 1 }).void then dst
    else blendPx (lBlend e.2.1.desc == 1) (lGalpha e.2.1.desc) dst (layerPixel s e.2.1 e.2.2 x y)) (bgPx s)
  leBytes 2 p.r.toCanvas ++ leBytes 2 p.g.toCanvas ++ leBytes 2 p.b.toCanvas ++ leBytes 2 p.a.toCanvas

/-- The L16 bytes of a canvas pixel (R163). -/
def encodePixel (s : State) (px : List Byte) : List Byte :=
  let c := wallEncode (getF s R.TNM_K_K) s.tnm.active.kneeG (u16 px 0) (u16 px 2) (u16 px 4)
  leBytes 2 c.1 ++ leBytes 2 c.2.1 ++ leBytes 2 c.2.2

/-- The pixels of a rectangle in raster order. -/
def rectPixels (r : Rect) : List (Nat × Nat) :=
  ((List.range r.h).map (fun (j : Nat) => (List.range r.w).map (fun (i : Nat) => ((r.x + (i : Int)).toNat, (r.y + (j : Int)).toNat)))).flatten

/-- Bad MBC blocks that the layers blended in a region fetch (R96). (DEDUCED log 31) -/
def badBlocks (s : State) (ls : List (Nat × LayerAct × Latch)) (r : Rect) : List Nat :=
  (ls.map (fun e =>
    let q := actSource s e.2.1 e.2.2
    if sLayout q.desc = 1 then
      let p := srcSpan q e.2.1.desc (r.meet (dstRect e.2.1.desc))
      ((blocksOf q.desc p.1 p.2.1 p.2.2.1 p.2.2.2).filter (fun b => hdrBad (sFormat q.desc) (blockHdr s q.desc b))).map
        (fun _ => e.2.2.surf)
    else [])).flatten

/-- The canvas pixel, 8 bytes. -/
def canvasPx (s : State) (x y : Nat) : List Byte := (Tab.get s.cel.canvas (pixKey x y)).getD (zeros 8)

/-- Copies a region's part of the writeback rectangle (R144). -/
def writeback (i : Nat) (r : Rect) (s : State) : State :=
  let w := s.cmp.active.wb
  match Tab.get s.srf.table i with
  | none => s
  | some f =>
    (rectPixels (r.meet { x := wbX w, y := wbY w, w := wbW w, h := wbH w })).foldl (fun a p =>
      let px := canvasPx s p.1 p.2
      planePut (sPlane1 f.desc) (sPitch f.desc) (p.1 - wbX w) (p.2 - wbY w) (px.drop 4)
        (planePut (sPlane0 f.desc) (sPitch f.desc) (p.1 - wbX w) (p.2 - wbY w) (px.take 4) a)) s

/-- round_half_up(255 × sqrt(v)) of a value from 0 to 1 (R146). -/
def sqrtCode (v : Flt) : Nat :=
  match v with
  | .fin _ m e => (isqrt (if 0 ≤ e then 260100 * m * 2 ^ e.toNat else 260100 * m / 2 ^ (-e).toNat) + 1) / 2
  | _ => 0

/-- A preview pixel: the average of its box in a region, encoded (R146). -/
def previewPixel (s : State) (box : Rect) : List Byte :=
  let px := (rectPixels box).map (fun p => canvasPx s p.1 p.2)
  let n := Flt.ofNat px.length
  let white := Flt.of16 (pvWhite s.cmp.active.pv)
  let code := fun (c : Nat) =>
    let sum := px.foldl (fun (a : Flt) b => a.add (Flt.of16 (u16 b (2 * c)))) Flt.zero
    BitVec.ofNat 8 (sqrtCode ((sum.div n).div white).clamp01)
  [code 2, code 1, code 0, 255]

/-- Makes the preview pixels of a region. -/
def preview (i : Nat) (reg : Nat × Nat) (r : Rect) (s : State) : State :=
  let d := pvDiv s.cmp.active.pv
  match Tab.get s.srf.table i with
  | none => s
  | some f =>
    let cells := ((List.range ((r.h + d - 1) / d)).map (fun v => (List.range ((r.w + d - 1) / d)).map (fun u => (u, v)))).flatten
    cells.foldl (fun a c =>
      let box := r.meet { x := r.x + (d * c.1 : Nat), y := r.y + (d * c.2 : Nat), w := d, h := d }
      let x := reg.1 * (64 / d) + c.1
      let y := reg.2 * (64 / d) + c.2
      if x < sWidth f.desc ∧ y < sHeight f.desc then
        planePut (sPlane0 f.desc) (sPitch f.desc) x y (previewPixel s box) a
      else a) s

/-- Composes a region of the pass under way, encodes it, copies it to writeback and preview, and hashes what it
completes (R111, R163, R182). -/
def composeRegion (p : Pass) (reg : Nat × Nat) (s : State) : State :=
  let r := regionRect s reg
  let ls := blendedIn s r
  let used := ls.map Prod.fst
  let skipped := ((layerOrder s).map Prod.fst).filter (fun i => !used.contains i)
  let bad := badBlocks s ls r
  let px := (rectPixels r).map (fun q => (pixKey q.1 q.2, composePixel s ls q.1 q.2))
  let cel := { s.cel with
    canvas := px.foldl (fun t e => Tab.put t e.1 e.2) s.cel.canvas
    l16 := px.foldl (fun t e => Tab.put t e.1 (encodePixel s e.2)) s.cel.l16
    encoded := (reg.1 * 65536 + reg.2) :: s.cel.encoded }
  let s1 := { s with cel := cel, cmp := { s.cmp with pass := some { p with todo := p.todo.erase reg } } }
  let s2 := skipped.foldl (fun a i => addF a (R.CMP_L_CULLED_CULLED i) 1) s1
  let s3 := match p.wbSurf with | some i => writeback i r s2 | none => s2
  let s4 := match p.pvSurf with | some i => preview i reg r s3 | none => s3
  let s5 := bad.foldl (fun a i => tally R.SRF_MBC_BAD_COUNT 6 2 i a) s4
  hashAfter p.frame (reg.1 * 65536 + reg.2) s5

/-- REGION_COMPLETE: one of the up to four regions that the pipes work on is complete, the i-th of those still to do. -/
def execRegionComplete (i : Nat) (s : State) : Out :=
  .next (match s.cmp.pass with
    | none => s
    | some p => match p.todo[i]? with
      | none => s
      | some reg => if running s && decide (i < 4) then composeRegion p reg s else s)

/-- A write of CMP_PASS_MAX with CLEAR set, by requester q (R148). -/
def execPassMaxClear (q : Nat) (v : Word) (s : State) : Out :=
  .next (access q 7 false 0x18 (fun t => if R.CMP_PASS_MAX_CLEAR.of v = 1 then setF t R.CMP_PASS_MAX_MAX 0 else t) s)

/-! ### Start and stop of composition (R112, R140, R147) -/

/-- Composition starts: at entry to SHOW, or when HOLD ends. LEAD takes effect. -/
def compStart (show_ : Bool) (s : State) : State :=
  if !sender s then s
  else
    let s1 := setF s R.CMP_STATUS_LEAD_EFF (getF s R.CMP_CTRL_LEAD)
    let s2 := { s1 with cmp := { s1.cmp with startAt := 0 }, tnm := { s1.tnm with firstShow := s1.tnm.firstShow || show_ } }
    ingestRestart s2

/-- Composition stops: a pass under way stops uncounted, and what only it read is released. Entry to HOLD makes every
pending commit due at the first boundary after it. -/
def compStop (hold_ : Bool) (s : State) : State :=
  if !sender s then s
  else
    let s1 := setF (setF s R.CMP_STATUS_PASS_ACTIVE 0) R.CMP_STATUS_GUARD_WAIT 0
    let s2 := releaseSweep { s1 with cmp := { s1.cmp with pass := none, guardLeft := [] } }
    if hold_ then
      { s2 with cmp := { s2.cmp with pendings := s2.cmp.pendings.map (fun p => { p with due := none, locked := false }) }
                tnm := { s2.tnm with pendings := s2.tnm.pendings.map (fun p => { p with due := none, locked := false }) } }
    else s2

end Sys2Proof.Machine
end

