-- ==== Sys2Proof/Machine/Damask.lean ====
section
/-!
DEFINITION. Damask (R325 to R359): the factory and user layers, the correction pipeline of one lamp, ageing and its
checkpoints, and the content power of a frame.
-/

namespace Sys2Proof.Machine

/-! ### The factory layer (R327 to R330) -/

abbrev flW (l : List Byte) : Nat := u16 l 0x0C
abbrev flH (l : List Byte) : Nat := u16 l 0x0E
abbrev flZC (l : List Byte) : Nat := u8 l 0x10
abbrev flZR (l : List Byte) : Nat := u8 l 0x11
abbrev flNclass (l : List Byte) : Nat := u8 l 0x12
abbrev flNtclass (l : List Byte) : Nat := u8 l 0x13

/-- Offset of a pixel record. -/
def pixOff (l : List Byte) (u v : Nat) : Nat := 0x29C0 + 64 * (v * flW l + u)

/-- Offset of a lamp class entry. -/
abbrev classOff (k : Nat) : Nat := 0x100 + 256 * k

/-- The values of Table 11.3. -/
def flHeaderOk (l : List Byte) : Bool :=
  let w := flW l
  let h := flH l
  u32 l 0 == 0x464B4D44 && u16 l 4 == 1 && zeroAt l 6 2 && u32 l 8 == 10688 + 64 * w * h && decide (1 ≤ w) &&
    decide (w ≤ 16384) && decide (1 ≤ h) && decide (h ≤ 16384) && decide (w * h ≤ 1048576) && decide (cellCount w h ≤ 4096) &&
    decide (1 ≤ flZC l) && decide (flZC l ≤ cellCols w) && decide (1 ≤ flZR l) && decide (flZR l ≤ cellCols h) &&
    decide (flZC l * flZR l ≤ 256) && decide (1 ≤ flNclass l) && decide (flNclass l ≤ 16) && decide (1 ≤ flNtclass l) &&
    decide (flNtclass l ≤ 16) && decide (100 ≤ u16 l 0x14) && decide (u16 l 0x14 ≤ 20000) && decide (u8 l 0x16 ≤ 3) &&
    u8 l 0x17 == 0 && (u8 l 0x16 == 3 || zeroAt l 0x18 12) && zeroAt l 0x24 12 && zeroAt l 0x58 168 &&
    decide (u32 l 8 + 96 ≤ l.length)

/-- LOWG rises or stays from point to point, up to 16,384. -/
def lowgOk (l : List Byte) (o : Nat) : Bool :=
  (List.range 32).all (fun j => decide (u16 l (o + 0x80 + 2 * j) ≤ u16 l (o + 0x82 + 2 * j))) && u16 l (o + 0xC0) == 16384

/-- The values of Table 11.4, for the classes in use. -/
def flClassOk (l : List Byte) (k : Nat) : Bool :=
  let o := classOff k
  (List.range 64).all (fun j => decide (0x800 ≤ u16 l (o + 2 * j))) && lowgOk l o && zeroAt l (o + 0xC2) 2 &&
    decide (1 ≤ u32 l (o + 0xC4)) && decide (u32 l (o + 0xC4) ≤ 1000000) && zeroAt l (o + 0xC8) 56

/-- The values of Table 11.5, and the classes a pixel names. -/
def flPixelOk (l : List Byte) (n : Nat) : Bool :=
  let o := 0x29C0 + 64 * n
  let c := u16 l (o + 0x18)
  (List.range 3).all (fun i => decide (c / 16 ^ i % 16 < flNclass l)) && decide (c / 4096 < flNtclass l) &&
    decide (u8 l (o + 0x32) < 8) && zeroAt l (o + 0x33) 13

/-- The format checks of R330. -/
def flFormatOk (l : List Byte) : Bool :=
  flHeaderOk l && (List.range (flNclass l)).all (flClassOk l) && (List.range (flW l * flH l)).all (flPixelOk l)

/-- The public keys of the module signers the device trusts (R435). (DESIGN CHOICE log 12) -/
def signerKeys (s : State) : List (List Byte) :=
  Config.moduleSigners ++ (match storeOf s with | some st => st.signers.map (fun e => certPub (e.2.drop 256)) | none => [])

/-- The signature of a factory layer verifies. -/
def flSigned (s : State) (l : List Byte) : Bool :=
  (signerKeys s).any (fun k => keyId k == sub l 0x48 16 && Config.ecdsaVerify k (l.take (u32 l 8)) (sub l (u32 l 8) 96))

/-- R330 on a layer, with the serial of the identity EEPROM: the FL_STATE it gives. (DEDUCED log 37) -/
def flJudge (s : State) (l : List Byte) (serial : Option (List Byte)) : Nat :=
  if !flFormatOk l then 3
  else if !flSigned s l then 4
  else if serial ≠ some (sub l 0x30 16) then 5
  else 2

/-! ### Zones (R329) -/

/-- The band of n bands that index i of c indexes lies in. -/
def bandOf (c n i : Nat) : Nat := ((List.range n).find? (fun j => decide (i < (j + 1) * c / n))).getD 0

/-- The zone of a cell. -/
def zoneOf (l : List Byte) (c : Nat) : Nat :=
  let cols := cellCols (flW l)
  bandOf (cellCols (flH l)) (flZR l) (c / cols) * flZC l + bandOf cols (flZC l) (c % cols)

/-- The factory layer in force, empty where there is none. -/
abbrev flOf (s : State) : List Byte := s.dmk.factory.getD []

/-- Cells of the module, zones of the module. -/
abbrev flCells (s : State) : Nat := cellCount (flW (flOf s)) (flH (flOf s))
abbrev flZones (s : State) : Nat := flZC (flOf s) * flZR (flOf s)

/-- Cells of a zone. -/
def zoneCells (s : State) (z : Nat) : List Nat := (List.range (flCells s)).filter (fun c => zoneOf (flOf s) c == z)

/-- Lamp indexes of a cell. -/
def cellLamps (l : List Byte) (c : Nat) : List Nat :=
  let r := cellRect (flW l) (flH l) c
  ((List.range r.2.2.2).map (fun j => ((List.range r.2.2.1).map (fun i =>
    (List.range 3).map (fun k => 3 * ((r.2.1 + j) * flW l + r.1 + i) + k))).flatten)).flatten

/-! ### The user layer (R333 to R335) -/

/-- A user layer that is valid for the factory layer in force. -/
def userOk (s : State) (b : List Byte) : Bool :=
  let l := flOf s
  let n := flW l * flH l
  u32 b 0 == 0x554B4D44 && u16 b 4 == 1 && zeroAt b 6 2 && u16 b 8 == flW l && u16 b 0x0A == flH l && u32 b 0x0C != 0 &&
    sub b 0x10 16 == factoryIdOf l && zeroAt b 0x24 28 && decide (64 + 16 * n ≤ b.length) &&
    crc32c (sub b 64 (16 * n)) == u32 b 0x20 &&
    (List.range n).all (fun i => decide (u8 b (64 + 16 * i + 14) < 2) && u8 b (64 + 16 * i + 15) == 0)

/-- a is greater than b in serial order (R335). -/
def serialAfter (a b : Nat) : Bool := decide (0 < frameDiff a b)

/-- The user layer that a load takes as current. -/
def userPick (s : State) (m : Module) : Option (List Byte) :=
  match userOk s m.user0, userOk s m.user1 with
  | true, true => some (if serialAfter (u32 m.user1 0x0C) (u32 m.user0 0x0C) then m.user1 else m.user0)
  | true, false => some m.user0
  | false, true => some m.user1
  | false, false => none

/-- Bits of DMK_CTRL in force. -/
def dmkCtrl (s : State) (f : Fld) : Nat := f.of s.dmk.ctrl

/-- USER_VALID and DMK_USER_GEN follow the current layer and USER_EN. -/
def userShow (s : State) : State :=
  let on := s.dmk.user.isSome && dmkCtrl s R.DMK_CTRL_USER_EN == 1
  setF (setLevel 13 R.DMK_STATUS_USER_VALID (if on then 1 else 0) s) R.DMK_USER_GEN_UGEN
    (match s.dmk.user with | some b => u32 b 0x0C | none => 0)

/-- A layer becomes current, and every position is marked. -/
def userTake (b : List Byte) (s : State) : State :=
  userShow { s with dmk := { s.dmk with user := some b, userNext := none, markAll := true } }

/-- The record of a pixel: SEAM, the three UG, the three UO, and DARK. -/
def userRecord (s : State) (u v : Nat) : Nat × List Nat × List Int × Bool :=
  match s.dmk.user with
  | some b =>
    if dmkCtrl s R.DMK_CTRL_USER_EN = 1 then
      let o := 64 + 16 * (v * flW (flOf s) + u)
      (u16 b o, [u16 b (o + 2), u16 b (o + 4), u16 b (o + 6)],
        [signed 16 (u16 b (o + 8)), signed 16 (u16 b (o + 10)), signed 16 (u16 b (o + 12))], bitAt b (o + 14) 0)
    else (0x8000, [0x8000, 0x8000, 0x8000], [0, 0, 0], false)
  | none => (0x8000, [0x8000, 0x8000, 0x8000], [0, 0, 0], false)

/-! ### The pipeline (R337 to R342) -/

/-- x shifted right arithmetically with half of the divisor added. -/
def roundShift (x : Int) (n : Nat) : Int := (x + 2 ^ (n - 1)) / (2 ^ n : Nat)

/-- sat20 of R337. -/
def sat20 (x : Int) : Int := max (-1048576) (min 1048575 x)

/-- A value held between limits, as a natural number. -/
def clampN (hi : Nat) (x : Int) : Nat := if x < 0 then 0 else min hi x.toNat

/-- LSCALE (R332): round_half_up(LMAX × 16,384 / LMAX_BUILD), saturating. -/
def lscaleOf (lmax build : Nat) : Nat := min 0xFFFF ((2 * lmax * 16384 + build) / (2 * build))

/-- Stage 1: the gain, and the scaled input of one channel. -/
def gainOf (seam lscale : Nat) : Nat := (seam * lscale + 2 ^ 14) / 2 ^ 15
def stageGain (v g : Nat) : Nat := min (2 ^ 18 - 1) ((v * g + 2 ^ 13) / 2 ^ 14)

/-- Stage 2: the factory matrix, for the four coefficients of a lamp. -/
def stageMatrix (m : List Int) (x : List Nat) : Int :=
  sat20 (roundShift (m.getD 0 0 * x.getD 0 0 + m.getD 1 0 * x.getD 1 0 + m.getD 2 0 * x.getD 2 0 + m.getD 3 0 * 2 ^ 16) 13)

/-- Stage 3: the user gain and offset. -/
def stageUser (d : Int) (ug : Nat) (uo : Int) : Int := sat20 (roundShift (d * ug) 15 + uo)

/-- Stage 4: the temperature term, for the three coefficients of a lamp. -/
def stageTemp (c e : List Int) : Int :=
  sat20 (roundShift (c.getD 0 0 * e.getD 0 0 + c.getD 1 0 * e.getD 1 0 + c.getD 2 0 * e.getD 2 0) 13)

/-- Stage 5 before its limits, and within them. -/
def stageAgeRaw (h : Int) (ga : Nat) : Int := roundShift (h * ga) 10
def stageAge (h : Int) (ga : Nat) : Nat := clampN 1048560 (stageAgeRaw h ga)

/-- Stage 6: the low-grey curve of a class. -/
def stageLow (l : List Byte) (k : Nat) (lgo : Int) (en : Bool) (q : Nat) : Nat :=
  if q = 0 ∨ !en ∨ 16384 ≤ q then q
  else
    let o := classOff k + 0x80
    let j := q / 512
    let f := q % 512
    let y : Int := (((u16 l (o + 2 * j) * (512 - f) + u16 l (o + 2 * (j + 1)) * f + 256) / 512 : Nat) : Int)
    clampN 1048560 (y + roundShift (lgo * ((16384 - q : Nat) : Int)) 14)

/-- Table 11.7. -/
def ditherTable : List (List Nat) := [[0, 8, 2, 10], [12, 4, 14, 6], [3, 11, 1, 9], [15, 7, 13, 5]]

/-- The dither threshold of lamp i of a pixel (R339). -/
def dither (en : Bool) (u v i : Nat) : Nat :=
  if !en then 8
  else
    let a := [0, 1, 2].getD i 0
    let b := [0, 2, 1].getD i 0
    (ditherTable.getD ((v + a) % 4) []).getD ((u + b) % 4) 0

/-- V of R340: what a lamp of class k with accumulator A and decay speed DKS still gives. -/
def decayV (l : List Byte) (k acc dks : Nat) : Nat :=
  let dec := fun (j : Nat) => u16 l (classOff k + 2 * j)
  let a := min (2 ^ 48 - 1) ((acc * dks + 64) / 128)
  if a < 2 ^ 26 then (32768 + (((dec 0 : Nat) : Int) - 32768) * a / (2 ^ 26 : Nat)).toNat
  else
    let e := Nat.log2 a
    let x := (e - 26) * 2 ^ 18 + a / 2 ^ (e - 16) % 65536 * 4
    let j := x / 65536
    let f := x % 65536
    if 63 ≤ j then dec 63 else (dec j * (65536 - f) + dec (j + 1) * f + 2 ^ 15) / 65536

/-- The ageing gain before its cap, and GA. -/
def ageRaw (v : Nat) : Nat := (2 ^ 29 + v / 2) / v
def ageGain (gmax v : Nat) : Nat := min gmax (ageRaw v)

/-- A coefficient of temperature table t at a point: row i, column j. -/
def tempPoint (l : List Byte) (t k i j : Nat) : Int := signed 16 (u16 l (0x1100 + 396 * t + 18 * k + 6 * i + 2 * j))

/-- C of a temperature table at a temperature in 1/16 °C (R342): one row. -/
def tempRow (l : List Byte) (en : Bool) (t : Nat) (tz : Int) (i : Nat) : List Int :=
  if !en then (List.range 3).map (fun j => if i = j then 8192 else 0)
  else
    let p := (max (-640) (min 2048 tz) + 640).toNat
    let k := p / 128
    let f := p % 128
    (List.range 3).map (fun j =>
      if k = 21 then tempPoint l t 21 i j
      else (tempPoint l t k i j * ((128 - f : Nat) : Int) + tempPoint l t (k + 1) i j * (f : Int) + 64) / 128)

/-- What the correction of one lamp gives: its code, whether it clipped (R338), and whether GA was capped (R340). -/
structure LampOut where
  code : Nat
  clip : Bool
  cap : Bool
  deriving DecidableEq, Repr

/-- T_z in use for a zone: the estimate handed over, or the case temperature that seeds the model (R341). -/
def zoneT (s : State) (z : Nat) : Int := (Tab.get s.dmk.estimates z).getD s.thm.tcase

/-- Corrects the three lamps of tile pixel (u, v) of cell c, given its L16 values (R338). -/
def correctPixel (s : State) (c u v : Nat) (l16 : List Nat) : List LampOut :=
  let l := flOf s
  let o := pixOff l u v
  let ur := userRecord s u v
  let g := gainOf ur.1 (getF s R.DMK_SCALE_LSCALE)
  let x := l16.map (fun w => stageGain w g)
  let cls := u16 l (o + 0x18)
  let tz := zoneT s (zoneOf l c)
  let en := fun (f : Fld) => dmkCtrl s f == 1
  let m := fun (i : Nat) => (List.range 4).map (fun j => signed 16 (u16 l (o + 8 * i + 2 * j)))
  let e := (List.range 3).map (fun i => stageUser (stageMatrix (m i) x) (ur.2.1.getD i 0) (ur.2.2.1.getD i 0))
  (List.range 3).map (fun i =>
    let k := cls / 16 ^ i % 16
    let h := stageTemp (tempRow l (en R.DMK_CTRL_TEMP_EN) (cls / 4096) tz i) e
    let vv := decayV l k (Tab.getD s.dmk.acc (3 * (v * flW l + u) + i) 0) (u8 l (o + 0x1A + i))
    let gmax := getF s R.DMK_AGE_CTRL_AGE_GMAX
    let aged := en R.DMK_CTRL_AGE_EN
    let ga := if aged then ageGain gmax vv else 16384
    let q := stageAge h ga
    let r := stageLow l k (signed 8 (u8 l (o + 0x1D + i))) (en R.DMK_CTRL_LOWG_EN) q
    let dark := bitAt l (o + 0x32) i || ur.2.2.2
    { code := if dark then 0 else min 65535 ((r + dither (en R.DMK_CTRL_DITHER_EN) u v i) / 16)
      clip := decide (1048560 ≤ stageAgeRaw h ga)
      cap := aged && decide (gmax < 2 ^ 29 / vv) })

/-- The pixels of a cell: column, row, and index within the payload. -/
def cellPixels (l : List Byte) (c : Nat) : List (Nat × Nat × Nat) :=
  let r := cellRect (flW l) (flH l) c
  ((List.range r.2.2.2).map (fun j => (List.range r.2.2.1).map (fun i => (r.1 + i, r.2.1 + j, 16 * j + i)))).flatten

/-- Corrects a cell from a version's payload: lamp index, class, and what comes out. -/
def correctCell (s : State) (c : Nat) (pay : List Byte) : List (Nat × Nat × LampOut) :=
  let l := flOf s
  ((cellPixels l c).map (fun p =>
    let l16 := (List.range 3).map (fun i => u16 pay (6 * p.2.2 + 2 * i))
    let o := correctPixel s c p.1 p.2.1 l16
    (List.range 3).map (fun i => (3 * (p.2.1 * flW l + p.1) + i, u16 l (pixOff l p.1 p.2.1 + 0x18) / 16 ^ i % 16,
      o.getD i { code := 0, clip := false, cap := false })))).flatten

/-- POWER of a position (R349). -/
def cellPower (l : List Byte) (out : List (Nat × Nat × LampOut)) : Nat :=
  ((out.map (fun e => e.2.2.code * u32 l (classOff e.2.1 + 0xC4))).sum + 32767) / 65535

/-- Counts n events of a NOTE source of Damask. -/
def dmkCount (f : Fld) (n : Nat) (s : State) : State := if n = 0 then s else tallyN n f 12 6 0 s

/-- Corrects position c for frame n: the new codes and POWER, and what is counted. (DEDUCED log 37) -/
def correctFor (n c : Nat) (s : State) : State :=
  match shownAt s n c with
  | none => s
  | some v =>
    let out := correctCell s c v.payload
    let s1 := { s with dmk := { s.dmk with
        newCode := out.foldl (fun t e => Tab.put t e.1 e.2.2.code) s.dmk.newCode
        corrected := s.dmk.corrected ++ [c]
        power := Tab.put s.dmk.power c (cellPower (flOf s) out) } }
    dmkCount R.DMK_AGE_CAP_N (out.filter (fun e => e.2.2.cap)).length
      (dmkCount R.DMK_CLIP_N (out.filter (fun e => e.2.2.clip)).length s1)

/-- P_z (R349). -/
def zonePower (s : State) (z : Nat) : Nat := ((zoneCells s z).map (fun c => Tab.getD s.dmk.power c 0)).sum

/-- P. -/
def framePowerOf (s : State) : Nat := (s.dmk.power.map Prod.snd).sum

/-! ### Crediting and the sweep (R345, R346, R348) -/

/-- Credits the lamps of a position. -/
def creditCell (c : Nat) (s : State) : State :=
  let dq := s.dmk.q - Tab.getD s.dmk.qlast c 0
  let acc := (cellLamps (flOf s) c).foldl (fun t i =>
    let a := min (2 ^ 48 - 1) (Tab.getD t i 0 + (Tab.getD s.dmk.code i 0 * dq + 65535 * 2 ^ 15) / (65535 * 2 ^ 16))
    Tab.put t i a) s.dmk.acc
  { s with dmk := { s.dmk with acc := acc, qlast := Tab.put s.dmk.qlast c s.dmk.q } }

/-- Credits every position. -/
def creditAll (s : State) : State := (List.range (flCells s)).foldl (fun a c => creditCell c a) s

/-- At T_N the codes of a corrected position are in force. -/
def takeCodes (c : Nat) (s : State) : State :=
  let t := creditCell c s
  { t with dmk := { t.dmk with code := (cellLamps (flOf t) c).foldl (fun m i =>
      match Tab.get t.dmk.newCode i with | some v => Tab.put m i v | none => m) t.dmk.code } }

/-- Marks positions for re-push of the next frame that closes. -/
def markCells (l : List Nat) (s : State) : State := { s with dmk := { s.dmk with marks := (l ++ s.dmk.marks).eraseDups } }

/-- Marks every position. -/
def markEvery (s : State) : State := { s with dmk := { s.dmk with markAll := true } }

/-- The sweep takes one position for frame n: credit, correction, and a mark where a code differs. -/
def sweepCell (n c : Nat) (s : State) : State :=
  let t := creditCell c s
  match shownAt t n c with
  | none => t
  | some v =>
    let out := correctCell t c v.payload
    if out.any (fun e => e.2.2.code != Tab.getD t.dmk.code e.1 0) then
      dmkCount R.DMK_REPUSH_AGE 1 (markCells [c] t)
    else dmkCount R.DMK_AGE_CAP_N (out.filter (fun e => e.2.2.cap)).length
      (dmkCount R.DMK_CLIP_N (out.filter (fun e => e.2.2.clip)).length t)

/-- The sweep at T_(n-1), for frame n. -/
def sweepStep (n : Nat) (s : State) : State :=
  let cells := flCells s
  if dmkCtrl s R.DMK_CTRL_AGE_EN = 0 ∨ cells = 0 then s
  else
    let k := dmkCtrl s R.DMK_CTRL_SWEEP_CELLS
    let t := (List.range k).foldl (fun a i => sweepCell n ((s.dmk.sweep + i) % cells) a) s
    { t with dmk := { t.dmk with sweep := (s.dmk.sweep + k) % cells } }

/-! ### Temperature marks (R343) -/

/-- A zone whose estimate has moved RECORR_DT away from T_USED. -/
def zoneMoved (s : State) (z : Nat) : Bool :=
  decide (dmkCtrl s R.DMK_CTRL_RECORR_DT ≤ (zoneT s z - getI s (R.DMK_ZONE_T_T_USED z)).natAbs)

/-- The comparison of R343 for every zone. -/
def tempMarks (s : State) : State :=
  ((List.range (flZones s)).filter (zoneMoved s)).foldl (fun a z =>
    let cs := zoneCells a z
    let b := setI (markCells cs a) (R.DMK_ZONE_T_T_USED z) (zoneT a z)
    addF (dmkCount R.DMK_REPUSH_TEMP cs.length b) (R.DMK_ZONE_RP_REPUSH z) cs.length) s

/-! ### The correction of a frame (R336, R349 to R351) -/

/-- The positions to correct for frame n. -/
def toCorrect (n : Nat) (s : State) : List Nat :=
  (List.range (flCells s)).filter (fun c => (shownAt s n c).isSome &&
    (s.dmk.markAll || s.dmk.marks.contains c || s.str.carry.contains c || (changedAt s n).contains c))

/-- After the correction of a frame: the zone and frame figures. -/
def frameFigures (s : State) : State :=
  let p := framePowerOf s
  let s1 := (List.range (flZones s)).foldl (fun a z =>
    setSat (setI a (R.DMK_ZONE_T_T_EST z) (zoneT s z)) (R.DMK_ZONE_P_POWER_UW z) (zonePower s z)) s
  setSat { s1 with dmk := { s1.dmk with framePower := p } } R.DMK_POWER_MW (inexact 25 p 1000)

/-- Correction of frame n at its close: a user layer that waits takes effect, every position due is corrected. -/
def correctFrame (n : Nat) (s : State) : State :=
  let s1 := match s.dmk.userNext with | some b => userTake b s | none => s
  let cs := toCorrect n s1
  let all := s1.dmk.markAll
  let s2 := { s1 with dmk := { s1.dmk with newCode := [], corrected := [], marks := [], markAll := false } }
  let s3 := cs.foldl (fun a c => correctFor n c a) s2
  let s4 := if all then (List.range (flZones s3)).foldl (fun a z => setI a (R.DMK_ZONE_T_T_USED z) (zoneT a z)) s3 else s3
  frameFigures s4

/-! ### Wall settings at a tile (R152, R332) -/

/-- GAMUT_MISMATCH (R332). -/
def gamutMismatch (s : State) : Bool :=
  match s.tnm.wall, s.dmk.factory with
  | some w, some l => u8 l 0x16 != u8 w 2 || (u8 l 0x16 == 3 && sub l 0x18 12 != sub w 4 12)
  | _, _ => false

/-- GAMUT_MISMATCH and LSCALE follow the wall settings and the layer; a change of LSCALE marks every position. -/
def wallFollow (s : State) : State :=
  let g := gamutMismatch s
  let was := isSet s R.DMK_STATUS_GAMUT_MISMATCH
  let s1 := setLevel 13 R.DMK_STATUS_GAMUT_MISMATCH (if g then 1 else 0) s
  let s2 := if g && !was then levelRise 12 2 0 s1 else if was && !g then levelFall 12 2 s1 else s1
  match s2.tnm.wall, s2.dmk.factory with
  | some w, some l =>
    let x := lscaleOf (u16 w 0) (u16 l 0x14)
    if x = getF s2 R.DMK_SCALE_LSCALE then s2 else markEvery (setF s2 R.DMK_SCALE_LSCALE x)
  | _, _ => s2

/-- WALL_SETTINGS arrive at a tile (R152). -/
def execWallSettings (p : Nat) (m : Msg) (s : State) : Out :=
  .next (msgIn p m (fun t => if sender t then t else wallFollow (wallStore (m.payload.take 16) t)) s)

/-! ### Checkpoints (R352 to R354) -/

/-- A checkpoint image of the lamps as they stand. -/
def ckptImage (s : State) (seq : Nat) : List Byte :=
  let l := flOf s
  let n := 3 * flW l * flH l
  let words := ((List.range n).map (fun i => leBytes 4 (Tab.getD s.dmk.acc i 0 / 65536))).flatten
  let wt := if wtValid s then wtNs s / 1000000000 else 0
  let h := leBytes 4 0x414B4D44 ++ leBytes 2 1 ++ zeros 2 ++ leBytes 4 seq ++ leBytes 4 n ++ factoryIdOf l ++
    leBytes 8 wt ++ leBytes 4 (crc32c words) ++ zeros 16
  h ++ leBytes 4 (crc32c h) ++ words

/-- A checkpoint slot is valid for the factory layer in force. -/
def ckptOk (s : State) (b : List Byte) : Bool :=
  let l := flOf s
  let n := 3 * flW l * flH l
  u32 b 0 == 0x414B4D44 && u16 b 4 == 1 && u32 b 0x0C == n && sub b 0x10 16 == factoryIdOf l &&
    decide (64 + 4 * n ≤ b.length) && u32 b 0x3C == crc32c (b.take 0x3C) && u32 b 0x28 == crc32c (sub b 64 (4 * n))

/-- The slot that holds the newest valid checkpoint. -/
def ckptNewest (s : State) (m : Module) : Option Nat :=
  match ckptOk s m.ckpt0, ckptOk s m.ckpt1 with
  | true, true => some (if serialAfter (u32 m.ckpt1 8) (u32 m.ckpt0 8) then 1 else 0)
  | true, false => some 0
  | false, true => some 1
  | false, false => none

/-- A checkpoint slot, and the module with a slot replaced. -/
def modCkpt (m : Module) (i : Nat) : List Byte := if i = 0 then m.ckpt0 else m.ckpt1
def modSetCkpt (m : Module) (i : Nat) (b : List Byte) : Module := if i = 0 then { m with ckpt0 := b } else { m with ckpt1 := b }

/-- AGE_LOST with its fault. -/
def setAgeLost (on : Bool) (s : State) : State :=
  let was := isSet s R.DMK_STATUS_AGE_LOST
  let t := setB s R.DMK_STATUS_AGE_LOST on
  if on && !was then levelRise 12 3 0 t else if was && !on then levelFall 12 3 t else t

/-- The accumulators of an image. -/
def ageFrom (b : List Byte) (s : State) : State :=
  let l := flOf s
  let n := 3 * flW l * flH l
  { s with dmk := { s.dmk with acc := (List.range n).foldl (fun t i => Tab.put t i (u32 b (64 + 4 * i) * 65536 + 0x8000)) []
                               code := []
                               qlast := (List.range (flCells s)).foldl (fun t c => Tab.put t c s.dmk.q) [] } }

/-- Loads the accumulators from the module's checkpoints (R354). -/
def loadAges (m : Module) (s : State) : State :=
  match ckptNewest s m with
  | some i => setF (setAgeLost false (setF (ageFrom (modCkpt m i) s) R.DMK_STATUS_AGE_NEW 0)) R.DMK_CKPT_SEQ_SEQ (u32 (modCkpt m i) 8)
  | none =>
    let new := m.ckpt0.isEmpty && m.ckpt1.isEmpty
    let s1 := { s with dmk := { s.dmk with acc := [], code := []
                                           qlast := (List.range (flCells s)).foldl (fun t c => Tab.put t c s.dmk.q) [] } }
    setF (setAgeLost (!new) (setB s1 R.DMK_STATUS_AGE_NEW new)) R.DMK_CKPT_SEQ_SEQ 0

/-- A checkpoint may be taken: a loaded layer, a module not released, and a mode other than BOOT and LOCKDOWN. -/
def ckptMay (s : State) : Bool :=
  running s && !sender s && getF s R.DMK_STATUS_FL_STATE == 2 && !isSet s R.DMK_STATUS_RELEASED && s.nv.module.isSome

/-- Begins a checkpoint, or notes that one more is wanted. (DEDUCED log 37) -/
def ckptStart (s : State) : State :=
  if !ckptMay s then s
  else if isSet s R.DMK_STATUS_CKPT_BUSY then { s with dmk := { s.dmk with ckptAgain := true } }
  else match s.nv.module with
    | none => s
    | some m =>
      let s1 := creditAll s
      let seq := (getF s1 R.DMK_CKPT_SEQ_SEQ + 1) % 4294967296
      let i := match ckptNewest s1 m with | some i => 1 - i | none => 0
      let s2 := { s1 with dmk := { s1.dmk with ckptWrite := some (i, ckptImage s1 seq), ckptBegan := ltNs s1, ckptAgain := false }
                          nv := { s1.nv with module := some (modSetCkpt m i []) } }
      setLevel 13 R.DMK_STATUS_CKPT_BUSY 1 s2

/-- CHECKPOINT: the interval has passed (R353). -/
def execCheckpoint (s : State) : Out := .next (ckptStart s)

/-- A write of DMK_AGE_CTRL by requester q: the fields, and a request with CKPT_NOW. -/
def ageCtrlWrite (q : Nat) (v : Word) (s : State) : State :=
  access q 12 false 8 (fun t =>
    let u := storeWord R.DMK_AGE_CTRL v t
    if R.DMK_AGE_CTRL_CKPT_NOW.of v = 1 then ckptStart u else u) s

/-- CKPT_NOW: a write of 1 to CKPT_NOW (R353). -/
def execCkptNow (q : Nat) (v : Word) (s : State) : Out := .next (ageCtrlWrite q v s)

/-- Abandons a checkpoint under way. -/
def ckptAbandon (s : State) : State :=
  setLevel 13 R.DMK_STATUS_CKPT_BUSY 0 { s with dmk := { s.dmk with ckptWrite := none, ckptAgain := false } }

/-! ### Writing layers (R331, R334) -/

/-- `factory-write` (R331): a factory layer passes R330, an ageing image R352, before anything is erased. (DEDUCED log 37) -/
def execFactoryWrite (k : Pkt) (f : Fetch) (s : State) : Out :=
  .next (command k f (fun copy t =>
    if 2 ≤ k.p8 0 ∨ !parZero k 1 3 then .err St.badParam
    else match t.nv.module with
      | none => .err St.badState
      | some m =>
        if isSet t R.DMK_STATUS_RELEASED ∨ (k.p8 0 = 1 ∧ getF t R.DMK_STATUS_FL_STATE ≠ 2) then .err St.badState
        else match bulk k f copy 4 1 t with
          | .error e => .err e
          | .ok data =>
            let c := flJudge t data m.serial
            if k.p8 0 = 0 ∧ c ≠ 2 then .err (if c = 4 then St.sigBad else St.badParam)
            else if k.p8 0 = 1 ∧ !ckptOk t data then .err St.badParam
            else .later (startBg k { t with dmk := { t.dmk with factoryWrite := some (k, data) } })) s)

/-- `load-user-layer` (R334). -/
def execLoadUserLayer (k : Pkt) (f : Fetch) (s : State) : Out :=
  .next (command k f (fun copy t =>
    if getF t R.DMK_STATUS_FL_STATE ≠ 2 ∨ isSet t R.DMK_STATUS_RELEASED then .err St.badState
    else match bulk k f copy 0 1 t with
      | .error e => .err e
      | .ok data =>
        if !userOk t data then .err St.badParam
        else .later (startBg k { t with dmk := { t.dmk with userWrite := some (k, data) } })) s)

/-- The slot that holds the current user layer, if one is current. (DEDUCED log 37) -/
def userSlot (s : State) (m : Module) : Option Nat :=
  match s.dmk.user with
  | some b => if m.user0 = b then some 0 else if m.user1 = b then some 1 else none
  | none => none

/-- USER_LAYER_WRITE_DONE: the write has ended. -/
def execUserLayerWriteDone (good : Bool) (s : State) : Out :=
  .next (match s.dmk.userWrite, s.nv.module with
    | some (k, b), some m =>
      if !running s then s
      else
        let i := match userSlot s m with | some 0 => 1 | _ => 0
        let wr := fun (x : List Byte) => if i = 1 then { m with user1 := x } else { m with user0 := x }
        let s1 := endBg 9 { s with dmk := { s.dmk with userWrite := none } }
        if good then finish k St.ok [] { s1 with nv := { s1.nv with module := some (wr b) }
                                                 dmk := { s1.dmk with userNext := some b } }
        else finish k St.flashError [] { s1 with nv := { s1.nv with module := some (wr []) } }
    | _, _ => s)

/-- `revert-user-layer` (R334). -/
def execRevertUserLayer (k : Pkt) (s : State) : Out :=
  .next (plain k (fun t =>
    match t.nv.module with
    | none => .err St.badState
    | some m =>
      let other := match userSlot t m with | some 0 => m.user1 | _ => m.user0
      if getF t R.DMK_STATUS_FL_STATE ≠ 2 ∨ isSet t R.DMK_STATUS_RELEASED ∨ t.dmk.user.isNone ∨ !userOk t other then
        .err St.badState
      else .ok { t with dmk := { t.dmk with userNext := some other } } []) s)

/-- `read-ageing`: a fresh image to a destination reference. (DEDUCED log 37) -/
def execReadAgeing (k : Pkt) (f : Fetch) (s : State) : Out :=
  .next (command k f (fun _ t =>
    if getF t R.DMK_STATUS_FL_STATE ≠ 2 then .err St.badState
    else
      let t1 := creditAll t
      match refWrite t1 (refAt k.par 0) (ckptImage t1 ((getF t1 R.DMK_CKPT_SEQ_SEQ + 1) % 4294967296)) f with
      | .error e => .err e
      | .ok t2 => .ok t2 (leBytes 4 (3 * flW (flOf t) * flH (flOf t)))) s)

/-- Loads what the module flash holds (R330, R335, R354): FL_STATE passes through 1. `keep` keeps the ageing records of a
warm reset. -/
def loadLayers (keep : Bool) (s : State) : State :=
  match s.nv.module with
  | none => setFl 0 s
  | some m =>
    let s1 := setFl 1 s
    let c := if m.readable then flJudge s1 m.factory m.serial else 6
    if c ≠ 2 then
      setFl c { s1 with dmk := { s1.dmk with factory := none, user := none, userNext := none, oldGeom := none } }
    else
      let s2 := { s1 with dmk := { s1.dmk with factory := some m.factory, markAll := true } }
      let s3 := userShow { s2 with dmk := { s2.dmk with user := userPick s2 m, userNext := none } }
      let s4 := wallFollow (setF s3 R.DMK_STATUS_ZONES (flZones s3))
      let s5 := if keep then s4 else loadAges m s4
      let g := (flW m.factory, flH m.factory)
      let same := match s5.dmk.oldGeom with | some o => o == g | none => true
      if same then setFl 2 { s5 with dmk := { s5.dmk with oldGeom := none } } else setFl 7 s5

end Sys2Proof.Machine
end

