-- ==== Sys2Proof/Machine/Strand.lean ====
section
/-!
DEFINITION. The strand output (R360 to R389): geometry, packets, enumeration and readback, the WRITEs of a push, and the
start and stop of the strands.
-/

namespace Sys2Proof.Machine

/-! ### Geometry (R371 to R373) -/

abbrev gNstr (g : List Byte) : Nat := u8 g 5
abbrev gNdrv (g : List Byte) : Nat := u8 g 6
abbrev gBw (g : List Byte) : Nat := u8 g 7
abbrev gBh (g : List Byte) : Nat := u8 g 8
abbrev gFlag (g : List Byte) (i : Nat) : Bool := bitAt g 9 i
abbrev gOrder (g : List Byte) : Nat := u8 g 0x0A
abbrev gClkFast (g : List Byte) : Nat := u8 g 0x0B
abbrev gCycMin (g : List Byte) : Nat := u16 g 0x0C
abbrev gW (g : List Byte) : Nat := u16 g 0x0E
abbrev gH (g : List Byte) : Nat := u16 g 0x10

/-- Block columns and rows. -/
def dCols (g : List Byte) : Nat := (gW g + gBw g - 1) / gBw g
def dRows (g : List Byte) : Nat := (gH g + gBh g - 1) / gBh g

/-- R373 on a record, against the factory layer in memory. -/
def geoOk (s : State) (g : List Byte) : Bool :=
  u32 g 0 == 0x4D475453 && u8 g 4 == 1 && decide (1 ≤ gNstr g) && decide (gNstr g ≤ 64) && decide (1 ≤ gNdrv g) &&
    decide (gNdrv g ≤ 64) && decide (1 ≤ gBw g) && decide (gBw g ≤ 16) && decide (1 ≤ gBh g) && decide (gBh g ≤ 32) &&
    decide (u8 g 9 < 16) && decide (gOrder g ≤ 5) && decide (gClkFast g ≤ 4) && decide (1 ≤ gCycMin g) &&
    gW g == flW (flOf s) && gH g == flH (flOf s) && zeroAt g 0x12 12 && decide (32 ≤ g.length) &&
    u16 g 0x1E == crc16 (g.take 0x1E) && decide (dCols g * dRows g ≤ gNstr g * gNdrv g)

/-- The geometry in force, empty where there is none. -/
abbrev geoOf (s : State) : List Byte := s.str.geo.getD []

/-- Strand and chain position of block (bx, by) (R372). -/
def blockPlace (g : List Byte) (bx by_ : Nat) : Nat × Nat :=
  let k := if gFlag g 0 then bx * dRows g + by_ else by_ * dCols g + bx
  let st := k / gNdrv g
  let d := k % gNdrv g
  (st, if gFlag g 1 ∧ st % 2 = 1 then gNdrv g - 1 - d else d)

/-- Lamps by their place on the channels of a pixel. -/
def lampOrder (o : Nat) : List Nat :=
  match o with
  | 0 => [0, 1, 2]
  | 1 => [0, 2, 1]
  | 2 => [1, 0, 2]
  | 3 => [1, 2, 0]
  | 4 => [2, 0, 1]
  | _ => [2, 1, 0]

/-- Blocks that a cell has pixels in. -/
def cellBlocks (g : List Byte) (c : Nat) : List (Nat × Nat) :=
  let r := cellRect (gW g) (gH g) c
  let x0 := r.1 / gBw g
  let x1 := (r.1 + r.2.2.1 - 1) / gBw g
  let y0 := r.2.1 / gBh g
  let y1 := (r.2.1 + r.2.2.2 - 1) / gBh g
  ((List.range (y1 + 1 - y0)).map (fun j => (List.range (x1 + 1 - x0)).map (fun i => (x0 + i, y0 + j)))).flatten

/-- The scan lines and channels of a cell in a block: Y0, NY, C0, NC. -/
def writeRange (g : List Byte) (c bx by_ : Nat) : Nat × Nat × Nat × Nat :=
  let r := cellRect (gW g) (gH g) c
  let px0 := max r.1 (bx * gBw g) - bx * gBw g
  let px1 := min (r.1 + r.2.2.1) ((bx + 1) * gBw g) - 1 - bx * gBw g
  let py0 := max r.2.1 (by_ * gBh g) - by_ * gBh g
  let py1 := min (r.2.1 + r.2.2.2) ((by_ + 1) * gBh g) - 1 - by_ * gBh g
  (if gFlag g 2 then gBh g - 1 - py1 else py0, py1 + 1 - py0,
   if gFlag g 3 then 3 * gBw g - 1 - (3 * px1 + 2) else 3 * px0, 3 * (px1 + 1 - px0))

/-- Lamp index at a scan line and channel of a block. -/
def lampAt (g : List Byte) (bx by_ y c : Nat) : Nat :=
  let py := if gFlag g 2 then gBh g - 1 - y else y
  let ch := if gFlag g 3 then 3 * gBw g - 1 - c else c
  3 * ((by_ * gBh g + py) * gW g + bx * gBw g + ch / 3) + (lampOrder (gOrder g)).getD (ch % 3) 0

/-! ### Clocks (R361, R367) -/

/-- Clock period of a code of Table 12.1, in ns. -/
def periodNs (code : Nat) : Nat := [5, 10, 20, 25].getD code 40

/-- The effective clock code: the larger of CLK_SEL and CLK_FAST. -/
def clkCode (s : State) : Nat := max (getF s R.STR_CTRL_CLK_SEL) (gClkFast (geoOf s))

/-- The period the clocks run at, and the word time, in ns. -/
def strPeriod (s : State) : Nat := periodNs (getF s R.STR_STATUS_CLK_EFF)
def wordTime (s : State) : Nat := 8 * strPeriod s

/-- I(x): the first edge of the grid at or after an instant. -/
def gridUp (s : State) (x : Nat) : Nat := (x + strPeriod s - 1) / strPeriod s * strPeriod s

/-- Strands in use. -/
def strandList (s : State) : List Nat := List.range (gNstr (geoOf s))

/-- The clocks run. -/
abbrev clkRuns (s : State) : Bool := isSet s R.STR_STATUS_CLK_RUN

/-! ### States -/

/-- The state of Table 12.14. -/
def strStateNow (s : State) : Nat :=
  if !clkRuns s then 0
  else if mode s = mService then 5
  else if mode s = mHold then 4
  else if mode s = mShow ∧ !s.str.blanked then 3
  else if !s.str.enums.isEmpty then 1
  else 2

/-- STR_STATUS.STATE follows. -/
def strRefresh (s : State) : State := setLevel 14 R.STR_STATUS_STATE (strStateNow s) s

/-- Sets a strand's state, with its event, its fault while in FAULT, and STRANDS_OK. -/
def setStrand (st v : Nat) (s : State) : State :=
  let old := getF s (R.STR_S_STATE_SSTATE st)
  if old = v then s
  else
    let s1 := setLevel 14 (R.STR_S_STATE_SSTATE st) v s
    let s2 := if v = 2 then levelRise 13 4 (st * 64) s1 else if old = 2 then levelFall 13 4 s1 else s1
    setF s2 R.STR_STATUS_STRANDS_OK ((List.range 64).filter (fun i => getF s2 (R.STR_S_STATE_SSTATE i) == 1)).length

/-- Marks positions for re-push on behalf of STR. -/
def strMark (l : List Nat) (s : State) : State := addF (markCells l s) R.STR_REPUSH_N l.length

/-- Positions with a region on a strand, or on one driver of it. -/
def strandCells (s : State) (st : Nat) (drv : Option Nat) : List Nat :=
  let g := geoOf s
  (List.range (cellCount (gW g) (gH g))).filter (fun c => (cellBlocks g c).any (fun b =>
    (blockPlace g b.1 b.2).1 == st && (match drv with | some d => (blockPlace g b.1 b.2).2 == d | none => true)))

/-! ### Enumeration and readback (R368 to R370) -/

/-- PWM cycles of a frame that share one CYC: the divisor j of R384, and whether cycles are reduced. -/
def pwmDiv (s : State) (n : Nat) : Nat × Bool :=
  match paramsFor s n with
  | none => (1, false)
  | some p =>
    let need := gCycMin (geoOf s) * 1000 * p.pwmMul
    let fits := fun (j : Nat) => p.pwmMul % j == 0 && decide (need ≤ periodOf s n * j)
    match ((List.range p.pwmMul).map (· + 1)).find? fits with
    | some j => (j, decide (1 < j))
    | none => (p.pwmMul, true)

/-- No divisor of R384 serves: only SWAP_CYC is sent. -/
def pwmNone (s : State) (n : Nat) : Bool := decide (periodOf s n < gCycMin (geoOf s) * 1000)

/-- CYC_LEN of frame n (R383, R384), none without present parameters. (DEDUCED log 38) -/
def cycLen (s : State) (n : Nat) : Option Nat :=
  match paramsFor s n with
  | none => none
  | some p => if p.pwmMul = 0 then none
    else some (max 1 (min 65535 (periodOf s n * (pwmDiv s n).1 / p.pwmMul / (256 * strPeriod s))))

/-- CONFIG on every strand or one. Without present parameters CYC_LEN is a free value. -/
def sendConfig (sts : List Nat) (atSwap : Bool) (n : Nat) (s : State) : State :=
  let len := (cycLen s n).getD (1 + Config.free s.free % 65535)
  let s1 := if (cycLen s n).isNone then takeFree s else s
  let pk := strandPacket 3 0 true [gBh (geoOf s) - 1, len, getF s R.STR_CTRL_RET_EXP + (if atSwap then 8 else 0)]
  let s2 := sts.foldl (fun a st => strandSend st pk a) s1
  { s2 with str := { s2.str with cycSent := len } }

/-- Begins the enumeration of a strand (R370). -/
def enumBegin (blank : Bool) (st : Nat) (s : State) : State :=
  let s0 := if s.str.enumerated.contains st then tally R.STR_REENUM_N 13 6 (st * 64) s
    else { s with str := { s.str with enumerated := st :: s.str.enumerated } }
  let s1 := setStrand st 3 s0
  let s2 := setF (setF s1 (R.STR_S_STATE_FOUND st) 0) (R.STR_S_STATE_FIRST_MISSING st) 0
  let s3 := if blank then strandSend st (strandPacket 4 0 true []) s2 else s2
  let s4 := sendConfig [st] false (frameNow0 s3) (strandSend st (strandPacket 5 0 true [0]) s3)
  { s4 with str := { s4.str with enums := Tab.put s4.str.enums st (List.range (gNdrv (geoOf s4)), none) } }

/-- The READ packet of a request. -/
def readPacket (r : StrRead) : List Byte :=
  strandPacket 6 r.drv false [r.sel % 8 + r.y0 % 32 * 8 + (r.ny + 31) % 32 * 256, r.c0 % 64 + (r.nc + 63) % 64 * 64]

/-- Issues a READ on its group. -/
def issueRead (r : StrRead) (s : State) : State :=
  strandSend r.strand (readPacket r) { s with str := { s.str with reading := Tab.put s.str.reading (r.strand / 8) r } }

/-- A READ of IDENT or STATUS. -/
def shortRead (st d sel : Nat) : StrRead :=
  { strand := st, drv := d, sel := sel, y0 := 0, ny := 1, c0 := 0, nc := 1, pkt := none }

/-- Starts what a free group has to do next: an enumeration that waits, the next IDENT, a command's READ. -/
def pumpGroup (g : Nat) (s : State) : State :=
  if s.str.inWindow || !clkRuns s || (Tab.get s.str.reading g).isSome then s
  else
    let mine := s.str.enums.filter (fun e => e.1 / 8 == g)
    let s1 := (mine.filter (fun e => e.2.1.isEmpty)).foldl (fun a e => enumBegin false e.1 a) s
    match (s1.str.enums.filter (fun e => e.1 / 8 == g)).find? (fun e => !e.2.1.isEmpty) with
    | some e => issueRead (shortRead e.1 (e.2.1.headD 0) 1) s1
    | none =>
      match Tab.getD s1.str.waiting g [] with
      | [] => s1
      | r :: rest => issueRead r { s1 with str := { s1.str with waiting := Tab.put s1.str.waiting g rest } }

/-- Every group in turn. -/
def pumpAll (s : State) : State := (List.range 8).foldl (fun a g => pumpGroup g a) s

/-- An enumeration ends: the strand is OK or in FAULT, and commands that waited for it may reply. (DEDUCED log 38) -/
def enumEnd (st : Nat) (bad : Option Nat) (s : State) : State :=
  let s1 := { s with str := { s.str with enums := Tab.del s.str.enums st } }
  let s2 := match bad with
    | some d => setStrand st 2 (setF s1 (R.STR_S_STATE_FIRST_MISSING st) d)
    | none => let t := setStrand st 1 s1
              strMark (strandCells t st none) t
  let waits := s2.str.enumWait.map (fun e => (e.1, e.2.filter (· != st)))
  let s3 := { s2 with str := { s2.str with enumWait := waits.filter (fun e => !e.2.isEmpty) } }
  strRefresh ((waits.filter (fun e => e.2.isEmpty)).foldl (fun a e => finish e.1 St.ok [] (endBg 10 a)) s3)

/-- The IDENT of an address has been read: whether it answered, and whether its answer serves. -/
def enumStep (st d : Nat) (answered good : Bool) (s : State) : State :=
  match Tab.get s.str.enums st with
  | none => s
  | some (l, bad) =>
    let b := if good then bad else some (match bad with | some x => min x d | none => d)
    let rest := l.filter (· != d)
    let s1 := setB s (R.STR_D_CNT_PRESENT (64 * st + d)) answered
    let s2 := if answered then addF s1 (R.STR_S_STATE_FOUND st) 1 else s1
    if rest.isEmpty then enumEnd st b s2
    else { s2 with str := { s2.str with enums := Tab.put s2.str.enums st (rest, b) } }

/-- A status reply (Table 12.7). -/
def statusReply (st d : Nat) (w0 w1 : Nat) (s : State) : State :=
  let i := 64 * st + d
  let was := getF s (R.STR_D_STATUS_STATUS0 i)
  let s1 := setF (setF (setF s (R.STR_D_STATUS_STATUS0 i) w0) (R.STR_D_STATUS_STATUS1 i) w1) (R.STR_D_CNT_ANSWERS i) 1
  let s2 := { addF s1 (R.STR_D_CNT_CRC_SUM i) (w1 % 256) with str := { s1.str with timeouts := Tab.del s1.str.timeouts i } }
  let s3 := if w0.testBit 0 then tally (R.STR_D_CNT_OT_CNT i) 13 5 i s2 else s2
  let rises := ([1, 2].filter (fun b => w0.testBit b && !was.testBit b)).length
  let s4 := addF s3 (R.STR_D_CNT_FAULT_CNT i) rises
  if w0.testBit 3 || w0.testBit 4 || w0.testBit 6 then strMark (strandCells s4 st (some d)) s4 else s4

/-- A READ has ended, with its words where the reply is good. (DEDUCED log 38) -/
def readEnd (g : Nat) (r : StrRead) (reply : Option (List Nat)) (s : State) : State :=
  let s1 := { s with str := { s.str with reading := Tab.del s.str.reading g } }
  let s2 := match r.pkt, reply with
    | some k, some ws => finish k St.ok ((ws.map (leBytes 2)).flatten) s1
    | some k, none => finish k St.noReply [] s1
    | none, some ws =>
      if r.sel = 1 then enumStep r.strand r.drv true (ws.getD 3 0 == 1 && decide (ws.getD 2 0 / 256 ≤ getF s1 R.STR_STATUS_CLK_EFF)) s1
      else statusReply r.strand r.drv (ws.getD 0 0) (ws.getD 1 0) s1
    | none, none => if r.sel = 1 then enumStep r.strand r.drv false false s1 else setF s1 (R.STR_D_CNT_ANSWERS (64 * r.strand + r.drv)) 0
  pumpGroup g s2

/-- Words a selection returns (Table 12.5). -/
def readWords (r : StrRead) : Nat :=
  match r.sel with
  | 0 => 2
  | 1 => 4
  | 2 => 96
  | 3 => 96
  | _ => r.ny * r.nc

/-- RETURN_REPLY: the words of a reply on the return line of group g and its CRC word. -/
def execReturnReply (g : Nat) (words : List Nat) (crc : Nat) (s : State) : Out :=
  .next (match Tab.get s.str.reading g with
    | none => s
    | some r =>
      if !running s then s
      else if words.length = readWords r ∧ crc16 ((words.map (leBytes 2)).flatten) = crc then readEnd g r (some words) s
      else readEnd g r none (tally R.STR_RET_CRC_N 13 6 (r.strand * 64 + r.drv) s))

/-- READ_TIMEOUT: the reply of group g has not begun in time. -/
def execReadTimeout (g : Nat) (s : State) : Out :=
  .next (match Tab.get s.str.reading g with
    | none => s
    | some r =>
      if !running s then s
      else
        let i := r.strand * 64 + r.drv
        let s1 := tally R.STR_READ_TO_N 13 6 i s
        if r.pkt.isSome ∨ r.sel = 1 then readEnd g r none s1
        else
          let n := Tab.getD s1.str.timeouts i 0 + 1
          let again := decide (3 ≤ n) && isSet s1 (R.STR_D_CNT_PRESENT i)
          let s2 := { s1 with str := { s1.str with
              timeouts := if again then Tab.del s1.str.timeouts i else Tab.put s1.str.timeouts i n
              enums := if again then Tab.put s1.str.enums r.strand ([], none) else s1.str.enums } }
          readEnd g r none s2)

/-- The next driver of a group to poll, from an index on: present drivers in ascending order. -/
def nextPoll (s : State) (g : Nat) : Option Nat :=
  let l := (List.range 512).filter (fun k => decide (k % 64 < gNdrv (geoOf s)) && isSet s (R.STR_D_CNT_PRESENT (512 * g + k)))
  let from_ := Tab.getD s.str.pollNext g 0
  match l.find? (fun k => decide (from_ ≤ k)) with
  | some k => some k
  | none => l.head?

/-- STATUS_POLL: the next STATUS READ of group g (R369). -/
def execStatusPoll (g : Nat) (s : State) : Out :=
  .next (
    if !running s || sender s || decide (8 ≤ g) || !isSet s R.STR_CTRL_POLL_EN || !clkRuns s || s.str.inWindow ||
        mode s == mService || decide (3 ≤ getF s R.THM_STATUS_STEP) || (Tab.get s.str.reading g).isSome then s
    else if s.str.enums.any (fun e => e.1 / 8 == g) || !(Tab.getD s.str.waiting g []).isEmpty then pumpGroup g s
    else match nextPoll s g with
      | none => s
      | some k => issueRead (shortRead (8 * g + k / 64) (k % 64) 0) { s with str := { s.str with pollNext := Tab.put s.str.pollNext g (k + 1) } })

/-! ### Commands (area 0x0A) -/

/-- `strand-read`. (DEDUCED log 38) -/
def execStrandRead (k : Pkt) (s : State) : Out :=
  .next (plain k (fun t =>
    let g := geoOf t
    let r : StrRead := { strand := k.p8 0, drv := k.p8 1, sel := k.p8 2, y0 := k.p8 4, ny := k.p8 5, c0 := k.p8 6, nc := k.p8 7, pkt := some k }
    let range := decide (1 ≤ r.ny) && decide (r.y0 + r.ny ≤ 32) && decide (1 ≤ r.nc) && decide (r.c0 + r.nc ≤ 48) &&
      decide (r.ny * r.nc ≤ 256)
    if !clkRuns t then .err St.badState
    else if gNstr g ≤ r.strand ∨ gNdrv g ≤ r.drv ∨ 8 ≤ r.sel ∨ k.p8 3 ≠ 0 ∨ (r.sel = 4 ∧ !range) ∨ 32 ≤ r.y0 ∨ 32 < r.ny ∨
        48 ≤ r.c0 ∨ 48 < r.nc then .err St.badParam
    else
      let gr := r.strand / 8
      .later (pumpGroup gr { t with str := { t.str with waiting := Tab.put t.str.waiting gr (Tab.getD t.str.waiting gr [] ++ [r]) } })) s)

/-- BLANK goes first in STANDBY and SERVICE (R370). -/
def enumBlanks (s : State) : Bool := mode s == mStandby || mode s == mService

/-- Enumerates strands. -/
def enumStrands (blank : Bool) (sts : List Nat) (s : State) : State :=
  pumpAll (strRefresh (sts.foldl (fun a st => enumBegin blank st a) s))

/-- `enumerate` (R370): it replies when the enumeration ends. (DEDUCED log 38) -/
def execEnumerate (k : Pkt) (s : State) : Out :=
  .next (plain k (fun t =>
    if !parZero k 1 3 then .err St.badParam
    else if !clkRuns t then .err St.badState
    else if k.p8 0 ≠ 0xFF ∧ gNstr (geoOf t) ≤ k.p8 0 then .err St.badParam
    else
      let sts := if k.p8 0 = 0xFF then strandList t else [k.p8 0]
      .later (enumStrands (enumBlanks t) sts (startBg k { t with str := { t.str with enumWait := t.str.enumWait ++ [(k, sts)] } }))) s)

/-- `diag-drive`, in SERVICE: WRITE of one code, ARM at full scale, and a swap. (DEDUCED log 38) -/
def execDiagDrive (k : Pkt) (s : State) : Out :=
  .next (plain k (fun t =>
    let g := geoOf t
    let y0 := k.p8 4
    let ny := k.p8 5
    let c0 := k.p8 6
    let nc := k.p8 7
    if !clkRuns t then .err St.badState
    else if (k.p8 0 ≠ 0xFF ∧ gNstr g ≤ k.p8 0) ∨ (k.p8 1 ≠ 0xFF ∧ gNdrv g ≤ k.p8 1) ∨ ny = 0 ∨ nc = 0 ∨ 32 < y0 + ny ∨ 48 < c0 + nc then
      .err St.badParam
    else
      let sts := if k.p8 0 = 0xFF then strandList t else [k.p8 0]
      let all := k.p8 1 == 0xFF
      let w := strandPacket 1 (if all then 0 else k.p8 1) all ([y0 + (ny - 1) * 32, c0 + (nc - 1) * 64] ++ List.replicate (ny * nc) (k.p16 2))
      let arm := strandPacket 2 0 true [0x8000, 1]
      let t1 := sts.foldl (fun a st => strandSend st arm (strandSend st w a)) t
      .ok { send t1 (.sync 2 0) with str := { t1.str with blanked := false } } []) s)

/-! ### Preparation figures (R377) -/

/-- Words of a cell's WRITEs on a strand. -/
def strandWords (g : List Byte) (st c : Nat) : Nat :=
  (((cellBlocks g c).filter (fun b => (blockPlace g b.1 b.2).1 == st)).map (fun b =>
    let r := writeRange g c b.1 b.2
    5 + r.2.1 * r.2.2.2)).sum

/-- Per strand: the largest words of one position, and the words of all. -/
def strandLoad (s : State) (st : Nat) : Nat × Nat :=
  let g := geoOf s
  let ws := (List.range (cellCount (gW g) (gH g))).map (strandWords g st)
  (ws.foldl max 0, ws.sum)

/-- PREP_FIXED in µs and PREP_CELL in ns, with R_MAX and L_MAX in ns. -/
def prepFigures (s : State) : Nat × Nat × Nat × Nat :=
  let per := periodNs (clkCode s)
  let tw := 8 * per
  let ls := (strandList s).map (strandLoad s)
  let rmax := (ls.map Prod.fst).foldl max 0 * tw
  let lmax := (ls.map Prod.snd).foldl max 0 * tw
  let n := cellCount (gW (geoOf s)) (gH (geoOf s))
  let ovh := 7000 + 640 * per
  let fixed := (15000 + ovh + getF s R.STR_CTRL_CONC * rmax + 9999) / 10000 * 10
  let full := 15000 + 160 * n + ovh + lmax
  let cell := if n = 0 then 200 else max 200 ((full - fixed * 1000 + 100 * n - 1) / (100 * n) * 100)
  (fixed, cell, rmax, lmax)

/-- The figures take effect: CEL_T_PREP, STR_LOAD and the strands' LOAD_US. -/
def prepShow (s : State) : State :=
  if s.str.geo.isNone then s
  else
    let f := prepFigures s
    let s1 := setSat (setSat s R.CEL_T_PREP_PREP_FIXED f.1) R.CEL_T_PREP_PREP_CELL f.2.1
    let s2 := setSat (setSat s1 R.STR_LOAD_R_MAX (f.2.2.1 / 10)) R.STR_LOAD_L_MAX (inexact 26 f.2.2.2 1000)
    (strandList s2).foldl (fun a st =>
      setSat a (R.STR_S_LOAD_LOAD_US st) (inexact 27 ((strandLoad a st).2 * 8 * periodNs (clkCode a)) 1000)) s2

/-! ### Start and stop (R370, R373, R380) -/

/-- Starts the clocks and enumerates every strand. -/
def strandsStart (blank : Bool) (s : State) : State :=
  if sender s || s.str.geo.isNone || s.str.vddLost || isSet s R.DMK_STATUS_RELEASED || s.nv.module.isNone || !running s then s
  else
    let s1 := setF (setF s R.STR_STATUS_CLK_RUN 1) R.STR_STATUS_CLK_EFF (clkCode s)
    enumStrands blank (strandList s1) { s1 with str := { s1.str with blanked := s1.str.blanked || blank, reading := [] } }

/-- Commands that wait for the strands end without a reply from a driver. (DEDUCED log 38) -/
def strandWaitsFail (s : State) : State :=
  let ks := (s.str.reading.filterMap (fun e => e.2.pkt)) ++ ((s.str.waiting.map Prod.snd).flatten).filterMap (fun r => r.pkt)
  let s1 := ks.foldl (fun a k => finish k St.noReply [] a) s
  let s2 := s1.str.enumWait.foldl (fun a e => finish e.1 St.noReply [] (endBg 10 a)) s1
  { s2 with str := { s2.str with enumWait := [], reading := [], waiting := [] } }

/-- BLANK, then the clocks stop: a module leaves or is released. -/
def strandHalt (s : State) : State :=
  let s1 := if getF s R.STR_STATUS_STATE = 0 then s else raise 14 s
  let s2 := strandsStop (strandWaitsFail s1)
  (List.range 64).foldl (fun a st => setStrand st 0 a) s2

/-- Sets GEO_STATE with its event, and its fault while invalid. (DEDUCED log 37) -/
def setGeoState (v : Nat) (s : State) : State :=
  let old := getF s R.STR_STATUS_GEO_STATE
  if old = v then s
  else
    let t := setLevel 14 R.STR_STATUS_GEO_STATE v s
    if v = 2 then levelRise 13 3 0 t else if old = 2 then levelFall 13 3 t else t

/-- Loads the strand geometry: a record supplied for the factory layer in force, or the EEPROM's (R373). -/
def loadGeo (s : State) : State :=
  match s.dmk.factory, s.nv.module with
  | some l, some m =>
    let own := match s.str.geoCmd with | some e => if e.2 = factoryIdOf l then some e.1 else none | none => none
    let rec_ := match own with | some g => some g | none => m.geom
    match rec_ with
    | some g => if geoOk s g then setGeoState 1 { s with str := { s.str with geo := some g } }
      else setGeoState 2 { s with str := { s.str with geo := none } }
    | none => setGeoState 2 { s with str := { s.str with geo := none } }
  | _, _ => setGeoState 0 { s with str := { s.str with geo := none } }

/-- The geometry of a set-strand-geometry parameter (R373). -/
def geometrySet (l : List Byte) (t : State) : Except Nat State :=
  let g := sub l 0 32
  let id := sub l 32 16
  if getF t R.DMK_STATUS_FL_STATE ≠ 2 then .error St.badState
  else if id ≠ factoryIdOf (flOf t) ∨ !geoOk t g then .error St.badParam
  else
    let t1 := loadGeo (strandWaitsFail { t with str := { t.str with geoCmd := some (g, id) } })
    let t2 := (List.range 64).foldl (fun a st => if gNstr g ≤ st then setStrand st 0 a else a)
      { t1 with str := { t1.str with enums := [] } }
    .ok (setItem 0x0035 0 l (strandsStart true t2))

/-- `set-strand-geometry`. -/
def execSetStrandGeometry (k : Pkt) (s : State) : Out := .next (plain k (fun t => resOf (geometrySet k.par t)) s)

/-! ### The WRITEs of a push (R374, R375) -/

/-- The code a lamp is pushed with. (DEDUCED log 38) -/
def pushCode (s : State) (i : Nat) : Nat := (Tab.get s.dmk.newCode i).getD (Tab.getD s.dmk.code i 0)

/-- The WRITE of a cell in block number k. -/
def writePacket (s : State) (c k : Nat) : List Byte :=
  let g := geoOf s
  let bx := k % dCols g
  let by_ := k / dCols g
  let r := writeRange g c bx by_
  let codes := ((List.range r.2.1).map (fun j => (List.range r.2.2.2).map (fun i => pushCode s (lampAt g bx by_ (r.1 + j) (r.2.2.1 + i))))).flatten
  strandPacket 1 (blockPlace g bx by_).2 false ([r.1 + (r.2.1 - 1) * 32, r.2.2.1 + (r.2.2.2 - 1) * 64] ++ codes)

/-- Duration of a WRITE in ns. -/
def writeNs (s : State) (c k : Nat) : Nat :=
  let g := geoOf s
  let r := writeRange g c (k % dCols g) (k / dCols g)
  (5 + r.2.1 * r.2.2.2) * wordTime s

/-- The WRITEs of a strand for positions in order, each with the WT at which it ends. (DEDUCED log 38) -/
def strandQueue (s : State) (st start : Nat) (cells : List Nat) : List (Nat × Nat × Nat) :=
  let g := geoOf s
  let items := (cells.map (fun c => ((cellBlocks g c).filter (fun b => (blockPlace g b.1 b.2).1 == st)).map (fun b =>
    (c, b.2 * dCols g + b.1)))).flatten
  (items.foldl (fun (a : List (Nat × Nat × Nat) × Nat) e =>
    let t := a.2 + writeNs s e.1 e.2
    (a.1 ++ [(e.1, e.2, t)], t)) ([], start)).1

/-- Sends the WRITEs of every strand that satisfy a condition on their start and end. -/
def sendWrites (go : Nat → Nat → Bool) (s : State) : State :=
  s.str.queue.foldl (fun a q =>
    let now := q.2.takeWhile (fun e => go (e.2.2 - writeNs a e.1 e.2.1) e.2.2)
    let b := now.foldl (fun x e => strandSend q.1 (writePacket x e.1 e.2.1) x) a
    { b with str := { b.str with queue := Tab.put b.str.queue q.1 (q.2.drop now.length) } }) s

/-- Begins the push of frame n: the positions in order, from the WT at which it starts. (DEDUCED log 38) -/
def pushBegin (n start closed : Nat) (cells : List Nat) (s : State) : State :=
  let carried := s.str.carry.filter (fun c => cells.contains c)
  let order := carried ++ cells.filter (fun c => !carried.contains c)
  let q := ((strandList s).filter (fun st => getF s (R.STR_S_STATE_SSTATE st) == 1)).map (fun st => (st, strandQueue s st start order))
  let last := ((q.map Prod.snd).flatten.map (fun e => e.2.2)).foldl max closed
  let us := inexact 28 (last - closed) 1000
  let s1 := setSat (setSat s R.STR_PUSH_TIME_LAST us) R.STR_PUSH_TIME_MAX (max us (getF s R.STR_PUSH_TIME_MAX))
  { s1 with str := { s1.str with queue := q.filter (fun e => !e.2.isEmpty), pushFrame := some n, pushFrom := closed, carry := [], inWindow := true } }

/-- Cuts the push off (R375): what can still end by an instant is sent, the other positions are counted and carried. -/
def pushCut (limit : Nat) (s : State) : State :=
  let s1 := sendWrites (fun _ e => decide (e ≤ limit)) s
  let left := s1.str.queue.map (fun q => (q.1, (q.2.map Prod.fst).eraseDups))
  let cells := ((left.map Prod.snd).flatten).eraseDups
  let s2 := left.foldl (fun a q => addF a (R.STR_S_PUSH_CUT_N q.1) q.2.length) s1
  let s3 := tallyN cells.length R.STR_PUSH_CUT_N 13 2 0 { s2 with str := { s2.str with queue := [], carry := cells } }
  strMark cells s3

/-- Abandons the push under way (R382): WRITEs begun are sent, RESYNC follows, the frame's positions are marked. -/
def pushAbandon (resync : Bool) (s : State) : State :=
  if !s.str.inWindow || s.str.pushFrame.isNone then { s with str := { s.str with armed := none } }
  else
    let now := wtNs s
    let s1 := sendWrites (fun st _ => decide (st ≤ now)) s
    let s2 := if resync then strandAll 7 [] s1 else s1
    let s3 := strMark s2.dmk.corrected { s2 with str := { s2.str with queue := [], pushFrame := none, armed := none, inWindow := false } }
    pumpAll { s3 with dmk := { s3.dmk with newCode := [], corrected := [] } }

/-! ### Changes while running (R383, R385, R387) -/

/-- A change of the clock period takes effect: the clocks stop and restart, strands are enumerated without BLANK, every
position is marked. (DEDUCED log 38) -/
def clkApply (blank : Bool) (s : State) : State :=
  prepShow (markEvery (strandsStart blank (strandWaitsFail { s with str := { s.str with clkNext := none, enums := [] } })))

/-- A write of STR_CTRL by requester q. -/
def strCtrlWrite (q : Nat) (v : Word) (s : State) : State :=
  access q 13 false 0 (fun t =>
    let u := storeWord R.STR_CTRL v t
    let ret := getF u R.STR_CTRL_RET_EXP != getF t R.STR_CTRL_RET_EXP
    let clk := clkCode u != getF u R.STR_STATUS_CLK_EFF
    if !clkRuns u then u
    else
      let u1 := if !ret then u
        else if u.str.inWindow then { u with str := { u.str with cfgDue := true } }
        else sendConfig (strandList u) false (frameNow0 u) u
      if !clk then { u1 with str := { u1.str with clkNext := none } }
      else if mode u1 = mShow ∨ mode u1 = mHold then { u1 with str := { u1.str with clkNext := some (clkCode u1) } }
      else clkApply true u1) s

/-- CLK_SEL_CHANGE: a write of STR_CTRL (R385). -/
def execClkSelChange (q : Nat) (v : Word) (s : State) : Out := .next (strCtrlWrite q v s)

/-- VDD_STR leaves its range (R588). -/
def execVddStrLoss (s : State) : Out :=
  .next (if !running s || sender s || s.str.vddLost then s
    else
      let s1 := strandWaitsFail { s with str := { s.str with vddLost := true, queue := [], enums := [] } }
      strRefresh ((strandList s1).foldl (fun a st => setStrand st 2 a) s1))

/-- VDD_STR returns: every strand is enumerated and every position marked (R588). -/
def execVddStrReturn (s : State) : Out :=
  .next (if !running s || sender s || !s.str.vddLost then s
    else
      let s1 := markEvery { s with str := { s.str with vddLost := false } }
      if clkRuns s1 then enumStrands (enumBlanks s1) (strandList s1) s1 else strandsStart (enumBlanks s1) s1)

/-- PUSH_WINDOW_END: polls and READs resume (R374). -/
def execPushWindowEnd (s : State) : Out :=
  .next (if !running s || sender s || !s.str.inWindow then s
    else
      let s1 := { s with str := { s.str with inWindow := false } }
      let s2 := if s1.str.cfgDue then
          let t := sendConfig (strandList s1) false (frameNow0 s1) s1
          { t with str := { t.str with cfgDue := false } }
        else s1
      pumpAll s2)

end Sys2Proof.Machine
end

