-- ==== Sys2Proof/Machine/Thermal.lean ====
section
/-!
DEFINITION. Thermal management (R390 to R411, R420 to R426): sensors and their cross-checks, thresholds, the die and zone
models, throttling, the frame scale, a tile's budget and its DEMAND, supply telemetry and the monitor ADC.
-/

namespace Sys2Proof.Machine

/-! ### The module thermal record (R401) -/

/-- A sensor entry of Table 13.5. -/
def mrecEntry (r : List Byte) (i : Nat) : List Byte := sub r (0x10 + 8 * i) 8

/-- The checks of R401: MAGIC, VERSION, CRC, ranges and reserved bytes. -/
def mrecOk (r : List Byte) : Bool :=
  u32 r 0 == 0x4D48544D && u8 r 4 == 1 && decide (u8 r 5 ≤ 32) && u16 r 6 != 0 && u16 r 8 != 0 && zeroAt r 0x0C 2 &&
    decide (0x10 + 8 * u8 r 5 ≤ r.length) && crc16 (sub r 0 0x0E ++ sub r 0x10 (8 * u8 r 5)) == u16 r 0x0E &&
    (List.range (u8 r 5)).all (fun i =>
      let e := mrecEntry r i
      decide (u8 e 0 < 128) && decide (u8 e 2 < 2) && u8 e 3 == 0)

/-- Module sensors of the record in force. -/
def nsens (s : State) : Nat := match s.thm.mrec with | some r => u8 r 5 | none => 0
/-- RZC, u8.8 K/W. -/
def rzc (s : State) : Nat := match s.thm.mrec with | some r => u16 r 6 | none => 0x1000
/-- TAU_Z in ms. -/
def tauZ (s : State) : Nat := match s.thm.mrec with | some r => u16 r 8 | none => 2000
/-- KH, u0.16. -/
def khOf (s : State) : Nat := match s.thm.mrec with | some r => u16 r 0x0A | none => 0xB333

/-- The tile loads the record of a module that is present: the defaults replace one that fails (R401). The module
sensors start afresh. -/
def loadThermal (s : State) : State :=
  match s.nv.module with
  | none => s
  | some m =>
    let good := m.thermal.filter mrecOk
    let n := match good with | some r => u8 r 5 | none => 0
    let far := fun {α : Type} (t : Tab α) => t.filter (fun e => decide (e.1 < 24))
    let s1 := { s with thm := { s.thm with mrec := good, bad := far s.thm.bad, good := far s.thm.good
                                           nack := far s.thm.nack, floorBy := far s.thm.floorBy } }
    let s2 := (List.range 32).foldl (fun a i =>
      let x := 24 + i
      let b := setF (setF (setF (setF (setF a (R.THM_SENS_VALUE x) 0) (R.THM_SENS_USED x) 0) (R.THM_SENSM_MODEL x) 0)
        (R.THM_SENSM_FAILED x) 0) (R.THM_SENSM_PRESENT x) 0
      setF (setF b (R.THM_SENSN_NB0 x) (if 0 < i ∧ i < n then x - 1 else 0xFF)) (R.THM_SENSN_NB1 x)
        (if i + 1 < n then x + 1 else 0xFF)) s1
    let s3 := setF s2 R.THM_STATUS_FAILED (idxs 56 (fun x => isSet s2 (R.THM_SENSM_FAILED x))).length
    thmLevel R.THM_STATUS_MREC_BAD 7 good.isNone s3

/-! ### Sensors and model estimates (R390 to R394) -/

/-- The device has a sensor: the on-die ones, the diode channels and those of the module record. -/
def sensorExists (s : State) (x : Nat) : Bool := decide (x < 24) || (!sender s && decide (x < 24 + nsens s))

/-- A sensor's reading counts: it answers and has not failed. -/
def sensorValid (s : State) (x : Nat) : Bool := isSet s (R.THM_SENSM_PRESENT x) && !isSet s (R.THM_SENSM_FAILED x)

/-- Neighbours of a sensor, without those that have failed or do not answer. -/
def validNeighbours (s : State) (x : Nat) : List Nat :=
  [getF s (R.THM_SENSN_NB0 x), getF s (R.THM_SENSN_NB1 x)].filter (fun n => decide (n < 56) && sensorValid s n)

/-- A reading in 1/16 °C: a module sensor's two bytes are converted as code × SCALE + OFFSET (R391). -/
def readingOf (s : State) (x raw : Nat) : Int :=
  if x < 24 then signed 16 raw
  else
    let e := mrecEntry (s.thm.mrec.getD []) (x - 24)
    let code := if bitAt e 2 0 then raw % 256 * 256 + raw / 256 % 256 else raw
    inexactI 40 (signed 16 code * (u16 e 4 : Nat) + signed 16 (u16 e 6) * 256) 4096

/-- A node of the die model in 1/16 °C. -/
def dieT (s : State) (i : Nat) : Int := inexactI 34 (s.thm.die.getD i 0) 65536

/-- Insertion into a rising list. -/
def insertInt (v : Int) : List Int → List Int
  | [] => [v]
  | a :: t => if v ≤ a then v :: a :: t else a :: insertInt v t

/-- A list in rising order. -/
def sortInts (l : List Int) : List Int := l.foldl (fun a v => insertInt v a) []

/-- The values of the valid module sensors, without one of them. -/
def moduleValues (s : State) (skip : Option Nat) : List Int :=
  ((idxs (nsens s) (fun i => sensorValid s (24 + i) && skip != some (24 + i))).map (fun i => getI s (R.THM_SENS_VALUE (24 + i))))

/-- The middle values of a list: one, or two for an even count. -/
def middles (l : List Int) : List Int :=
  let o := sortInts l
  if o.length % 2 = 1 then (o.drop (o.length / 2)).take 1 else (o.drop (o.length / 2 - 1)).take (min 2 o.length)

/-- The remote diode that CASE_SRC names, when it is set and valid. -/
def caseDiode (s : State) : Option Nat :=
  let c := getF s R.THM_CTRL_CASE_SRC
  if c < 4 ∧ sensorValid s (20 + c) then some (20 + c) else none

/-- T_CASE (R398), and whether it is an estimate. -/
def caseFrom (s : State) (skip : Option Nat) : Int × Bool :=
  match middles (moduleValues s skip) with
  | [a] => (a, false)
  | a :: b :: _ => (inexactI 33 (a + b) 2, false)
  | [] => match caseDiode s with
    | some x => (getI s (R.THM_SENS_VALUE x), true)
    | none => (dieT s 23, true)

/-- T_CASE of a tile follows its sources. -/
def caseUpdate (s : State) : State :=
  if sender s then s
  else
    let c := caseFrom s none
    thmLevel R.THM_STATUS_CASE_EST 11 c.2 { s with thm := { s.thm with tcase := c.1 } }

/-- The model estimate of a sensor (R393); `v` stands in where a diode has no earlier valid reading. -/
def modelOf (s : State) (x : Nat) (v : Int) : Int :=
  if x < 20 then (if s.thm.seeded then dieT s x else v)
  else if x < 24 then
    match Tab.get s.thm.diodeRef x with
    | some r => r.1 + inexactI 35 (s.thm.die.getD 23 0 - r.2) 65536
    | none => v
  else (caseFrom s (some x)).1

/-- USED of a sensor: VALUE, or the estimate with FAIL_MARGIN once it has failed (R394). -/
def useSensor (x : Nat) (s : State) : State :=
  setSatI s (R.THM_SENS_USED x)
    (if isSet s (R.THM_SENSM_FAILED x) then getI s (R.THM_SENSM_MODEL x) + 16 * (getF s R.THM_CTRL_FAIL_MARGIN : Nat)
     else getI s (R.THM_SENS_VALUE x))

/-- On-die sensors that give a value: valid ones, and failed ones by their estimate. -/
def dieSensors (s : State) : List Nat := idxs 20 (fun x => isSet s (R.THM_SENSM_PRESENT x) || isSet s (R.THM_SENSM_FAILED x))

/-- The highest value of sensors 0 to 19 (R402), none before the first reading. -/
def dieMax (s : State) : Option Int := (dieSensors s).foldl (fun m x =>
  let v := getI s (R.THM_SENS_USED x)
  some (match m with | some a => max a v | none => v)) none

/-! ### Curves, budgets and scales (R407, R417) -/

/-- f(x) of a derating curve in units of 1/32768, as a quotient. -/
def derateAt : List (Nat × Nat) → Nat → Nat × Nat
  | [], _ => (0x8000, 1)
  | [(_, k)], _ => (k, 1)
  | (v0, k0) :: (v1, k1) :: t, x =>
    if x ≤ v0 then (k0, 1)
    else if x < v1 then (k0 * (v1 - x) + k1 * (x - v0), v1 - v0)
    else derateAt ((v1, k1) :: t) x

/-- Supplies configured and valid. -/
def validSupplies (s : State) : List Nat := idxs s.thm.nsup (fun k => isSet s (R.THM_SUP_VALID k))

/-- VIN_now: the lowest READ_VIN of the tile's supplies (R417). -/
def vinNow (s : State) : Option Nat :=
  (validSupplies s).foldl (fun m k =>
    let v := getF s (R.THM_SUP_IN_VIN k)
    some (match m with | some a => min a v | none => v)) none

/-- B_eff in mW under a budget (R407): VREF 0 takes f(VIN_now) itself. (DEDUCED log 39) -/
def bEff (s : State) (b : BudgetMsg) : Nat :=
  match vinNow s with
  | none => b.b
  | some v =>
    let f := derateAt s.thm.curve v
    let r := if b.vref = 0 then (0x8000, 1) else derateAt s.thm.curve b.vref
    if f.1 = 0 ∧ r.1 = 0 then Config.corner 1 b.b % (b.b + 1)
    else if f.2 * r.1 ≤ f.1 * r.2 then b.b
    else inexact 36 (b.b * f.1 * r.2) (f.2 * r.1)

/-- CAP of a throttle step (Table 13.7). -/
def capOf (step : Nat) : Nat := [0x8000, 0x7333, 0x6000, 0x4000].getD step 0x2000

/-- KP. -/
abbrev kp (s : State) : Nat := getF s R.THM_KP_KP

/-- The frame scale for content power p in uW under a CAP (R407). (DEDUCED log 39) -/
def scaleOf (s : State) (cap p : Nat) : Nat :=
  match s.thm.budget with
  | none => cap
  | some b =>
    if !isSet s R.THM_CTRL_POWER_EN then cap
    else if p = 0 then min cap 0x8000
    else min cap (min 0x8000 (32768 * bEff s b * 1000 * 16384 / (kp s * p)))

/-- The demand ratio of a frame, u4.12, saturating (R407). (DEDUCED log 39) -/
def demandRatio (s : State) (p : Nat) : Nat :=
  match s.thm.budget with
  | none => 0
  | some b =>
    let e := bEff s b
    if e = 0 then (if p = 0 then Config.corner 2 (kp s) % 65536 else 0xFFFF)
    else min 0xFFFF (inexact 37 (kp s * p * 4096) (16384 * 1000 * e))

/-- KP × P in mW. -/
def kpMw (s : State) (p : Nat) : Nat := inexact 41 (kp s * p) 16384000

/-- KP × P × S in mW. (DEDUCED log 40) -/
def lampMw (s : State) (p sc : Nat) : Nat := inexact 42 (kp s * p * sc) (16384000 * 32768)

/-- THM_BUDGET shows B_eff. -/
def showBudget (s : State) : State :=
  match s.thm.budget with
  | some b => setSat s R.THM_BUDGET_B (bEff s b)
  | none => s

/-- R409: in HOLD a lower scale is computed from the power held when it exceeds B_eff. (DEDUCED log 39) -/
def holdCheck (s : State) : State :=
  if sender s || mode s != mHold then s
  else match s.thm.budget, s.thm.shown with
    | some b, some (p, sc) =>
      if bEff s b * 1000 * 16384 * 32768 < kp s * p * sc then
        { s with thm := { s.thm with rescale := some (min sc (scaleOf s (capOf (getF s R.THM_STATUS_STEP)) p)) } }
      else s
    | _, _ => s

/-! ### Throttling (R402 to R405) -/

/-- The highest step whose threshold, from record t0 on, is tripped. (DEDUCED log 39) -/
def stepFrom (s : State) (t0 : Nat) : Nat :=
  (List.range 4).foldl (fun a i => if 2 ≤ getF s (R.THM_THRD_STATE (t0 + i)) then i + 1 else a) 0

/-- The step in force follows its thresholds, STEP_MIN and STEP_FLOOR. -/
def restep (s : State) : State :=
  let die := stepFrom s 0
  let mod := if sender s then 0 else stepFrom s 4
  let fl := (s.thm.floorBy.map Prod.snd).foldl max 0
  let new := max (max die mod) (max (getF s R.THM_CTRL_STEP_MIN) fl)
  let old := getF s R.THM_STATUS_STEP
  let s1 := setF (setF (setF s R.THM_STATUS_DIE_STEP die) R.THM_STATUS_MOD_STEP mod) R.THM_STATUS_STEP_FLOOR fl
  if new = old then s1
  else
    let s2 := incF (setLevel 15 R.THM_STATUS_STEP new s1) R.THM_STEP_CHG_N
    let s3 := if old < 3 ∧ 3 ≤ new then levelRise 11 3 0 s2 else if 3 ≤ old ∧ new < 3 then levelFall 11 3 s2 else s2
    if old < new then holdCheck s3 else s3

/-! ### Thresholds (R395) -/

/-- Table 13.3: the next state for a sample at or above LEVEL, or below LEVEL − HYST, with the dwell passed. -/
def thrNext (st : Nat) (above below passed : Bool) : Nat :=
  match st with
  | 0 => if above then 1 else 0
  | 1 => if !above then 0 else if passed then 2 else 1
  | 2 => if below then 3 else 2
  | _ => if !below then 2 else if passed then 0 else 3

/-- A threshold record enters a state: the dwell timer starts with RISING and FALLING, a trip is counted, and a trip of a
monitor-ADC threshold is its fault source. -/
def thrEnter (t st : Nat) (s : State) : State :=
  let was := getF s (R.THM_THRD_STATE t)
  if was = st then s
  else
    let s1 := setF s (R.THM_THRD_STATE t) st
    let s2 := if st = 1 ∨ st = 3 then { s1 with thm := { s1.thm with dwell := Tab.put s1.thm.dwell t (ltNs s1) } } else s1
    if was = 1 ∧ st = 2 then
      (if t < 8 then incF s2 (R.THM_THRT_TRIPS t) else tally (R.THM_THRT_TRIPS t) 11 12 ((t - 8) / 2) s2)
    else s2

/-- DWELL of a record has passed since its timer started. -/
def dwellPassed (s : State) (t : Nat) : Bool :=
  decide (Tab.getD s.thm.dwell t 0 + getF s (R.THM_THRD_DWELL_MS t) * 1000000 ≤ ltNs s)

/-- A monitor-ADC low threshold: it watches for values at or below LEVEL. (DEDUCED log 39) -/
def thrLow (t : Nat) : Bool := decide (8 ≤ t) && decide (t < 24) && t % 2 == 0

/-- A monitor-ADC threshold at the LEVEL that disables it (R426). (DEDUCED log 39) -/
def thrOff (s : State) (t : Nat) : Bool :=
  decide (8 ≤ t) && getF s (R.THM_THR_LEVEL t) == (if thrLow t then 0x8000 else 0x7FFF)

/-- A sample of a threshold's input. (DEDUCED log 39) -/
def thrJudge (t : Nat) (v : Int) (s : State) : State :=
  if thrOff s t then s
  else
    let lv := getI s (R.THM_THR_LEVEL t)
    let hy : Int := (getF s (R.THM_THR_HYST t) : Nat)
    let above := if thrLow t then decide (v ≤ lv) else decide (lv ≤ v)
    let below := if thrLow t then decide (lv + hy < v) else decide (v < lv - hy)
    thrEnter t (thrNext (getF s (R.THM_THRD_STATE t)) above below (dwellPassed s t)) s

/-- The lane threshold of a port enters a state; a trip is reported to the port (R232). (DEDUCED log 39) -/
def laneEnter (p l st : Nat) (s : State) : State :=
  let was := (Tab.getD s.thm.lanes (4 * p + l) (0, 0)).1
  if was = st then s
  else
    let s1 := { s with thm := { s.thm with lanes := Tab.put s.thm.lanes (4 * p + l) (st, ltNs s) } }
    if was = 1 ∧ st = 2 then
      (let s2 := incF s1 (R.THM_THRT_TRIPS 24)
       if isSet s2 (R.TWL_PHY_CTRL_AUTO_CAL p) then calRequest p (2 ^ l) s2 else s2)
    else s1

/-- A sample of a lane's threshold: |T − T_CAL| against CAL_DELTA_T, with HYST and DWELL of record 24. -/
def laneJudge (p l : Nat) (s : State) : State :=
  if !(laneOf s p l).calibrated then s
  else
    let d : Int := ((getI s (R.THM_SENS_USED (12 + p)) - 16 * getI s (R.LANE_CAL_T_CAL p l)).natAbs : Nat)
    let lv : Int := (16 * getF s (R.TWL_PHY_CTRL_CAL_DELTA_T p) : Nat)
    let e := Tab.getD s.thm.lanes (4 * p + l) (0, 0)
    let passed := decide (e.2 + getF s (R.THM_THRD_DWELL_MS 24) * 1000000 ≤ ltNs s)
    laneEnter p l (thrNext e.1 (decide (lv ≤ d)) (decide (d < lv - (getF s (R.THM_THR_HYST 24) : Nat))) passed) s

/-- THRESHOLD_DWELL_EXPIRY: the dwell of record t, or of lane t − 32 counted four to a port, has passed with the condition
held: RISING trips and FALLING clears. (DESIGN CHOICE log 3; DEDUCED log 39) -/
def execThresholdDwellExpiry (t : Nat) (s : State) : Out :=
  .next (
    if !alive s then s
    else if t < 24 then
      (let st := getF s (R.THM_THRD_STATE t)
       if st = 1 then restep (thrEnter t 2 s) else if st = 3 then restep (thrEnter t 0 s) else s)
    else if 32 ≤ t ∧ t < 64 then
      (let st := (Tab.getD s.thm.lanes (t - 32) (0, 0)).1
       if st = 1 then laneEnter ((t - 32) / 4) (t % 4) 2 s else if st = 3 then laneEnter ((t - 32) / 4) (t % 4) 0 s else s)
    else s)

/-! ### Failed sensors (R392, R405) -/

/-- Sensor x sets the input of a die or module threshold. -/
def setsInput (s : State) (x : Nat) : Bool :=
  if x < 20 then
    (match dieMax s with | some m => (dieSensors s).contains x && getI s (R.THM_SENS_USED x) == m | none => false)
  else if sender s then false
  else if 24 ≤ x then
    isSet s (R.THM_SENSM_PRESENT x) && (middles (moduleValues s none)).contains (getI s (R.THM_SENS_VALUE x))
  else (moduleValues s none).isEmpty && caseDiode s == some x

/-- THM_STATUS.FAILED counts the failed sensors. -/
def countFailed (s : State) : State :=
  setF s R.THM_STATUS_FAILED (idxs 56 (fun x => isSet s (R.THM_SENSM_FAILED x))).length

/-- A sensor is declared failed (R392): counted, its estimate used, and STEP_FLOOR set where it sets an input (R405). -/
def declareFailed (x : Nat) (s : State) : State :=
  let before := setsInput s x
  let step := getF s R.THM_STATUS_STEP
  let s1 := incF (setF s (R.THM_SENSM_FAILED x) 1) (R.THM_SENSC_FAIL_CNT x)
  let s2 := useSensor x (countFailed (tally R.THM_SENS_FAIL_N 11 2 x
    { s1 with thm := { s1.thm with bad := Tab.del s1.thm.bad x, good := Tab.del s1.thm.good x, hot := Tab.del s1.thm.hot x } }))
  let s3 := if before || (decide (x < 20) && setsInput s2 x) then
      { s2 with thm := { s2.thm with floorBy := Tab.put s2.thm.floorBy x step } } else s2
  if getF s3 R.TIM_OSC_TSRC = x then tally R.TSRC_FAIL_COUNT 10 4 0 s3 else s3

/-- A failed sensor is restored (R392). -/
def restoreSensor (x : Nat) (s : State) : State :=
  let s1 := incF (setF s (R.THM_SENSM_FAILED x) 0) (R.THM_SENSC_RESTORE_CNT x)
  useSensor x (countFailed { s1 with thm := { s1.thm with
    good := Tab.del s1.thm.good x, floorBy := Tab.del s1.thm.floorBy x } })

/-- After a sensor's value in use may have changed: T_CASE, the die thresholds, the lanes of its port, and the step. -/
def afterSample (x : Nat) (s : State) : State :=
  let s1 := caseUpdate (useSensor x s)
  if 20 ≤ x then restep s1
  else
    match dieMax s1 with
    | none => s1
    | some m =>
      let s2 := [0, 1, 2, 3].foldl (fun a t => thrJudge t m a) (setSatI s1 R.THM_TMAX_DIE_MAX m)
      let s3 := if 12 ≤ x then dataLanes.foldl (fun a l => laneJudge (x - 12) l a) s2 else s2
      restep s3

/-- A sample that is a hard fault: no reading, or one out of range. -/
def hardFault (x : Nat) (s : State) : State :=
  let s1 := { s with thm := { s.thm with good := Tab.del s.thm.good x, hot := Tab.del s.thm.hot x } }
  afterSample x (if isSet s1 (R.THM_SENSM_FAILED x) then s1 else declareFailed x s1)

/-- Before the die model is seeded a reading seeds its own node; once every on-die sensor has been read, the rest take the
mean of the valid readings (R400). (DEDUCED log 39) -/
def seedDie (s : State) : State :=
  if s.thm.seeded || (dieSensors s).length < 20 then s
  else
    let vals := (idxs 20 (sensorValid s)).map (fun x => getI s (R.THM_SENS_VALUE x))
    let mean := inexactI 43 (vals.foldl (· + ·) 0) (max 1 vals.length) * 65536
    { s with thm := { s.thm with seeded := true, die := (List.range 24).map (fun i =>
        if i < 20 ∧ sensorValid s i then getI s (R.THM_SENS_VALUE i) * 65536 else mean) } }

/-- The cross-check of a reading against neighbours and model (R392): an outcome for a sensor that works, or for one that
has failed. -/
def crossCheck (x : Nat) (v m : Int) (s : State) : State :=
  let lim : Nat := 16 * getF s (R.THM_SENSM_LIMIT x)
  let nbs := (validNeighbours s x).map (fun n => getI s (R.THM_SENS_VALUE n))
  let far := decide (lim < (v - m).natAbs) && nbs.all (fun n => decide (lim < (v - n).natAbs))
  let near := decide ((v - m).natAbs ≤ lim) && (nbs.isEmpty || nbs.any (fun n => decide ((v - n).natAbs ≤ lim)))
  let t := s.thm
  if isSet s (R.THM_SENSM_FAILED x) then
    let n := if near then Tab.getD t.good x 0 + 1 else 0
    if 20 ≤ n then restoreSensor x s else { s with thm := { t with good := Tab.put t.good x n } }
  else
    let n := if far then Tab.getD t.bad x 0 + 1 else 0
    if 3 ≤ n then declareFailed x s else { s with thm := { t with bad := Tab.put t.bad x n } }

/-- The critical trip (R406): a valid on-die sensor at 125 °C or more on 2 successive samples. -/
def criticalTrip (x : Nat) (v : Int) (s : State) : State :=
  if 20 ≤ x ∨ isSet s (R.THM_SENSM_FAILED x) then s
  else
    let n := if 2000 ≤ v then Tab.getD s.thm.hot x 0 + 1 else 0
    if 2 ≤ n then occur 11 1 x 0 { s with thm := { s.thm with hot := Tab.del s.thm.hot x } }
    else { s with thm := { s.thm with hot := Tab.put s.thm.hot x n } }

/-- A reading within range. -/
def goodSample (x : Nat) (v : Int) (s : State) : State :=
  let m := modelOf s x v
  let s1 := setSatI (setF (setI s (R.THM_SENS_VALUE x) v) (R.THM_SENSM_PRESENT x) 1) (R.THM_SENSM_MODEL x) m
  let s2 := crossCheck x v m { s1 with thm := { s1.thm with nack := Tab.del s1.thm.nack x } }
  let s3 := if 20 ≤ x ∧ x < 24 ∧ !isSet s2 (R.THM_SENSM_FAILED x) then
      { s2 with thm := { s2.thm with diodeRef := Tab.put s2.thm.diodeRef x (v, s2.thm.die.getD 23 0) } } else s2
  criticalTrip x v (afterSample x (seedDie s3))

/-- A sample of sensor x: the 16 bits read, or none (an open or shorted diode, a module sensor that does not answer). (DEDUCED log 39) -/
def sensorSample (x : Nat) (raw : Option Nat) (s : State) : State :=
  if !sensorExists s x then s
  else match raw with
    | some r =>
      let v := readingOf s x r
      if v < -880 ∨ 2400 < v then hardFault x s else goodSample x v s
    | none =>
      let s1 := setSatI (setF s (R.THM_SENSM_PRESENT x) 0) (R.THM_SENSM_MODEL x) (modelOf s x (getI s (R.THM_SENS_VALUE x)))
      if x < 20 then s
      else if x < 24 then hardFault x s1
      else
        let n := Tab.getD s1.thm.nack x 0 + 1
        let s2 := { s1 with thm := { s1.thm with nack := Tab.put s1.thm.nack x n } }
        if 3 ≤ n then hardFault x s2 else caseUpdate s2

/-- SENSOR_SAMPLE (R390 to R395). -/
def execSensorSample (x : Nat) (raw : Option Nat) (s : State) : Out :=
  .next (if alive s then sensorSample x raw s else s)

/-- MOD_INT_EDGE: every module sensor is read (R579). -/
def execModIntEdge (raws : List (Option Nat)) (s : State) : Out :=
  .next (if !alive s || sender s then s
    else (List.range (nsens s)).foldl (fun a i => sensorSample (24 + i) (raws.getD i none) a) s)

/-! ### The die model (R396) -/

/-- DIE_MODEL_UPDATE: the network one millisecond on, then every node with a valid sensor corrected by 1/8 of its error. -/
def execDieModelUpdate (rails : List Nat) (s : State) : Out :=
  .next (
    if !alive s then s
    else
      let s1 := setSat s R.THM_CHIP_MW_MW rails.sum
      if !s1.thm.seeded then s1
      else
        let die := (List.range 24).map (fun i =>
          let n := Config.dieNode s1.thm.die rails i
          if i < 20 ∧ sensorValid s1 i then n + inexactI 39 (getI s1 (R.THM_SENS_VALUE i) * 65536 - n) 8 else n)
        let s2 := { s1 with thm := { s1.thm with die := die } }
        (List.range 20).foldl (fun a x => useSensor x (setSatI a (R.THM_SENSM_MODEL x) (dieT a x))) s2)

/-! ### The zone model (R397 to R399) -/

/-- e^(−num/den) in units of 2^-96: e^(−y) by its series for a 64th of the argument, then squared six times. (DEDUCED log 39) -/
def expNeg (num den : Nat) : Nat :=
  if den * 64 ≤ num then 0
  else
    let one : Int := 2 ^ 96
    let y : Int := ((num * 2 ^ 96 / (64 * den) : Nat) : Int)
    let t := (List.range 24).foldl (fun (a : Int) (i : Nat) => one - y * a / one / (24 - (i : Int))) one
    ((List.range 6).foldl (fun (a : Int) _ => a * a / one) t).toNat

/-- a of R397 for a span in ns, u0.16. -/
def zoneCoeff (s : State) (ns : Nat) : Nat :=
  min 65535 ((2 ^ 96 - expNeg ns (tauZ s * 1000000)) / 2 ^ 80 + (if Config.roundsUp 30 ns (tauZ s) then 1 else 0))

/-- T_z: T_CASE and the zone's rise. -/
def zoneTemp (s : State) (z : Nat) : Int := s.thm.tcase + inexactI 38 (Tab.getD s.thm.rise z 0) 65536

/-- One step of the zone model over a span, with the scale shown, or none while the drivers are blanked. -/
def zoneStep (ns : Nat) (sc : Option Nat) (s : State) : State :=
  let a := zoneCoeff s ns
  let rise := (List.range (flZones s)).foldl (fun t z =>
    let n := max 1 (zoneCells s z).length
    let target : Int := match sc with
      | some v => ((inexact 31 (khOf s * kp s * zonePower s z * v * rzc s * (16 * 65536))
          (65536 * 16384 * 32768 * 1000000 * 256 * n) : Nat) : Int)
      | none => 0
    let d := Tab.getD s.thm.rise z 0
    Tab.put t z (d + inexactI 32 ((a : Int) * (target - d)) 65536)) []
  caseUpdate { s with thm := { s.thm with rise := rise } }

/-- ZONE_MAX, the module thresholds and the step follow the zone estimates. -/
def zoneJudge (s : State) : State :=
  match (List.range (flZones s)).map (zoneTemp s) with
  | [] => setF s R.THM_TMAX_ZONE_MAX 0
  | a :: t =>
    let m := t.foldl max a
    restep ([4, 5, 6, 7].foldl (fun b k => thrJudge k m b) (setSatI s R.THM_TMAX_ZONE_MAX m))

/-- The scale of the frame the drivers show, none while they are blanked. -/
def litScale (s : State) : Option Nat := if s.str.blanked then none else s.thm.shown.map Prod.snd

/-- ZONE_MODEL_UPDATE: every 10 ms in STANDBY, SERVICE and HOLD (R399). -/
def execZoneModelUpdate (s : State) : Out :=
  .next (if sender s || inReset s || !(mode s == mStandby || mode s == mService || mode s == mHold) then s
    else zoneJudge (zoneStep 10000000 (litScale s) s))

/-- At a present instant the estimates are handed to Damask (R341); in SHOW the model first steps over the frame's
period. (DEDUCED log 39) -/
def zonePresent (period : Nat) (s : State) : State :=
  let s1 := if mode s = mShow then zoneJudge (zoneStep period (litScale s) s) else s
  { s1 with dmk := { s1.dmk with estimates := (List.range (flZones s1)).map (fun z => (z, zoneTemp s1 z)) } }

/-! ### A tile's budget and DEMAND (R413, R415, R419) -/

/-- PMAX in uW: KP times the sum of W_FULL over every lamp (R410). -/
def pmaxUw (s : State) : Nat :=
  let l := flOf s
  let sum := (List.range (flW l * flH l)).foldl (fun a i =>
    let w := u16 l (0x29C0 + 64 * i + 0x18)
    a + u32 l (classOff (w % 16) + 0xC4) + u32 l (classOff (w / 16 % 16) + 0xC4) + u32 l (classOff (w / 256 % 16) + 0xC4)) 0
  inexact 44 (kp s * sum) 16384

/-- Σ READ_PIN or Σ READ_POUT over the valid supplies, in mW. -/
def supplySum (s : State) (f : Nat → Fld) : Nat := ((validSupplies s).map (fun k => getF s (f k))).sum

/-- A mean, zero of nothing. -/
def meanOf (site sum n : Nat) : Nat := if n = 0 then 0 else inexact site sum n

/-- The DEMAND payload (Table 13.9). -/
def demandPayload (s : State) : List Byte :=
  let a := s.thm.acc
  let bit := fun (b : Bool) (v : Nat) => if b then v else 0
  let zm := match (List.range (flZones s)).map (zoneTemp s) with | [] => 0 | x :: t => t.foldl max x
  leBytes 2 (match s.thm.budget with | some b => b.bseq | none => 0) ++
    leBytes 1 (bit (isSet s R.THM_STATUS_SAG) 1 + bit (a.frames == 0) 2 + bit (isSet s R.THM_STATUS_TELEM_VALID) 4 +
      bit (isSet s R.THM_STATUS_SAFE) 8) ++
    leBytes 1 (getF s R.THM_STATUS_STEP) ++ leBytes 4 (min 0xFFFFFFFF a.demand) ++
    leBytes 4 (min 0xFFFFFFFF (meanOf 45 a.lampSum a.lampN)) ++ leBytes 4 (min 0xFFFFFFFF (meanOf 46 a.pinSum a.pinN)) ++
    leBytes 2 (a.vinMin.getD 0) ++ leBytes 2 a.rho ++ leBytes 2 (min 0xFFFF (inexact 47 (pmaxUw s) 1000000)) ++
    leBytes 2 (unsigned 16 (max (-32768) (min 32767 zm))) ++ zeros 8

/-- Sends DEMAND to the serving sender (R413). -/
def sendDemand (s : State) : State :=
  if !running s || sender s || unnumbered s then s else toSender 0x19 (demandPayload s) s

/-- DEMAND_TIMER: the end of a tile's budget period. -/
def execDemandTimer (s : State) : Out :=
  .next (if !running s || sender s then s
    else let t := sendDemand s
         { t with thm := { t.thm with acc := DemandAcc.zero } })

/-- A budget received takes effect (R415), and is echoed (R413). -/
def applyBudget (s : State) : State :=
  match s.thm.budgetNext with
  | none => showBudget s
  | some b =>
    let s1 := setF { s with thm := { s.thm with budget := some b, budgetNext := none } } R.THM_BSEQ_BSEQ b.bseq
    sendDemand (showBudget s1)

/-- A BUDGET payload (Table 13.10). -/
def budgetOf (l : List Byte) : BudgetMsg :=
  { bseq := u16 l 0, flags := u8 l 2, feed := u8 l 3, b := u32 l 4, floor := u32 l 8, vref := u16 l 12, period := u16 l 14 }

/-- BUDGET at a tile: applied from the next frame closed, at once in HOLD (R409, R415); SAFE ends (R419). -/
def execBudget (p : Nat) (m : Msg) (s : State) : Out :=
  .next (msgIn p m (fun t =>
    if sender t then t
    else
      let b := budgetOf m.payload
      let t1 := setLevel 15 R.THM_STATUS_BUDGET_VALID 1
        { t with thm := { t.thm with budgetNext := some b, budgetAt := ltNs t } }
      let t2 := thmLevel R.THM_STATUS_SAFE 4 false t1
      let t3 := thmLevel R.THM_STATUS_FEED_UNSET 5 (b.flags.testBit 1) t2
      let t4 := thmLevel R.THM_STATUS_FEED_SHORT 6 (b.flags.testBit 0) t3
      if mode t4 = mHold then holdCheck (applyBudget t4) else t4) s)

/-- BUDGET_HOLD_EXPIRY: no BUDGET for BUDGET_HOLD_S; the tile takes its FLOOR and sets SAFE (R419). -/
def execBudgetHoldExpiry (s : State) : Out :=
  .next (
    if !alive s || sender s || isSet s R.THM_STATUS_SAFE then s
    else match (s.thm.budgetNext <|> s.thm.budget) with
      | none => s
      | some b =>
        let s1 := setF { s with thm := { s.thm with budget := some { b with b := b.floor }, budgetNext := none } }
          R.THM_BSEQ_BSEQ b.bseq
        thmLevel R.THM_STATUS_SAFE 4 true (showBudget s1))

/-- Frame n closes with content power P (R407): the step's CAP and a waiting budget take effect, the scale is computed,
and the period's figures gather. `lit` says that Damask handed P over. -/
def closePower (n : Nat) (lit : Bool) (s : State) : State :=
  let s1 := applyBudget { s with thm := { s.thm with capStep := getF s R.THM_STATUS_STEP } }
  let a := s1.thm.acc
  let p := s1.dmk.framePower
  if !lit then { s1 with thm := { s1.thm with acc := { a with frames := a.frames + 1 } } }
  else
    { s1 with thm := { s1.thm with
        lastP := p, scale := some (n, scaleOf s1 (capOf s1.thm.capStep) p)
        acc := { a with frames := a.frames + 1, demand := max a.demand (kpMw s1 p), rho := max a.rho (demandRatio s1 p) } } }

/-- The scale for the ARM of frame n: the one computed, or the late one of R408, which is counted. -/
def armScale (n : Nat) (s : State) : Nat × State :=
  match s.thm.scale with
  | some (k, v) => if k = n then (v, s) else
      let prev := match s.thm.shown with | some e => e.2 | none => 0x8000
      let w := min prev (scaleOf s (capOf s.thm.capStep) s.thm.lastP)
      (w, tally R.THM_SCALE_LATE_N 11 8 0 { s with thm := { s.thm with scale := some (n, w) } })
  | none =>
      let prev := match s.thm.shown with | some e => e.2 | none => 0x8000
      let w := min prev (scaleOf s (capOf s.thm.capStep) s.thm.lastP)
      (w, tally R.THM_SCALE_LATE_N 11 8 0 { s with thm := { s.thm with scale := some (n, w) } })

/-! ### Supply telemetry (R413, R418, R420, R421) -/

/-- A LINEAR11 word times a scale, as a quotient: numerator and denominator (R420). (PRESUMED log 27) -/
def linear11 (w k : Nat) : Int × Nat :=
  let e := signed 5 (w / 2048)
  if 0 ≤ e then (signed 11 w * (k : Int) * 2 ^ e.toNat, 1) else (signed 11 w * (k : Int), 2 ^ (-e).toNat)

/-- A LINEAR11 quantity in its unit; where it is negative and the field is not, zero. -/
def lin (site w k : Nat) : Nat := let q := linear11 w k; (inexactI site q.1 q.2).toNat

/-- Stores a reading where there is one. -/
def putRead (f : Fld) (v : Option Nat) (site k : Nat) (s : State) : State :=
  match v with | some w => setSat s f (lin site w k) | none => s

/-- STATUS_WORD shows INPUT, or TEMPERATURE. -/
def swInput (w : Nat) : Bool := w.testBit 13
def swTemp (w : Nat) : Bool := w.testBit 2

/-- The status part of a supply's reads: STATUS_INPUT and STATUS_TEMPERATURE follow STATUS_WORD (Table 13.11). (PRESUMED log 27; DEDUCED log 40) -/
def supplyStatus (k : Nat) (r : SupplyRead) (s : State) : State :=
  match r.statusWord with
  | none => s
  | some w =>
    let s1 := setF s (R.THM_SUP_SW_STATUS_WORD k) w
    let inp := if swInput w then r.statusInput.getD (Tab.getD s1.thm.supInput k 0) else 0
    let s2 := { s1 with thm := { s1.thm with supInput := Tab.put s1.thm.supInput k inp } }
    if swTemp w && r.statusTemp.isSome then incF s2 (R.THM_SUP_CNT_TEMP_EVT k) else s2

/-- Reads of a full round that failed with their retry: those made and not answered. -/
def failedReads (r : SupplyRead) : Nat :=
  let bad := fun (made : Bool) (v : Option Nat) => if made && v.isNone then 1 else 0
  let w := r.statusWord.getD 0
  bad true r.statusWord + bad (swInput w) r.statusInput + bad (swTemp w) r.statusTemp + bad true r.vin + bad true r.iin +
    bad true r.vout + bad true r.iout + bad true r.temp + bad true r.pout + bad true r.pin

/-- Every read of the round failed. -/
def allFailed (r : SupplyRead) : Bool :=
  r.statusWord.isNone && r.vin.isNone && r.iin.isNone && r.vout.isNone && r.iout.isNone && r.temp.isNone &&
    r.pout.isNone && r.pin.isNone

/-- READ_VOUT: LINEAR16 with the exponent of VOUT_MODE, in mV. -/
def voutMv (mode w : Nat) : Nat :=
  let e := signed 5 mode
  if 0 ≤ e then w * 1000 * 2 ^ e.toNat else inexact 48 (w * 1000) (2 ^ (-e).toNat)

/-- One supply in a round. (DEDUCED log 40) -/
def supplyRound (k : Nat) (r : SupplyRead) (s : State) : State :=
  let n := failedReads r
  let s0 := match r.vmode with
    | some v => { s with thm := { s.thm with supVmode := Tab.put s.thm.supVmode k v } }
    | none => s
  let s1 := addF (tallyN n R.THM_PMB_ERR_N 11 10 k s0) (R.THM_SUP_CNT_ERRORS k) n
  if allFailed r then
    let f := Tab.getD s1.thm.supFail k 0 + 1
    let s2 := { s1 with thm := { s1.thm with supFail := Tab.put s1.thm.supFail k f } }
    if 3 ≤ f then setF s2 (R.THM_SUP_VALID k) 0 else s2
  else
    let s2 := supplyStatus k r (setF { s1 with thm := { s1.thm with supFail := Tab.del s1.thm.supFail k } } (R.THM_SUP_VALID k) 1)
    let s3 := putRead (R.THM_SUP_IN_VIN k) r.vin 49 10 (putRead (R.THM_SUP_IN_IIN k) r.iin 50 1000 s2)
    let s4 := putRead (R.THM_SUP_PIN_PIN k) r.pin 51 1000 (putRead (R.THM_SUP_POUT_POUT k) r.pout 52 1000 s3)
    let s5 := putRead (R.THM_SUP_OUT_IOUT k) r.iout 53 1000 s4
    let s6 := match r.vout, Tab.get s5.thm.supVmode k with
      | some w, some v => setSat s5 (R.THM_SUP_OUT_VOUT k) (voutMv v w)
      | _, _ => s5
    match r.temp with
    | some w => let q := linear11 w 16; setSatI s6 (R.THM_SUP_TEMP_TEMP k) (inexactI 54 q.1 q.2)
    | none => s6

/-- The sag condition (R418). -/
def sagNow (s : State) : Bool :=
  (validSupplies s).any (fun k => let i := Tab.getD s.thm.supInput k 0; i.testBit 5 || i.testBit 4) ||
    (match vinNow s with | some v => decide (v < getF s R.THM_SAG_SAG_V) | none => false)

/-- A tile detects sag: counted, B_eff recomputed, and DEMAND sent with SAG set (R418). -/
def sagCheck (s : State) : State :=
  if sender s then s
  else
    let on := sagNow s
    let was := isSet s R.THM_STATUS_SAG
    let s1 := setLevel 15 R.THM_STATUS_SAG (if on then 1 else 0) s
    if on && !was then sendDemand (showBudget (tally R.THM_SAG_SAG_CNT 11 9 0 s1)) else s1

/-- KP is learned in SHOW while the lamp power shown is at least 10 % of PMAX (R410). (DEDUCED log 39) -/
def learnKp (s : State) : State :=
  match s.thm.shown with
  | none => s
  | some (p, sc) =>
    if sender s || mode s != mShow || s.str.blanked || !isSet s R.THM_STATUS_TELEM_VALID || p * sc == 0 then s
    else if kp s * p * sc * 10 < pmaxUw s * 16384 * 32768 then s
    else
      let meas : Int := ((supplySum s R.THM_SUP_POUT_POUT : Nat) : Int) - 1000 * ((getF s R.THM_KP_O_T : Nat) : Int)
      let den := p * sc
      let v := inexactI 55 ((kp s : Int) * 63 * den + meas * 1000 * 16384 * 32768) (64 * den)
      setF s R.THM_KP_KP (max 0x3000 (min 0x5000 v)).toNat

/-- What a tile gathers in a round: PIN and VIN_MIN of the period, and READ_POUT while blanked in STANDBY. -/
def gatherRound (s : State) : State :=
  let a := s.thm.acc
  let pin := supplySum s R.THM_SUP_PIN_PIN
  let vin := match a.vinMin, vinNow s with
    | some x, some y => some (min x y)
    | some x, none => some x
    | none, y => y
  let some_ := !(validSupplies s).isEmpty
  let dark := mode s == mStandby && s.str.blanked
  { s with thm := { s.thm with
      acc := if some_ then { a with pinSum := a.pinSum + pin, pinN := a.pinN + 1, vinMin := vin } else a
      ot := if dark && some_ then (supplySum s R.THM_SUP_POUT_POUT :: s.thm.ot).take 40 else [] } }

/-- TELEMETRY_ROUND: every supply is read once (R413, R420, R421). -/
def execTelemetryRound (reads : List SupplyRead) (s : State) : Out :=
  .next (
    if !alive s then s
    else if !isSet s R.THM_CTRL_PMB_EN then
      setLevel 15 R.THM_STATUS_TELEM_VALID 0 ((List.range 4).foldl (fun a k => setF a (R.THM_SUP_VALID k) 0) s)
    else
      let s1 := (List.range s.thm.nsup).foldl (fun a k => match reads[k]? with
        | some r => supplyRound k r a
        | none => a) s
      let s2 := setLevel 15 R.THM_STATUS_TELEM_VALID (if (validSupplies s1).isEmpty then 0 else 1) s1
      if sender s2 then s2 else learnKp (sagCheck (gatherRound s2)))

/-- PMB_ALERT: STATUS_WORD of every supply is read, and what it calls for (R420). -/
def execPmbAlert (reads : List SupplyRead) (s : State) : Out :=
  .next (
    if !alive s || !isSet s R.THM_CTRL_PMB_EN then s
    else
      let s1 := (List.range s.thm.nsup).foldl (fun a k => match reads[k]? with
        | some r =>
          let b := if r.statusWord.isNone then addF (tally R.THM_PMB_ERR_N 11 10 k a) (R.THM_SUP_CNT_ERRORS k) 1 else a
          putRead (R.THM_SUP_IN_VIN k) r.vin 49 10 (supplyStatus k r b)
        | none => a) s
      sagCheck s1)

/-- OVERHEAD_MEASUREMENT: two seconds after the drivers have been blanked for two seconds in STANDBY, O_T is the mean of
Σ READ_POUT over the rounds of the last two seconds (R410). -/
def execOverheadMeasurement (s : State) : Out :=
  .next (if !running s || sender s || s.thm.ot.isEmpty then s
    else
      let t := setSat s R.THM_KP_O_T (inexact 56 s.thm.ot.sum (1000 * s.thm.ot.length))
      { t with thm := { t.thm with ot := [] } })

/-! ### The monitor ADC (R422) -/

/-- ADC_START: AMON0 to AMON7 are converted; codes as the converter gives them. -/
def execAdcStart (codes : List Nat) (s : State) : Out :=
  .next (
    if !alive s then s
    else (List.range 8).foldl (fun a k =>
      match codes[k]? with
      | none => a
      | some c =>
        let code := Config.adcCorrect (c % 4096) (getI a (R.THM_SENS_USED 3)) % 4096
        let set := Tab.getD a.thm.amon k (zeros 8)
        let v := inexactI 57 ((code : Int) * signed 32 (u32 set 0) + signed 32 (u32 set 4)) 65536
        let b := setSatI (setF a (R.THM_AMON_CODE k) code) (R.THM_AMON_VALUE k) v
        thrJudge (9 + 2 * k) v (thrJudge (8 + 2 * k) v b)) s)

/-! ### Commands of area 0x0B -/

/-- Points of a derating curve (R417). -/
def curvePts (l : List Byte) (n : Nat) : List (Nat × Nat) := (List.range n).map (fun i => (u16 l (4 * i), u16 l (4 * i + 2)))

/-- VIN rises strictly from point to point. -/
def rising : List (Nat × Nat) → Bool
  | [] => true
  | [_] => true
  | a :: b :: t => decide (a.1 < b.1) && rising (b :: t)

/-- A set-derating-curve parameter that R417 accepts, but for its TARGET. -/
def curveOk (l : List Byte) : Bool :=
  let pts := curvePts (l.drop 4) (u8 l 1)
  decide (2 ≤ u8 l 1) && decide (u8 l 1 ≤ 16) && zeroAt l 2 2 && rising pts && pts.all (fun p => decide (p.2 ≤ 0x8000))

/-- Stores a derating curve: the tile's own, or that of a feed number that an enabled entry holds. -/
def curveSet (l : List Byte) (s : State) : Option State :=
  let pts := curvePts (l.drop 4) (u8 l 1)
  if !curveOk l then none
  else if u8 l 0 = 0xFF then some (setItem 0x0023 32 l { s with thm := { s.thm with curve := pts } })
  else if !sender s then none
  else match feedEntry s (u8 l 0) with
    | some i => some (setItem 0x0023 i l { s with thm := { s.thm with feedCurves := Tab.put s.thm.feedCurves i pts } })
    | none => none

/-- `set-derating-curve` (R417). (DEDUCED log 40) -/
def execSetDeratingCurve (k : Pkt) (s : State) : Out :=
  .next (plain k (fun t => match curveSet k.par t with | some u => .ok u [] | none => .err St.badParam) s)

/-- Configures the supplies from the parameters of set-supplies; none where a value is out of range. -/
def suppliesSet (l : List Byte) (s : State) : Option State :=
  let n := u8 l 0
  if decide (n ≤ 4) && decide (u8 l 1 ≤ 1) && zeroAt l 2 2 &&
      (List.range n).all (fun i => decide (u8 l (4 + 4 * i) < 128) && decide (u8 l (5 + 4 * i) ≤ 1) && zeroAt l (6 + 4 * i) 2) then
    let s1 := (List.range 4).foldl (fun a i =>
      let b := [R.THM_SUP_SW i, R.THM_SUP_IN i, R.THM_SUP_PIN i, R.THM_SUP_POUT i, R.THM_SUP_OUT i, R.THM_SUP_TEMP i].foldl
        (fun x r => regPut x r 0) a
      regPut b (R.THM_SUP i) (BitVec.ofNat 32 (if i < n then u8 l (4 + 4 * i) + 128 * u8 l (5 + 4 * i) else 0))) s
    some (setItem 0x0031 0 l (setLevel 15 R.THM_STATUS_TELEM_VALID 0
      { s1 with thm := { s1.thm with nsup := n, bus := u8 l 1, supFail := [], supVmode := [], supInput := [] } }))
  else none

/-- `set-supplies` (R420). (DEDUCED log 40) -/
def execSetSupplies (k : Pkt) (s : State) : Out :=
  .next (plain k (fun t => match suppliesSet k.par t with
    | some u => .ok u []
    | none => .err St.badParam) s)

/-- `clear-supply-faults` (R420): CLEAR_FAULTS to one supply or to all. -/
def execClearSupplyFaults (k : Pkt) (s : State) : Out :=
  .next (plain k (fun t =>
    let n := k.p8 0
    if !(decide (n < t.thm.nsup) || n == 0xFF) || !parZero k 1 3 then .err St.badParam
    else .ok ((idxs t.thm.nsup (fun i => i == n || n == 0xFF)).foldl (fun a i =>
      send a (.bus (getF a (R.THM_SUP_ADDR i)) 0x03 [])) t) []) s)

/-- A neighbour index: a sensor, or none. -/
def nbOk (n : Nat) : Bool := decide (n < 56) || n == 0xFF

/-- Configures a diode channel; none where a value is out of range. -/
def diodeSet (l : List Byte) (s : State) : Option State :=
  if decide (u8 l 0 < 4) && u8 l 1 == 0 && nbOk (u8 l 6) && nbOk (u8 l 7) then
    let s1 := setF (setF s (R.THM_SENSN_NB0 (20 + u8 l 0)) (u8 l 6)) (R.THM_SENSN_NB1 (20 + u8 l 0)) (u8 l 7)
    some (setItem 0x0032 (u8 l 0) l { s1 with thm := { s1.thm with diodes := Tab.put s1.thm.diodes (u8 l 0) (sub l 2 4) } })
  else none

/-- `set-diode` (R590). -/
def execSetDiode (k : Pkt) (s : State) : Out :=
  .next (plain k (fun t => match diodeSet k.par t with | some u => .ok u [] | none => .err St.badParam) s)

/-- Configures a monitor channel. -/
def amonSet (l : List Byte) (s : State) : Option State :=
  if u8 l 0 < 8 ∧ zeroAt l 1 3 then
    some (setItem 0x0033 (u8 l 0) l { s with thm := { s.thm with amon := Tab.put s.thm.amon (u8 l 0) (sub l 4 8) } })
  else none

/-- `set-amon` (R422). -/
def execSetAmon (k : Pkt) (s : State) : Out :=
  .next (plain k (fun t => match amonSet k.par t with | some u => .ok u [] | none => .err St.badParam) s)

/-- Writes a threshold record: the change takes effect at the next sample, without a change of state (R395). -/
def thresholdSet (l : List Byte) (s : State) : Option State :=
  if u8 l 0 ≤ 24 ∧ u8 l 1 = 0 then
    some (setItem 0x0034 (u8 l 0) l (setF (setF (setF s (R.THM_THR_LEVEL (u8 l 0)) (u16 l 2)) (R.THM_THR_HYST (u8 l 0))
      (u16 l 4)) (R.THM_THRD_DWELL_MS (u8 l 0)) (u16 l 6)))
  else none

/-- `set-threshold` (R395). -/
def execSetThreshold (k : Pkt) (s : State) : Out :=
  .next (plain k (fun t => match thresholdSet k.par t with | some u => .ok u [] | none => .err St.badParam) s)

end Sys2Proof.Machine
end

