-- ==== Sys2Proof/Machine/Budget.lean ====
section
/-!
DEFINITION. Power budgets of a sender (R412 to R419): feed entries, the allocation of a feed among its tiles, what is sent
and held back, DEMAND from the tiles, and the claims exchanged with other senders.
-/

namespace Sys2Proof.Machine

/-! ### Feed entries (R412) -/

abbrev feReserve (s : State) (e : Nat) : Nat := getF s (R.THM_FEED_W0_E e) / 65536
abbrev feWatt (s : State) (e : Nat) : Nat := getF s (R.THM_FEED_W1_E e)
/-- (DEDUCED log 40) -/
abbrev feEff (s : State) (e : Nat) : Nat := getF s (R.THM_FEED_W2_E e) % 65536
/-- (DEDUCED log 40) -/
abbrev feODef (s : State) (e : Nat) : Nat := getF s (R.THM_FEED_W2_E e) / 65536
abbrev fePeriod (s : State) (e : Nat) : Nat := getF s (R.THM_FEED_W3_E e) % 65536

/-- The ranges of Table 13.8. -/
def feedOk (l : List Byte) : Bool :=
  decide (u8 l 1 ≤ 1) && decide (u16 l 2 ≤ 0x4000) && decide (100 ≤ u32 l 4) && decide (u32 l 4 ≤ 1000000) &&
    decide (0x8000 ≤ u16 l 8) && decide (u16 l 0x0A ≤ 2000) && decide (50 ≤ u16 l 0x0C) && decide (u16 l 0x0C ≤ 2000) &&
    zeroAt l 0x0E 2

/-- Writes the 16 bytes of an entry. -/
def entryPut (e : Nat) (l : List Byte) (s : State) : State :=
  setF (setF (setF (setF s (R.THM_FEED_W0_E e) (u32 l 0)) (R.THM_FEED_W1_E e) (u32 l 4)) (R.THM_FEED_W2_E e) (u32 l 8))
    (R.THM_FEED_W3_E e) (u32 l 0x0C)

/-- set-feed (R412): the entry that holds FEED, else the lowest one not enabled; a clear FFLAGS[0] frees it. -/
def feedSet (l : List Byte) (s : State) : Except Nat State :=
  if !feedOk l then .error St.badParam
  else
    let held := feedEntry s (u8 l 0)
    if u8 l 1 = 0 then
      match held with
      | none => .ok s
      | some e =>
        let s1 := entryPut e (zeros 16) s
        .ok (setItem 0x0022 e l (feedCheck { s1 with thm := { s1.thm with feedCurves := Tab.del s1.thm.feedCurves e } }))
    else
      match held <|> (idxs 32 (fun i => !entryOn s i)).head? with
      | none => .error St.tableFull
      | some e => .ok (setItem 0x0022 e l (feedCheck (entryPut e l s)))

/-- `set-feed`. (DEDUCED log 40) -/
def execSetFeed (k : Pkt) (s : State) : Out := .next (plain k (fun t => resOf (feedSet k.par t)) s)

/-! ### Slots -/

/-- What is kept of a slot. -/
def feedSlot (s : State) (i : Nat) : FeedSlot := (Tab.get s.thm.slots i).getD FeedSlot.empty

/-- Changes what is kept of a slot. -/
def feedSlotUpd (i : Nat) (f : FeedSlot → FeedSlot) (s : State) : State :=
  { s with thm := { s.thm with slots := Tab.put s.thm.slots i (f (feedSlot s i)) } }

/-- O_i is updated from telemetry; O_DEF before it (R414). (DEDUCED log 40) -/
def updateO (e i : Nat) (s : State) : State :=
  let f := feedSlot s i
  let o := if f.measured then getF s (R.THM_SLOT_O_MW i) else 1000 * feODef s e
  if !f.telem then setF s (R.THM_SLOT_O_MW i) o
  else
    let eff := feEff s e
    let x := getF s (R.THM_SLOT_PIN_MW i) * eff - f.lamp * 65536
    let num : Int := (o * eff * 10000 : Nat) + ((x : Int) - (o * eff : Nat)) * (fePeriod s e : Nat)
    feedSlotUpd i (fun g => { g with measured := true })
      (setF s (R.THM_SLOT_O_MW i) (inexactI 58 num (eff * 10000)).toNat)

/-- VIN_MIN reports of a feed over the last second. -/
def recentVins (s : State) (feed : Nat) : List Nat :=
  ((Tab.getD s.thm.vins feed []).filter (fun e => decide (ltNs s < e.1 + 1000000000))).map Prod.snd

/-- v of R414. -/
def feedVin (s : State) (feed : Nat) : Option Nat :=
  (recentVins s feed).foldl (fun m v => some (match m with | some a => min a v | none => v)) none

/-! ### The allocation (R414) -/

/-- Insertion into a rising list. -/
def insertNat (v : Nat) : List Nat → List Nat
  | [] => [v]
  | a :: t => if v ≤ a then v :: a :: t else a :: insertNat v t

/-- A list in rising order. -/
def sortNats (l : List Nat) : List Nat := l.foldl (fun a v => insertNat v a) []

/-- λ with Σ min(m, λ) = a over the wants m in rising order, as a quotient. -/
def lambda : Int → List Nat → Int × Nat
  | a, [] => (a, 1)
  | a, m :: t => if a ≤ (m : Int) * (t.length + 1 : Nat) then (a, t.length + 1) else lambda (a - (m : Int)) t

/-- The free tiles' shares in whole units of u: the amount, the floor, and (tile, demand, cap) of each. -/
def shareOut (a : Int) (floor u : Nat) (free : List (Nat × Nat × Option Nat)) : List (Nat × Nat) :=
  let n := free.length
  let want := fun (d : Nat) => max floor d
  let tot := (free.map (fun t => want t.2.1)).sum
  if (tot : Int) ≤ a then
    free.map (fun t =>
      let b := ((want t.2.1 * n : Nat) + (a - (tot : Int))).toNat / (n * u)
      (t.1, match t.2.2 with | some c => min c b | none => b))
  else
    let l := lambda a (sortNats (free.map (fun t => want t.2.1)))
    free.map (fun t => (t.1, (max ((floor * l.2 : Nat) : Int) (min ((t.2.1 * l.2 : Nat) : Int) l.1)).toNat / (l.2 * u)))

/-- A computation's result: budgets in mW by slot, the floor and A in mW, whether the feed is short, and VREF. -/
structure FeedPlan where
  budgets : List (Nat × Nat)
  floor : Nat
  a : Nat
  short : Bool
  vref : Nat
  deriving DecidableEq, Repr

/-- What a slot is counted at instead of its demand (R415, R419): a value in mW, or the floor. None: it takes part in the
allocation. (DEDUCED log 40) -/
def countedAt (s : State) (e i : Nat) : Option (Option Nat) :=
  let f := feedSlot s i
  let now := ltNs s
  let hold := (getF s R.THM_CTRL_BUDGET_HOLD_S + 1) * 1000000000
  if f.sent.isEmpty then none
  else if slotState s i = 3 ∨ f.since + 2 * fePeriod s e * 1000000 < now then
    some (if now < f.since + hold then some (getF s (R.THM_SLOT_B_MW i)) else none)
  else if f.silent then
    some (some (((f.sent.filter (fun x => decide (now ≤ x.1 + 2000000000))).map Prod.snd).foldl max (getF s (R.THM_SLOT_B_MW i))))
  else none

/-- R414 for feed entry e over its slots, with O_i already updated. Amounts are counted in units of 1/(D × n) mW, D the
common denominator of A and A_worst; the floor is rounded down to whole mW before it is used, as the worked example has it. (DEDUCED log 40) -/
def feedPlan (s : State) (e feed : Nat) (slots : List Nat) : FeedPlan :=
  let n := slots.length
  let curve := (Tab.get s.thm.feedCurves e).getD [(850, 0x8000), (3000, 0x8000)]
  let v := feedVin s feed
  let f := match v with | some x => derateAt curve x | none => (0x8000, 1)
  let fmin := (curve.map Prod.snd).foldl min 0x8000
  let share := 1 + claimers s feed
  let o := (slots.map (fun i => getF s (R.THM_SLOT_O_MW i))).sum
  let lim := feWatt s e * 1000 * (65536 - feReserve s e)
  let dO := 65536 * share * 32768 * f.2
  let d := 65536 * dO
  let a : Int := ((lim * f.1 : Nat) - (o * dO : Nat)) * (feEff s e : Nat)
  let aw : Int := ((lim * fmin * f.2 : Nat) - (o * dO : Nat)) * (feEff s e : Nat)
  let u := d * n
  let floor := aw.toNat / u * u
  let short := decide (a * (n : Nat) < ((n * floor : Nat) : Int))
  let counted := slots.filterMap (fun i => (countedAt s e i).map (fun c => (i, c)))
  let fixed := counted.map (fun c => (c.1, match c.2 with | some b => b * u | none => floor))
  let free := slots.filter (fun i => (countedAt s e i).isNone)
  let rest : Int := a * (n : Nat) - ((fixed.map Prod.snd).sum : Nat)
  let wants := free.map (fun i =>
    let g := feedSlot s i
    (i, (if g.noContent then 0 else getF s (R.THM_SLOT_DEMAND_MW i)) * u, if g.demandAt.isSome then some (g.pmax * 1000) else none))
  { budgets := if short then slots.map (fun i => (i, a.toNat / u))
      else fixed.map (fun c => (c.1, c.2 / u)) ++ shareOut rest floor u wants
    floor := floor / u, a := a.toNat / d, short := short, vref := v.getD 0 }

/-! ### Sending (R415) -/

/-- Sends slot i its budget; BSEQ moves on at each change of BUDGET, FLOOR or VREF. -/
def sendBudget (i : Nat) (b : BudgetMsg) (s : State) : State :=
  let f := feedSlot s i
  let old := getF s (R.THM_SLOT_B_MW i)
  let first := f.sent.isEmpty
  let seq := if first || b.b != old || b.floor != f.floor || b.vref != f.vref then (getF s (R.THM_SLOT_SEQ_BSEQ_SENT i) + 1) % 65536
    else getF s (R.THM_SLOT_SEQ_BSEQ_SENT i)
  let s1 := setF (setSat s (R.THM_SLOT_B_MW i) b.b) (R.THM_SLOT_SEQ_BSEQ_SENT i) seq
  let s2 := feedSlotUpd i (fun g => { g with
    sent := (ltNs s, b.b) :: g.sent.filter (fun x => decide (ltNs s ≤ x.1 + 2000000000))
    since := if first then ltNs s else g.since
    lowered := if !first && decide (b.b < old) then some seq else g.lowered
    silent := if !first && decide (b.b < old) then false else g.silent
    floor := b.floor, vref := b.vref }) s1
  let pl := leBytes 2 seq ++ leBytes 1 b.flags ++ leBytes 1 b.feed ++ leBytes 4 (min 0xFFFFFFFF b.b) ++
    leBytes 4 (min 0xFFFFFFFF b.floor) ++ leBytes 2 b.vref ++ leBytes 2 b.period
  let p := getF s2 (R.CEL_S_W0_ROUTE i)
  if linkUp s2 p then sendMsg p (mkMsg s2 1 0x18 (getF s2 (R.CEL_S_W0_DEVNUM i)) pl) s2 else s2

/-- A decrease of the feed is still to be echoed. (DEDUCED log 40) -/
def awaitsEcho (s : State) (feed : Nat) : Bool :=
  (feedSlots s feed).any (fun i => (feedSlot s i).lowered.isSome && !(feedSlot s i).silent)

/-- Sends what was held back once every tile whose budget fell has echoed it. (DEDUCED log 40) -/
def releaseHeld (feed : Nat) (s : State) : State :=
  if awaitsEcho s feed then s
  else
    let l := Tab.getD s.thm.heldBack feed []
    l.foldl (fun a h => sendBudget h.1 h.2 a) { s with thm := { s.thm with heldBack := Tab.del s.thm.heldBack feed } }

/-- Sends a computation's budgets to the served tiles: decreases and unchanged ones first, increases when the decreases
have been echoed. -/
def sendPlan (feed : Nat) (msgs : List (Nat × BudgetMsg)) (s : State) : State :=
  let served := msgs.filter (fun m => slotState s m.1 == 2)
  let up := fun (m : Nat × BudgetMsg) => (feedSlot s m.1).sent.isEmpty || decide (getF s (R.THM_SLOT_B_MW m.1) < m.2.b)
  let s1 := (served.filter (fun m => !up m)).foldl (fun a m => sendBudget m.1 m.2 a) s
  releaseHeld feed { s1 with thm := { s1.thm with heldBack := Tab.put s1.thm.heldBack feed (served.filter up) } }

/-- FEED_SHORT of the sender: some feed of the map is short. -/
def noteShort (feed : Nat) (short : Bool) (s : State) : State :=
  let l := (s.thm.shorts.filter (fun f => f != feed && (mapFeeds s).contains f)) ++ (if short then [feed] else [])
  thmLevel R.THM_STATUS_FEED_SHORT 6 (!l.isEmpty) { s with thm := { s.thm with shorts := l } }

/-- Computes a feed's budgets and sends them (R412, R414, R415). Tiles of an unset feed get their PMAX, once they have
reported it. -/
def feedRun (feed : Nat) (s : State) : State :=
  let slots := feedSlots s feed
  if slots.isEmpty then s
  else
    match feedEntry s feed with
    | none =>
      let known := slots.filter (fun i => (feedSlot s i).demandAt.isSome)
      sendPlan feed (known.map (fun i => (i, { bseq := 0, flags := 2, feed := feed, b := (feedSlot s i).pmax * 1000
                                               floor := 0, vref := 0, period := 200 }))) (noteShort feed false (feedCheck s))
    | some e =>
      let s1 := slots.foldl (fun a i => updateO e i a) (feedCheck s)
      let p := feedPlan s1 e feed slots
      let s2 := setF (setF (setSat (setSat s1 (R.THM_FEED_A_MW e) p.a) (R.THM_FEED_FLOOR_MW e) p.floor) (R.THM_FEED_V_VREF e) p.vref)
        (R.THM_FEED_V_TILES e) slots.length
      let s3 := noteShort feed p.short (incF s2 (R.THM_FEED_RC_RECOMPUTES e))
      sendPlan feed (p.budgets.map (fun b => (b.1, { bseq := 0, flags := if p.short then 1 else 0, feed := feed, b := b.2
                                                     floor := p.floor, vref := p.vref, period := fePeriod s3 e }))) s3

/-- BUDGET_PERIOD: the end of a feed's BPERIOD. -/
def execBudgetPeriod (feed : Nat) (s : State) : Out := .next (if running s && sender s then feedRun feed s else s)

/-- BUDGET_ECHO_TIMEOUT: a lowered tile has not echoed within 1 s (R415): later computations count it at its highest recent
budget, and increases computed before are not sent. -/
def execBudgetEchoTimeout (slot : Nat) (s : State) : Out :=
  .next (
    match Tab.get s.cel.slots slot with
    | none => s
    | some e =>
      if !running s || !sender s || (feedSlot s slot).lowered.isNone then s
      else
        let t := feedSlotUpd slot (fun g => { g with silent := true }) s
        { t with thm := { t.thm with heldBack := Tab.del t.thm.heldBack (u8 e.entry 4) } })

/-- DEMAND at a sender (Table 13.9): kept for the slot, its echo, its ratio for KB (R168), and SAG (R418). -/
def execDemand (p : Nat) (m : Msg) (s : State) : Out :=
  .next (msgIn p m (fun t =>
    if !sender t then t
    else match slotOf t m.src with
      | none => t
      | some i =>
        let l := m.payload
        let fl := u8 l 2
        let feed := u8 ((Tab.get t.cel.slots i).map (fun e => e.entry) |>.getD []) 4
        let sets : List (Fld × Nat) := [(R.THM_SLOT_SEQ_BSEQ_ECHO i, u16 l 0), (R.THM_SLOT_FLAGS_STEP i, u8 l 3),
          (R.THM_SLOT_FLAGS_SAG i, fl % 2), (R.THM_SLOT_FLAGS_TELEM_VALID i, fl / 4 % 2), (R.THM_SLOT_FLAGS_SAFE i, fl / 8 % 2),
          (R.THM_SLOT_FLAGS_FEED i, feed), (R.THM_SLOT_DEMAND_MW i, u32 l 4), (R.THM_SLOT_PIN_MW i, u32 l 12),
          (R.THM_SLOT_RV_VIN_MIN i, u16 l 16), (R.THM_SLOT_RV_RHO i, u16 l 18)]
        let t1 := sets.foldl (fun a e => setF a e.1 e.2) t
        let echoed := u16 l 0 == getF t1 (R.THM_SLOT_SEQ_BSEQ_SENT i)
        let t2 := feedSlotUpd i (fun g => { g with
          pmax := u16 l 20, lamp := u32 l 8, noContent := fl.testBit 1, telem := fl.testBit 2, demandAt := some (ltNs t1)
          since := ltNs t1
          lowered := if echoed || g.lowered == some (u16 l 0) then none else g.lowered
          silent := if echoed || g.lowered == some (u16 l 0) then false else g.silent }) t1
        let t3 := { t2 with
          tnm := { t2.tnm with rho := some (max (t2.tnm.rho.getD 0) (u16 l 18)) }
          thm := { t2.thm with
            vins := if u16 l 16 = 0 then t2.thm.vins else
              Tab.put t2.thm.vins feed ((ltNs t2, u16 l 16) :: (Tab.getD t2.thm.vins feed []).filter
                (fun x => decide (ltNs t2 < x.1 + 1000000000)))
            gather := if fl.testBit 0 && !t2.thm.gather.contains feed then t2.thm.gather ++ [feed] else t2.thm.gather } }
        releaseHeld feed t3) s)

/-- SAG_GATHER_EXPIRY: 10 ms after the first DEMAND with SAG of a feed (R418). -/
def execSagGatherExpiry (feed : Nat) (s : State) : Out :=
  .next (if running s && sender s && s.thm.gather.contains feed then
    feedRun feed { s with thm := { s.thm with gather := s.thm.gather.erase feed } } else s)

/-! ### Claims (R416) -/

/-- The 36 bytes of FEED_CLAIM. -/
def claimPayload (s : State) : List Byte :=
  leBytes 1 (getF s R.CEL_STATUS_MAP_SEQ) ++ zeros 3 ++ (List.range 32).map (fun i =>
    BitVec.ofNat 8 ((List.range 8).foldl (fun a b => if (mapFeeds s).contains (8 * i + b) then a + 2 ^ b else a) 0))

/-- FEED_CLAIM_TIMER: each second and after each map application a sender sends its claim to the senders it reaches. -/
def execFeedClaimTimer (s : State) : Out :=
  .next (if !running s || !sender s then s
    else
      let pl := claimPayload s
      feedCheck ((peerSenders s).foldl (fun a d => sendTo d (mkMsg a 1 0x1A d pl) a) s))

/-- FEED_CLAIM at a sender: the peer's latest claim is kept, and a conflict is flagged. -/
def execFeedClaim (p : Nat) (m : Msg) (s : State) : Out :=
  .next (msgIn p m (fun t =>
    if !sender t then t
    else feedCheck { t with thm := { t.thm with claims := Tab.put (keptClaims t) m.src (sub m.payload 4 32, ltNs t) } }) s)

end Sys2Proof.Machine
end

