-- ==== Sys2Proof/Machine/Present.lean ====
section
/-!
DEFINITION. The frame of a tile from its close to its present instant (R198, R315, R345, R351, R374 to R376, R381 to R385),
the present instant of a sender, PWM cycles, and the module's checkpoint, release, removal and insertion (R331, R353 to R356).
-/

namespace Sys2Proof.Machine

/-! ### What a tile presents (R36) -/

/-- The module can be corrected for and pushed to: a factory layer, a geometry, a module not released, clocks running. -/
def canPush (s : State) : Bool :=
  !sender s && getF s R.DMK_STATUS_FL_STATE == 2 && s.str.geo.isSome && !isSet s R.DMK_STATUS_RELEASED && clkRuns s

/-- Every position holds a version for frame n. -/
def wholeAt (s : State) (n : Nat) : Bool :=
  decide (0 < tileCells s) && (List.range (tileCells s)).all (fun c => (shownAt s n c).isSome)

/-- The tile presents frame n: SHOW, a complete frame, WT from its sender, and a budget (R36). -/
def willPresent (n : Nat) (s : State) : Bool :=
  mode s == mShow && canPush s && wtHeld s && wholeAt s n && isSet s R.THM_STATUS_BUDGET_VALID

/-- FIRST_FRAME, with its change counted (R51). -/
def setFirst (b : Bool) (s : State) : State := setLevel 0 R.SYS_MODE_FIRST_FRAME (if b then 1 else 0) s

/-! ### The close of a frame (R198, R351, R374) -/

/-- FRAME_CLOSE: the tile closes frame n. In SHOW its positions are corrected, the power handed over, and the push begins
within T_prep: 15 µs and 160 ns a position for Damask, 7 µs for the scale and the first fetch. -/
def execFrameClose (n : Nat) (s : State) : Out :=
  .next (
    if sender s || !hasInstants s then s
    else
      let s1 := closeFrame n s
      if !(mode s == mShow && canPush s) then closePower n false s1
      else
        let s2 := closePower n true (correctFrame n s1)
        let cells := s2.dmk.corrected
        let wait := Config.free s2.free % (22001 + 160 * cells.length)
        pushBegin n (wtNs s + wait) (wtNs s) cells (takeFree s2))

/-- ARM with a scale and UNBLANK on every strand in use (Table 12.2). -/
def sendArm (sc : Nat) (unblank : Bool) (s : State) : State :=
  let t := strandAll 2 [sc, if unblank then 1 else 0] s
  { t with str := { t.str with armed := some (sc, unblank) } }

/-- ARM_SEND, at I(T_n) − 600 periods: in SHOW the scale of frame n with UNBLANK (R374), in HOLD a lowered scale (R381). -/
def execArmSend (n : Nat) (s : State) : Out :=
  .next (
    if !hasInstants s || sender s || !clkRuns s then s
    else if mode s = mHold then
      (match s.thm.rescale with
       | some v => sendArm v false s
       | none => s)
    else if !willPresent n s then s
    else
      let r := armScale n s
      sendArm r.1 true r.2)

/-- PUSH_CUTOFF, at I(T_n) − 640 periods: WRITEs that cannot end by then are not sent (R375). -/
def execPushCutoff (s : State) : Out :=
  .next (
    if !hasInstants s || sender s then s
    else match s.str.pushFrame with
      | none => s
      | some n =>
        match tOf s n with
        | some t => pushCut (gridUp s t - 640 * strPeriod s) s
        | none => s)

/-! ### The present instant (R315) -/

/-- Q advances by the frame shown lit until now (R345). -/
def advanceQ (n : Nat) (s : State) : State :=
  match s.thm.shown with
  | some (_, sc) =>
    if s.str.blanked || !(mode s == mShow || mode s == mHold) then s
    else { s with dmk := { s.dmk with q := (s.dmk.q + (sc * periodOf s (n - 1) * 8192 + 500000000) / 1000000000) % 2 ^ 64 } }
  | none => s

/-- The lamp power shown over the period gathers for DEMAND (Table 13.9). -/
def gatherLamp (s : State) : State :=
  let a := s.thm.acc
  let v := match s.thm.shown with | some e => if s.str.blanked then 0 else lampMw s e.1 e.2 | none => 0
  { s with thm := { s.thm with acc := { a with lampSum := a.lampSum + v, lampN := a.lampN + 1 } } }

/-- S_(n,0) in ns. -/
def cycleZero (s : State) (n t : Nat) : Nat := match paramsFor s n with | some p => t + 4 * p.pwmPhase | none => t

/-- The bank swap of frame n (R367, R376): SWAP for I(T_n), or SWAP_CYC for I(S_(n,0)) where they lie fewer than 16 periods
apart or where no CYC is sent. (DEDUCED log 38) -/
def swapBanks (n : Nat) (s : State) : State :=
  match s.str.armed, tOf s n with
  | some (sc, unblank), some t =>
    let z := gridUp s (cycleZero s n t)
    let cyc := decide (z < gridUp s t + 16 * strPeriod s) || pwmNone s n
    let s1 := if cyc then send s (.sync 2 z) else send s (.sync 3 (gridUp s t))
    let s2 := setF { s1 with str := { s1.str with armed := none, swapCyc := cyc, blanked := s1.str.blanked && !unblank } }
      R.DMK_SCALE_S sc
    let p := match s2.thm.shown with | some e => if mode s2 = mHold then e.1 else s2.dmk.framePower | none => s2.dmk.framePower
    strRefresh { s2 with thm := { s2.thm with shown := some (p, sc), rescale := none } }
  | _, _ => { s with str := { s.str with swapCyc := false } }

/-- The codes of the positions pushed for frame n are in force, but of those cut off (R346, R375). (DEDUCED log 38) -/
def takeFrame (n : Nat) (s : State) : State :=
  if s.str.pushFrame = some n then
    let cs := s.dmk.corrected.filter (fun c => !s.str.carry.contains c)
    let t := cs.foldl (fun a c => takeCodes c a) s
    { t with dmk := { t.dmk with newCode := [], corrected := [] }, str := { t.str with pushFrame := none } }
  else s

/-- DMK_CTRL as written takes effect (R357): a change of [4:0] marks every position (R336). -/
def takeDmkCtrl (s : State) : State :=
  let v := regGet s R.DMK_CTRL
  if v = s.dmk.ctrl then s
  else
    let t := userShow { s with dmk := { s.dmk with ctrl := v } }
    if v.toNat % 32 = s.dmk.ctrl.toNat % 32 then t else markEvery t

/-- A change of cadence reaches the drivers (R383): a CONFIG that they take at the swap of frame n + 1 while the tile
presents, at once otherwise. -/
def followCadence (n : Nat) (lit : Bool) (s : State) : State :=
  let m := if lit then n + 1 else n
  match cycLen s m with
  | some v => if v = s.str.cycSent then s else sendConfig (strandList s) lit m s
  | none => s

/-- The strand output at T_n: a pending clock change holds the display, otherwise the banks swap. (DEDUCED log 38) -/
def strandPresent (n : Nat) (s : State) : State :=
  let s0 := { s with tim := { s.tim with pwmK := 0 } }
  if !clkRuns s0 then s0
  else
    let s1 := if s0.str.clkNext.isSome then
        clkApply false { s0 with str := { s0.str with pushFrame := none, armed := none, queue := [], swapCyc := false }
                                 dmk := { s0.dmk with newCode := [], corrected := [] } }
      else swapBanks n (takeFrame n s0)
    let s2 := setB (prepShow s1) R.STR_STATUS_PWM_REDUCED (pwmDiv s1 n).2
    followCadence n (mode s2 == mShow && isSet s2 R.SYS_MODE_FIRST_FRAME) s2

/-- T_n on a tile. -/
def tilePresent (n : Nat) (s : State) : State :=
  let arms := mode s == mShow && s.str.armed.isSome && s.str.clkNext.isNone
  let s1 := strandPresent n (gatherLamp (advanceQ n s))
  let s2 := if arms then setFirst true s1 else s1
  let s3 := takeDmkCtrl (if mode s2 = mHold then foldStore n s2 else advanceStore n s2)
  let s4 := zonePresent (periodOf s3 n) s3
  if mode s4 = mShow ∧ canPush s4 then
    (let s5 := tempMarks s4
     if 2 ≤ s5.thm.capStep then s5 else sweepStep (n + 1) s5)
  else s4

/-- PRESENT_INSTANT: T_n. -/
def execPresentInstant (n : Nat) (s : State) : Out :=
  .next (
    if !hasInstants s then s
    else
      let s1 := promoteParams s
      let s2 := if getF s1 R.TIM_CTRL_PPS_OUT = 2 then send s1 .pps else s1
      if sender s2 then sendLiveness n (freeSent n s2) else tilePresent n s2)

/-- PWM_CYCLE_START: S_(n,k), k counting from each present instant (R319): CYC for every j-th cycle (R384), but where
SWAP_CYC stood for cycle 0 or no divisor serves. -/
def execPwmCycleStart (s : State) : Out :=
  .next (
    if !hasInstants s || sender s || !clkRuns s then s
    else
      let k := s.tim.pwmK
      let n := frameNow0 s
      let s1 := { s with tim := { s.tim with pwmK := k + 1 } }
      let at_ := match tOf s n, paramsFor s n with
        | some t, some p => t + 4 * p.pwmPhase + k * periodOf s n / max 1 p.pwmMul
        | _, _ => 0
      if pwmNone s n || k % max 1 (pwmDiv s n).1 != 0 || (k == 0 && s.str.swapCyc) then s1
      else send s1 (.sync 1 (gridUp s at_)))

/-! ### Checkpoints and the module (R331, R353 to R356) -/

/-- The tile's lamps stay dark: the strands stop, and the tile no longer presents. -/
def goDark (s : State) : State :=
  let t := setFirst false (strandHalt (pushAbandon false s))
  { t with thm := { t.thm with shown := none, rescale := none } }

/-- module-release completes (R355): the strands stop and the flash is left alone. (DEDUCED log 37) -/
def releaseModule (k : Pkt) (s : State) : State :=
  let t := setLevel 13 R.DMK_STATUS_RELEASED 1 (goDark { s with dmk := { s.dmk with release := none } })
  finish k St.ok [] t

/-- `module-release` (R355): a checkpoint first, after one under way. Without a loaded layer there is none to take. (DEDUCED log 37) -/
def execModuleRelease (k : Pkt) (s : State) : Out :=
  .next (plain k (fun t =>
    if t.nv.module.isNone ∨ isSet t R.DMK_STATUS_RELEASED then .err St.badState
    else if !ckptMay t then
      let u := setLevel 13 R.DMK_STATUS_RELEASED 1 (goDark t)
      .ok u []
    else .later (ckptStart (startBg k { t with dmk := { t.dmk with release := some k } }))) s)

/-- CHECKPOINT_DONE: the write and its verify have ended (R353). A checkpoint asked for meanwhile follows; a release that
waits completes, or fails with the write. -/
def execCheckpointDone (good : Bool) (s : State) : Out :=
  .next (match s.dmk.ckptWrite, s.nv.module with
    | some (i, b), some m =>
      if !running s then s
      else
        let s1 := setLevel 13 R.DMK_STATUS_CKPT_BUSY 0 { s with dmk := { s.dmk with ckptWrite := none } }
        let s2 := if good then
            setF (incF { s1 with nv := { s1.nv with module := some (modSetCkpt m i b) }
                                 dmk := { s1.dmk with ckptDoneAt := some (ltNs s1) } } R.DMK_CKPT_OK)
              R.DMK_CKPT_SEQ_SEQ (u32 b 8)
          else tally R.DMK_CKPT_FAIL 12 4 0 s1
        if s2.dmk.ckptAgain then ckptStart s2
        else match s2.dmk.release with
          | none => s2
          | some k =>
            let s3 := endBg 9 s2
            if good then releaseModule k s3
            else finish k St.flashError [] { s3 with dmk := { s3.dmk with release := none } }
    | _, _ => s)

/-- Writes of layers and releases that wait for the module end with FLASH_ERROR. (DEDUCED log 37) -/
def moduleWaitsFail (s : State) : State :=
  let ks := (s.dmk.userWrite.map Prod.fst).toList ++ (s.dmk.factoryWrite.map Prod.fst).toList ++ s.dmk.release.toList
  ks.foldl (fun a k => finish k St.flashError [] (endBg 9 a))
    { s with dmk := { s.dmk with userWrite := none, factoryWrite := none, release := none } }

/-- MODULE_PULLED: MOD_PRES_N shows the module gone (R356). -/
def execModulePulled (s : State) : Out :=
  .next (
    if s.nv.module.isNone then s
    else
      let s0 := { s with nv := { s.nv with module := none } }
      if !running s || sender s then { s0 with dmk := { s0.dmk with factory := none, ageKept := false } }
      else
        let s1 := moduleWaitsFail (ckptAbandon s0)
        let s2 := setLevel 13 R.DMK_STATUS_MODULE_PRESENT 0 s1
        if isSet s2 R.DMK_STATUS_RELEASED then
          setFl 0 { s2 with dmk := { s2.dmk with oldGeom := s.dmk.factory.map (fun l => (flW l, flH l)) } }
        else
          let s3 := goDark (tally R.DMK_MOD_PULLED_N 12 5 0 s2)
          setFl 0 { s3 with dmk := { s3.dmk with oldGeom := s.dmk.factory.map (fun l => (flW l, flH l))
                                                 factory := none, user := none, userNext := none, acc := [], code := [] } })

/-- The tile reads a module that is present: layers, geometry, thermal record, and the strands start blanked. -/
def moduleLoad (keep : Bool) (s : State) : State :=
  let s1 := setLevel 13 R.DMK_STATUS_MODULE_PRESENT (if s.nv.module.isSome then 1 else 0) s
  strandsStart true (prepShow (loadThermal (loadGeo (loadLayers keep s1))))

/-- MODULE_INSERTED: a module is fitted; its EEPROM and flash are read (R356). -/
def execModuleInserted (m : Module) (s : State) : Out :=
  .next (
    if s.nv.module.isSome then s
    else
      let s1 := { s with nv := { s.nv with module := some m } }
      if !running s || sender s then s1
      else moduleLoad false (setLevel 13 R.DMK_STATUS_RELEASED 0 s1))

/-- FACTORY_WRITE_DONE: a factory write has ended (R331): the layer or the ageing image is in the flash, and the load of
R356 follows. -/
def execFactoryWriteDone (good : Bool) (s : State) : Out :=
  .next (match s.dmk.factoryWrite, s.nv.module with
    | some (k, b), some m =>
      if !running s then s
      else
        let s1 := endBg 9 { s with dmk := { s.dmk with factoryWrite := none } }
        let slot := match ckptNewest s1 m with | some i => 1 - i | none => 0
        let wr := fun (x : List Byte) => if k.p8 0 = 0 then { m with factory := x } else modSetCkpt m slot x
        let s2 := { s1 with nv := { s1.nv with module := some (wr (if good then b else [])) } }
        if !good then finish k St.flashError [] s2
        else
          let s3 := if k.p8 0 = 1 then setF (ageFrom b s2) R.DMK_CKPT_SEQ_SEQ (u32 b 8) else s2
          finish k St.ok [] (moduleLoad (k.p8 0 == 1) s3)
    | _, _ => s)

end Sys2Proof.Machine
end

