-- ==== Sys2Proof/Machine/Modes.lean ====
section
/-!
DEFINITION. Mode changes (R27 to R29, R37 to R42): the transitions of Table 2.2 and what each does beside the mode.
-/

namespace Sys2Proof.Machine

/-- A tile leaves its presented frame: the lamps are no longer lit from a frame. -/
def showEnds (s : State) : State :=
  let t := setFirst false s
  { t with thm := { t.thm with shown := none, rescale := none } }

/-- What leaving a mode does (R40, R42, R382). (DEDUCED log 17) -/
def modeLeave (old new : Nat) (s : State) : State :=
  if old = mShow then
    let s1 := compStop (new == mHold) s
    if sender s1 then s1 else if new = mHold then pushAbandon true s1 else showEnds (pushAbandon true s1)
  else if old = mHold then (if sender s then forceFull s else if new = mShow then s else showEnds s)
  else if old = mService then endDebug (twillLeaveService s)
  else s

/-- A tile whose clocks run has its drivers blanked (R36, R42). -/
def blankDrivers (s : State) : State :=
  if sender s || !isSet s R.STR_STATUS_CLK_RUN then s
  else
    let t := strandAll 0x4 [] s
    { t with str := { t.str with blanked := true, armed := none } }

/-- What entering a mode does. (DEDUCED log 17) -/
def modeEnter (old new : Nat) (s : State) : State :=
  if new = mShow then
    (if sender s then compStart (old == mStandby) s else if old = mHold then s else markEvery s)
  else if new = mService then (if sender s then s else pushAbandon true s)
  else if new = mStandby then blankDrivers s
  else s

/-- One mode change, with HOLD_CAUSE. (DEDUCED log 17) -/
def changeMode (new cause : Nat) (s : State) : State :=
  let old := mode s
  modeEnter old new (enterMode new cause (modeLeave old new s))

/-- A mode command may ask for this transition (Table 2.2). -/
def modeAllowed (old new : Nat) : Bool :=
  (old == mStandby && (new == mShow || new == mService)) || (old == mShow && (new == mStandby || new == mHold)) ||
    (old == mHold && (new == mShow || new == mStandby)) || (old == mService && new == mStandby)

/-- Another transition is in progress (R29): the wait of a warm-reset command, or an activation hold. -/
def transitioning (s : State) : Bool := s.sys.warmWait || activating s

/-- `set-mode` (R28, R29). (DEDUCED log 17) -/
def execSetMode (k : Pkt) (s : State) : Out :=
  .next (plain k (fun t =>
    let m := k.p8 0
    if m = 0 ∨ 4 < m ∨ !parZero k 1 3 then .err St.badParam
    else if transitioning t then .err St.busy
    else if m = mode t then .ok t []
    else if modeAllowed (mode t) m then .ok (changeMode m (if m = mHold then 1 else 0) t) []
    else .err St.badState) s)

/-- `warm-reset` (R29): the reply goes out first, then DELAY_MS runs. -/
def execWarmReset (k : Pkt) (s : State) : Out :=
  .next (plain k (fun t =>
    if 1000 < k.p16 0 ∨ !parZero k 2 2 then .err St.badParam
    else if transitioning t then .err St.busy
    else .ok { t with sys := { t.sys with warmWait := true } } []) s)

/-- The DELAY_MS of a warm-reset command ends: an internal warm reset begins. -/
def execWarmResetDelayExpiry (s : State) : Out :=
  .next (if s.sys.warmWait then beginInternal false true false { s with sys := { s.sys with warmWait := false } } else s)

/-- SERVICE ends with SEM3 (R28, R492). (DEDUCED log 17) -/
def endService (s : State) : State := if mode s = mService then changeMode mStandby 0 s else s

end Sys2Proof.Machine
end

