-- ==== Sys2Proof/Machine/Bundle.lean ====
section
/-!
DEFINITION. Images and the boot record (R499 to R503, R509 to R511): the image signature block and its verification
(R451, R452), bundles, slot records, and the choice of an image at boot.
-/

namespace Sys2Proof.Machine

/-! ### Image signature blocks (Table 14.7, R452) -/

/-- Issuer certificates the device has to build a chain with: its own, and those built into its firmware. (DESIGN CHOICE log 12) -/
def issuers (s : State) : List (List Byte) := s.nv.issuerCert :: Config.issuers

/-- A leaf certificate is accepted for a usage through one of the issuers. -/
def leafChain (s : State) (leaf : List Byte) (usage : Nat) : Bool := (issuers s).any (fun i => certChain s i leaf usage)

/-- The vendor root slot of a leaf's chain. -/
def leafRoot (s : State) (leaf : List Byte) (usage : Nat) : Nat :=
  match (issuers s).find? (fun i => certChain s i leaf usage) with
  | some i => (rootSlotOf s i).getD 0
  | none => 0

/-- The certificate of a block. -/
abbrev blkCert (b : List Byte) : List Byte := sub b 0x40 256

/-- SVN of a block. -/
abbrev blkSvn (b : List Byte) : Nat := u32 b 8

/-- An image verifies under its block as the kind given (R452). -/
def blockOk (s : State) (kind : Nat) (b image : List Byte) : Bool :=
  u32 b 0 == 0x5349524D && u16 b 4 == 1 && u8 b 6 == kind && u8 b 7 == 0 && decide (blkSvn b ≤ 64) &&
    decide (s.nv.svnFuses ≤ blkSvn b) && u32 b 0x0C == image.length && sub b 0x10 48 == Config.sha384 image &&
    leafChain s (blkCert b) useImage && Config.ecdsaVerify (certPub (blkCert b)) (b.take 0x140) (sub b 0x140 96)

/-! ### Bundles (R501, Table 16.4) -/

/-- A component: IKIND, OFFSET and LENGTH. -/
structure Comp where
  kind : Nat
  off : Nat
  len : Nat
  deriving DecidableEq, Repr

/-- The components a manifest names. -/
def comps (b : List Byte) : List Comp :=
  (List.range (u8 b 6)).map (fun i => ⟨u8 b (0x20 + 16 * i), u32 b (0x24 + 16 * i), u32 b (0x28 + 16 * i)⟩)

/-- The block of a component, and its image. -/
def compBlock (b : List Byte) (c : Comp) : List Byte := sub b c.off 416
def compImage (b : List Byte) (c : Comp) : List Byte := sub b (c.off + 416) c.len

/-- The component of a kind. -/
def compOf (b : List Byte) (kind : Nat) : Option Comp := (comps b).find? (fun c => c.kind == kind)

/-- Largest image of a kind (R501). -/
def imageMax (kind : Nat) : Nat :=
  match kind with
  | 0 => 262144
  | 1 => 393216
  | 2 => 16777216
  | _ => 32 + 992 * 16

/-- A component entry is in range (Table 16.4). -/
def compOk (b : List Byte) (i : Nat) (c : Comp) : Bool :=
  decide (c.kind ≤ 3) && c.off % 4096 == 0 && decide (0x1000 ≤ c.off) && decide (1 ≤ c.len) && decide (c.len ≤ imageMax c.kind) &&
    zeroAt b (0x21 + 16 * i) 3 && zeroAt b (0x2C + 16 * i) 4 && decide (c.off + 416 + c.len ≤ u32 b 0x14)

/-- Two components do not overlap. -/
def apart (c d : Comp) : Bool := decide (c.off + 416 + c.len ≤ d.off) || decide (d.off + 416 + d.len ≤ c.off)

/-- No two components overlap. -/
def allApart : List Comp → Bool
  | [] => true
  | c :: t => t.all (apart c) && allApart t

/-- Check 2 of R502 on a bundle held in the bytes given. -/
def manifestOk (b : List Byte) : Bool :=
  let n := u8 b 6
  let cs := comps b
  let count := fun (k : Nat) => (cs.filter (fun c => c.kind == k)).length
  u32 b 0 == 0x4D42524D && u16 b 4 == 1 && (n == 3 || n == 4) && decide (u8 b 7 < 8) && u8 b 8 == 0x96 && u8 b 9 != 0 &&
    u8 b 0x0A != 0 && u8 b 0x0B == 0 && u16 b 0x0C != 0 && u16 b 0x0E != 0 && decide (u16 b 0x0E ≤ u16 b 0x0C) &&
    decide (12705 ≤ u32 b 0x14) && decide (u32 b 0x14 ≤ 50315264) && decide (u32 b 0x14 ≤ b.length) && zeroAt b 0x18 8 &&
    (List.range n).all (fun i => compOk b i (cs.getD i ⟨9, 0, 0⟩)) && zeroAt b (0x20 + 16 * n) (64 - 16 * n) && zeroAt b 0x60 160 &&
    allApart cs && count 0 == 1 && count 1 == 1 && count 2 == 1 && decide (count 3 ≤ 1)

/-- The manifest of a bundle. -/
abbrev manifest (b : List Byte) : List Byte := b.take 256

/-- Every component of a bundle verifies (R452). -/
def compsOk (s : State) (b : List Byte) : Bool := (comps b).all (fun c => blockOk s c.kind (compBlock b c) (compImage b c))

/-- Check 4 of R502: the manifest's block and every component's, all of one SVN. -/
def bundleSigned (s : State) (b : List Byte) : Bool :=
  blockOk s 4 (sub b 0x100 416) (manifest b) && compsOk s b &&
    (comps b).all (fun c => blkSvn (compBlock b c) == blkSvn (sub b 0x100 416))

/-- A bundle can be booted: its manifest can be read and every component verifies. -/
def bootable (s : State) (b : List Byte) : Bool := manifestOk b && compsOk s b

/-! ### Slot records (Table 16.2) -/

def SlotRec.empty : SlotRec :=
  { state := 0, reason := 0, tries := 0, fw := 0, svn := 0, tpl := 0, csl := 0, cfs := 0, cfsMin := 0, mflags := 0
    bundleLen := 0, eqOffset := 0, eqLen := 0, mdigest := zeros 16 }

/-- Position of the equalisation table in a bundle, from the slot base: its image, after the block; zero without one. -/
def eqPlace (b : List Byte) : Nat × Nat :=
  match compOf b 3 with
  | some c => (c.off + 416, c.len)
  | none => (0, 0)

/-- The entry of a slot that holds a bundle. -/
def recOf (b : List Byte) (state : Nat) (eq : Nat × Nat) : SlotRec :=
  { state := state, reason := 0, tries := 0, fw := u32 b 0x10, svn := blkSvn (sub b 0x100 416), tpl := u8 b 9
    csl := u8 b 0x0A, cfs := u16 b 0x0C, cfsMin := u16 b 0x0E, mflags := u8 b 7, bundleLen := u32 b 0x14, eqOffset := eq.1
    eqLen := eq.2, mdigest := (Config.sha384 (manifest b)).take 16 }

/-- The 48 bytes of an entry. -/
def SlotRec.bytes (r : SlotRec) : List Byte :=
  leBytes 1 r.state ++ leBytes 1 r.reason ++ leBytes 1 r.tries ++ [0] ++ leBytes 4 r.fw ++ leBytes 4 r.svn ++ leBytes 1 r.tpl ++
    leBytes 1 r.csl ++ leBytes 2 r.cfs ++ leBytes 2 r.cfsMin ++ leBytes 1 r.mflags ++ [0] ++ leBytes 4 r.bundleLen ++
    leBytes 4 r.eqOffset ++ leBytes 4 r.eqLen ++ r.mdigest.take 16

/-- The entry of slot k. -/
def BootRec.slot (r : BootRec) (k : Nat) : SlotRec := if k = 0 then r.slotA else r.slotB

/-- A record with slot k's entry changed. -/
def BootRec.setSlot (r : BootRec) (k : Nat) (f : SlotRec → SlotRec) : BootRec :=
  if k = 0 then { r with slotA := f r.slotA } else { r with slotB := f r.slotB }

/-- The entry of slot k in the record in force; an empty one where there is no record. -/
def slotEntry (s : State) (k : Nat) : SlotRec :=
  match s.nv.bootRec with
  | some r => r.slot k
  | none => SlotRec.empty

/-- CURRENT of the record in force. -/
def currentSlot (s : State) : Nat := match s.nv.bootRec with | some r => r.current | none => 0

/-- The slot the running image was loaded from, CURRENT where it runs from memory. -/
def runSlot (s : State) : Nat := s.upd.slot.getD (currentSlot s)

/-- The other slot (R503). -/
def otherSlot (s : State) : Nat := 1 - runSlot s

/-- What the first record of a blank area follows on: the running slot GOOD, the other EMPTY. (DESIGN CHOICE log 19) -/
def firstRec (s : State) : BootRec :=
  let run := match s.upd.running with | some r => { r.rec_ with state := 4, reason := 0, tries := 0 } | none => SlotRec.empty
  match s.upd.slot with
  | some 0 => { seq := 0xFFFFFFFF, current := 0, lastAct := 0, slotA := run, slotB := SlotRec.empty }
  | some _ => { seq := 0xFFFFFFFF, current := 1, lastAct := 0, slotA := SlotRec.empty, slotB := run }
  | none => { seq := 0xFFFFFFFF, current := 0, lastAct := 0, slotA := SlotRec.empty, slotB := SlotRec.empty }

/-- UPD_STATUS follows the boot record. -/
def syncRec (s : State) : State :=
  match s.nv.bootRec with
  | some r => setLevel 17 R.UPD_STATUS_LAST_ACT r.lastAct (setLevel 17 R.UPD_STATUS_STATE_B r.slotB.state
      (setLevel 17 R.UPD_STATUS_STATE_A r.slotA.state s))
  | none => s

/-- Appends a boot record (R499). A slot that enters REJECTED is a fault. -/
def appendRec (f : BootRec → BootRec) (s : State) : State :=
  let old := s.nv.bootRec.getD (firstRec s)
  let new := { f old with seq := (old.seq + 1) % 4294967296 }
  let s1 := syncRec { s with nv := { s.nv with bootRec := some new } }
  [0, 1].foldl (fun a k => if (new.slot k).state = 5 ∧ (old.slot k).state ≠ 5 then occur 15 3 k 0 a else a) s1

/-- Appends slot k as REJECTED with a reason. -/
def rejectSlot (k reason : Nat) (s : State) : State :=
  appendRec (fun r => r.setSlot k (fun e => { e with state := 5, reason := reason })) s

/-! ### Running an image -/

/-- The running firmware of a bundle, with its slot entry. -/
def runningOf (s : State) (b : List Byte) (e : SlotRec) : Running :=
  let dig := fun (k : Nat) => match compOf b k with | some c => Config.sha384 (compImage b c) | none => []
  { rec_ := e, main := dig 2, secfw := dig 1
    root := match compOf b 2 with | some c => leafRoot s (blkCert (compBlock b c)) useImage | none => 0 }

/-- Bytes of an image slot. -/
def slotBytes (s : State) (k : Nat) : List Byte := Tab.getD s.nv.slots k []

/-- The entry under which slot k is booted: its record's, or what its manifest says where there is no record. -/
def bootEntry (s : State) (k : Nat) : SlotRec :=
  match s.nv.bootRec with
  | some r => r.slot k
  | none => recOf (slotBytes s k) 4 (eqPlace (slotBytes s k))

/-- MSL_ATTN_N follows BOOT_FAIL. (DEDUCED log 26) -/
def mslAttn (on : Bool) (s : State) : State := setLevel 17 R.UPD_STATUS_MSL_ATTN (if on then 1 else 0) s

/-- The image of slot k is chosen (R509); its equalisation table is the one in force. -/
def bootRun (k : Nat) (s : State) : State :=
  let e := bootEntry s k
  let b := slotBytes s k
  let t := { s with upd := { s.upd with chosen := some k, slot := some k, activated := false, bootFail := false
                                        running := some (runningOf s b e) }
                    nv := { s.nv with eqTable := sub b e.eqOffset e.eqLen } }
  mslAttn false (setF t R.UPD_STATUS_RUN_SLOT k)

/-- No image: the device stays in BOOT (R35). -/
def bootFailed (s : State) : State :=
  mslAttn true { s with upd := { s.upd with chosen := none, slot := none, running := none, bootFail := true } }

/-- Tries the slots of R509 in order. (DESIGN CHOICE log 19) -/
def bootTry : List Nat → State → State
  | [], s => bootFailed s
  | k :: rest, s =>
    let e := slotEntry s k
    if e.state = 3 ∧ 3 ≤ e.tries then bootTry rest (rejectSlot k 2 s)
    else
      let s1 := if e.state = 3 then appendRec (fun r => r.setSlot k (fun x => { x with tries := x.tries + 1 })) s else s
      if bootable s1 (slotBytes s1 k) then bootRun k s1 else bootTry rest (rejectSlot k 1 s1)

/-- The order in which slots are tried. (DESIGN CHOICE log 19) -/
def bootOrder (s : State) : List Nat :=
  match s.nv.bootRec with
  | none => [0, 1]
  | some r =>
    let good := fun (k : Nat) => if (r.slot k).state = 4 then [k] else []
    match ([0, 1].filter (fun k => (r.slot k).state == 3)).head? with
    | some t => t :: good (1 - t)
    | none => good r.current ++ good (1 - r.current)

/-- The boot from source 0b00 chooses an image. (DESIGN CHOICE log 19) -/
def bootChoose (s : State) : State := bootTry (bootOrder s) s

/-- A bundle in memory is verified and boots from there, without a slot (R511). (DESIGN CHOICE log 15) -/
def bootMemory (b : List Byte) (s : State) : State :=
  let e := recOf b 4 (eqPlace b)
  let t := { s with upd := { s.upd with chosen := some 7, slot := none, activated := false, bootFail := false
                                        running := some (runningOf s b e) }
                    nv := { s.nv with eqTable := sub b e.eqOffset e.eqLen } }
  mslAttn false (setF t R.UPD_STATUS_RUN_SLOT 7)

/-- The slot that recovery writes: A when it is EMPTY or REJECTED, else B (R511). -/
def recoverySlot (s : State) : Nat :=
  let st := (slotEntry s 0).state
  if st = 0 ∨ st = 1 ∨ st = 5 then 0 else 1

/-- Recovery writes a verified bundle as TRIAL and boots under R509 (R511). -/
def recoverSlot (b : List Byte) (s : State) : State :=
  let k := recoverySlot s
  let s1 := { s with nv := { s.nv with slots := Tab.put s.nv.slots k (b.take (u32 b 0x14)) } }
  bootChoose (appendRec (fun r => r.setSlot k (fun _ => recOf b 3 (eqPlace b))) s1)

/-- The ROM takes a bundle loaded in BOOT: whether it verifies, and the state after it. (DESIGN CHOICE log 15) -/
def loadBundle (b : List Byte) (writeSlot : Bool) (s : State) : Bool × State :=
  if !bootable s b then (false, s)
  else if writeSlot then (true, recoverSlot b s)
  else (true, bootMemory b s)

end Sys2Proof.Machine
end

