-- ==== Sys2Proof/Machine/Ptp.lean ====
section
/-!
DEFINITION. Network time (R295, R296), the edge inputs that discipline WT (R317, R318), the time commands (R316, R318),
and the classifier of received Ethernet frames (R54, R56), which feeds PTP. PTP message layouts and the dataset
comparison are IEEE 1588's, and packet headers those of the standards named (PRESUMED).
-/

namespace Sys2Proof.Machine

/-! ### Instances -/

/-- (DESIGN CHOICE log 42) -/
def PtpInst.off : PtpInst :=
  { enabled := false, transport := 0, unicast := false, annTo := 3, masters := [], sync := none, last := none, logSync := 0
    dreq := none, dseq := 0, path := none }

/-- PTP instance i. -/
def ptpInst (s : State) (i : Nat) : PtpInst := Tab.getD s.tim.ptp i PtpInst.off

/-- Changes an instance. -/
def ptpUpd (i : Nat) (g : PtpInst → PtpInst) (s : State) : State :=
  { s with tim := { s.tim with ptp := Tab.put s.tim.ptp i (g (ptpInst s i)) } }

/-- Lexicographic order of dataset keys. -/
def keyLt : List Nat → List Nat → Bool
  | [], _ => false
  | _ :: _, [] => false
  | a :: s, b :: t => decide (a < b) || (a == b && keyLt s t)

/-- The selected master of an instance. -/
def ptpBest (q : PtpInst) : Option PtpMaster :=
  q.masters.foldl (fun b m => match b with
    | none => some m
    | some x => if keyLt m.key x.key then some m else some x) none

/-- The active instance (R296). -/
def ptpActive (s : State) : Option Nat :=
  let m := fun (i : Nat) => if (ptpInst s i).enabled then ptpBest (ptpInst s i) else none
  match m 0, m 1 with
  | none, none => none
  | some _, none => some 0
  | none, some _ => some 1
  | some a, some b =>
    if a.gm = b.gm then (if isSet s (R.PTP_W0_VALID 0) || !isSet s (R.PTP_W0_VALID 1) then some 0 else some 1)
    else if keyLt b.key a.key then some 1 else some 0

/-- Sample interval of the active instance, in 2^-16 ns. -/
def ptpUnits (s : State) : Nat :=
  1000000000 * 65536 / 2 ^ (match ptpActive s with | some i => (ptpInst s i).logSync | none => 0)

/-- Shows the active instance and its grandmaster; NT without a valid instance has lost its reference. -/
def ptpUpdate (s : State) : State :=
  let s1 := (List.range 2).foldl (fun a i =>
    match ptpBest (ptpInst a i) with
    | some m => setF (setF (setF a (R.PTP_GM_LO_VAL i) m.gm) (R.PTP_GM_HI_VAL i) (m.gm / 4294967296)) (R.PTP_UTC_UTC_OFS i) m.utc
    | none => a) s
  match ptpActive s1 with
  | some i => setF s1 R.TIM_STATUS_PTP_ACT i
  | none => s1

/-- NT loses its reference where no instance has valid samples (R296). (DEDUCED log 36) -/
def ntCheck (s : State) : State :=
  if isSet s (R.PTP_W0_VALID 0) || isSet s (R.PTP_W0_VALID 1) then s
  else timeUpdate s (wtFromNt (ptpUnits s) (servoLost false (ptpUnits s) s))

/-- The instance of a set-ptp parameter (R296). -/
def ptpSet (l : List Byte) (t : State) : Except Nat State :=
  let i := u8 l 0
  if 2 ≤ i ∨ 2 ≤ u8 l 1 ∨ portSubs t (u8 l 1) ≤ u8 l 2 ∨ 3 ≤ u8 l 3 ∨ 128 ≤ u8 l 4 ∨ 4 ≤ u8 l 5 ∨ u8 l 6 < 2 ∨ 10 < u8 l 6 ∨
      !zeroAt l 7 1 then .error St.badParam
  else
    let q := { PtpInst.off with enabled := u8 l 5 % 2 == 1, unicast := u8 l 5 / 2 == 1, transport := u8 l 3, annTo := u8 l 6 }
    let u := setF (setF (setF (setF t (R.PTP_W0_VALID i) 0) (R.PTP_W0_PORT i) (u8 l 1)) (R.PTP_W0_SUBPORT i) (u8 l 2))
      (R.PTP_W0_DOMAIN i) (u8 l 4)
    .ok (setItem 0x0012 i l (ntCheck (ptpUpdate (ptpUpd i (fun _ => q) (setF u (R.PTP_ASYM_PS_VAL i) (u32 l 8))))))

/-- `set-ptp`. -/
def execSetPtp (k : Pkt) (s : State) : Out := .next (plain k (fun t => resOf (ptpSet k.par t)) s)

/-! ### Messages -/

/-- Port identity of an instance. -/
def ptpIdentity (i : Nat) : List Byte := (Config.clockIdentity ++ zeros 8).take 8 ++ [0, BitVec.ofNat 8 (i + 1)]

/-- A PTP timestamp of 10 bytes in 2^-16 ns. (PRESUMED log 27) -/
def ptpStamp (b : List Byte) (off : Nat) : Int :=
  ((beVal (sub b off 6) * 1000000000 + beVal (sub b (off + 6) 4)) * 65536 : Nat)

/-- correctionField, in 2^-16 ns. -/
def ptpCorr (b : List Byte) : Int := signed 64 (beVal (sub b 8 8))

/-- logMessageInterval. -/
def ptpLog (b : List Byte) : Int := signed 8 (u8 b 33)

/-- A message that the options of Table 10.3 exclude. -/
def ptpUnsup (s : State) : State := tally R.PTP_UNSUP_COUNT 10 5 0 s

/-- Announce: the foreign master's dataset. -/
def ptpAnnounce (i : Nat) (b : List Byte) (s : State) : State :=
  if ptpLog b < -3 ∨ 1 < ptpLog b then ptpUnsup s
  else
    let be := fun (o n : Nat) => beVal (sub b o n)
    let m : PtpMaster := { key := [be 47 1, be 48 1, be 49 1, be 50 2, be 52 1, be 53 8, be 61 2, be 20 10]
                           src := sub b 20 10, gm := be 53 8, utc := be 44 2 }
    let q := ptpInst s i
    let others := q.masters.filter (fun x => x.src != m.src)
    if 8 ≤ others.length then s
    else ptpUpdate (ptpUpd i (fun x => { x with masters := others ++ [m] }) s)

/-- An offset sample of an instance: origin time with corrections, LT and NT at arrival. -/
def ptpSample (i : Nat) (t1 : Int) (t2 : Nat) (ntAt : Int) (s : State) : State :=
  let s1 := ptpUpd i (fun x => { x with last := some (t1, t2), sync := none }) s
  match (ptpInst s1 i).path with
  | none => s1
  | some d2 =>
    let ref := t1 * 2 ^ 44 + inexactZ 19 (d2 * 500 + getI s1 (R.PTP_ASYM_PS_VAL i) * (fineNs : Nat)) 1000
    let theta := ref - ntAt
    let s2 := setSatI (setF s1 (R.PTP_W0_VALID i) 1) (R.PTP_OFFSET_NS_VAL i) (inexactZ 20 theta fineNs)
    if ptpActive s2 = some i then
      let ts := ptpUnits s2
      let s3 := servoSample false theta (ref + ((s2.tim.lt - t2 : Nat) : Int) * 2 ^ 44) 100 ts s2
      timeUpdate s (wtFromNt ts s3)
    else s2

/-- Sync: one-step gives a sample, two-step waits for its Follow_Up. -/
def ptpSync (i : Nat) (b : List Byte) (s : State) : State :=
  if ptpLog b < -7 ∨ 0 < ptpLog b then ptpUnsup s
  else
    let s1 := incF (ptpUpd i (fun x => { x with logSync := (-ptpLog b).toNat }) s) (R.PTP_SYNC_RX_COUNT i)
    if bitAt b 6 1 then
      ptpUpd i (fun x => { x with sync := some (beVal (sub b 30 2), s1.tim.lt, s1.tim.nt.fine, ptpCorr b) }) s1
    else ptpSample i (ptpStamp b 34 + ptpCorr b) s1.tim.lt s1.tim.nt.fine s1

/-- Follow_Up of the Sync that waits. -/
def ptpFollow (i : Nat) (b : List Byte) (s : State) : State :=
  match (ptpInst s i).sync with
  | some (seq, t2, n, c) => if seq = beVal (sub b 30 2) then ptpSample i (ptpStamp b 34 + c + ptpCorr b) t2 n s else s
  | none => s

/-- Delay_Resp for this instance's Delay_Req. -/
def ptpDelayResp (i : Nat) (b : List Byte) (s : State) : State :=
  match (ptpInst s i).dreq with
  | some (seq, t3, t1, t2) =>
    if seq ≠ beVal (sub b 30 2) ∨ sub b 44 10 ≠ ptpIdentity i then s
    else
      let d2 := (ptpStamp b 34 - ptpCorr b - t1) * 2 ^ 44 - ((t3 : Int) - t2) * (2 ^ 44 + s.tim.nt.r)
      let s1 := incF (ptpUpd i (fun x => { x with path := some d2, dreq := none }) s) (R.PTP_DRESP_RX_COUNT i)
      setI s1 (R.PTP_PATH_NS_VAL i) (inexactZ 21 d2 (2 * fineNs))
  | none => s

/-- A message reaches an instance that its sub-port is bound to. (PRESUMED log 27) -/
def ptpMessage (i transport : Nat) (b : List Byte) (s : State) : State :=
  let q := ptpInst s i
  let ty := u8 b 0 % 16
  let mine := match ptpBest q with | some m => m.src == sub b 20 10 | none => false
  if !q.enabled || b.length < 34 || u8 b 1 % 16 != 2 then s
  else if q.transport ≠ transport then ptpUnsup s
  else if u8 b 4 ≠ getF s (R.PTP_W0_DOMAIN i) then s
  else match ty with
    | 0 => if mine then ptpSync i b s else s
    | 8 => if mine then ptpFollow i b s else s
    | 9 => if mine then ptpDelayResp i b s else s
    | 11 => ptpAnnounce i b s
    | 2 => ptpUnsup s
    | 3 => ptpUnsup s
    | 10 => ptpUnsup s
    | _ => s

/-- A PTP message arrives on a sub-port: transport 0 IPv4, 1 IPv6, 2 Ethernet. -/
def ptpRx (p sub transport : Nat) (b : List Byte) (s : State) : State :=
  (List.range 2).foldl (fun a i =>
    if getF a (R.PTP_W0_PORT i) = p ∧ getF a (R.PTP_W0_SUBPORT i) = sub then ptpMessage i transport b a else a) s

/-- The Delay_Req interval of an instance expires (R295): a Delay_Req goes with the last Sync. -/
def execDelayReqTimer (i : Nat) (s : State) : Out :=
  .next (
    let q := ptpInst s i
    match q.last with
    | some (t1, t2) =>
      if !running s || !sender s || !q.enabled || (ptpBest q).isNone then s
      else
        let b := [1, 2, 0, 44, BitVec.ofNat 8 (getF s (R.PTP_W0_DOMAIN i)), 0, (if q.unicast then 4 else 0), 0] ++ zeros 12 ++
          ptpIdentity i ++ (leBytes 2 q.dseq).reverse ++ [1, 0x7F] ++ zeros 10
        send (ptpUpd i (fun x => { x with dseq := (x.dseq + 1) % 65536, dreq := some (x.dseq, s.tim.lt, t1, t2) }) s)
          (.eth (getF s (R.PTP_W0_PORT i)) (getF s (R.PTP_W0_SUBPORT i)) 3 b)
    | none => s)

/-- No valid Sync and Delay_Resp for announceReceiptTimeout announce intervals (R296). -/
def execPtpAnnounceTimeout (i : Nat) (s : State) : Out :=
  .next (if running s && sender s && decide (i < 2) && (ptpInst s i).enabled then
      ntCheck (ptpUpdate (setF (ptpUpd i (fun q => { q with masters := [], sync := none, last := none, dreq := none, path := none }) s)
        (R.PTP_W0_VALID i) 0))
    else s)

/-! ### Edges (R312, R317, R318) -/

/-- A capture unit records an edge in WT. -/
def capture_ (c : Nat) (s : State) : State :=
  incF (setF (setF s (R.CAP_LO_VAL c) (wtNs s)) (R.CAP_HI_VAL c) (wtNs s / 4294967296)) (R.CAP_EDGES_COUNT c)

/-- The present instant, of a frame number that is a multiple of GL_MUL, whose T + PHASE lies nearest WT, in ns. -/
def genlockTarget (s : State) : Option Int :=
  match s.tim.params with
  | none => none
  | some p =>
    let w : Int := s.tim.wt.ns
    let n := (p.frameAt ((w - s.tim.phase).toNat)).getD p.epochN
    let m := max 1 s.tim.glMul
    let a := max ((p.epochN + m - 1) / m * m) (n / m * m)
    let at_ := fun (k : Nat) => (p.t k : Int) + s.tim.phase
    if (at_ (a + m) - w).natAbs < (at_ a - w).natAbs then some (at_ (a + m)) else some (at_ a)

/-- The expected interval of GENLOCK_IN edges in 2^-16 ns. -/
def genlockUnits (s : State) : Nat :=
  match s.tim.params with
  | some p => inexact 22 (p.den * max 1 s.tim.glMul * 1000000000 * 65536) p.num
  | none => 0

/-- The master's WT loses its edges. -/
def edgesLost (ts : Nat) (s : State) : State :=
  timeUpdate s (servoLost true ts { s with tim := { s.tim with edgeOk := false, glBadRun := 0 } })

/-- A rising edge of GENLOCK_IN disciplines WT (R317). -/
def genlockSample (s : State) : State :=
  if !isMaster s || getF s R.TIM_CTRL_WT_SRC != 1 || s.tim.align != 2 then s
  else match genlockTarget s with
    | none => s
    | some t =>
      let ref := t * (fineNs : Nat)
      let theta := ref - s.tim.wt.fine
      if servoState s true = 2 ∧ 1000 * fineNs < theta.natAbs then
        let s1 := tally R.GL_BAD_COUNT 10 3 0 s
        if 8 ≤ s.tim.glBadRun + 1 then edgesLost (genlockUnits s) s1
        else { s1 with tim := { s1.tim with glBadRun := s.tim.glBadRun + 1 } }
      else
        timeUpdate s (servoSample true theta ref 20 (genlockUnits s)
          { s with tim := { s.tim with edgeOk := true, glBadRun := 0 } })

/-- A rising edge of GENLOCK_IN (R312, R317). -/
def execGenlockEdge (s : State) : Out := .next (if running s then genlockSample (capture_ 1 s) else s)

/-- No edge for 3 expected periods (R317). -/
def execGenlockLoss (s : State) : Out :=
  .next (if running s && isMaster s && getF s R.TIM_CTRL_WT_SRC == 1 then edgesLost (genlockUnits s) s else s)

/-- The whole second that an edge of WT_PPS_IN marks: the one set-WT-seconds gave, else the nearest of a valid WT. -/
def ppsTarget (s : State) : Option Int :=
  match s.tim.ppsSeconds with
  | some n => some ((n : Int) * 1000000000)
  | none => if wtValid s then some (((s.tim.wt.ns + 500000000) / 1000000000 : Nat) * 1000000000) else none

/-- A rising edge of WT_PPS_IN disciplines WT (R318). Seconds newly set are taken at the edge, a step where WT held
others; the edge's own error lies within half a second. (DESIGN CHOICE log 28; DEDUCED log 36) -/
def ppsSample (s : State) : State :=
  if !isMaster s || getF s R.TIM_CTRL_WT_SRC != 2 then s
  else match ppsTarget s with
    | none => s
    | some t =>
      let ts := 1000000000 * 65536
      let s0 := { s with tim := { s.tim with edgeOk := true, ppsSeconds := none } }
      let whole := (((s.tim.wt.ns + 500000000) / 1000000000 : Nat) : Int) * 1000000000
      let s1 := if wtValid s ∧ whole ≠ t then
          triggerStep (s.tim.wt.fine / (4 * fineNs : Nat))
            (tally R.TIM_STEP_CNT_COUNT 10 5 0 (clockPut true { s0.tim.wt with fine := s0.tim.wt.fine + (t - whole) * (fineNs : Nat) } s0))
        else s0
      timeUpdate s (servoSample true (t * (fineNs : Nat) - s1.tim.wt.fine) (t * (fineNs : Nat)) 20 ts s1)

/-- A rising edge of WT_PPS_IN. -/
def execPpsEdge (s : State) : Out := .next (if running s then ppsSample (capture_ 0 s) else s)

/-! ### Time commands -/

/-- `set-wt-seconds` (R318). -/
def execSetWtSeconds (k : Pkt) (s : State) : Out :=
  .next (plain k (fun t => .ok { t with tim := { t.tim with ppsSeconds := some (k.p64 0) } } []) s)

/-- `get-time`: LT, WT, NT and the frame of one instant. -/
def execGetTime (k : Pkt) (s : State) : Out :=
  .next (plain k (fun t =>
    .ok t (stampBytes t.tim.lt ++ stampBytes (if wtValid t then t.tim.wt.t16 else 0) ++
      stampBytes (if ntValid t then t.tim.nt.t16 else 0) ++ zeros 2 ++ leBytes 8 (frameNow0 t))) s)

/-- A write of GO captures LT, WT and NT (R323). -/
def timSnap (s : State) : State :=
  let two := fun (lo hi : Fld) (v : Nat) (a : State) => setF (setF a lo v) hi (v / 4294967296)
  two R.TIM_SNAP_NT_LO_VAL R.TIM_SNAP_NT_HI_VAL (ntNs s)
    (two R.TIM_SNAP_WT_LO_VAL R.TIM_SNAP_WT_HI_VAL (wtNs s) (two R.TIM_SNAP_LT_LO_VAL R.TIM_SNAP_LT_HI_VAL (ltNs s) s))

/-- A write to TIM_SNAP (R323). -/
def execTimSnapGo (q : Nat) (v : Word) (s : State) : Out :=
  .next (access q 10 false 0x24 (fun t => if v.toNat % 2 = 1 then timSnap t else t) s)

/-- The values of Table 10.8 are in range. -/
def cadenceOk (b : List Byte) : Bool :=
  let num := u32 b 0
  let den := u32 b 4
  let pmin := den * 1000000000 / num
  let cyc := pmin / u8 b 0x12
  decide (1 ≤ den) && decide (den ≤ 1001) && decide (24 * den ≤ num) && decide (num ≤ 240 * den) && decide (u8 b 0x10 ≤ 2) &&
    decide (1 ≤ u8 b 0x11) && decide (u8 b 0x11 ≤ 4) && (u8 b 0x10 == 2 || u8 b 0x11 == 1) &&
    decide (1 ≤ u8 b 0x12) && decide (u8 b 0x12 ≤ 16) &&
    decide (2 * (signed 32 (u32 b 0x14)).natAbs * num ≤ den * 1000000000) &&
    decide (u32 b 0x18 + 1 ≤ cyc / 4) && (u8 b 0x13 == 0 || decide (4 * u32 b 0x1C < cyc))

/-- The first alignment point plus PHASE at least 100 ms after now, in WT (R316, R317). -/
def alignPoint (s : State) (num den : Nat) (phase : Int) : Nat :=
  let off := signed 64 (getF s R.TIM_WT_OFFSET_LO_VAL + getF s R.TIM_WT_OFFSET_HI_VAL * 4294967296)
  let from_ : Int := (wtNs s : Int) + 100000000 + off - phase
  let k0 := (from_.toNat * num) / (den * 1000000000)
  let pt := fun (k : Nat) => (inexact 23 (k * den * 1000000000) num : Int)
  let k := ((List.range 3).map (k0 + ·)).find? (fun k => decide (from_ ≤ pt k)) |>.getD (k0 + 2)
  (pt k + phase - off).toNat

/-- The set that an accepted set-cadence makes, none where it is too late. (DEDUCED log 36) -/
def cadenceSet (s : State) (b : List Byte) : Option Params :=
  let seq := match s.tim.nextParams with
    | some q => q.pseq
    | none => (match s.tim.params with | some p => p.pseq | none => 0)
  let mk := fun (n w : Nat) => ({ pseq := (seq + 1) % 65536, num := u32 b 0, den := u32 b 4, epochN := n, epochWt := w
                                  pwmMul := u8 b 0x12, adcEvery := u8 b 0x13, pwmPhase := u32 b 0x18, adcOfs := u32 b 0x1C } : Params)
  match s.tim.params with
  | none =>
    if u8 b 0x10 = 1 then some (mk 0 (alignPoint s (u32 b 0) (u32 b 4) (signed 32 (u32 b 0x14))))
    else some (mk 0 ((wtNs s + 100000000 + 999999) / 1000000 * 1000000))
  | some p =>
    let t := p.t (u64 b 8)
    if u64 b 8 < p.epochN ∨ t < wtNs s + 100000000 then none else some (mk (u64 b 8) t)

/-- The present parameters of a set-cadence parameter (R316, R317). -/
def cadenceApply (l : List Byte) (t0 : State) : Except Nat State :=
  let t := promoteParams t0
  let src := getF t R.TIM_CTRL_WT_SRC
  if !isMaster t || !wtHeld t || (u8 l 0x10 == 1 && src != 0) || (u8 l 0x10 == 2 && src != 1) then .error St.badState
  else if !cadenceOk l then .error St.badParam
  else match cadenceSet t l with
    | none => .error St.tooLate
    | some q =>
      .ok (setItem 0x0024 0 l (holdParams q { t with tim := { t.tim with
        align := u8 l 0x10, glMul := u8 l 0x11, phase := signed 32 (u32 l 0x14) } }))

/-- `set-cadence`. -/
def execSetCadence (k : Pkt) (s : State) : Out := .next (plain k (fun t => resOf (cadenceApply k.par t)) s)

/-- What a write to TIM_CTRL changes beside the register (R317, R322): the election, and the alignment and reference of
a master whose WT_SRC has changed. -/
def timCtrlChanged (old s : State) : State :=
  let src := getF s R.TIM_CTRL_WT_SRC
  let s1 := if src = getF old R.TIM_CTRL_WT_SRC then s
    else
      let a := { s with tim := { s.tim with align := 0, edgeOk := false, glBadRun := 0 } }
      if isMaster a then masterWt a else a
  if sender s then offerChange old (chooseSource (elect false s1)) else s1

/-! ### Received Ethernet frames (R54, R56) -/

/-- An Ethernet frame below its tags: the number of tags, VLAN ID, EtherType, and offset of the content. (PRESUMED log 27) -/
def ethHead (b : List Byte) : Nat × Nat × Nat × Nat :=
  let ty := fun (o : Nat) => beVal (sub b o 2)
  let tag := fun (o : Nat) => ty o == 0x8100 || ty o == 0x88A8
  if !tag 12 then (0, 0, ty 12, 14)
  else if !tag 16 then (1, beVal (sub b 14 2) % 4096, ty 16, 18)
  else (2, 0, 0, 22)

/-- An IP packet: version 4 or 6, source and destination as 16 bytes, protocol, and offset of its content. -/
structure IpHead where
  six : Bool
  src : List Byte
  dst : List Byte
  proto : Nat
  off : Nat
  deriving DecidableEq, Repr

/-- The IP header of a frame, none for a frame that holds none or a fragment. (PRESUMED log 27) -/
def ipHead (b : List Byte) (ty off : Nat) : Option IpHead :=
  if ty = 0x0800 then
    if u8 b off / 16 ≠ 4 ∨ beVal (sub b (off + 6) 2) % 16384 ≠ 0 then none
    else some { six := false, src := sub b (off + 12) 4 ++ zeros 12, dst := sub b (off + 16) 4 ++ zeros 12, proto := u8 b (off + 9)
                off := off + 4 * (u8 b off % 16) }
  else if ty = 0x86DD then
    let nh := u8 b (off + 6)
    let hop := nh == 0
    some { six := true, src := sub b (off + 8) 16, dst := sub b (off + 24) 16, proto := if hop then u8 b (off + 40) else nh
           off := if hop then off + 48 + 8 * u8 b (off + 41) else off + 40 }
  else none

/-- A packet matches a leg (R62). -/
def legHit (p sub_ tags vid udp : Nat) (ip : IpHead) (l : List Byte) : Bool :=
  u8 l 0 == p && u8 l 1 == sub_ && bitAt l 2 0 == ip.six && sub l 24 16 == ip.dst && u16 l 6 == udp &&
    (if bitAt l 2 2 then tags == 1 && u16 l 4 == vid else tags == 0) && (!bitAt l 2 1 || sub l 8 16 == ip.src)

/-- The leg of a flow that a packet matches: flow and leg. -/
def flowHit (s : State) (p sub_ tags vid udp : Nat) (ip : IpHead) : Option (Nat × Nat) :=
  let hit := fun (d : List Byte) => ((List.range 2).zip (legsOf d)).find? (fun x => legHit p sub_ tags vid udp ip x.2)
  s.ing.flows.findSome? (fun e =>
    ((flowDescs e.2).findSome? hit).map (fun x => (e.1, x.1)))

/-- A group that a sub-port has joined: of a leg, or one that every IP host belongs to. -/
def joined (s : State) (key : Nat) (ip : IpHead) : Bool :=
  (allLegs s).any (fun l => legSub l == key && bitAt l 2 0 == ip.six && sub l 24 16 == ip.dst && legMulticast l) ||
    (if ip.six then ip.dst == ([0xFF, 0x02] ++ zeros 13 ++ [1]) ||
      (ip.dst.take 13 == ([0xFF, 0x02] ++ zeros 9 ++ [1, 0xFF]) && ip.dst.drop 13 == (Tab.getD s.eth.ip6 key []).drop 14)
     else ip.dst == ([224, 0, 0, 1] ++ zeros 12))

/-- A frame is firmware's (R56, point 3). -/
def forFirmware (s : State) (key ty off : Nat) (b : List Byte) (ip : Option IpHead) : Bool :=
  match ip with
  | none => ty == 0x0806 && (Tab.get s.eth.ip4 key).isSome && sub b (off + 24) 4 == sub (Tab.getD s.eth.ip4 key []) 1 4
  | some h =>
    let own := if h.six then (Tab.get s.eth.ip6 key).isSome && h.dst == (Tab.getD s.eth.ip6 key []).drop 1
      else (Tab.get s.eth.ip4 key).isSome && h.dst.take 4 == sub (Tab.getD s.eth.ip4 key []) 1 4
    let kind := if h.six then
        h.proto == 58 && (let t := u8 b h.off
          t == 128 || t == 129 || (decide (130 ≤ t) && decide (t ≤ 137)) || t == 143)
      else h.proto == 1 || h.proto == 2
    kind && (own || joined s key h)

/-- A frame is discarded and counted. -/
def unmatched (s : State) : State := incF s R.ING_UNMATCHED_COUNT

/-- Firmware takes at most 10,000 frames per second of each sub-port. -/
def firmwareFrame (key : Nat) (s : State) : State :=
  let sec := ltNs s / 1000000000
  let n := match Tab.get s.eth.fwFrames key with
    | some (t, c) => if t = sec then c else 0
    | none => 0
  if 10000 ≤ n then unmatched s else { s with eth := { s.eth with fwFrames := Tab.put s.eth.fwFrames key (sec, n + 1) } }

/-- Violations of the models of ST 2110-21 (R77). (DESIGN CHOICE log 28) -/
def t21 (i : Nat) (cinst vrx : Bool) (s : State) : State :=
  let s1 := if cinst then flowTally R.ING_F_T21_VIOL_CINST i s else s
  if vrx then flowTally R.ING_F_T21_VIOL_VRX i s1 else s1

/-- The classifier (R56). (DESIGN CHOICE log 28) -/
def classify (p sub_ : Nat) (b : List Byte) (cinst vrx : Bool) (s : State) : State :=
  match ethHead b with
  | (tags, vid, ty, off) =>
    let ip := ipHead b ty off
    let udp := match ip with
      | some h => if h.proto = 17 then some (h, beVal (sub b (h.off + 2) 2)) else none
      | none => none
    if ty = 0x88F7 then ptpRx p sub_ 2 (b.drop off) s
    else match udp with
      | some (h, port) =>
        let pay := sub b (h.off + 8) (beVal (sub b (h.off + 4) 2) - 8)
        if port = 319 ∨ port = 320 then ptpRx p sub_ (if h.six then 1 else 0) pay s
        else if !isSet s R.ING_CTRL_ENABLE then unmatched s
        else match flowHit s p sub_ tags vid port h with
          | some (i, l) => flowPacket i l (b.length + 4) pay (t21 i cinst vrx s)
          | none => unmatched s
      | none => if forFirmware s (subKey p sub_) ty off b ip then firmwareFrame (subKey p sub_) s else unmatched s

/-- A received Ethernet frame without its FCS. Bits of `flags`: bad FCS, uncorrectable by FEC, receive buffer full, and
CINST above CMAX or VRX above VRX_FULL of the models of ST 2110-21, which the spec names without giving (R77). (DESIGN CHOICE log 28) -/
def execEthFrameRx (p sub_ : Nat) (b : List Byte) (flags : Nat) (s : State) : Out :=
  .next (
    if !running s || !sender s || !s.eth.up.contains (subKey p sub_) then s
    else
      let tags := (ethHead b).1
      if flags.testBit 2 then tally R.ING_OVERRUN_COUNT 5 1 (subKey p sub_) s
      else if flags.testBit 1 then occur 4 2 (subKey p sub_) 0 (unmatched s)
      else if flags.testBit 0 || decide (2 ≤ tags) || decide ((if tags = 0 then 9018 else 9022) < b.length + 4) then unmatched s
      else classify p sub_ b (flags.testBit 3) (flags.testBit 4) s)

end Sys2Proof.Machine
end

