-- ==== Sys2Proof/Machine/RegRead.lean ====
section
/-!
DEFINITION. Register reads (R535 to R542): how an address decodes, what the registers that show other state read as,
latched pairs, and the indirect pair with its snapshots. A requester is 0 for CP0, 1 for CP1, 2 for a command.
-/

namespace Sys2Proof.Machine

/-! ### Addresses (Table 17.3) -/

/-- Direct size of a block. -/
def directSize (b : Nat) : Nat := if b = 2 then 0x4000 else 0x1000

/-- Indirect size of a block, zero where it has no indirect space. -/
def indirectSize (b : Nat) : Nat :=
  if 16 ≤ b then (if b < 24 then 0x4000 else 0) else
  match b with
  | 3 => 0x4000
  | 4 => 0x4000
  | 5 => 0x2000
  | 7 => 0x2000
  | 9 => 0x8000
  | 10 => 0x8000
  | 11 => 0x8000
  | 12 => 0x2000
  | 13 => 0x10000
  | 14 => 0x2000
  | _ => 0

/-- Block and offset of an address of the register window, an alias brought into the direct size (R535). -/
def regAddr (a : Nat) : Option (Nat × Nat) :=
  let w := a / 4 * 4
  if w < 0x180000 then some (w / 65536, w % 65536 % directSize (w / 65536)) else none

/-- The block answers an access in this mode and role: a powered block, in LOCKDOWN the SYS block alone (R4, R45). -/
def answers (s : State) (b : Nat) : Bool := blockPowered (sender s) b && (mode s != mLockdown || b == 0)

/-! ### The indirect pair of each requester (R541) -/

def IndPair.reset : IndPair := { block := 0, offset := 0, inc := true, snap := none }

/-- A requester's pair. -/
def indOf (s : State) (q : Nat) : IndPair := (Tab.get s.cps.ind q).getD IndPair.reset

/-- Changes a requester's pair. -/
def indUpd (q : Nat) (f : IndPair → IndPair) (s : State) : State :=
  { s with cps := { s.cps with ind := Tab.put s.cps.ind q (f (indOf s q)) } }

/-! ### Latched pairs (R537) -/

/-- A latched pair: low, high and fraction registers in the TIM block. -/
def pairOffs : List (Nat × Nat × Nat) := [(0x08, 0x0C, 0x10), (0x14, 0x18, 0), (0x1C, 0x20, 0), (0x40, 0x44, 0)]

/-- The value of a pair now, and its fraction: LT, WT, NT, and the present frame number. -/
def pairValue (s : State) (i : Nat) : Nat × Nat :=
  match i with
  | 0 => (ltNs s, s.tim.lt % 65536)
  | 1 => (wtNs s, 0)
  | 2 => (if sender s then ntNs s else 0, 0)
  | _ => (frameNow0 s, 0)

/-- A read of a part of a pair: 0 the low half, which latches, 1 the high half, 2 the fraction. -/
def pairRead (q i part : Nat) (s : State) : State × Word :=
  let held := Tab.getD s.cps.latches (q * 4 + i) (0, 0)
  match part with
  | 0 =>
    let v := pairValue s i
    ({ s with cps := { s.cps with latches := Tab.put s.cps.latches (q * 4 + i) (v.1 / 4294967296, v.2) } },
      BitVec.ofNat 32 v.1)
  | 1 => (s, BitVec.ofNat 32 held.1)
  | _ => (s, BitVec.ofNat 32 held.2)

/-- The pair and part that an offset of TIM belongs to. -/
def pairPart (off : Nat) : Option (Nat × Nat) :=
  match (idxs 4 (fun i => (pairOffs.getD i (0, 0, 0)).1 == off)).head? with
  | some i => some (i, 0)
  | none => match (idxs 4 (fun i => (pairOffs.getD i (0, 0, 0)).2.1 == off)).head? with
    | some i => some (i, 1)
    | none => if off = 0x10 then some (0, 2) else none

/-! ### Registers that show other state -/

/-- The slot SYS_MODE.BOOT_SLOT shows (R50). -/
def bootSlot (s : State) : Nat :=
  match s.upd.slot, s.nv.bootRec with
  | some k, _ => k
  | none, some r => r.current
  | none, none => 0

/-- Severities of the tamper sources follow their policies (R558). -/
def tamperSevs (s : State) (w : Word) : Word :=
  (List.range 11).foldl (fun a i => Fld.ins ⟨0, 2 * i + 3, 2 * i + 2⟩ a (sevOf s 14 (i + 1))) w

/-- Registers of SYS. (DESIGN CHOICE log 16) -/
def viewSys (s : State) (off : Nat) (w : Word) : Word :=
  if off = 0 then R.SYS_ID_DIE_REV.ins (R.SYS_ID_CODE.ins w (if s.nv.isS then 0 else 1)) Config.dieRev
  else if off = 0x10 then R.SYS_MODE_BOOT_SLOT.ins w (bootSlot s)
  else if off = 0x68 then
    (List.range 24).foldl (fun a b => if isSet s (R.FREC_W0_VALID b) then Fld.ins ⟨0, b + 2, b + 2⟩ a 1 else a) w
  else if off = 0x270 then tamperSevs s w
  else w

/-- Two bits of CPS_SEM_OWNER (R496). -/
def ownerCode : Option Req → Nat
  | none => 0
  | some .cp0 => 1
  | some .cp1 => 2
  | some _ => 3

/-- Milliseconds left on the watchdog of a requester, with its timeout (R491, R496). -/
def remainMs (s : State) (r : Req) (timeout : Nat) : Nat :=
  if !watchdogRuns s r then 0
  else match s.cps.liveStart.find? (fun e => e.1 == r) with
    | some e => timeout - (ltNs s - e.2) / 1000000
    | none => timeout

/-- Registers of CPS. In the tile role the CP0 ring registers read zero. -/
def viewCps (s : State) (q off : Nat) (w : Word) : Word :=
  let pr := indOf s q
  if off = 0 then BitVec.ofNat 32 (pr.block * 65536 + pr.offset)
  else if off = 0x08 then BitVec.ofNat 32 ((if pr.inc then 1 else 0) + (if pr.snap.isSome then 2 else 0))
  else if off = 0x0C then BitVec.ofNat 32 (min q 2)
  else if off = 0x60 then BitVec.ofNat 32 (pendWord s 0)
  else if off = 0x64 then BitVec.ofNat 32 (pendWord s 32)
  else if 0x100 ≤ off ∧ off ≤ 0x12C ∧ !sender s then 0
  else if off = 0x140 then 0
  else if off = 0x148 then
    R.CPS_CP1_LEVEL_RPL_WORDS.ins (R.CPS_CP1_LEVEL_CMD_FREE.ins w (2048 - cp1Level s)) s.cps.cp1Rpl.length
  else if off = 0x1C0 then R.CPS_LIVE_CP0_REMAIN_MS.ins w (remainMs s .cp0 (getF s R.CPS_LIVE_CP0_TIMEOUT_MS))
  else if off = 0x1C4 then R.CPS_LIVE_CP1_REMAIN_MS.ins w (remainMs s .cp1 (getF s R.CPS_LIVE_CP1_TIMEOUT_MS))
  else if off = 0x1D0 then
    BitVec.ofNat 32 ((List.range 16).foldl (fun a i => a + ownerCode (Tab.get s.cps.sems i) * 4 ^ i) 0)
  else if 0x200 ≤ off ∧ off < 0x300 then
    Fld.ins ⟨0, 16, 16⟩ w (if pendingIrq s ((off - 0x200) / 4) then 1 else 0)
  else w

/-- Registers of ING. -/
def viewIng (s : State) (ind : Bool) (off : Nat) (w : Word) : Word :=
  let bit := fun (c : Bool) => if c then 1 else 0
  let allUp := fun (port : Nat) => let n := 2 ^ Tab.getD s.eth.cfg port 0
    decide ((Tab.get s.eth.cfg port).isSome) && (List.range n).all (fun k => s.eth.up.contains (port * 4 + k))
  if ind then
    (if 0x1000 ≤ off ∧ off < 0x2000 ∧ off % 64 = 0x34 then (R.ING_F_PD_PD_MAX_US 0).ins w (pdMax s ((off - 0x1000) / 64)) else w)
  else if off = 4 then
    let legs := (s.ing.flows.map (fun e => u8 e.2.desc 1)).sum
    R.ING_STATUS_ETH1_UP.ins (R.ING_STATUS_ETH0_UP.ins (R.ING_STATUS_NT_VALID.ins (R.ING_STATUS_LEGS_USED.ins
      (R.ING_STATUS_FLOWS_USED.ins w s.ing.flows.length) legs) (bit (ntValid s))) (bit (allUp 0))) (bit (allUp 1))
  else if off = 8 then BitVec.ofNat 32 (rateMbps s)
  else w

/-- Largest free range of the heap, in units of 256 MiB. -/
def largestFree (s : State) : Nat := min 63 (((freeRanges s.srf.heap 0).foldl (fun a r => max a r.2) 0) / 65536)

/-- Registers of SRF. -/
def viewSrf (s : State) (off : Nat) (w : Word) : Word :=
  if off = 4 then
    R.SRF_STATUS_LARGEST_FREE_256M.ins (R.SRF_STATUS_HEAP_GIB.ins (R.SRF_STATUS_UPLOAD_QUEUED.ins
      (R.SRF_STATUS_UPLOAD_BUSY.ins (R.SRF_STATUS_SURFACES.ins w ((s.srf.table.filter (fun e => e.2.alive)).length))
        (if s.srf.running then 1 else 0)) (s.srf.uploads.length - (if s.srf.running then 1 else 0)))
      (if sender s then heapUnits / 262144 else 0)) (if sender s then largestFree s else 0)
  else w

/-- Composition has boundaries: SHOW, not cut off by HOLD (R148). -/
def cmpRunning (s : State) : Bool := mode s == mShow && hasInstants s

/-- Registers of CMP and TNM. -/
def viewCmp (s : State) (off : Nat) (w : Word) : Word :=
  if off = 4 then R.CMP_STATUS_RUNNING.ins w (if cmpRunning s then 1 else 0) else w

def viewTnm (s : State) (off : Nat) (w : Word) : Word :=
  if off = 4 then
    R.TNM_STATUS_PEERS.ins w (min 255 ((s.tnm.peers.filter (fun e => decide (ltNs s ≤ e.2.at_ + 3000000000))).length))
  else w

/-- Registers of CEL. -/
def viewCel (s : State) (ind : Bool) (off : Nat) (w : Word) : Word :=
  if ind then
    (if 0x1000 ≤ off ∧ off < 0x5000 ∧ off % 64 = 0x2C then
      match Tab.get s.cel.slots ((off - 0x1000) / 64) with
      | some sl => (match sl.reportAt with
        | some t => BitVec.ofNat 32 (min 65535 ((ltNs s - t) / 1000000))
        | none => w)
      | none => w
    else w)
  else if off = 0x104 then BitVec.ofNat 32 (if sender s then 0 else tileCells s)
  else w

/-- Registers of TIM that are no latched pair. -/
def viewTim (s : State) (ind : Bool) (off : Nat) (w : Word) : Word :=
  if !ind && off == 0x5C then R.TIM_HOLD_S_SECONDS.ins w (holdSeconds s) else w

/-- Registers of THM. (DESIGN CHOICE log 16) -/
def viewThm (s : State) (ind : Bool) (off : Nat) (w : Word) : Word :=
  if ind && decide (0x2000 ≤ off) && decide (off < 0x4000) && off % 32 == 0x1C then
    match Tab.get s.thm.slots ((off - 0x2000) / 32) with
    | some g => (match g.demandAt with
      | some t => BitVec.ofNat 32 (min 4294967295 ((ltNs s - t) / 1000000))
      | none => w)
    | none => w
  else w

/-- Registers of DMK. (DESIGN CHOICE log 16) -/
def viewDmk (s : State) (ind : Bool) (off : Nat) (w : Word) : Word :=
  if !ind && off == 0x30 then
    match s.dmk.ckptDoneAt with
    | some t => BitVec.ofNat 32 (min 4294967295 ((ltNs s - t) / 1000000000))
    | none => w
  else w

/-- Registers of SEC (R464 to R466). -/
def viewSec (s : State) (ind : Bool) (off : Nat) (w : Word) : Word :=
  let bit := fun (c : Bool) => if c then 1 else 0
  let root := match s.upd.running with | some r => r.root | none => 0
  if ind then
    (if 0x1000 ≤ off ∧ off < 0x1160 ∧ off % 32 = 0 then
      let n := (off - 0x1000) / 32
      (R.SEC_T_ENABLED 0).ins ((R.SEC_T_ACTIVE 0).ins ((R.SEC_T_POLICY 0).ins w (policyOf s n)) (bit (s.sec.active.contains n)))
        (bit (n != 2 || pflag s 3))
    else w)
  else if off = 0 then
    R.SEC_STATUS_ROOT_REVOKED.ins (R.SEC_STATUS_ROOT.ins (R.SEC_STATUS_MODE_SIGNED.ins (R.SEC_STATUS_PIXEL_REQ.ins
      (R.SEC_STATUS_STRICT.ins (R.SEC_STATUS_MESH_EN.ins (R.SEC_STATUS_STORE_OK.ins (R.SEC_STATUS_RESTRICTED.ins
        (R.SEC_STATUS_OSTATE.ins w (ostate s)) (bit (restricted s))) (bit (storeOf s).isSome)) (bit (pflag s 3)))
        (bit (pflag s 0))) (bit (pflag s 1))) (bit (pflag s 2))) root) s.nv.revoked
  else if off = 0x1C then
    R.SEC_SVN_RUNNING.ins (R.SEC_SVN_FUSED.ins w s.nv.svnFuses) (match s.upd.running with | some r => r.rec_.svn | none => 0)
  else if 0x20 ≤ off ∧ off < 0x30 then BitVec.ofNat 32 (u32 (certId s) (off - 0x20))
  else if 0x30 ≤ off ∧ off < 0x40 then BitVec.ofNat 32 (if ostate s = 1 then u32 (ownerId s) (off - 0x30) else 0)
  else w

/-- The clock lane's record: only LOCK, LOS, the EQ words and LOS_CNT have meaning, and the rest reads zero (R245). -/
def clockLane (off : Nat) (w : Word) : Word :=
  match off with
  | 0x00 => BitVec.ofNat 32 (w.toNat % 4)
  | 0x38 => w
  | 0x3C => BitVec.ofNat 32 (w.toNat % 65536)
  | _ => 0

/-- Registers of Twill port p. -/
def viewTwl (s : State) (p : Nat) (ind : Bool) (off : Nat) (w : Word) : Word :=
  let bit := fun (c : Bool) => if c then 1 else 0
  if ind then
    (if 0x1000 ≤ off ∧ off < 0x1140 ∧ off % 64 = 0x34 then BitVec.ofNat 32 (eqWord s p ((off - 0x1000) / 64))
    else if 0x1100 ≤ off ∧ off < 0x1140 then clockLane (off % 64) w
    else w)
  else if off = 0x30 then (R.TWL_LL_CTRL_PIXEL_ENC p).ins w (bit (encVc0 s p))
  else if off = 0x34 then
    (R.TWL_LL_STATUS_ENC_VC0 p).ins ((R.TWL_LL_STATUS_UPSTREAM p).ins ((R.TWL_LL_STATUS_TOPO_PORT p).ins w
      (bit (if sender s then getF s (R.TWL_TOPO_KIND p) != 0 else s.twl.topo.contains p)))
      (bit (!sender s && s.twl.upstream == some p))) (bit (encVc0 s p))
  else w

/-- What a register reads as for a requester, by block and offset. A W1A field reads zero. -/
def viewWord (q b : Nat) (ind : Bool) (off : Nat) (s : State) : Word :=
  let w := regGet s (if ind then indKey b off else dirKey b off)
  if 16 ≤ b then viewTwl s (b - 16) ind off w else
  match b with
  | 0 => viewSys s off w
  | 1 => viewCps s q off w
  | 2 => if off = 0x18 then R.PCI_ID_VENDOR.ins w Config.vendorId else w
  | 5 => viewIng s ind off w
  | 6 => viewSrf s off w
  | 7 => if ind then w else viewCmp s off w
  | 8 => viewTnm s off w
  | 9 => viewCel s ind off w
  | 10 => viewTim s ind off w
  | 11 => viewThm s ind off w
  | 12 => viewDmk s ind off w
  | 14 => viewSec s ind off w
  | _ => w

/-! ### Reads through the pair (R542) -/

/-- Records read as a snapshot: block (16 for every Twill block), first offset, stride and number. -/
def snapRecords : List (Nat × Nat × Nat × Nat) :=
  [(5, 0x1000, 0x40, 64), (7, 0x1000, 0x20, 24), (9, 0x1000, 0x40, 256), (10, 0x1000, 0x40, 8), (10, 0x2000, 0x10, 16),
   (10, 0x3000, 8, 64), (10, 0x3400, 0x10, 4), (10, 0x4000, 0x40, 2), (11, 0x1000, 0x10, 56), (11, 0x1400, 0x10, 25),
   (11, 0x1800, 0x20, 4), (11, 0x2000, 0x20, 256), (11, 0x4000, 0x20, 32), (12, 0x1000, 0x10, 256), (13, 0x1000, 0x20, 64),
   (13, 0x4000, 8, 4096), (14, 0x1000, 0x20, 11), (16, 0x1000, 0x40, 5), (16, 0x2000, 0x40, 1)]

/-- The record that an offset of an indirect space lies in: its first offset and its length. -/
def snapRecord (b off : Nat) : Option (Nat × Nat) :=
  (snapRecords.find? (fun r => r.1 == min b 16 && decide (r.2.1 ≤ off) && decide (off < r.2.1 + r.2.2.1 * r.2.2.2))).map
    (fun r => (r.2.1 + (off - r.2.1) / r.2.2.1 * r.2.2.1, r.2.2.1))

/-- OFFSET after an access: 4 more with INC, and SNAP ends where OFFSET leaves the record. (DEDUCED log 13) -/
def indAdvance (q : Nat) (s : State) : State :=
  indUpd q (fun pr =>
    let o := if pr.inc then (pr.offset + 4) % 65536 else pr.offset
    { pr with offset := o
              snap := if pr.snap.any (fun x => decide (x.1 ≤ indKey pr.block o) && decide (indKey pr.block o < x.1 + 4 * x.2.length))
                then pr.snap else none }) s

/-- A read of CPS_IND_DATA (R541, R542). -/
def indRead (q : Nat) (s : State) : State × Word :=
  let pr := indOf s q
  let b := pr.block
  let size := indirectSize b
  if size = 0 then (indAdvance q (tally R.SYS_ACC_ERR_IND_BAD 0 1 0 s), 0)
  else
    let off := pr.offset % size
    if !answers s b then (indAdvance q (lockViol b q true off s), 0)
    else match snapRecord b off with
      | none => (indAdvance q s, viewWord q b true off s)
      | some (first, len) =>
        if off = first then
          let ws := (List.range (len / 4)).map (fun i => viewWord q b true (first + 4 * i) s)
          (indAdvance q (indUpd q (fun x => { x with snap := some (indKey b first, ws) }) s), ws.headD 0)
        else match pr.snap with
          | some (k, ws) =>
            (indAdvance q s, if k = indKey b first then ws.getD ((off - first) / 4) 0 else viewWord q b true off s)
          | none => (indAdvance q s, viewWord q b true off s)

/-! ### Reads of the register window -/

/-- A read of CPS_CP1_RPL (R483): the next reply word, or zero and a count. -/
def rplRead (s : State) : State × Word :=
  match s.cps.cp1Rpl with
  | [] => (tally R.CPS_CP1_ERR_UNDERFLOW 1 4 0 s, 0)
  | w :: rest => ({ s with cps := { s.cps with cp1Rpl := rest } }, w)

/-- A read of a register that answers. -/
def directRead (q b off : Nat) (s : State) : State × Word :=
  if b = 1 ∧ off = 4 then indRead q s
  else if b = 1 ∧ off = 0x144 then rplRead s
  else match (if b = 10 then pairPart off else none) with
    | some (i, part) => pairRead q i part s
    | none => (s, viewWord q b false off s)

/-- A read of an address of the register window by a requester (R531, R535): the state it leaves, and the word. -/
def regRead (q a : Nat) (s : State) : State × Word :=
  match regAddr a with
  | none => if reaches s q 1 then (tally R.SYS_ACC_ERR_UNMAPPED 0 1 0 s, 0) else (s, 0)
  | some (b, off) =>
    if !reaches s q b then (s, 0)
    else if mode s = mLockdown ∧ b ≠ 0 then (s, 0)
    else if !blockPowered (sender s) b then (lockViol b q false off s, 0)
    else directRead q b off s

/-- Consecutive words, direct or through the pair. (DEDUCED log 13) -/
def readMany (q : Nat) (ind : Bool) : Nat → Nat → State → State × List Word
  | _, 0, s => (s, [])
  | a, n + 1, s =>
    match (if ind then indRead q s else regRead q a s) with
    | (t, w) => match readMany q ind (a + 4) n t with
      | (u, ws) => (u, w :: ws)

/-- A read by a host that answers with one word; a narrow one, which would have an effect, reads zero and counts in
NARROW (R536). -/
def hostRead (q b off : Nat) (be : BitVec 4) (act : State → State × Word) (s : State) : State :=
  if !reaches s q b then send s (.readData q 0)
  else if mode s = mLockdown then send s (.readData q 0)
  else if be ≠ 15 then send (tally R.SYS_ACC_ERR_NARROW 0 1 0 s) (.readData q 0)
  else if !blockPowered (sender s) b then send (lockViol b q false off s) (.readData q 0)
  else match act s with | (t, w) => send t (.readData q w)

/-- A read of CPS_IND_DATA by CP0 or CP1 with its byte enables; a QSPI access is a whole word. -/
def execIndDataRead (q : Nat) (be : BitVec 4) (s : State) : Out :=
  .next (if inReset s then s else hostRead q 1 4 (if q = 1 then 15 else be) (indRead q) s)

/-- A read of a part of a latched pair by CP0 or CP1: the low half has an effect, the others are plain reads. -/
def execLatchedPairRead (q pair part : Nat) (be : BitVec 4) (s : State) : Out :=
  .next (if inReset s then s
    else hostRead q 10 ((pairOffs.getD (pair % 4) (0, 0, 0)).1) (if q = 1 ∨ part ≠ 0 then 15 else be)
      (pairRead q (pair % 4) (min part 2)) s)

end Sys2Proof.Machine
end

