-- ==== Sys2Proof/Machine/RegWrite.lean ====
section
/-!
DEFINITION. Register writes (R535, R536, R540 to R542, R544, R550, R551): what each register with an effect of its own
does, narrow writes, locks, and the indirect pair. A requester is 0 for CP0, 1 for CP1, 2 for a command, 3 for the
firmware, which applies the PRESET item (R516).
-/

namespace Sys2Proof.Machine

/-! ### Kinds of register (R536) -/

/-- A register has a field of a kind. -/
def hasKind (key : Nat) (p : FieldKind → Bool) : Bool :=
  match regDef key with
  | some d => d.fields.any (fun f => p f.kind)
  | none => false

/-- A side-effect register of the register window. -/
def sideEffect (b off : Nat) : Bool :=
  hasKind (dirKey b off) (fun k => k == .w1a || k == .ea) ||
    (b == 1 && (off == 0x04 || off == 0x140 || off == 0x144 || off == 0x10C || off == 0x120)) ||
    (b == 10 && (off == 0x08 || off == 0x14 || off == 0x1C || off == 0x40)) || (b == 0 && off == 0x34)

/-- A word whose enabled bytes come from `v`, the others from `old`. -/
def mergeBytes (be : BitVec 4) (old v : Word) : Word :=
  (List.range 4).foldl (fun a i => if be.getLsbD i then Fld.ins ⟨0, 8 * i + 7, 8 * i⟩ a (Fld.of ⟨0, 8 * i + 7, 8 * i⟩ v) else a) old

/-! ### Events (R544, R547) -/

/-- The interrupt source whose acknowledge lies in a register. -/
def ackSource (key : Nat) : Option Nat :=
  (idxs 56 (fun k => match irqFields k with | some (_, a) => a.reg == key | none => false)).head?

/-- A write of an EA register: the message of its vector follows where the vector is active afterwards. -/
def ackWrite (key : Nat) (v : Word) (s : State) : State :=
  let t := storeWord key v s
  match ackSource key with
  | none => t
  | some k =>
    let vec := getF t (R.CPS_IRQ_ROUTE_VECTOR k)
    if isSet t (R.CPS_IRQ_ROUTE_MSIX_EN k) && vecActive t vec then sendVector vec t else t

/-! ### SYS -/

/-- A write of SYS_CFG_LOCK: the first stores and locks, later ones are lock violations (R7, R550). (DEDUCED log 14) -/
def cfgLockWrite (q : Nat) (v : Word) (s : State) : State :=
  if s.sys.cfgLocked ≠ 0 then lockViol 0 q false 0x08 s
  else
    { regPut s R.SYS_CFG_LOCK (BitVec.ofNat 32 (v.toNat % 8)) with sys := { s.sys with cfgLocked := 7 } }

/-- Registers that SYS_CFG_LOCK.GPIO locks (Table 17.8). (DEDUCED log 14) -/
def gpioLocked (off : Nat) : Bool :=
  off == 0x40 || off == 0x44 || off == 0x48 || off == 0x50 || off == 0x54 || off == 0x60

/-- A write of SYS_GPIO_OUT (R551): a pulse ends on a pin whose bit changes. (DEDUCED log 14) -/
def gpioOutWrite (v : Word) (s : State) : State :=
  let old := getF s R.SYS_GPIO_OUT_OUT
  let new := v.toNat % 16777216
  setF { s with sys := { s.sys with pulses := s.sys.pulses.filter (fun g => old.testBit g == new.testBit g) } }
    R.SYS_GPIO_OUT_OUT new

/-- A write of SYS_LOAD (R511, R531): LEN can be written in BOOT with BOOT_SRC 0b10 in the sender role, and starts the
verification of the bundle in the load area. (DESIGN CHOICE log 15) -/
def sysLoadWrite (v : Word) (s : State) : State :=
  if mode s != mBoot || !sender s || getF s R.SYS_MODE_BOOT_SRC != 2 || s.upd.chosen.isSome then s
  else
    let n := R.SYS_LOAD_LEN.of v
    let s1 := setF s R.SYS_LOAD_LEN n
    if 50331648 < n then setF s1 R.SYS_LOAD_STAT 2
    else match loadBundle (memRead s1 loadMem n) false s1 with
      | (good, t) => setF t R.SYS_LOAD_STAT (if good then 3 else 2)

/-- A write of a severity register (R557, R558): in SERVICE, or from the PRESET item. (DEDUCED log 14) -/
def sevWrite (q off : Nat) (v : Word) (s : State) : State :=
  if !hasKind (dirKey 0 off) (· == .rw) then s
  else if mode s = mService ∨ q = 3 then storeWord (dirKey 0 off) v s
  else lockViol 0 q false off s

/-- A write of CLEAR empties the record of block b; LOST is kept (R561). -/
def frecClear (b : Nat) (s : State) : State :=
  let z := fun (a : State) k => regPut a k 0
  z (z (z (z (z (z s (R.FREC_W0 b)) (R.FREC_LT_LO b)) (R.FREC_LT_HI b)) (R.FREC_WT_LO b)) (R.FREC_WT_HI b)) (R.FREC_INFO b)

/-- Registers of SYS. -/
def writeSys (q off : Nat) (v : Word) (s : State) : State :=
  if off = 0x08 then cfgLockWrite q v s
  else if off = 0x34 then sysLoadWrite v s
  else if gpioLocked off ∧ isSet s R.SYS_CFG_LOCK_GPIO then lockViol 0 q false off s
  else if off = 0x44 then gpioOutWrite v s
  else if 0x200 ≤ off ∧ off < 0x2C0 then sevWrite q off v s
  else if 0x400 ≤ off ∧ off < 0x700 ∧ off % 32 = 0x1C then (if v.toNat % 2 = 1 then frecClear ((off - 0x400) / 32) s else s)
  else storeWord (dirKey 0 off) v s

/-! ### CPS and PCI -/

/-- A write of CPS_IND_ADDR (R541, R542). -/
def indAddrWrite (q : Nat) (v : Word) (s : State) : State :=
  indUpd q (fun pr => { pr with block := wbits v 16 5, offset := wbits v 0 16 / 4 * 4, snap := none }) s

/-- A write of CPS_IRQ_ROUTE of source k: the vectors that become active send their messages. -/
def routeWrite (q k : Nat) (v : Word) (s : State) : State :=
  if isSet s R.SYS_CFG_LOCK_IRQ then lockViol 1 q false (0x200 + 4 * k) s
  else vecEdges s (storeWord (dirKey 1 (0x200 + 4 * k)) v s)

/-- The link retrains (R554): its training state is Recovery until PCIE_LINK_UP ends it. -/
def retrain (s : State) : State := if isSet s R.PCI_STATUS_LINK_UP then setF s R.PCI_STATUS_LTSSM 4 else s

/-- A write of PCI_CTRL. -/
def pciCtrlWrite (q : Nat) (v : Word) (s : State) : State :=
  if isSet s R.SYS_CFG_LOCK_PCI then lockViol 2 q false 4 s
  else
    let t := storeWord R.PCI_CTRL v s
    if R.PCI_CTRL_RETRAIN.of v = 1 then retrain t else t

/-- A write of a vector control word: a vector unmasked while its pending bit is set sends its message (R547). -/
def vctrlWrite (n : Nat) (v : Word) (s : State) : State :=
  let t := storeWord (R.MSIX_VCTRL n) v s
  if msixOn t && !isSet t (R.MSIX_VCTRL_MASK n) && (getF t R.MSIX_PBA_PEND).testBit n then
    send (setF t R.MSIX_PBA_PEND (getF t R.MSIX_PBA_PEND - 2 ^ n)) (.msix n)
  else t

/-- Registers of PCI. -/
def writePci (q off : Nat) (v : Word) (s : State) : State :=
  if off = 4 then pciCtrlWrite q v s
  else if 0x2000 ≤ off ∧ off < 0x2200 ∧ off % 16 = 0x0C then vctrlWrite ((off - 0x2000) / 16) v s
  else storeWord (dirKey 2 off) v s

/-! ### TIM and Twill -/

/-- A write of a trigger record's control word (R310, R324): DISARM wins over ARM, and PULSE 0 is stored as 1. -/
def trigWrite (k : Nat) (v : Word) (s : State) : State :=
  let t := storeWord (R.TRIG_CTL k) v s
  let t1 := if getF t (R.TRIG_CTL_PULSE k) = 0 then setF t (R.TRIG_CTL_PULSE k) 1 else t
  if (R.TRIG_CTL_DISARM k).of v = 1 then setF t1 (R.TRIG_CTL_ARMED k) 0
  else if (R.TRIG_CTL_ARM k).of v = 1 then (triggerArm k t1).1
  else t1

/-- Registers of TIM. -/
def writeTim (off : Nat) (v : Word) (s : State) : State :=
  let t := storeWord (dirKey 10 off) v s
  if off = 0 then timCtrlChanged s t
  else if off = 0x24 then (if v.toNat % 2 = 1 then timSnap s else s)
  else if off = 0x5C then holdLongUpdate t
  else t

/-- Registers of Twill port p. -/
def writeTwl (q p off : Nat) (v : Word) (s : State) : State :=
  match off with
  | 0x00 => phyCtrlWrite p v s
  | 0x10 => calCmdWrite p v s
  | 0x20 => testCtrlWrite q p v s
  | 0x44 => stepCmdWrite p v s
  | _ => storeWord (dirKey (16 + p) off) v s

/-- Words of a Twill port's lane records. -/
def writeLane (q p off : Nat) (v : Word) (s : State) : State :=
  let l := (off - 0x1000) / 64
  if 0x1000 ≤ off ∧ off < 0x1140 then
    match off % 64 with
    | 0x04 => parkReqWrite q p l v s
    | 0x08 => injWrite q p l v s
    | 0x38 => eqOverrideWrite q p l v s
    | _ => if l < 4 then storeWord (indKey (16 + p) off) v s else s
  else storeWord (indKey (16 + p) off) v s

/-! ### The pair and the window -/

/-- A write to a word of an indirect space that answers. -/
def indirectWrite (q b off : Nat) (v : Word) (s : State) : State :=
  if 16 ≤ b then writeLane q (b - 16) off v s
  else if b = 10 ∧ 0x2000 ≤ off ∧ off < 0x2100 ∧ off % 16 = 4 then trigWrite ((off - 0x2000) / 16) v s
  else storeWord (indKey b off) v s

/-- A write through CPS_IND_DATA (R541, R542). -/
def indWrite (q : Nat) (v : Word) (s : State) : State :=
  let pr := indOf s q
  let clear := fun (a : State) => indAdvance q (indUpd q (fun x => { x with snap := none }) a)
  let size := indirectSize pr.block
  if size = 0 then clear (tally R.SYS_ACC_ERR_IND_BAD 0 1 0 s)
  else
    let off := pr.offset % size
    clear (access q pr.block true off (indirectWrite q pr.block off v) s)

/-- Registers of CPS. A tile ignores the registers of the CP0 rings (R482). -/
def writeCps (q off : Nat) (v : Word) (s : State) : State :=
  if off = 0 then indAddrWrite q v s
  else if off = 4 then indWrite q v s
  else if off = 8 then indUpd q (fun pr => { pr with inc := v.toNat % 2 == 1 }) s
  else if 0x100 ≤ off ∧ off ≤ 0x12C ∧ !sender s then s
  else if off = 0x108 then ringEnable false v s
  else if off = 0x10C then setF s R.CPS_CQ_TAIL_TAIL (v.toNat % 1024 % ringSize s.cps.cqLog)
  else if off = 0x11C then ringEnable true v s
  else if off = 0x140 then cp1Push v s
  else if off = 0x144 then s
  else if off = 0x14C then
    let t := storeWord R.CPS_CP1_CTRL v s
    if R.CPS_CP1_CTRL_FLUSH.of v = 1 then cp1Flush t else t
  else if 0x200 ≤ off ∧ off < 0x300 then routeWrite q ((off - 0x200) / 4) v s
  else storeWord (dirKey 1 off) v s

/-- A write of a whole word to a register that the requester reaches and that answers. -/
def directWrite (q b off : Nat) (v : Word) (s : State) : State :=
  if hasKind (dirKey b off) (· == .ea) && !(b == 1 && off == 0x12C && !sender s) then ackWrite (dirKey b off) v s
  else if 16 ≤ b then writeTwl q (b - 16) off v s
  else match b with
  | 0 => writeSys q off v s
  | 1 => writeCps q off v s
  | 2 => writePci q off v s
  | 7 => if off = 0x18 then (if R.CMP_PASS_MAX_CLEAR.of v = 1 then setF s R.CMP_PASS_MAX_MAX 0 else s)
         else storeWord (dirKey 7 off) v s
  | 9 =>
    let t := storeWord (dirKey 9 off) v s
    if off = 0 ∧ R.CEL_CTRL_FORCE_FULL.of v = 1 ∧ sender s then forceFull t else t
  | 10 => writeTim off v s
  | 12 => if off = 8 then ageCtrlWrite q v s else storeWord (dirKey 12 off) v s
  | 13 => if off = 0 then strCtrlWrite q v s else storeWord (dirKey 13 off) v s
  | _ => storeWord (dirKey b off) v s

/-- A write with byte enables (R536): narrow to a side-effect register, it is ignored and counted. SYS_CFG_LOCK has its
fields in byte 0 alone. -/
def byteWrite (q b off : Nat) (v : Word) (be : BitVec 4) (s : State) : State :=
  if be = 15 then directWrite q b off v s
  else if sideEffect b off then tally R.SYS_ACC_ERR_NARROW 0 1 0 s
  else if be = 0 ∨ (b = 0 ∧ off = 0x08 ∧ be.getLsbD 0 = false) then s
  else
    let old := if b = 1 ∧ off < 0x10 then viewWord q b false off s else regGet s (dirKey b off)
    directWrite q b off (mergeBytes be old v) s

/-- A write to an address of the register window (R531, R535, R540). Only PCIe writes are narrow. -/
def regWrite (q a : Nat) (v : Word) (be : BitVec 4) (s : State) : State :=
  if q ≠ 0 ∧ be ≠ 15 then s
  else match regAddr a with
  | none => if reaches s q 1 then tally R.SYS_ACC_ERR_UNMAPPED 0 1 0 s else s
  | some (b, off) => access q b false off (byteWrite q b off v be) s

/-- Consecutive words, direct or through the pair. (DEDUCED log 13) -/
def writeMany (q : Nat) (ind : Bool) : Nat → List Word → State → State
  | _, [], s => s
  | a, v :: vs, s => writeMany q ind (a + 4) vs (if ind then indWrite q v s else regWrite q a v 15 s)

/-! ### The commands -/

/-- A write of CPS_IND_ADDR by a host. -/
def execIndAddrWrite (q : Nat) (v : Word) (s : State) : Out := .next (access q 1 false 0 (indAddrWrite q v) s)

/-- A write through CPS_IND_DATA by a host. -/
def execIndDataWrite (q : Nat) (v : Word) (s : State) : Out := .next (access q 1 false 4 (indWrite q v) s)

/-- A write to an EA field. -/
def execEventAcknowledge (q addr : Nat) (v : Word) (s : State) : Out :=
  .next (match regAddr addr with
    | some (b, off) => if hasKind (dirKey b off) (· == .ea) then access q b false off (ackWrite (dirKey b off) v) s else s
    | none => s)

/-- A write of SYS_CFG_LOCK. -/
def execCfgLockWrite (q : Nat) (v : Word) (s : State) : Out := .next (access q 0 false 8 (cfgLockWrite q v) s)

/-- A write of SYS_GPIO_OUT. -/
def execGpioOutWrite (q : Nat) (v : Word) (s : State) : Out := .next (access q 0 false 0x44 (writeSys q 0x44 v) s)

/-- A write of SYS_LOAD. -/
def execSysLoadWrite (q : Nat) (v : Word) (s : State) : Out := .next (access q 0 false 0x34 (sysLoadWrite v) s)

/-- A write of ARM to trigger unit u. -/
def execTriggerArmWrite (q u : Nat) (v : Word) (s : State) : Out :=
  .next (if u < 16 then access q 10 true (0x2004 + 16 * u) (trigWrite u v) s else s)

/-- A write of DISARM to trigger unit u. -/
def execTriggerDisarmWrite (q u : Nat) (v : Word) (s : State) : Out :=
  .next (if u < 16 then access q 10 true (0x2004 + 16 * u) (trigWrite u v) s else s)

/-- A write of PCI_CTRL with RETRAIN. -/
def execPciRetrain (q : Nat) (v : Word) (s : State) : Out := .next (access q 2 false 4 (pciCtrlWrite q v) s)

/-- A write of CLEAR to the record of block b. -/
def execFaultRecordClear (q b : Nat) (v : Word) (s : State) : Out :=
  .next (if b < 24 then access q 0 false (0x41C + 32 * b) (writeSys q (0x41C + 32 * b) v) s else s)

/-- A write to a register of the window, with its byte enables. -/
def execRegisterWrite (q addr : Nat) (v : Word) (be : BitVec 4) (s : State) : Out := .next (regWrite q addr v be s)

end Sys2Proof.Machine
end

