-- ==== Sys2Proof/Machine/Basic.lean ====
section
/-!
DEFINITION. Commands of areas 0x00 and 0x01 and of reading faults (R474, R477, R490 to R493, R543, R564): information,
registers, semaphores with their liveness watchdogs, export windows and groups.
-/

namespace Sys2Proof.Machine

/-! ### Information and registers -/

/-- The result of get-info (R493). -/
def infoBytes (s : State) : List Byte :=
  let e := match s.upd.running with | some r => r.rec_ | none => SlotRec.empty
  [0x96] ++ leBytes 1 (if s.nv.isS then 0 else 1) ++ leBytes 1 (if sender s then 1 else 0) ++ leBytes 1 (mode s) ++
    leBytes 2 s.cps.devnum ++ leBytes 2 e.cfs ++ leBytes 1 e.tpl ++ leBytes 1 e.csl ++ zeros 2 ++ leBytes 4 e.fw ++
    (certId s).take 16

/-- `get-info`. -/
def execGetInfo (k : Pkt) (s : State) : Out := .next (plain k (fun t => .ok t (infoBytes t)) s)

/-- `get-status`: the registers as a command reads them. -/
def execGetStatus (k : Pkt) (s : State) : Out :=
  .next (plain k (fun t =>
    let w := fun (b off : Nat) => leBytes 4 (viewWord 2 b false off t).toNat
    .ok t (w 0 0x10 ++ w 0 0x14 ++ w 11 4 ++ w 10 4 ++ (if sender t then w 9 4 else w 9 0x100) ++
      (if sender t then zeros 4 else w 12 4))) s)

/-- MODE 1 sets the firmware's pair, with INC (R543). -/
def firmwarePair (ind : Bool) (a : Nat) (s : State) : State :=
  if ind then indUpd 2 (fun pr => { pr with inc := true }) (indAddrWrite 2 (BitVec.ofNat 32 a) s) else s

/-- `read-regs` (R543). -/
def execReadRegs (k : Pkt) (s : State) : Out :=
  .next (plain k (fun t =>
    let n := k.p16 4
    if n = 0 ∨ 1020 < n ∨ 1 < k.p8 6 ∨ !parZero k 7 1 then .err St.badParam
    else match readMany 2 (k.p8 6 == 1) (k.p32 0) n (firmwarePair (k.p8 6 == 1) (k.p32 0) t) with
      | (u, ws) => .ok u (wordBytes ws)) s)

/-- `write-regs` (R543). -/
def execWriteRegs (k : Pkt) (s : State) : Out :=
  .next (plain k (fun t =>
    let n := k.p16 4
    if n = 0 ∨ 1018 < n ∨ 1 < k.p8 6 ∨ !parZero k 7 1 then .err St.badParam
    else
      let vs := (List.range n).map (fun i => BitVec.ofNat 32 (k.p32 (8 + 4 * i)))
      .ok (writeMany 2 (k.p8 6 == 1) (k.p32 0) vs (firmwarePair (k.p8 6 == 1) (k.p32 0) t)) []) s)

/-- `ping`. -/
def execPing (k : Pkt) (s : State) : Out := .next (plain k (fun t => .ok t k.par) s)

/-! ### Semaphores (R490) -/

/-- A requester comes to hold or to wait: its watchdog starts at its full timeout, unless it runs (R491). -/
def startWatch (r : Req) (old s : State) : State := if watchdogRuns old r then s else restartWatchdog r s

/-- A watchdog with nothing to watch stops. -/
def stopWatch (r : Req) (s : State) : State :=
  if watchdogRuns s r then s else { s with cps := { s.cps with liveStart := s.cps.liveStart.filter (fun e => e.1 != r) } }

/-- Gives a semaphore to a requester. -/
def semGive (n : Nat) (r : Req) (s : State) : State :=
  startWatch r s { s with cps := { s.cps with sems := Tab.put s.cps.sems n r } }

/-- Serves the waits for a free semaphore in arrival order: the first is granted, with any other of its requester. -/
def semServe (n : Nat) (s : State) : State :=
  match s.cps.semWaits.find? (fun w => w.sem == n) with
  | none => s
  | some w =>
    let r := w.pkt.req
    let mine := s.cps.semWaits.filter (fun x => x.sem == n && x.pkt.req == r)
    let s1 := semGive n r s
    let s2 := { s1 with cps := { s1.cps with semWaits := s1.cps.semWaits.filter (fun x => !(x.sem == n && x.pkt.req == r)) } }
    mine.foldl (fun a x => finish x.pkt St.ok [] a) s2

/-- A requester lets go of a semaphore: SERVICE ends with SEM3, and a waiting request is served. -/
def semFree (n : Nat) (s : State) : State :=
  let s1 := { s with cps := { s.cps with sems := Tab.del s.cps.sems n } }
  semServe n (if n = 3 then endService s1 else s1)

/-- `sem-acquire`. (DEDUCED log 21) -/
def execSemAcquire (k : Pkt) (s : State) : Out :=
  .next (plain k (fun t =>
    let n := k.p8 0
    if 16 ≤ n ∨ !parZero k 1 1 ∨ 1000 < k.p16 2 then .err St.badParam
    else match Tab.get t.cps.sems n with
      | none => .ok (semGive n k.req t) []
      | some r =>
        if r = k.req then .ok t []
        else if k.p16 2 = 0 then .err St.held
        else .later (startWatch k.req t { t with cps := { t.cps with semWaits := t.cps.semWaits ++ [{ sem := n, pkt := k }] } })) s)

/-- A waiting acquire reaches WAIT_MS. (DESIGN CHOICE log 3) -/
def execSemWaitExpiry (k : Pkt) (s : State) : Out :=
  .next (if running s && s.cps.semWaits.any (fun w => w.pkt == k) then
      finish k St.held [] (stopWatch k.req { s with cps := { s.cps with semWaits := s.cps.semWaits.filter (fun w => w.pkt != k) } })
    else s)

/-- `sem-release`. -/
def execSemRelease (k : Pkt) (s : State) : Out :=
  .next (plain k (fun t =>
    if 16 ≤ k.p8 0 ∨ !parZero k 1 3 then .err St.badParam
    else if !holds t k.req (k.p8 0) then .err St.notHeld
    else .ok (stopWatch k.req (semFree (k.p8 0) t)) []) s)

/-- The word of sem-status for a holder. -/
def semWord : Option Req → Nat
  | none => 0xFFF0000
  | some .cp0 => 0xFFF0001
  | some .cp1 => 0xFFF0002
  | some (.vc1 src o) => src % 4096 * 65536 + (if o then 4 else 0) + 3
  | some .muslin => 0xFFF0000

/-- `sem-status`. -/
def execSemStatus (k : Pkt) (s : State) : Out :=
  .next (plain k (fun t => .ok t ((List.range 16).map (fun n => leBytes 4 (semWord (Tab.get t.cps.sems n)))).flatten) s)

/-! ### Liveness (R491, R492) -/

/-- Gives the requester's watchdog a timeout. In the tile role every VC1 requester writes CPS_LIVE_CP0. -/
def livenessSet (r : Req) (b : List Byte) (s : State) : Except Nat State :=
  let ms := u16 b 0
  if ms < 100 ∨ 60000 < ms ∨ !zeroAt b 2 2 then .error St.badParam
  else match r with
    | .cp1 => .ok (setItem 0x0003 1 b (setF s R.CPS_LIVE_CP1_TIMEOUT_MS ms))
    | .cp0 => .ok (setItem 0x0003 0 b (setF s R.CPS_LIVE_CP0_TIMEOUT_MS ms))
    | _ =>
      if sender s then .ok { s with cps := { s.cps with live := (r, ms) :: s.cps.live.filter (fun e => e.1 != r) } }
      else .ok (setItem 0x0003 0 b (setF s R.CPS_LIVE_CP0_TIMEOUT_MS ms))

/-- `set-liveness`. -/
def execSetLiveness (k : Pkt) (s : State) : Out := .next (plain k (fun t => resOf (livenessSet k.req k.par t)) s)

/-- A watchdog expires: semaphores are released, waits end with HELD, and the expiry counts. -/
def watchdogEnds (r : Req) (s : State) : State :=
  let waits := s.cps.semWaits.filter (fun w => w.pkt.req == r)
  let s1 := { s with cps := { s.cps with semWaits := s.cps.semWaits.filter (fun w => w.pkt.req != r) } }
  let s2 := (idxs 16 (fun n => holds s r n)).foldl (fun a n => semFree n a) s1
  let s3 := waits.foldl (fun a w => finish w.pkt St.held [] a) s2
  stopWatch r (tally (if r = .cp1 then R.CPS_LIVE_EXP_CP1 else R.CPS_LIVE_EXP_CP0) 1 2 0 s3)

/-- A requester's watchdog expires. (DESIGN CHOICE log 3) -/
def execLivenessExpiry (r : Req) (s : State) : Out :=
  .next (if running s && watchdogRuns s r then watchdogEnds r s else s)

/-! ### Export windows (R474) -/

/-- The device number an access comes from: the VC1 source, or this device for its own hosts. -/
def accessor (s : State) (r : Req) : Nat := match r with | .vc1 src _ => src | _ => s.cps.devnum

/-- The window that serves an access, if one does. -/
def exportFor (s : State) (k : Pkt) (right : Nat) : Option Export :=
  match Tab.get s.cps.exports (k.p16 0) with
  | some w =>
    if (w.allow == 0xFFF || w.allow == accessor s k.req) && w.rights.testBit right && decide (k.p64 4 + k.p32 12 ≤ w.len) then
      some w else none
  | none => none

/-- The parameters of a remote access are in range. -/
def remoteOk (k : Pkt) : Bool := parZero k 2 2 && decide (1 ≤ k.p32 12) && decide (k.p32 12 ≤ 4064)

/-- `read-remote`: `f` is what host memory returned. (DEDUCED log 22) -/
def execReadRemote (k : Pkt) (f : Fetch) (s : State) : Out :=
  .next (plain k (fun t =>
    if !remoteOk k then .err St.badParam
    else match exportFor t k 0 with
      | none => .err St.notExported
      | some w =>
        if w.space = 1 then .ok t (memRead t (stageMem w.buf + w.base + k.p64 4) (k.p32 12))
        else if !isSet t R.PCI_STATUS_LINK_UP then .err St.dmaError
        else match f with
          | .data b => .ok t (b.take (k.p32 12))
          | _ => .err St.dmaError) s)

/-- `write-remote`: `f` is the outcome of the write to host memory. (DEDUCED log 22) -/
def execWriteRemote (k : Pkt) (f : Fetch) (s : State) : Out :=
  .next (plain k (fun t =>
    if !remoteOk k then .err St.badParam
    else match exportFor t k 1 with
      | none => .err St.notExported
      | some w =>
        let data := sub k.par 16 (k.p32 12)
        if w.space = 1 then .ok (memWrite t (stageMem w.buf + w.base + k.p64 4) data) []
        else if !isSet t R.PCI_STATUS_LINK_UP then .err St.dmaError
        else match f with
          | .data _ => .ok (send t (.hostWrite (w.base + k.p64 4) data)) []
          | _ => .err St.dmaError) s)

/-- `open-export`. (DEDUCED log 22) -/
def execOpenExport (k : Pkt) (s : State) : Out :=
  .next (plain k (fun t =>
    let sp := k.p8 1
    if 16 ≤ k.p8 0 ∨ 1 < sp ∨ 3 < k.p8 2 ∨ 0xFFF < k.p16 4 ∨ k.p16 6 = 0 then .err St.badParam
    else if sp = 1 ∧ (1 < k.p8 3 ∨ (!sender t ∧ k.p8 3 = 0) ∨ 134217728 < k.p64 8 + k.p64 16) then .err St.badParam
    else
      let w : Export := { space := sp, buf := k.p8 3, rights := k.p8 2, allow := k.p16 4, base := k.p64 8, len := k.p64 16 }
      .ok { t with cps := { t.cps with exports := Tab.put t.cps.exports (k.p8 0) w } } []) s)

/-- An export window reaches the end of LIFE_S. -/
def execExportWindowExpiry (w : Nat) (s : State) : Out :=
  .next (if running s then { s with cps := { s.cps with exports := Tab.del s.cps.exports w } } else s)

/-- `close-export`. -/
def execCloseExport (k : Pkt) (s : State) : Out :=
  .next (plain k (fun t =>
    if 16 ≤ k.p8 0 ∨ !parZero k 1 3 then .err St.badParam
    else .ok { t with cps := { t.cps with exports := Tab.del t.cps.exports (k.p8 0) } } []) s)

/-! ### Groups (R477) -/

/-- Sets the group mask. -/
def groupsSet (b : List Byte) (s : State) : Except Nat State :=
  .ok (setItem 0x0002 0 b { s with cps := { s.cps with groups := BitVec.ofNat 32 (u32 b 0) } })

/-- `set-groups`. -/
def execSetGroups (k : Pkt) (s : State) : Out := .next (plain k (fun t => resOf (groupsSet k.par t)) s)

/-! ### First-fault records (R564) -/

/-- The 32 bytes of a block's record, or of its snapshot; zeros for a block powered down in the role. -/
def recordBytes (s : State) (snap : Bool) (b : Nat) : List Byte :=
  if !blockPowered (sender s) b then zeros 32
  else ((List.range 8).map (fun i =>
    leBytes 4 (regGet s (dirKey 0 ((if snap then 0x800 else 0x400) + 32 * b + 4 * i))).toNat)).flatten

/-- The result of read-faults for its parameters. -/
def faultBytes (s : State) (b : List Byte) : Except Nat (List Byte) :=
  if (24 ≤ u8 b 0 ∧ u8 b 0 ≠ 0xFF) ∨ 1 < u8 b 1 ∨ !zeroAt b 2 2 then .error St.badParam
  else if u8 b 0 = 0xFF then .ok ((List.range 24).map (recordBytes s (u8 b 1 == 1))).flatten
  else .ok (recordBytes s (u8 b 1 == 1) (u8 b 0))

/-- `read-faults`. -/
def execReadFaults (k : Pkt) (s : State) : Out :=
  .next (plain k (fun t => match faultBytes t k.par with | .ok d => .ok t d | .error e => .err e) s)

end Sys2Proof.Machine
end

