-- ==== Sys2Proof/Machine/Items.lean ====
section
/-!
DEFINITION. The configuration store (R512 to R518): items and the commands that set them, generations, the load at boot,
and the commands config-set, config-get, config-commit and config-revert.
-/

namespace Sys2Proof.Machine

/-! ### Items (Table 16.6) -/

/-- Opcode of the command that sets an item. -/
def itemOp (item : Nat) : Option Nat :=
  match item with
  | 0x0001 => some 0x0D00
  | 0x0002 => some 0x0109
  | 0x0003 => some 0x0104
  | 0x0010 => some 0x0200
  | 0x0011 => some 0x0201
  | 0x0012 => some 0x0800
  | 0x0020 => some 0x0601
  | 0x0021 => some 0x0500
  | 0x0022 => some 0x0B00
  | 0x0023 => some 0x0B01
  | 0x0024 => some 0x0801
  | 0x0030 => some 0x0505
  | 0x0031 => some 0x0B02
  | 0x0032 => some 0x0B04
  | 0x0033 => some 0x0B05
  | 0x0034 => some 0x0B06
  | 0x0035 => some 0x0A00
  | 0x0040 => some 0x0D00
  | _ => none

/-- Number of INST values of an item. -/
def itemInsts (item : Nat) : Nat :=
  match item with
  | 0x0003 => 2
  | 0x0010 => 2
  | 0x0011 => 8
  | 0x0012 => 2
  | 0x0022 => 32
  | 0x0023 => 33
  | 0x0032 => 4
  | 0x0033 => 8
  | 0x0034 => 25
  | _ => 1

/-- ITEM and INST name an item of Table 16.6. -/
def itemKnown (item inst : Nat) : Bool := (itemOp item).isSome && decide (inst < itemInsts item)

/-- An item that the device's role has. -/
def itemInRole (snd : Bool) (item : Nat) : Bool :=
  if item = 1 then snd
  else match (itemOp item).bind opInfo with
    | some i => i.role == 0 || (i.role == 1) == snd
    | none => false

/-- The size of an item's data is what Table 16.6 gives. -/
def itemSizeOk (item : Nat) (d : List Byte) : Bool :=
  if item = 0x0001 then d.length == 4
  else if item = 0x0040 then decide (u32 d 0 ≤ 256) && d.length == 4 + 8 * u32 d 0
  else if item = 0x0020 then decide (128 ≤ d.length) && (d.length - 128) % 32 == 0
  else match itemOp item with
    | some op => d.length == parLen op d
    | none => false

/-! ### Applying items (R515, R516) -/

/-- One pair of the PRESET item: a write of a register with an RW field, else counted (R516). -/
def presetPair (a v : Nat) (s : State) : State :=
  match regAddr a with
  | some (b, off) =>
    if answers s b && hasKind (dirKey b off) (· == .rw) then regWrite 3 a (BitVec.ofNat 32 v) 15 s
    else tally R.UPD_CFG_SKIP_N 15 4 0 s
  | none => tally R.UPD_CFG_SKIP_N 15 4 0 s

/-- The writes of a PRESET item. (DEDUCED log 24) -/
def presetApply (d : List Byte) (s : State) : State :=
  (List.range (min (u32 d 0) 256)).foldl (fun a i => presetPair (u32 d (4 + 8 * i)) (u32 d (8 + 8 * i)) a) s

/-- An option as a setting's result. -/
def orBad (o : Option State) : Except Nat State := match o with | some s => .ok s | none => .error St.badParam

/-- The running value of an item through the rules of its command. (DEDUCED log 24) -/
def itemSet (x : Item) (s : State) : Except Nat State :=
  let d := x.data
  match x.item with
  | 0x0001 => if u32 d 0 < 4095 then .ok (setItem 1 0 d s) else .error St.badParam
  | 0x0002 => groupsSet d s
  | 0x0003 => livenessSet (if x.inst = 1 then .cp1 else .cp0) d s
  | 0x0010 => ethPortSet d s
  | 0x0011 => addressSet d s
  | 0x0012 => ptpSet d s
  | 0x0020 => orBad ((mapCommit d s).map Prod.snd)
  | 0x0021 => wallSet d s
  | 0x0022 => feedSet d s
  | 0x0023 => orBad (curveSet d s)
  | 0x0024 => cadenceApply d s
  | 0x0030 => ambientSet d s
  | 0x0031 => orBad (suppliesSet d s)
  | 0x0032 => orBad (diodeSet d s)
  | 0x0033 => orBad (amonSet d s)
  | 0x0034 => orBad (thresholdSet d s)
  | 0x0035 => geometrySet d s
  | 0x0040 => .ok (setItem 0x0040 0 d (presetApply d s))
  | _ => .error St.badParam

/-- Applies an item in a mode; one that its command refuses is counted and skipped. -/
def itemApply (m : Nat) (x : Item) (s : State) : State :=
  let skip := tally R.UPD_CFG_SKIP_N 15 4 0 s
  match (itemOp x.item).bind opInfo with
  | none => skip
  | some i =>
    if !itemInRole (sender s) x.item || !itemSizeOk x.item x.data || !modeAccepts m i then skip
    else match itemSet x s with
      | .ok t => t
      | .error _ => skip

/-- PRESET, then every other item in ascending order of ITEM and INST (R516). -/
def itemOrder (l : List Item) : List Item :=
  let sorted := l.foldl itemsPut []
  sorted.filter (fun x => x.item == 0x0040) ++ sorted.filter (fun x => x.item != 0x0040)

/-- Applies items in order. (DEDUCED log 24) -/
def itemsApply (m : Nat) (l : List Item) (s : State) : State := (itemOrder l).foldl (fun a x => itemApply m x a) s

/-! ### Generations (R512) -/

/-- Serial order of GEN. -/
def genAfter (a b : Nat) : Bool := (a + 4294967296 - b) % 4294967296 != 0 && decide ((a + 4294967296 - b) % 4294967296 < 2147483648)

/-- The valid generations with their slots: those of the effective role. -/
def validGens (s : State) : List (Nat × Gen) := s.nv.gens.filter (fun e => (e.2.role == 1) == sender s)

/-- The newest of some generations. -/
def newestGen (l : List (Nat × Gen)) : Option (Nat × Gen) :=
  l.foldl (fun a e => match a with
    | none => some e
    | some b => if genAfter e.2.gen b.2.gen then some e else a) none

/-- The current generation. -/
def currentGen (s : State) : Option (Nat × Gen) := newestGen (validGens s)

/-- The previous generation: the newest valid one but the current. -/
def previousGen (s : State) : Option (Nat × Gen) :=
  match currentGen s with
  | none => none
  | some c => newestGen ((validGens s).filter (fun e => e.1 != c.1))

/-- GEN of a generation, zero for none. -/
def genNum (g : Option (Nat × Gen)) : Nat := match g with | some e => e.2.gen | none => 0

/-- UPD_CFG_GEN and UPD_CFG_PREV follow the store. -/
def syncGens (s : State) : State :=
  setF (setF s R.UPD_CFG_GEN_GEN (genNum (currentGen s))) R.UPD_CFG_PREV_GEN (genNum (previousGen s))

/-- Schemas that the running firmware reads: CFS_READ_MIN to CFS. -/
def cfsReads (s : State) (cfs : Nat) : Bool :=
  match s.upd.running with
  | some r => decide (r.rec_.cfsMin ≤ cfs) && decide (cfs ≤ r.rec_.cfs)
  | none => false

/-- CFS of the running firmware. -/
def ownCfs (s : State) : Nat := match s.upd.running with | some r => r.rec_.cfs | none => 0

/-- The newest valid generation that the running firmware reads (R516). -/
def readableGen (s : State) : Option (Nat × Gen) := newestGen ((validGens s).filter (fun e => cfsReads s e.2.cfs))

/-- No generation is readable though valid ones exist (R507). -/
def settingsLost (s : State) : Bool := (readableGen s).isNone && !(validGens s).isEmpty

/-- Loads the configuration at boot (R516, R517); commands judge the mode as STANDBY. The strand geometry waits for the
module's layers. (DEDUCED log 24) -/
def configLoad (s0 : State) : State :=
  let s := syncGens s0
  match readableGen s with
  | some e =>
    let s1 := if (currentGen s).any (fun c => c.1 != e.1) then setLevel 17 R.UPD_STATUS_CFG_FALLBACK 1 s else s
    itemsApply mStandby (e.2.items.filter (fun x => x.item != 0x0035)) { s1 with upd := { s1.upd with cfgCfs := e.2.cfs } }
  | none => occur 15 2 0 0 (setLevel 17 R.UPD_STATUS_CFG_DEFAULTS 1 s)

/-- The strand geometry of the configuration, once the module's layers are loaded. -/
def configGeometry (s : State) : State :=
  match readableGen s with
  | some e => itemsApply mStandby (e.2.items.filter (fun x => x.item == 0x0035)) s
  | none => s

/-- The device number at boot: a sender takes it from the store, 0x000 without the item; a tile has none (R21). -/
def bootNumber (s : State) : State :=
  let n := match itemData s.upd.items 1 0 with | some d => u32 d 0 % 4096 | none => 0
  { s with cps := { s.cps with devnum := if sender s then n else 0xFFF } }

/-! ### config-set and config-get (R518) -/

/-- `config-set`. (DEDUCED log 24) -/
def execConfigSet (k : Pkt) (s : State) : Out :=
  .next (plain k (fun t =>
    let d := k.par.drop 8
    if (k.p16 0 ≠ 0x0001 ∧ k.p16 0 ≠ 0x0040) ∨ !itemKnown (k.p16 0) (k.p8 2) ∨ !parZero k 3 1 ∨ !parZero k 6 2 then .err St.badParam
    else if !itemInRole (sender t) (k.p16 0) then .err St.unsupported
    else if !itemSizeOk (k.p16 0) d ∨ (k.p16 0 = 0x0001 ∧ 4095 ≤ u32 d 0) then .err St.badParam
    else .ok (setItem (k.p16 0) (k.p8 2) d t) []) s)

/-- CFS and data of an item as config-get asks for it. -/
def itemWhich (s : State) (which item inst : Nat) : Nat × List Byte :=
  let of := fun (g : Option (Nat × Gen)) => match g with
    | some e => (e.2.cfs, (itemData e.2.items item inst).getD [])
    | none => (0, [])
  match which with
  | 0 => (ownCfs s, (itemData s.upd.items item inst).getD [])
  | 1 => of (currentGen s)
  | _ => of (previousGen s)

/-- `config-get`. -/
def execConfigGet (k : Pkt) (f : Fetch) (s : State) : Out :=
  .next (command k f (fun _ t =>
    if !itemKnown (k.p16 0) (k.p8 2) ∨ 2 < k.p8 3 then .err St.badParam
    else
      let r := itemWhich t (k.p8 3) (k.p16 0) (k.p8 2)
      let head := leBytes 2 r.1 ++ zeros 2 ++ leBytes 2 r.2.length ++ zeros 2
      if k.par.length = 4 then (if 4072 < r.2.length then .err St.badParam else .ok t (head ++ r.2))
      else match refWrite t (refAt k.par 4) r.2 f with
        | .ok u => .ok u head
        | .error e => .err e) s)

/-! ### config-commit and config-revert (R514, R515) -/

/-- The generation slot that the next write takes: the lowest that holds neither the current nor the previous one. -/
def nextGenSlot (s : State) : Nat :=
  let used := ((currentGen s).map Prod.fst).toList ++ ((previousGen s).map Prod.fst).toList
  ((idxs 8 (fun i => !used.contains i)).head?).getD 0

/-- The GEN of the next write: the current one and 1, past zero; 1 on a blank store. -/
def nextGenNum (s : State) : Nat :=
  let n := (genNum (currentGen s) + 1) % 4294967296
  if n = 0 then 1 else n

/-- Begins to write a generation: its slot is erased, the write runs in the background. (DEDUCED log 24) -/
def genWrite (k : Pkt) (cfs revertOf : Nat) (items : List Item) (s : State) : State :=
  let i := nextGenSlot s
  let g : Gen := { role := if sender s then 1 else 0, gen := nextGenNum s, cfs := cfs, revertOf := revertOf
                   wt := wtNs s / 1000000000, nonce := freeVal s 64, items := items }
  let t := takeFree s
  startBg k (setLevel 17 R.UPD_STATUS_CFG_BUSY 1 { t with nv := { t.nv with gens := Tab.del t.nv.gens i }
                                                          upd := { t.upd with cfgWrite := some (k, i, g) } })

/-- `config-commit`. -/
def execConfigCommit (k : Pkt) (s : State) : Out :=
  .next (plain k (fun t => .later (genWrite k (ownCfs t) 0 t.upd.items t)) s)

/-- `config-revert`: the write, and then its items are applied. (DEDUCED log 24) -/
def execConfigRevert (k : Pkt) (s : State) : Out :=
  .next (plain k (fun t =>
    match previousGen t with
    | none => .err St.badState
    | some e => .later (genWrite k e.2.cfs (genNum (currentGen t)) e.2.items t)) s)

/-- CONFIG_WRITE_DONE: the write of a generation ends. (DESIGN CHOICE log 3; DEDUCED log 24) -/
def execConfigWriteDone (good : Bool) (s : State) : Out :=
  .next (match s.upd.cfgWrite with
    | none => s
    | some (k, i, g) =>
      let t := setLevel 17 R.UPD_STATUS_CFG_BUSY 0 (endBg 0x0D { s with upd := { s.upd with cfgWrite := none } })
      if good then
        let u := syncGens { t with nv := { t.nv with gens := Tab.put t.nv.gens i g } }
        finish k St.ok (leBytes 4 g.gen) (if k.opcode = 0x0D03 then itemsApply (mode u) g.items u else u)
      else finish k St.flashError [] (tally R.UPD_FLASH_ERR_N 15 1 0 t))

end Sys2Proof.Machine
end

