-- ==== Sys2Proof/Machine/Update.lean ====
section
/-!
DEFINITION. Firmware update (R502 to R508, R520, R526, R452): staging, activation and its ends, the SVN fuses, and the
update status.
-/

namespace Sys2Proof.Machine

/-! ### Staging (R502, R503) -/

/-- The MFLAGS bit of the effective role is set. -/
def roleFits (s : State) (mflags : Nat) : Bool := mflags.testBit (if sender s then 1 else 2)

/-- The checks of R502 before the write: zero where all pass. (DEDUCED log 25) -/
def stageVerdict (s : State) (b : List Byte) : Nat :=
  if (slotEntry s 0).state = 3 ∨ (slotEntry s 1).state = 3 then St.badState
  else if !manifestOk b then St.badParam
  else if !roleFits s (u8 b 7) then St.unsupported
  else if !bundleSigned s b then St.sigBad
  else St.ok

/-- Staging of a verified bundle begins: the record says STAGING and the slot is erased. (DEDUCED log 25) -/
def stageBegin (k : Pkt) (b : List Byte) (s : State) : State :=
  let o := otherSlot s
  let s1 := appendRec (fun r => r.setSlot o (fun _ => { SlotRec.empty with state := 1 })) s
  let s2 := setF (takeFree s1) R.UPD_STATUS_STAGE_PCT (freeVal s1 32 % 101)
  startBg k (setLevel 17 R.UPD_STATUS_STAGING 1
    { s2 with nv := { s2.nv with slots := Tab.del s2.nv.slots o }
              upd := { s2.upd with staging := some (k, b), copyOf := none } })

/-- The command stage-image. -/
def stageImage (k : Pkt) (f : Fetch) (s : State) : State :=
  command k f (fun copy t =>
    if !parZero k 0 4 then .err St.badParam
    else if activating t then .err St.busy
    else match bulk k f copy 4 0 t with
      | .error e => .err e
      | .ok b =>
        let v := stageVerdict t b
        if v ≠ 0 then .err v else .later (stageBegin k b t)) s

/-- `stage-image`. (DEDUCED log 25) -/
def execStageImage (k : Pkt) (f : Fetch) (s : State) : Out := .next (stageImage k f s)

/-- The bytes of a slot after staging, and the place of its equalisation table: the bundle's own, or the table in force
at the first 4 KiB boundary after the bundle. -/
def stagedSlot (s : State) (b : List Byte) : List Byte × Nat × Nat :=
  let n := u32 b 0x14
  let body := b.take n
  match compOf b 3 with
  | some _ => (body, eqPlace b)
  | none =>
    let o := (n + 4095) / 4096 * 4096
    if s.nv.eqTable.isEmpty then (body, (0, 0))
    else (body ++ List.replicate (o - n) 0xFF ++ s.nv.eqTable, (o, s.nv.eqTable.length))

/-- STAGE_DONE: the write and the read-back have ended. -/
def execStageDone (good : Bool) (s : State) : Out :=
  .next (match s.upd.staging with
    | none => s
    | some (k, b) =>
      let o := otherSlot s
      let t := setF (setLevel 17 R.UPD_STATUS_STAGING 0 (endBg 0x0D { s with upd := { s.upd with staging := none } }))
        R.UPD_STATUS_STAGE_PCT 0
      if good then
        let p := stagedSlot t b
        let u := { t with nv := { t.nv with slots := Tab.put t.nv.slots o p.1 }, upd := { t.upd with copyOf := some o } }
        finish k St.ok [] (appendRec (fun r => r.setSlot o (fun _ => recOf b 2 p.2)) u)
      else
        finish k St.flashError [] (appendRec (fun r => r.setSlot o (fun _ => SlotRec.empty)) (tally R.UPD_FLASH_ERR_N 15 1 0 t)))

/-! ### Activation (R504 to R508) -/

/-- Every UP port would still meet R261 under an entry's TPL and BACKWARD. -/
def linksFit (s : State) (e : SlotRec) : Bool :=
  (upPorts s).all (fun p =>
    (linkLevelOf e.tpl (sender s) (e.mflags.testBit 0) (getF s (R.TWL_PEER_TPL p)) (isSet s (R.TWL_PEER_SENDER p))
      (isSet s (R.TWL_PEER_BACKWARD p))).isSome)

/-- The tile found at hop h of port p, where its slot is SERVED, stays in the window of R520. -/
def tileFits (s : State) (tpl p : Nat) (e : Nat × List Byte) : Bool :=
  match positionSlot s p e.1 with
  | some i => slotState s i != 2 || tplAdmits tpl (u8 e.2 3) (bitAt e.2 2 2)
  | none => true

/-- A sender's served tiles, or a tile against its serving sender, stay in the window of R520. -/
def wallFits (s : State) (e : SlotRec) : Bool :=
  if sender s then ports.all (fun p => (portOf s p).replies.all (tileFits s e.tpl p))
  else match (servedBy s).bind (Tab.get s.twl.discTpl) with
    | some n => tplAdmits n e.tpl (e.mflags.testBit 0)
    | none => true

/-- The current generation lies in the schemas an entry's firmware reads. -/
def settingsFit (s : State) (e : SlotRec) : Bool :=
  match currentGen s with
  | some g => decide (e.cfsMin ≤ g.2.cfs) && decide (g.2.cfs ≤ e.cfs)
  | none => true

/-- Checks 1 to 3 of R504 for the other slot, which must be in state `st`: zero where all pass. (DEDUCED log 25) -/
def activateVerdict (s : State) (st : Nat) : Nat :=
  let e := slotEntry s (otherSlot s)
  if (mode s ≠ mStandby ∧ mode s ≠ mShow) ∨ e.state ≠ st then St.badState
  else if !linksFit s e || !wallFits s e || !settingsFit s e then St.incompatible
  else St.ok

/-- HOLD begins for an activation, and the command is answered. -/
def activateHold (a : Activation) (s : State) : State :=
  finish a.pkt St.ok [] (changeMode mHold 2 { s with upd := { s.upd with activation := some { a with verifying := false } } })

/-- Begins an activation of the other slot, in state `st`. (DEDUCED log 25) -/
def activateBegin (k : Pkt) (st : Nat) (t : State) : Res :=
  let v := activateVerdict t st
  if transitioning t then .err St.busy
  else if v ≠ 0 then .err v
  else
    let a : Activation := { pkt := k, slot := otherSlot t, fromMode := mode t, verifying := true }
    if t.upd.copyOf = some (otherSlot t) then .later (activateHold a t)
    else .later (startBg k { t with upd := { t.upd with activation := some a } })

/-- `activate`. (DEDUCED log 25) -/
def execActivate (k : Pkt) (s : State) : Out := .next (plain k (activateBegin k 2) s)

/-- `revert-image` (R508). -/
def execRevertImage (k : Pkt) (s : State) : Out := .next (plain k (activateBegin k 4) s)

/-- The main firmware in a slot verifies. -/
def mainVerifies (s : State) (b : List Byte) : Bool :=
  match compOf b 2 with
  | some c => blockOk s 2 (compBlock b c) (compImage b c)
  | none => false

/-- ACTIVATE_VERIFY_DONE: the slot has been read, well or not. -/
def execActivateVerifyDone (good : Bool) (s : State) : Out :=
  .next (match s.upd.activation with
    | none => s
    | some a =>
      if !a.verifying then s
      else
        let t := endBg 0x0D { s with upd := { s.upd with activation := none } }
        if !good then finish a.pkt St.flashError [] t
        else if !mainVerifies t (slotBytes t a.slot) then finish a.pkt St.sigBad [] t
        else if (mode t ≠ mStandby ∧ mode t ≠ mShow) ∨ t.sys.warmWait then finish a.pkt St.badState [] t
        else activateHold { a with fromMode := mode t } { t with upd := { t.upd with copyOf := some a.slot } })

/-- The new main firmware of a slot runs, with the security firmware that ran before. -/
def runNew (k : Nat) (s : State) : State :=
  let e := slotEntry s k
  let n := runningOf s (slotBytes s k) e
  let r := match s.upd.running with | some old => { n with secfw := old.secfw } | none => n
  { s with upd := { s.upd with running := some r, slot := some k, activated := true, copyOf := none, activation := none } }

/-- ACTIVATION_READY: the new firmware has read the store under R517 and is ready, or finds no generation it reads
(R507). -/
def execActivationReady (s : State) : Out :=
  .next (match s.upd.activation with
    | none => s
    | some a =>
      if a.verifying then s
      else
        let t := runNew a.slot s
        if settingsLost t then
          beginInternal false true false (appendRec (fun r =>
            { r.setSlot a.slot (fun e => { e with state := 5, reason := 4 }) with lastAct := 3 }) t)
        else
          let u := appendRec (fun r =>
            { r.setSlot a.slot (fun e => { e with state := 3, reason := 0, tries := 0 }) with lastAct := 1 }) t
          let w := { u with upd := { u.upd with running := u.upd.running.map (fun x => { x with rec_ := slotEntry u a.slot }) } }
          (upPorts w).foldl (fun b p => sendHello p b) (changeMode a.fromMode 0 w))

/-- ACTIVATION_TIMEOUT: no ready within the time of R41. -/
def execActivationTimeout (s : State) : Out :=
  .next (if activating s then beginInternal false false true s else s)

/-! ### SVN fuses (R452) and status (R526) -/

/-- `commit-svn`. (DEDUCED log 25) -/
def execCommitSvn (k : Pkt) (s : State) : Out :=
  .next (plain k (fun t =>
    match t.upd.running with
    | none => .err St.badState
    | some r =>
      if t.upd.activated ∨ t.nv.bootRec.isNone ∨ t.upd.chosen ≠ some (currentSlot t) then .err St.badState
      else
        let n := max t.nv.svnFuses r.rec_.svn
        .ok { t with nv := { t.nv with svnFuses := n } } (leBytes 4 n)) s)

/-- The result of get-update-status (Table 16.10). (DEDUCED log 24 log 25) -/
def updateStatus (s : State) : List Byte :=
  let last := match s.nv.bootRec with | some r => r.lastAct | none => 0
  leBytes 1 (getF s R.UPD_STATUS_RUN_SLOT) ++ leBytes 1 (currentSlot s) ++ leBytes 1 last ++
    leBytes 1 (getF s R.UPD_STATUS_STAGE_PCT) ++ (slotEntry s 0).bytes ++ (slotEntry s 1).bytes ++
    leBytes 4 (genNum (currentGen s)) ++ leBytes 4 (genNum (previousGen s)) ++ leBytes 2 s.upd.cfgCfs ++
    leBytes 2 (getF s R.UPD_STATUS_CFG_FALLBACK + 2 * getF s R.UPD_STATUS_CFG_DEFAULTS) ++ zeros 4

/-- `get-update-status`. -/
def execGetUpdateStatus (k : Pkt) (s : State) : Out := .next (plain k (fun t => .ok t (updateStatus t)) s)

end Sys2Proof.Machine
end

