-- ==== Sys2Proof/Machine/Muslin.lean ====
section
/-!
DEFINITION. The Muslin service port (R511, R522 to R525): frames, the operations of Table 16.9, the load area, and
tunnelling over Twill.
-/

namespace Sys2Proof.Machine

/-! ### Identification -/

/-- The ROM waits for a load: BOOT_SRC names a source other than the slots, or no slot could be booted (R511). -/
def awaitsLoad (s : State) : Bool :=
  mode s == mBoot && s.upd.chosen.isNone && (s.upd.bootFail || getF s R.SYS_MODE_BOOT_SRC != 0)

/-- BSTATE of the IDENT reply. -/
def bstate (s : State) : Nat :=
  if mode s = mLockdown then 3 else if s.upd.bootFail then 2 else if awaitsLoad s then 1 else 0

/-- get-info as the port reports it: in BOOT, what firmware and the store supply reads zero. -/
def identInfo (s : State) : List Byte :=
  let b := infoBytes s
  if mode s = mBoot then b.take 4 ++ zeros 12 ++ b.drop 16 else b

/-- The IDENT reply after STATUS. (DEDUCED log 26) -/
def identBytes (s : State) : List Byte :=
  identInfo s ++ leBytes 1 (bstate s) ++ zeros 3 ++ (slotEntry s 0).bytes ++ (slotEntry s 1).bytes

/-! ### The operations (Table 16.9) -/

/-- Size of the load area (R524). -/
abbrev loadMax : Nat := 50331648

/-- A load over Muslin is allowed in BOOT: not where the host loads over PCIe. -/
def mslLoads (s : State) : Bool := awaitsLoad s && (s.upd.bootFail || getF s R.SYS_MODE_BOOT_SRC == 1)

/-- The mode allows the operation. (DEDUCED log 26) -/
def mslModeOk (s : State) (mop : Nat) : Bool :=
  match mop with
  | 1 => true
  | 2 => mode s != mBoot
  | 3 => mode s != mBoot && mode s != mLockdown
  | 4 => (mode s != mBoot && mode s != mLockdown) || mslLoads s
  | 5 => (mode s != mBoot && mode s != mLockdown) || mslLoads s
  | 6 => (mode s != mBoot && mode s != mLockdown) || mslLoads s
  | _ => mode s != mBoot && mode s != mLockdown

/-- The packet of a Muslin envelope: a signed command of SCOPE 3. (DEDUCED log 26) -/
def mslPkt (op : Nat) (p : List Byte) : Pkt :=
  { req := .muslin, port := 0, w0 := BitVec.ofNat 32 (0x2010000 + op), w1 := 0, w2 := BitVec.ofNat 32 0x3000
    w3 := BitVec.ofNat 32 p.length, body := p }

/-- LOAD_BEGIN: the load area is emptied. -/
def loadBegin (p : List Byte) (s : State) : State :=
  let n := u32 p 0
  let f := u8 p 4
  if p.length ≠ 8 ∨ n = 0 ∨ loadMax < n ∨ 1 < f ∨ !zeroAt p 5 3 ∨ (f = 1 ∧ !s.upd.bootFail) then mslReply St.badParam [] s
  else mslReply St.ok [] { s with
    mem := s.mem.filter (fun c => decide (c.1 < loadMem) || decide (loadMem + loadMax ≤ c.1))
    upd := { s.upd with loadLen := some n, loadFlags := f } }

/-- LOAD_DATA. -/
def loadData (p : List Byte) (s : State) : State :=
  match s.upd.loadLen with
  | none => mslReply St.badState [] s
  | some n =>
    let d := p.drop 4
    if p.length < 4 ∨ n < u32 p 0 + d.length then mslReply St.badParam [] s
    else mslReply St.ok [] (memWrite s (loadMem + u32 p 0) d)

/-- LOAD_END: the hash is checked; in BOOT the device boots the bundle after the reply. -/
def loadEnd (p : List Byte) (s : State) : State :=
  match s.upd.loadLen with
  | none => mslReply St.badState [] s
  | some n =>
    let b := memRead s loadMem n
    if p.length ≠ 48 then mslReply St.badParam [] s
    else if Config.sha384 b ≠ p then mslReply St.refMismatch [] s
    else
      let t := mslReply St.ok [] s
      if mode s = mBoot then (loadBundle b (s.upd.loadFlags == 1) t).2 else t

/-- Carries out an operation that the mode allows. (DEDUCED log 26) -/
def mslRun (mop : Nat) (p : List Byte) (s : State) : State :=
  match mop with
  | 1 => if p.isEmpty then mslReply St.ok (identBytes s) s else mslReply St.badParam [] s
  | 2 =>
    if p.length ≠ 4 then mslReply St.badParam [] s
    else match faultBytes s p with
      | .ok d => mslReply St.ok d s
      | .error e => mslReply e [] s
  | 3 => if p.isEmpty then mslReply St.ok (updateStatus s) s else mslReply St.badParam [] s
  | 4 => loadBegin p s
  | 5 => loadData p s
  | 6 => loadEnd p s
  | 7 => stageImage (mslPkt 0x0D04 p) .dmaError s
  | 8 => plain (mslPkt 0x0D05 p) (activateBegin (mslPkt 0x0D05 p) 2) s
  | 9 => plain (mslPkt 0x0D06 p) (activateBegin (mslPkt 0x0D06 p) 4) s
  | _ => mslReply St.badOpcode [] s

/-- A request for this device: one at a time, as the mode allows. (DEDUCED log 26) -/
def mslExec (via : Option Nat) (b : List Byte) (s : State) : State :=
  let mop := u8 b 1
  let t := { s with upd := { s.upd with mslBusy := some (u16 b 2, u16 b 6, mop, via) } }
  if mslModeOk s mop then mslRun mop (b.drop 8) t else mslReply St.badState [] t

/-- Takes a frame without its CRC, from the port or from a tunnel: refused while a request executes, tunnelled on, or
carried out. -/
def mslTake (via : Option Nat) (b : List Byte) (s : State) : State :=
  let mop := u8 b 1
  let seq := u16 b 2
  let dest := u16 b 6
  if s.upd.mslBusy.isSome then mslAnswer mop seq via St.busy [] (tally R.MSL_ERR_BUSY 15 4 0 s)
  else if 4096 ≤ dest then mslAnswer mop seq via St.badParam [] s
  else if dest = 0xFFF ∨ dest = s.cps.devnum then mslExec via b s
  else if s.cps.devnum = 0xFFF then mslAnswer mop seq via St.notNumbered [] s
  else sendTunnel dest b s

/-- A frame on the port (R522). Where its length or CRC is wrong it is discarded and counted. (DEDUCED log 26) -/
def mslFrame (f : List Byte) (s : State) : State :=
  if inReset s || u8 f 0 != 0x4D then s
  else
    let n := u16 f 4
    if 2040 < n ∨ f.length ≠ 12 + n ∨ crc32c (f.take (8 + n)) ≠ u32 f (8 + n) then tally R.MSL_ERR_CRC 15 4 0 s
    else mslTake none (f.take (8 + n)) (incF s R.MSL_FRAMES_N)

/-- `MSL_FRAME`. -/
def execMslFrame (frame : List Byte) (s : State) : Out := .next (mslFrame frame s)

/-! ### One row for each operation: a good frame addressed to the device at the port -/

/-- The bytes of a request frame. -/
def mslRequest (mop seq : Nat) (p : List Byte) : List Byte :=
  let body := [BitVec.ofNat 8 0x4D, BitVec.ofNat 8 mop] ++ leBytes 2 seq ++ leBytes 2 p.length ++ leBytes 2 0xFFF ++ p
  body ++ leBytes 4 (crc32c body)

/-- A request frame arrives at the port; a payload too long for a frame is none. -/
def mslOp (mop seq : Nat) (p : List Byte) (s : State) : State :=
  if inReset s || decide (2040 < p.length) then s
  else
    let f := mslRequest mop seq p
    mslTake none (f.take (8 + p.length)) (incF s R.MSL_FRAMES_N)

/-- `IDENT`. -/
def execIdent (seq : Nat) (payload : List Byte) (s : State) : Out := .next (mslOp 1 seq payload s)
/-- `FAULTS`. -/
def execFaults (seq : Nat) (payload : List Byte) (s : State) : Out := .next (mslOp 2 seq payload s)
/-- `UPD_STATUS`. -/
def execUpdStatus (seq : Nat) (payload : List Byte) (s : State) : Out := .next (mslOp 3 seq payload s)
/-- `LOAD_BEGIN`. -/
def execLoadBegin (seq : Nat) (payload : List Byte) (s : State) : Out := .next (mslOp 4 seq payload s)
/-- `LOAD_DATA`. -/
def execLoadData (seq : Nat) (payload : List Byte) (s : State) : Out := .next (mslOp 5 seq payload s)
/-- `LOAD_END`. -/
def execLoadEnd (seq : Nat) (payload : List Byte) (s : State) : Out := .next (mslOp 6 seq payload s)
/-- `STAGE`. -/
def execMslStage (seq : Nat) (payload : List Byte) (s : State) : Out := .next (mslOp 7 seq payload s)
/-- `ACTIVATE`. -/
def execMslActivate (seq : Nat) (payload : List Byte) (s : State) : Out := .next (mslOp 8 seq payload s)
/-- `REVERT`. -/
def execMslRevert (seq : Nat) (payload : List Byte) (s : State) : Out := .next (mslOp 9 seq payload s)

/-! ### Tunnelling (R525) -/

/-- A tunnelled frame is a copy of one handled within 10 s. (DEDUCED log 26) -/
def tunnelSeen (s : State) (src key : Nat) : Bool :=
  s.upd.mslSeen.any (fun e => e.1 == src && e.2.1 == key && decide (ltNs s < e.2.2 + 10000000000))

/-- A TUNNEL message for this device: a request is carried out, a reply goes to the tool. Requests and replies are told
apart by MOP. -/
def takeTunnel (m : Msg) (s : State) : State :=
  let b := m.payload
  let reply := decide (128 ≤ u8 b 1)
  let key := u16 b 2 + (if reply then 65536 else 0)
  if !isSet s R.MSL_CTRL_TUNNEL_EN || tunnelSeen s m.src key || u8 b 0 != 0x4D || b.length != 8 + u16 b 4 then s
  else
    let old := s.upd.mslSeen.filter (fun e => decide (ltNs s < e.2.2 + 10000000000) && !(e.1 == m.src && e.2.1 == key))
    let t := { s with upd := { s.upd with mslSeen := (m.src, key, ltNs s) :: old } }
    if reply then send t (.muslin (b ++ leBytes 4 (crc32c b))) else mslTake (some m.src) b t

/-- `TUNNEL`: the message arrives on port p. -/
def execTunnel (p : Nat) (m : Msg) (s : State) : Out := .next (msgIn p m (takeTunnel m) s)

end Sys2Proof.Machine
end

