-- ==== Sys2Proof/Machine/Boot.lean ====
section
/-!
DEFINITION. Resets and boot (R2, R3, R31 to R35, R46 to R48, R51, R509 to R511, R585, R587, R599): the causes, what each
kind of reset leaves, and the boot up to STANDBY.
-/

namespace Sys2Proof.Machine

/-! ### The causes (R46, R587, R599) -/

/-- POWER_ON_RESET: PORST_N falls. -/
def execPowerOnReset (s : State) : Out :=
  .next (resetBegins { s with sys := { s.sys with rst := { s.sys.rst with porst := true, sawPower := true } } })

/-- BROWN_OUT: internal power-good falls. -/
def execBrownOut (s : State) : Out :=
  .next (resetBegins { s with sys := { s.sys with rst := { s.sys.rst with power := true, sawPower := true } } })

/-- WRST_ASSERT: WRST_N is low through its filter; in LOCKDOWN it is counted and ignored (R44). -/
def execWrstAssert (s : State) : Out :=
  .next (if mode s == mLockdown && !inReset s then incF s R.SYS_RESET_CAUSE_WRST_IGN
    else resetBegins { s with sys := { s.sys with rst := { s.sys.rst with wrst := true, sawPin := true } } })

/-- WATCHDOG_EXPIRY: the watchdog of a firmware that has been started. (DESIGN CHOICE log 19) -/
def execWatchdogExpiry (s : State) : Out := .next (if s.upd.chosen.isSome then beginInternal true false false s else s)

/-! ### What a reset leaves (Table 2.6) -/

/-- Registers of SYS that a warm reset keeps (R550). (DEDUCED log 18) -/
def sysKept (off : Nat) : Bool :=
  [0x04, 0x08, 0x24, 0x2C, 0x30, 0x40, 0x44, 0x48, 0x4C, 0x50, 0x54, 0x5C, 0x60].contains off

/-- The oscillator curve lies here: its bins. (DEDUCED log 18) -/
def curveKey (key : Nat) : Bool := decide (indKey 10 0x3000 ≤ key) && decide (key < indKey 10 0x3200)

/-- Registers kept over a warm reset whose retained regions in `lost` failed their tags. (DEDUCED log 18) -/
def warmRegs (lost : List Nat) (s : State) : Tab Word :=
  s.regs.filter (fun e => (decide (e.1 < 65536) && sysKept e.1) || (curveKey e.1 && !lost.contains 0) ||
    (e.1 == R.DMK_CKPT_SEQ && !lost.contains 2))

/-- The records of the faults become the snapshot (R561). (DEDUCED log 18) -/
def recordsSnap (old s : State) : State :=
  (List.range 24).foldl (fun a b => (List.range 7).foldl (fun x i =>
    regPut x (dirKey 0 (0x800 + 32 * b + 4 * i)) (regGet old (dirKey 0 (0x400 + 32 * b + 4 * i)))) a) s

/-- The inputs that show the outside: clocks and ball levels. (DEDUCED log 18) -/
def outsideRegs (old s : State) : State :=
  regPut (regPut s R.SYS_CLK (regGet old R.SYS_CLK)) R.SYS_GPIO_IN (regGet old R.SYS_GPIO_IN)

/-- A reset of either kind: everything but what survives every reset. -/
def freshState (s : State) : State :=
  { State.reset with pending := s.pending, out := s.out, free := s.free, nv := s.nv
                     sec := { SecSt.reset with latched := s.sec.latched, active := s.sec.active } }

/-- Straps as sampled when a power-on reset ends (R2, R3, Table 2.3). -/
def sampleStraps (role : Bool) (board src : Nat) (s : State) : State :=
  let eff := role && s.nv.isS
  let src' := if src % 4 = 3 ∨ (src % 4 = 2 ∧ !eff) then 0 else src % 4
  let s1 := setF (setF (setB (setB s R.SYS_MODE_ROLE_STRAP role) R.SYS_MODE_ROLE_EFF eff) R.SYS_MODE_BOARD_ID board)
    R.SYS_MODE_BOOT_SRC src'
  setB (setB s1 R.SYS_RESET_CAUSE_POR true) R.SYS_RESET_CAUSE_STRAP_BAD (src % 4 == 3)

/-- The state a power-on reset leaves. (DESIGN CHOICE log 10) -/
def afterPower (role : Bool) (board src : Nat) (s : State) : State :=
  setB (sampleStraps role board src (outsideRegs s (freshState s))) R.SYS_CLK_XO_OK true

/-- The clocks after a warm reset: LT runs on, and a servo remembers that it was once LOCKED. (DEDUCED log 18) -/
def warmTime (s : State) : TimSt :=
  { TimSt.reset with lt := s.tim.lt, wt := { Clock.reset with everLocked := s.tim.wt.everLocked }
                     nt := { Clock.reset with everLocked := s.tim.nt.everLocked } }

/-- Straps and causes after a warm reset. (DEDUCED log 18) -/
def warmCause (lost : List Nat) (old s : State) : State :=
  let cp := fun (f : Fld) (a : State) => setF a f (getF old f)
  let r := old.sys.rst
  let s1 := cp R.SYS_MODE_ROLE_STRAP (cp R.SYS_MODE_ROLE_EFF (cp R.SYS_MODE_BOARD_ID (cp R.SYS_MODE_BOOT_SRC s)))
  let s2 := cp R.SYS_RESET_CAUSE_STRAP_BAD (setB (setB (setB s1 R.SYS_RESET_CAUSE_POR false) R.SYS_RESET_CAUSE_WRST_PIN r.sawPin)
    R.SYS_RESET_CAUSE_WDOG r.sawWdog)
  let s3 := setB (setB s2 R.SYS_RESET_CAUSE_CMD r.sawCmd) R.SYS_RESET_CAUSE_ACT_TIMEOUT r.sawAct
  let s4 := cp R.SYS_FAULT_STATUS_HALT_BLOCK (cp R.SYS_FAULT_STATUS_HALT_VALID s3)
  setF s4 R.SYS_RESET_CAUSE_RETAIN_LOST (getF old R.SYS_RESET_CAUSE_RETAIN_LOST + lost.eraseDups.length)

/-- The ageing records that a warm reset leaves. (DEDUCED log 18) -/
def warmAges (lost : List Nat) (s : State) : DmkSt :=
  if lost.contains 2 || s.dmk.factory.isNone then DmkSt.reset
  else { DmkSt.reset with acc := s.dmk.acc, code := s.dmk.code, qlast := s.dmk.qlast, power := s.dmk.power, q := s.dmk.q
                          ageKept := true }

/-- The thermal model that a warm reset leaves. -/
def warmModel (lost : List Nat) (s : State) : ThmSt :=
  if lost.contains 1 then ThmSt.reset
  else { ThmSt.reset with die := s.thm.die, seeded := s.thm.seeded, rise := s.thm.rise, tcase := s.thm.tcase }

/-- The state a warm reset leaves; `lost` names the retained regions whose tags failed: 0 the oscillator curve, 1 the
thermal model, 2 the ageing records. (DEDUCED log 18) -/
def afterWarm (lost0 : List Nat) (s : State) : State :=
  let lost := lost0.filter (· < 3)
  let a := freshState s
  let b : State :=
    { a with regs := warmRegs lost s, tim := warmTime s, dmk := warmAges lost s, thm := warmModel lost s
             mem := s.mem.filter (fun c => decide (c.1 < loadMem))
             sys := { SysSt.reset with cfgLocked := s.sys.cfgLocked }
             sec := { a.sec with recent := s.sec.recent } }
  let c := warmCause lost s (recordsSnap s (outsideRegs s b))
  setB c R.TIM_STATUS_CURVE_OK (decide (2 ≤ (curvePoints c).length))

/-- The ROM begins: UPD_STATUS takes its fields from the record, and from boot source 0b00 an image is chosen. (DESIGN CHOICE log 19) -/
def romStarts (s : State) : State :=
  let r := s.nv.bootRec.getD (firstRec s)
  let t := setF (setF (setF s R.UPD_STATUS_STATE_A r.slotA.state) R.UPD_STATUS_STATE_B r.slotB.state)
    R.UPD_STATUS_LAST_ACT r.lastAct
  if getF t R.SYS_MODE_BOOT_SRC = 0 then bootChoose t else t

/-- RESET_END: the last active cause of a reset ends, and BOOT begins. -/
def execResetEnd (role : Bool) (board : Nat) (src : Nat) (lost : List Nat) (s : State) : Out :=
  .next (if !inReset s then s
    else romStarts (if s.sys.rst.sawPower then afterPower role board src s else afterWarm lost s))

/-! ### BOOT to STANDBY (Table 2.4, R33, R510) -/

/-- The firmware that boots settles an activation that a reset ended (R506). (DESIGN CHOICE log 19) -/
def settleActivation (s : State) : State :=
  let s1 := if isSet s R.SYS_RESET_CAUSE_ACT_TIMEOUT then
      appendRec (fun r => { r.setSlot (otherSlot s) (fun e => { e with state := 5, reason := 3 }) with lastAct := 2 }) s
    else s
  if s1.nv.abandoned then
    appendRec (fun r => { r with lastAct := 4 }) { s1 with nv := { s1.nv with abandoned := false } }
  else s1

/-- A firmware booted from a TRIAL slot confirms it (R510). (DESIGN CHOICE log 19) -/
def confirmTrial (s : State) : State :=
  match s.upd.slot with
  | some k =>
    if (slotEntry s k).state = 3 then
      let t := appendRec (fun r => { r.setSlot k (fun e => { e with state := 4, reason := 0, tries := 0 }) with current := k }) s
      { t with upd := { t.upd with running := t.upd.running.map (fun x => { x with rec_ := slotEntry t k }) } }
    else s
  | none => s

/-- The Ethernet ports of a sender come up in their configuration. (DESIGN CHOICE log 20) -/
def ethernetUp (s : State) : State :=
  if !sender s then s
  else { s with eth := { s.eth with restarting := []
                                    up := ([0, 1].map (fun p => (List.range (portSubs s p)).map (subKey p))).flatten } }

/-- The rest of the boot of a firmware that has its configuration. (DESIGN CHOICE log 20) -/
def bootRest (s : State) : State :=
  let s1 := eqLoad (bootNumber (configLoad s))
  let s2 := if sender s1 then ethernetUp s1 else configGeometry (moduleLoad s1.dmk.ageKept s1)
  let s3 := twillBringUp { s2 with dmk := { s2.dmk with ageKept := false } }
  elect false (changeMode mStandby 0 (confirmTrial s3))

/-- BOOT_COMPLETE: a chosen image has been started and reaches STANDBY; a trial that finds no settings it can read ends in a
warm reset (R507, R517). (DESIGN CHOICE log 19) -/
def execBootComplete (s : State) : Out :=
  .next (if inReset s || mode s != mBoot || s.upd.chosen.isNone || !s.sys.tamperArmed then s
    else
      let s1 := settleActivation { s with sys := { s.sys with fwRunning := true } }
      match s1.upd.slot with
      | some k =>
        if (slotEntry s1 k).state = 3 ∧ settingsLost s1 then
          beginInternal false true false (appendRec (fun r =>
            { r.setSlot k (fun e => { e with state := 5, reason := 4 }) with lastAct := 3 }) s1)
        else bootRest s1
      | none => bootRest s1)

end Sys2Proof.Machine
end

