-- ==== Sys2Proof/Machine/Events.lean ====
section
/-!
DEFINITION. Events of the device as a whole: GPIO edges (R550), clocks (R550, R585), the PCIe link and its configuration
space (R547, R553, R554), memory scrubbing (R567, R568), and the ends of containments and of DEGRADED (R563, R565).
-/

namespace Sys2Proof.Machine

/-! ### GPIO and clocks -/

/-- A number with one bit given a value. -/
def withBit (v i : Nat) (b : Bool) : Nat := if v.testBit i == b then v else if b then v + 2 ^ i else v - 2 ^ i

/-- The capture units that take their edges from a GPIO (R312). -/
def gpioCaptures (pin : Nat) (s : State) : State :=
  let a := if getF s R.TIM_CAP_SEL_GPIO_A = pin then capture_ 2 s else s
  if getF a R.TIM_CAP_SEL_GPIO_B = pin then capture_ 3 a else a

/-- GPIO_EDGE: the level of a ball changes. -/
def execGpioEdge (pin : Nat) (rise : Bool) (s : State) : Out :=
  .next (if 24 ≤ pin || (getF s R.SYS_GPIO_IN_IN).testBit pin == rise then s
    else
      let t := setF s R.SYS_GPIO_IN_IN (withBit (getF s R.SYS_GPIO_IN_IN) pin rise)
      if inReset t then t
      else
        let on := (getF t (if rise then R.SYS_GPIO_RISE_RISE else R.SYS_GPIO_FALL_FALL)).testBit pin
        let u := if on then raise 19 t else t
        if rise && alive u then gpioCaptures pin u else u)

/-- A bit of SYS_CLK. -/
def clkBit (bit : Nat) : Fld := ⟨R.SYS_CLK, bit, bit⟩

/-- CLOCK_LOSS: a fault, and for the XO the loss of power-good. -/
def execClockLoss (bit : Nat) (s : State) : Out :=
  .next (if 8 ≤ bit || !isSet s (clkBit bit) then s
    else
      let t := setF s (clkBit bit) 0
      let u := if inReset t then t else levelRise 0 2 bit t
      if bit = 0 then
        resetBegins { u with sys := { u.sys with rst := { u.sys.rst with power := true, sawPower := true } } }
      else u)

/-- CLOCK_RESTORED. -/
def execClockRestored (bit : Nat) (s : State) : Out :=
  .next (if 8 ≤ bit || isSet s (clkBit bit) then s
    else
      let t := setF s (clkBit bit) 1
      if inReset t then t else levelFall 0 2 t)

/-! ### PCIe -/

/-- Messages recorded while none could be sent leave once they can, but for masked vectors. (DEDUCED log 23) -/
def sendPending (old s : State) : State :=
  if msixOn s && !msixOn old then
    (idxs 32 (fun v => (getF s R.MSIX_PBA_PEND).testBit v && !isSet s (R.MSIX_VCTRL_MASK v))).foldl (fun a v =>
      send (setF a R.MSIX_PBA_PEND (getF a R.MSIX_PBA_PEND - 2 ^ v)) (.msix v)) s
  else s

/-- PCIE_LINK_UP at a generation and width. In LOCKDOWN the link stays disabled (R45). -/
def execPcieLinkUp (speed : Nat) (width : Nat) (s : State) : Out :=
  .next (if !alive s then s
    else
      let t := setLevel 18 R.PCI_STATUS_WIDTH width (setLevel 18 R.PCI_STATUS_SPEED speed (setLevel 18 R.PCI_STATUS_LINK_UP 1 s))
      setF t R.PCI_STATUS_LTSSM 3)

/-- PCIE_LINK_DOWN: the liveness of CP0 expires while its watchdog runs, and export windows in HOST space close (R474,
R492). -/
def execPcieLinkDown (s : State) : Out :=
  .next (if !alive s || !isSet s R.PCI_STATUS_LINK_UP then s
    else
      let t := pcieOff 0 s
      let u := { t with cps := { t.cps with exports := t.cps.exports.filter (fun e => e.2.space != 0) } }
      if running u && watchdogRuns u .cp0 then watchdogEnds .cp0 u else u)

/-- PCIE_CONFIG_WRITE: bus mastering, MSI-X enabled and not masked, and D3hot, as the write leaves them. -/
def execPcieConfigWrite (bme : Bool) (msixEn : Bool) (d3 : Bool) (s : State) : Out :=
  .next (if !alive s || !isSet s R.PCI_STATUS_LINK_UP then s
    else
      let b := fun (x : Bool) => if x then 1 else 0
      let t := setLevel 18 R.PCI_STATUS_D3 (b d3) (setLevel 18 R.PCI_STATUS_BME (b bme) s)
      sendPending s (setF t R.PCI_STATUS_MSIX_EN (b (msixEn && sender s))))

/-! ### Memory errors (R567, R568) -/

/-- The accumulators of a position from the newest checkpoint, its codes zero, and the position marked. -/
def reloadCell (c : Nat) (s : State) : State :=
  let b := match s.nv.module with
    | some m => (match ckptNewest s m with | some i => modCkpt m i | none => [])
    | none => []
  let ls := cellLamps (flOf s) c
  markCells [c] { s with dmk := { s.dmk with
    acc := ls.foldl (fun t i => if b.isEmpty then Tab.del t i else Tab.put t i (u32 b (64 + 4 * i) * 65536 + 0x8000)) s.dmk.acc
    code := ls.foldl (fun t i => Tab.del t i) s.dmk.code
    qlast := Tab.put s.dmk.qlast c s.dmk.q } }

/-- A queue descriptor loses its entries and VALID. -/
def queueDrop (q : Nat) (s : State) : State :=
  poolCount { s with cel := { s.cel with queues := s.cel.queues.map (fun e =>
    if e.1 = q then (e.1, { e.2 with valid := false, entries := [QEntry.empty, QEntry.empty, QEntry.empty] }) else e) } }

/-- A pending version of a position is lost: the one at a place in its list. -/
def versionDrop (c place : Nat) (s : State) : State :=
  if place < (pendOf s c).length then
    tally R.CEL_T_BAD_COUNT 9 2 c { s with celT := { s.celT with pend := Tab.put s.celT.pend c ((pendOf s c).eraseIdx place) } }
  else s

/-- The reaction to a poisoned unit by region (Table 18.6). `index` is the unit of the surface heap, the slot times 4,096 plus
the cell, the position plus 4,096 times the version's place, or the position. The canvas and L16 output are made again in
the next pass whatever they hold; strand codes are re-pushed. (DEDUCED log 23) -/
def poisoned (region index : Nat) (s : State) : State :=
  match region with
  | 1 => memWrite s (heapMem + 32 * index) (zeros 32)
  | 3 => queueDrop index s
  | 4 => versionDrop (index % 4096) (index / 4096) s
  | 5 => markCells [index] s
  | 6 => reloadCell index s
  | 7 => markCells [index] s
  | _ => s

/-- PATROL_SCRUB of a unit: nothing wrong (0), an error corrected (1), or one that is not. (DEDUCED log 23) -/
def execPatrolScrub (unit region index kind : Nat) (s : State) : Out :=
  .next (if !alive s || kind == 0 then s
    else if kind = 1 then occur 3 1 region unit s
    else poisoned region index (occur 3 (if region = 8 then 3 else 2) region unit s))

/-! ### Ends -/

/-- CONTAINMENT_END of block b (Table 18.4). -/
def execContainmentEnd (b : Nat) (s : State) : Out :=
  .next (
    let t := { s with flt := { s.flt with containing := Tab.del s.flt.containing b } }
    setB t R.SYS_FAULT_STATUS_CONTAINING (!t.flt.containing.isEmpty))

/-- DEGRADED_EXPIRY: 1 s has passed since the last occurrence of an event source. -/
def execDegradedExpiry (s : State) : Out :=
  .next (
    let t := { s with flt := { s.flt with recent := [] } }
    setB t R.SYS_FAULT_STATUS_DEGRADED (!t.flt.levels.isEmpty))

end Sys2Proof.Machine
end

