-- ==== Sys2Proof/Machine/Secure.lean ====
section
/-!
DEFINITION. The commands of SEC (R431 to R435, R449, R453 to R463): ownership, delegates, deny list, module signers, vendor
roots, policies, zeroisation, debug unlock, attestation and the tamper log; tamper inputs and the JTAG port.
-/

namespace Sys2Proof.Machine

/-! ### The secure store (R436) -/

/-- Changes the secure store in use. -/
def storeUpd (f : Store → Store) (s : State) : State :=
  match storeOf s with
  | some st => { s with nv := { s.nv with store := some (f st) } }
  | none => s

/-- COUNTER of a signed command's envelope. -/
def envCounter (k : Pkt) : Nat := u64 k.body 0x10

/-- The store of a first enrolment (R432): the owner key, LAST_CTR of slot 0, and the default policies. -/
def newStore (key : List Byte) (ctr : Nat) : Store :=
  { owner := key, delegates := [], lastCtr := [(0, ctr)], deny := [], signers := [], policies := defaultPolicies, pflags := 0
    rekeyH := 24, restricted := false }

/-- Every UP link is rekeyed (R449). -/
def rekeyAll (s : State) : State := (upPorts s).foldl (fun a p => rekeyDone p (startRekey p a)) s

/-- Links whose session keys have been destroyed are lost, with cause 6. -/
def dropLinks (s : State) : State := (upPorts s).foldl (fun a p => linkLost p 6 a) s

/-- `enrol-owner` (R432). (DEDUCED log 41) -/
def execEnrolOwner (k : Pkt) (s : State) : Out :=
  .next (plain k (fun t =>
    let key := sub k.par 0 96
    match ostate t with
    | 0 =>
      let bad := t.nv.store.isSome && !t.nv.storeGood
      let t1 := { t with nv := { t.nv with store := some (newStore key (envCounter k)), storeGood := true, restricted := false }
                         sec := { t.sec with loaded := true } }
      .ok (rekeyAll (if bad then levelFall 14 12 t1 else t1)) []
    | 1 => if (storeOf t).any (fun st => st.owner == key) then .ok t [] else .err St.badState
    | _ => .err St.badState) s)

/-- `rotate-owner` (R433): the new key proves itself over CERT_ID and COUNTER. -/
def execRotateOwner (k : Pkt) (s : State) : Out :=
  .next (plain k (fun t =>
    let key := sub k.par 0 96
    if !Config.ecdsaVerify key (certId t ++ sub k.body 0x10 8) (sub k.par 96 96) then .err St.sigBad
    else .ok (rekeyAll (storeUpd (fun st => { st with
      owner := key, lastCtr := (List.range 9).map (fun i => (i, envCounter k)) }) t)) []) s)

/-- `release-owner` (R433): Z2 without LOCKDOWN. The reply goes out while the links still stand. (DEDUCED log 41) -/
def execReleaseOwner (k : Pkt) (s : State) : Out :=
  .next (plain k (fun t => .later (dropLinks (zero2 (finish k St.ok [] t)))) s)

/-- `set-delegate` (R434). (DEDUCED log 41) -/
def execSetDelegate (k : Pkt) (s : State) : Out :=
  .next (plain k (fun t =>
    let slot := k.p8 0
    let mask := k.p8 1
    let key := sub k.par 4 96
    if slot = 0 ∨ 8 < slot ∨ mask % 2 = 1 ∨ 16 ≤ mask ∨ !parZero k 2 2 then .err St.badParam
    else .ok (storeUpd (fun st => { st with
      delegates := if key.all (· == 0) then Tab.del st.delegates slot else Tab.put st.delegates slot (key, mask) }) t) []) s)

/-- CERT_ID of the peer that a port last heard in HELLO. -/
def peerCertId (s : State) (p : Nat) : Option (List Byte) := (portOf s p).peerHello.map (fun h => certIdOf (helloCert h))

/-- `set-deny-list` (R435, R449): a listed peer's link is lost with cause 6. -/
def execSetDenyList (k : Pkt) (s : State) : Out :=
  .next (plain k (fun t =>
    let n := k.p8 0
    if 64 < n ∨ !parZero k 1 3 then .err St.badParam
    else
      let t1 := storeUpd (fun st => { st with deny := (List.range n).map (fun i => sub k.par (4 + 16 * i) 16) }) t
      let bad := (ports.filter (fun p => (portOf t1 p).session.isSome)).filter (fun p =>
        match peerCertId t1 p with | some c => denied t1 c | none => false)
      .later (bad.foldl (fun a p => linkLost p 6 a) (finish k St.ok [] t1))) s)

/-- The chain of R430 with the root key given: its hash is fused in an unrevoked slot. -/
def chainUnder (s : State) (root issuer leaf : List Byte) (usage : Nat) : Bool :=
  certForm leaf usage && certForm issuer useIssuer && sub leaf 0x18 16 == keyId (certPub issuer) &&
    sub issuer 0x18 16 == keyId root &&
    [0, 1, 2, 3].any (fun r => Tab.get s.nv.roots r == some (Config.sha384 root) && !s.nv.revoked.testBit r) &&
    Config.ecdsaVerify root (issuer.take 0xA0) (certSig issuer) &&
    Config.ecdsaVerify (certPub issuer) (leaf.take 0xA0) (certSig leaf)

/-- `load-module-signer` (R435): a certificate that passes R430, or zeros to remove the slot. (DEDUCED log 41) -/
def execLoadModuleSigner (k : Pkt) (s : State) : Out :=
  .next (plain k (fun t =>
    let slot := k.p8 0
    let rest := k.par.drop 4
    if 16 ≤ slot ∨ !parZero k 1 3 then .err St.badParam
    else if rest.all (· == 0) then .ok (storeUpd (fun st => { st with signers := Tab.del st.signers slot }) t) []
    else if !chainUnder t (sub rest 0 96) (sub rest 96 256) (sub rest 352 256) useModule then .err St.sigBad
    else .ok (storeUpd (fun st => { st with signers := Tab.put st.signers slot (sub rest 96 512) }) t) []) s)

/-- `revoke-root` (R435): the statement of a different, unrevoked root; never the last unrevoked slot. (DEDUCED log 41) -/
def execRevokeRoot (k : Pkt) (s : State) : Out :=
  .next (plain k (fun t =>
    let r := k.p8 0
    let by_ := k.p8 1
    let key := sub k.par 4 96
    let left := [0, 1, 2, 3].filter (fun i => (Tab.get t.nv.roots i).isSome && !t.nv.revoked.testBit i && i != r)
    if 4 ≤ r ∨ 4 ≤ by_ ∨ r = by_ ∨ !parZero k 2 2 ∨ left.isEmpty then .err St.badParam
    else if t.nv.revoked.testBit by_ || Tab.get t.nv.roots by_ != some (Config.sha384 key) ||
        !Config.ecdsaVerify key (ascii "MRRV" ++ leBytes 1 r) (sub k.par 100 96) then .err St.sigBad
    else .ok { t with nv := { t.nv with revoked := t.nv.revoked ||| 2 ^ r } } []) s)

/-- The 16 bytes of set-policy are in range. -/
def policyOk (l : List Byte) : Bool :=
  (List.range 11).all (fun i => decide (u8 l i ≤ 5)) && decide (3 ≤ u8 l 2) && decide (u8 l 11 < 16) && u8 l 12 != 0 &&
    zeroAt l 13 3

/-- `set-policy`: the policies apply to later events, the PFLAGS under R449. -/
def execSetPolicy (k : Pkt) (s : State) : Out :=
  .next (plain k (fun t =>
    if !policyOk k.par then .err St.badParam
    else
      let t1 := storeUpd (fun st => { st with
        policies := (List.range 11).map (fun i => k.p8 i), pflags := k.p8 11, rekeyH := k.p8 12 }) t
      .ok (if pflag t 0 = pflag t1 0 ∧ pflag t 1 = pflag t1 1 then t1 else rekeyAll t1) []) s)

/-- `tamper-clear` (R457). -/
def execTamperClear (k : Pkt) (s : State) : Out :=
  .next (plain k (fun t => .ok (storeUpd (fun st => { st with restricted := false }) t) []) s)

/-- `zeroise` (R458): the reply, LOCKDOWN with LOCK_CAUSE 3, then the level. -/
def execZeroise (k : Pkt) (s : State) : Out :=
  .next (plain k (fun t =>
    if k.p8 0 = 0 ∨ 4 ≤ k.p8 0 ∨ !parZero k 1 3 then .err St.badParam
    else .later (zeroise (k.p8 0) (enterLockdown 3 (finish k St.ok [] t)))) s)

/-- `lockdown` (R458). -/
def execLockdown (k : Pkt) (s : State) : Out :=
  .next (plain k (fun t => .later (enterLockdown 3 (finish k St.ok [] t))) s)

/-! ### Debug (R459 to R462) -/

/-- `get-nonce`: for the port that holds SEM3; valid for 300 s, replacing the previous nonce. (DEDUCED log 41) -/
def execGetNonce (k : Pkt) (s : State) : Out :=
  .next (plain k (fun t =>
    if !holds t k.req 3 then .err St.notHeld
    else
      let n := freshBytes 32 t
      .ok { n.2 with sec := { n.2.sec with nonce := some (n.1, ltNs t + 300000000000, k.req) } } n.1) s)

/-- The vendor debug token of R460 for a nonce. -/
def tokenOk (s : State) (tok nonce : List Byte) : Bool :=
  u32 tok 0 == 0x5444524D && u16 tok 4 == 1 && u8 tok 6 == 2 && u8 tok 7 == 0 && sub tok 8 16 == certId s &&
    sub tok 24 32 == nonce && zeroAt tok 56 8 && leafChain s (sub tok 64 256) useDebug &&
    Config.ecdsaVerify (certPub (sub tok 64 256)) (tok.take 0x140) (sub tok 0x140 96)

/-- The unlock takes effect: at level 2 after Z1, with every Twill port held (R461). -/
def grantDebug (lvl min_ : Nat) (s : State) : State :=
  let set := fun (a : State) =>
    { setF (setF a R.SEC_STATUS_DEBUG lvl) R.SEC_DEBUG_LEFT_MIN min_ with
      sec := { a.sec with debugEnd := some (ltNs a + min_ * 60000000000) } }
  if lvl = 2 then set (ports.foldl (fun a p => holdPort p (linkDown p 0 a)) (zero1 s)) else set s

/-- `debug-unlock` (R460): the nonce is checked and spent; level 2 needs the vendor's token as well. (DEDUCED log 41) -/
def execDebugUnlock (k : Pkt) (s : State) : Out :=
  .next (plain k (fun t =>
    let lvl := k.p8 0
    let n := sub k.par 4 32
    let mins := k.p16 36
    if !(lvl == 1 || lvl == 2) || !parZero k 1 3 || mins == 0 || decide (480 < mins) || !parZero k 38 2 then .err St.badParam
    else if !(t.sec.nonce.any (fun e => e.1 == n && decide (ltNs t < e.2.1) && e.2.2 == k.req)) then .err St.sigBad
    else
      let t1 := { t with sec := { t.sec with nonce := none } }
      if lvl = 2 ∧ !tokenOk t1 (k.par.drop 40) n then .later (finish k St.sigBad [] t1)
      else .later (grantDebug lvl mins (finish k St.ok [] t1))) s)

/-- `debug-lock` (R462). -/
def execDebugLock (k : Pkt) (s : State) : Out := .next (plain k (fun t => .ok (endDebug t) []) s)

/-- DEBUG_UNLOCK_EXPIRY: DURATION_MIN has passed (R462). -/
def execDebugUnlockExpiry (s : State) : Out :=
  .next (if alive s && getF s R.SEC_STATUS_DEBUG != 0 then endDebug s else s)

/-- Instructions honoured in the device's state (Table 14.11), EXTEST in BOOT, STANDBY and SERVICE only. -/
def jtagHonoured (s : State) (i : JtagInstr) : Bool :=
  let lvl := getF s R.SEC_STATUS_DEBUG
  let free_ := ostate s != 1 || decide (1 ≤ lvl)
  match i with
  | .bypass => true
  | .idcode => true
  | .sample => free_
  | .extest => free_ && (mode s == mBoot || mode s == mStandby || mode s == mService)
  | .coreDebug => decide (1 ≤ lvl)
  | .scanTest => decide (2 ≤ lvl)
  | .other => false

/-- JTAG_INSTRUCTION: honoured, or taken as BYPASS, with tamper source 6 when the device is OWNED (R459). (DEDUCED log 41) -/
def execJtagInstruction (i : JtagInstr) (s : State) : Out :=
  .next (
    if jtagHonoured s i then { s with sec := { s.sec with jtag := i } }
    else
      let t := { s with sec := { s.sec with jtag := .bypass } }
      if ostate t = 1 then tamperEvent 6 0 t else t)

/-! ### Tamper inputs (R453, R454) -/

/-- A source of the tamper inputs is monitored: MESH with MESH_EN, VOLT with power good. Sources from 7 on count in the
device itself. -/
def tamperWatched (s : State) (src : Nat) : Bool :=
  match src with
  | 0 => pflag s 3
  | 3 => !s.sys.rst.porst && !s.sys.rst.power
  | _ => decide (src < 7)

/-- TAMPER_EVENT: a tamper input has an event, and its condition holds or has ended. (DEDUCED log 41) -/
def execTamperEvent (src : Nat) (detail : Nat) (holds : Bool) (s : State) : Out :=
  .next (
    if !tamperWatched s src then s
    else
      let l := s.sec.active.filter (· != src)
      let t := { s with sec := { s.sec with active := if holds then src :: l else l } }
      tamperEvent src (if src = 3 then detail % 4 else 0) t)

/-- TAMPER_ARM, 0.2 ms after a reset (R454): conditions that hold are events; VOLT and CLOCK events are handled under their
default policies; then the secure store is loaded, and the other events held are judged under its policies. (DEDUCED log 41) -/
def execTamperArm (s : State) : Out :=
  .next (
    if inReset s || s.sys.tamperArmed then s
    else
      let held := s.sec.latched.map (fun e => e.source)
      let still := (s.sec.active.filter (fun x => !held.contains x && tamperWatched s x)).map (fun x =>
        ({ source := x, policy := 0, lt := ltNs s, wt := wtNs s, detail := 0, seq := 0 } : TamperRec))
      let all := s.sec.latched ++ still
      let early := all.filter (fun e => e.source == 3 || e.source == 4)
      let late := all.filter (fun e => !(e.source == 3 || e.source == 4))
      let s1 := { s with sys := { s.sys with tamperArmed := true }, sec := { s.sec with latched := [], loaded := false } }
      let s2 := early.foldl (fun a e => handleTamper e a) s1
      let s3 := { s2 with sec := { s2.sec with loaded := true } }
      let s4 := if s3.nv.store.isSome && !s3.nv.storeGood then levelRise 14 12 0 s3 else s3
      late.foldl (fun a e => handleTamper e a) s4)

/-! ### Attestation and the tamper log (R456, R463) -/

/-- The policy record: the 16 bytes of set-policy in force. -/
def policyRecord (s : State) : List Byte :=
  ((List.range 11).map (fun i => leBytes 1 (policyOf s i))).flatten ++
    leBytes 1 ((if pflag s 0 then 1 else 0) + (if pflag s 1 then 2 else 0) + (if pflag s 2 then 4 else 0) + (if pflag s 3 then 8 else 0)) ++
    leBytes 1 (rekeyHours s) ++ zeros 3

/-- The attestation statement without its signature. -/
def statement (s : State) (nonce : List Byte) : List Byte :=
  let flag := fun (b : Bool) (v : Nat) => if b then v else 0
  let dig := fun (o : Option (List Byte)) => o.getD (zeros 48)
  leBytes 4 0x5441524D ++ leBytes 2 1 ++ leBytes 1 (ostate s) ++ leBytes 1 (getF s R.SEC_STATUS_DEBUG) ++ certId s ++ ownerId s ++
    nonce ++ leBytes 4 s.nv.svnFuses ++
    leBytes 4 (flag (restricted s) 1 + flag (pflag s 0) 2 + flag (pflag s 1) 4 + flag (pflag s 2) 8 + flag (storeOf s).isSome 16) ++
    dig (s.upd.running.map (fun r => r.main)) ++ dig (s.upd.running.map (fun r => r.secfw)) ++ Config.sha384 (policyRecord s) ++
    leBytes 4 s.nv.events ++ leBytes 4 (match s.nv.log with | e :: _ => e.seq | [] => 0) ++ leBytes 8 (ltNs s) ++ zeros 8

/-- `get-attestation` (R463). -/
def execGetAttestation (k : Pkt) (s : State) : Out :=
  .next (plain k (fun t =>
    let st := statement t (sub k.par 0 32)
    .ok t (st ++ dikSign st ++ t.nv.deviceCert ++ t.nv.issuerCert)) s)

/-- A log entry, signed with the DIK. -/
def logEntry (e : TamperRec) : List Byte :=
  let b := leBytes 4 e.seq ++ leBytes 1 e.source ++ leBytes 1 e.policy ++ zeros 2 ++ leBytes 8 e.lt ++ leBytes 8 e.wt ++
    leBytes 4 e.detail ++ zeros 4
  b ++ dikSign b

/-- `read-tamper-log`: entries from SEQ FIRST on, oldest first, at most COUNT of those kept. (DEDUCED log 41) -/
def execReadTamperLog (k : Pkt) (s : State) : Out :=
  .next (plain k (fun t =>
    let n := k.p8 4
    if n = 0 ∨ 31 < n ∨ !parZero k 5 3 then .err St.badParam
    else
      let l := (t.nv.log.reverse.filter (fun e => decide (k.p32 0 ≤ e.seq))).take n
      .ok t (l.map logEntry).flatten) s)

end Sys2Proof.Machine
end

