-- ==== Sys2Proof/Machine/Dispatch.lean ====
section
/-!
DEFINITION. The dispatch: one arm per command, each a direct call of its meaning.
-/

namespace Sys2Proof.Machine

def exec (i : Instr) (s : State) : Host.Outcome State Fault Refusal :=
  match i with
  | .getInfo k => Sys2Proof.Machine.execGetInfo k s
  | .getStatus k => Sys2Proof.Machine.execGetStatus k s
  | .setMode k => Sys2Proof.Machine.execSetMode k s
  | .warmReset k => Sys2Proof.Machine.execWarmReset k s
  | .warmResetDelayExpiry => Sys2Proof.Machine.execWarmResetDelayExpiry s
  | .readRegs k => Sys2Proof.Machine.execReadRegs k s
  | .writeRegs k => Sys2Proof.Machine.execWriteRegs k s
  | .ping k => Sys2Proof.Machine.execPing k s
  | .semAcquire k => Sys2Proof.Machine.execSemAcquire k s
  | .semWaitExpiry k => Sys2Proof.Machine.execSemWaitExpiry k s
  | .semRelease k => Sys2Proof.Machine.execSemRelease k s
  | .semStatus k => Sys2Proof.Machine.execSemStatus k s
  | .setLiveness k => Sys2Proof.Machine.execSetLiveness k s
  | .livenessExpiry r => Sys2Proof.Machine.execLivenessExpiry r s
  | .readRemote k f => Sys2Proof.Machine.execReadRemote k f s
  | .writeRemote k f => Sys2Proof.Machine.execWriteRemote k f s
  | .openExport k => Sys2Proof.Machine.execOpenExport k s
  | .exportWindowExpiry w => Sys2Proof.Machine.execExportWindowExpiry w s
  | .closeExport k => Sys2Proof.Machine.execCloseExport k s
  | .setGroups k => Sys2Proof.Machine.execSetGroups k s
  | .setEthPort k => Sys2Proof.Machine.execSetEthPort k s
  | .ethPortRestartDone p => Sys2Proof.Machine.execEthPortRestartDone p s
  | .setAddress k => Sys2Proof.Machine.execSetAddress k s
  | .addFlow k => Sys2Proof.Machine.execAddFlow k s
  | .modifyFlow k => Sys2Proof.Machine.execModifyFlow k s
  | .removeFlow k => Sys2Proof.Machine.execRemoveFlow k s
  | .getFlow k => Sys2Proof.Machine.execGetFlow k s
  | .createSurface k => Sys2Proof.Machine.execCreateSurface k s
  | .destroySurface k => Sys2Proof.Machine.execDestroySurface k s
  | .getSurface k => Sys2Proof.Machine.execGetSurface k s
  | .setSurface k => Sys2Proof.Machine.execSetSurface k s
  | .publish k => Sys2Proof.Machine.execPublish k s
  | .upload k => Sys2Proof.Machine.execUpload k s
  | .uploadComplete data => Sys2Proof.Machine.execUploadComplete data s
  | .uploadDmaError data => Sys2Proof.Machine.execUploadDmaError data s
  | .setLayer k => Sys2Proof.Machine.execSetLayer k s
  | .setZOrder k => Sys2Proof.Machine.execSetZOrder k s
  | .setBackground k => Sys2Proof.Machine.execSetBackground k s
  | .loadBank k f => Sys2Proof.Machine.execLoadBank k f s
  | .setWriteback k => Sys2Proof.Machine.execSetWriteback k s
  | .setPreview k => Sys2Proof.Machine.execSetPreview k s
  | .commit k => Sys2Proof.Machine.execCommit k s
  | .commitLockIn n => Sys2Proof.Machine.execCommitLockIn n s
  | .setWall k => Sys2Proof.Machine.execSetWall k s
  | .setProfile k => Sys2Proof.Machine.execSetProfile k s
  | .setTone k => Sys2Proof.Machine.execSetTone k s
  | .setAmbientCurve k => Sys2Proof.Machine.execSetAmbientCurve k s
  | .commitColour k => Sys2Proof.Machine.execCommitColour k s
  | .setAmbientSensors k => Sys2Proof.Machine.execSetAmbientSensors k s
  | .loadMap k f => Sys2Proof.Machine.execLoadMap k f s
  | .commitMap k => Sys2Proof.Machine.execCommitMap k s
  | .getMap k f => Sys2Proof.Machine.execGetMap k f s
  | .calibrate k => Sys2Proof.Machine.execCalibrate k s
  | .discover k => Sys2Proof.Machine.execDiscover k s
  | .step k => Sys2Proof.Machine.execStep k s
  | .getTopology k => Sys2Proof.Machine.execGetTopology k s
  | .setPtp k => Sys2Proof.Machine.execSetPtp k s
  | .setCadence k => Sys2Proof.Machine.execSetCadence k s
  | .armTrigger k => Sys2Proof.Machine.execArmTrigger k s
  | .disarmTrigger k => Sys2Proof.Machine.execDisarmTrigger k s
  | .setWtSeconds k => Sys2Proof.Machine.execSetWtSeconds k s
  | .getTime k => Sys2Proof.Machine.execGetTime k s
  | .factoryWrite k f => Sys2Proof.Machine.execFactoryWrite k f s
  | .loadUserLayer k f => Sys2Proof.Machine.execLoadUserLayer k f s
  | .userLayerWriteDone good => Sys2Proof.Machine.execUserLayerWriteDone good s
  | .revertUserLayer k => Sys2Proof.Machine.execRevertUserLayer k s
  | .readAgeing k f => Sys2Proof.Machine.execReadAgeing k f s
  | .moduleRelease k => Sys2Proof.Machine.execModuleRelease k s
  | .setStrandGeometry k => Sys2Proof.Machine.execSetStrandGeometry k s
  | .strandRead k => Sys2Proof.Machine.execStrandRead k s
  | .enumerate k => Sys2Proof.Machine.execEnumerate k s
  | .diagDrive k => Sys2Proof.Machine.execDiagDrive k s
  | .setFeed k => Sys2Proof.Machine.execSetFeed k s
  | .setDeratingCurve k => Sys2Proof.Machine.execSetDeratingCurve k s
  | .setSupplies k => Sys2Proof.Machine.execSetSupplies k s
  | .clearSupplyFaults k => Sys2Proof.Machine.execClearSupplyFaults k s
  | .setDiode k => Sys2Proof.Machine.execSetDiode k s
  | .setAmon k => Sys2Proof.Machine.execSetAmon k s
  | .setThreshold k => Sys2Proof.Machine.execSetThreshold k s
  | .enrolOwner k => Sys2Proof.Machine.execEnrolOwner k s
  | .rotateOwner k => Sys2Proof.Machine.execRotateOwner k s
  | .releaseOwner k => Sys2Proof.Machine.execReleaseOwner k s
  | .setDelegate k => Sys2Proof.Machine.execSetDelegate k s
  | .setDenyList k => Sys2Proof.Machine.execSetDenyList k s
  | .loadModuleSigner k => Sys2Proof.Machine.execLoadModuleSigner k s
  | .revokeRoot k => Sys2Proof.Machine.execRevokeRoot k s
  | .setPolicy k => Sys2Proof.Machine.execSetPolicy k s
  | .tamperClear k => Sys2Proof.Machine.execTamperClear k s
  | .zeroise k => Sys2Proof.Machine.execZeroise k s
  | .lockdown k => Sys2Proof.Machine.execLockdown k s
  | .getNonce k => Sys2Proof.Machine.execGetNonce k s
  | .debugUnlock k => Sys2Proof.Machine.execDebugUnlock k s
  | .debugLock k => Sys2Proof.Machine.execDebugLock k s
  | .debugUnlockExpiry => Sys2Proof.Machine.execDebugUnlockExpiry s
  | .getAttestation k => Sys2Proof.Machine.execGetAttestation k s
  | .readTamperLog k => Sys2Proof.Machine.execReadTamperLog k s
  | .configSet k => Sys2Proof.Machine.execConfigSet k s
  | .configGet k f => Sys2Proof.Machine.execConfigGet k f s
  | .configCommit k => Sys2Proof.Machine.execConfigCommit k s
  | .configWriteDone good => Sys2Proof.Machine.execConfigWriteDone good s
  | .configRevert k => Sys2Proof.Machine.execConfigRevert k s
  | .stageImage k f => Sys2Proof.Machine.execStageImage k f s
  | .stageDone good => Sys2Proof.Machine.execStageDone good s
  | .activate k => Sys2Proof.Machine.execActivate k s
  | .activationReady => Sys2Proof.Machine.execActivationReady s
  | .activationTimeout => Sys2Proof.Machine.execActivationTimeout s
  | .revertImage k => Sys2Proof.Machine.execRevertImage k s
  | .commitSvn k => Sys2Proof.Machine.execCommitSvn k s
  | .getUpdateStatus k => Sys2Proof.Machine.execGetUpdateStatus k s
  | .readQueue k => Sys2Proof.Machine.execReadQueue k s
  | .readFaults k => Sys2Proof.Machine.execReadFaults k s
  | .readCell k => Sys2Proof.Machine.execReadCell k s
  | .envelopeVerified k f => Sys2Proof.Machine.execEnvelopeVerified k f s
  | .envelopeThrottleExpiry r => Sys2Proof.Machine.execEnvelopeThrottleExpiry r s
  | .interimReplyTimer k => Sys2Proof.Machine.execInterimReplyTimer k s
  | .forwardResendTimeout tag => Sys2Proof.Machine.execForwardResendTimeout tag s
  | .quietForget tag => Sys2Proof.Machine.execQuietForget tag s
  | .aggregateCollectionEnd tag => Sys2Proof.Machine.execAggregateCollectionEnd tag s
  | .commandRingDoorbell v => Sys2Proof.Machine.execCommandRingDoorbell v s
  | .commandEntryFetch entry => Sys2Proof.Machine.execCommandEntryFetch entry s
  | .replyRingHeadWrite v => Sys2Proof.Machine.execReplyRingHeadWrite v s
  | .ringEnableWrite reply v => Sys2Proof.Machine.execRingEnableWrite reply v s
  | .cp1CmdWrite v => Sys2Proof.Machine.execCp1CmdWrite v s
  | .cp1RplRead => Sys2Proof.Machine.execCp1RplRead s
  | .cp1Flush => Sys2Proof.Machine.execCp1Flush s
  | .cp1PartialTimeout => Sys2Proof.Machine.execCp1PartialTimeout s
  | .qspiStatus => Sys2Proof.Machine.execQspiStatus s
  | .indAddrWrite q v => Sys2Proof.Machine.execIndAddrWrite q v s
  | .indDataRead q be => Sys2Proof.Machine.execIndDataRead q be s
  | .indDataWrite q v => Sys2Proof.Machine.execIndDataWrite q v s
  | .latchedPairRead q pair part be => Sys2Proof.Machine.execLatchedPairRead q pair part be s
  | .eventAcknowledge q addr v => Sys2Proof.Machine.execEventAcknowledge q addr v s
  | .cfgLockWrite q v => Sys2Proof.Machine.execCfgLockWrite q v s
  | .gpioOutWrite q v => Sys2Proof.Machine.execGpioOutWrite q v s
  | .sysLoadWrite q v => Sys2Proof.Machine.execSysLoadWrite q v s
  | .forceFull => Sys2Proof.Machine.execForceFull s
  | .passMaxClear q v => Sys2Proof.Machine.execPassMaxClear q v s
  | .calCmdWrite q p v => Sys2Proof.Machine.execCalCmdWrite q p v s
  | .injGo q p l v => Sys2Proof.Machine.execInjGo q p l v s
  | .timSnapGo q v => Sys2Proof.Machine.execTimSnapGo q v s
  | .triggerArmWrite q u v => Sys2Proof.Machine.execTriggerArmWrite q u v s
  | .triggerDisarmWrite q u v => Sys2Proof.Machine.execTriggerDisarmWrite q u v s
  | .ckptNow q v => Sys2Proof.Machine.execCkptNow q v s
  | .stepCmdGo q p v => Sys2Proof.Machine.execStepCmdGo q p v s
  | .pciRetrain q v => Sys2Proof.Machine.execPciRetrain q v s
  | .faultRecordClear q b v => Sys2Proof.Machine.execFaultRecordClear q b v s
  | .clkSelChange q v => Sys2Proof.Machine.execClkSelChange q v s
  | .testLoopWrite q p v => Sys2Proof.Machine.execTestLoopWrite q p v s
  | .parkReqWrite q p l v => Sys2Proof.Machine.execParkReqWrite q p l v s
  | .eqOverrideWrite q p l v => Sys2Proof.Machine.execEqOverrideWrite q p l v s
  | .txIdleWrite q p v => Sys2Proof.Machine.execTxIdleWrite q p v s
  | .registerWrite q addr v be => Sys2Proof.Machine.execRegisterWrite q addr v be s
  | .powerOnReset => Sys2Proof.Machine.execPowerOnReset s
  | .brownOut => Sys2Proof.Machine.execBrownOut s
  | .wrstAssert => Sys2Proof.Machine.execWrstAssert s
  | .watchdogExpiry => Sys2Proof.Machine.execWatchdogExpiry s
  | .resetEnd role board src lost => Sys2Proof.Machine.execResetEnd role board src lost s
  | .bootComplete => Sys2Proof.Machine.execBootComplete s
  | .tamperArm => Sys2Proof.Machine.execTamperArm s
  | .tamperEvent src detail holds => Sys2Proof.Machine.execTamperEvent src detail holds s
  | .modulePulled => Sys2Proof.Machine.execModulePulled s
  | .moduleInserted m => Sys2Proof.Machine.execModuleInserted m s
  | .modIntEdge raws => Sys2Proof.Machine.execModIntEdge raws s
  | .pmbAlert reads => Sys2Proof.Machine.execPmbAlert reads s
  | .gpioEdge pin rise => Sys2Proof.Machine.execGpioEdge pin rise s
  | .genlockEdge => Sys2Proof.Machine.execGenlockEdge s
  | .ppsEdge => Sys2Proof.Machine.execPpsEdge s
  | .genlockLoss => Sys2Proof.Machine.execGenlockLoss s
  | .vddStrLoss => Sys2Proof.Machine.execVddStrLoss s
  | .vddStrReturn => Sys2Proof.Machine.execVddStrReturn s
  | .pcieLinkDown => Sys2Proof.Machine.execPcieLinkDown s
  | .pcieLinkUp speed width => Sys2Proof.Machine.execPcieLinkUp speed width s
  | .ethLinkChange p sub up => Sys2Proof.Machine.execEthLinkChange p sub up s
  | .ethFrameRx p sub b flags => Sys2Proof.Machine.execEthFrameRx p sub b flags s
  | .ptpAnnounceTimeout j => Sys2Proof.Machine.execPtpAnnounceTimeout j s
  | .delayReqTimer j => Sys2Proof.Machine.execDelayReqTimer j s
  | .mergeWindowExpiry j => Sys2Proof.Machine.execMergeWindowExpiry j s
  | .legIdle j l => Sys2Proof.Machine.execLegIdle j l s
  | .flowTimeout j => Sys2Proof.Machine.execFlowTimeout j s
  | .frameBoundary n => Sys2Proof.Machine.execFrameBoundary n s
  | .guardCheckDone layer => Sys2Proof.Machine.execGuardCheckDone layer s
  | .guardWaitExpiry => Sys2Proof.Machine.execGuardWaitExpiry s
  | .regionComplete j => Sys2Proof.Machine.execRegionComplete j s
  | .passEnd => Sys2Proof.Machine.execPassEnd s
  | .cellLaunch p => Sys2Proof.Machine.execCellLaunch p s
  | .presentInstant n => Sys2Proof.Machine.execPresentInstant n s
  | .frameClose n => Sys2Proof.Machine.execFrameClose n s
  | .armSend n => Sys2Proof.Machine.execArmSend n s
  | .pushCutoff => Sys2Proof.Machine.execPushCutoff s
  | .pushWindowEnd => Sys2Proof.Machine.execPushWindowEnd s
  | .pwmCycleStart => Sys2Proof.Machine.execPwmCycleStart s
  | .adcStart codes => Sys2Proof.Machine.execAdcStart codes s
  | .statusPoll g => Sys2Proof.Machine.execStatusPoll g s
  | .returnReply g words crc => Sys2Proof.Machine.execReturnReply g words crc s
  | .readTimeout g => Sys2Proof.Machine.execReadTimeout g s
  | .triggerFire k => Sys2Proof.Machine.execTriggerFire k s
  | .pulseEnd g => Sys2Proof.Machine.execPulseEnd g s
  | .syncInterval => Sys2Proof.Machine.execSyncInterval s
  | .tSync p m => Sys2Proof.Machine.execTSync p m s
  | .tFollow p m => Sys2Proof.Machine.execTFollow p m s
  | .tDreq p m => Sys2Proof.Machine.execTDreq p m s
  | .tDresp p m => Sys2Proof.Machine.execTDresp p m s
  | .tAnnounce p m => Sys2Proof.Machine.execTAnnounce p m s
  | .tParams p m => Sys2Proof.Machine.execTParams p m s
  | .announceTimer => Sys2Proof.Machine.execAnnounceTimer s
  | .announceExpiry dev => Sys2Proof.Machine.execAnnounceExpiry dev s
  | .masterChangeDwell => Sys2Proof.Machine.execMasterChangeDwell s
  | .offerExpiry p => Sys2Proof.Machine.execOfferExpiry p s
  | .oscLearn => Sys2Proof.Machine.execOscLearn s
  | .deliveryReportTimer => Sys2Proof.Machine.execDeliveryReportTimer s
  | .ambientSample reads => Sys2Proof.Machine.execAmbientSample reads s
  | .ambientReportTimer => Sys2Proof.Machine.execAmbientReportTimer s
  | .toneStateTimer => Sys2Proof.Machine.execToneStateTimer s
  | .feedClaimTimer => Sys2Proof.Machine.execFeedClaimTimer s
  | .budgetPeriod feed => Sys2Proof.Machine.execBudgetPeriod feed s
  | .demandTimer => Sys2Proof.Machine.execDemandTimer s
  | .budgetEchoTimeout slot => Sys2Proof.Machine.execBudgetEchoTimeout slot s
  | .sagGatherExpiry feed => Sys2Proof.Machine.execSagGatherExpiry feed s
  | .budgetHoldExpiry => Sys2Proof.Machine.execBudgetHoldExpiry s
  | .telemetryRound reads => Sys2Proof.Machine.execTelemetryRound reads s
  | .overheadMeasurement => Sys2Proof.Machine.execOverheadMeasurement s
  | .sensorSample x raw => Sys2Proof.Machine.execSensorSample x raw s
  | .thresholdDwellExpiry t => Sys2Proof.Machine.execThresholdDwellExpiry t s
  | .dieModelUpdate rails => Sys2Proof.Machine.execDieModelUpdate rails s
  | .zoneModelUpdate => Sys2Proof.Machine.execZoneModelUpdate s
  | .checkpoint => Sys2Proof.Machine.execCheckpoint s
  | .checkpointDone good => Sys2Proof.Machine.execCheckpointDone good s
  | .patrolScrub unit region index kind => Sys2Proof.Machine.execPatrolScrub unit region index kind s
  | .containmentEnd b => Sys2Proof.Machine.execContainmentEnd b s
  | .losAssert p l => Sys2Proof.Machine.execLosAssert p l s
  | .losDeassert p l => Sys2Proof.Machine.execLosDeassert p l s
  | .clockOutOfLock p => Sys2Proof.Machine.execClockOutOfLock p s
  | .laneOutOfLock p l => Sys2Proof.Machine.execLaneOutOfLock p l s
  | .frequencyMeasured p f => Sys2Proof.Machine.execFrequencyMeasured p f s
  | .trainingBlock p l skew inv b => Sys2Proof.Machine.execTrainingBlock p l skew inv b s
  | .trainingTimeout p => Sys2Proof.Machine.execTrainingTimeout p s
  | .calRunDone p l r => Sys2Proof.Machine.execCalRunDone p l r s
  | .calStart p => Sys2Proof.Machine.execCalStart p s
  | .calRetryTimer p l => Sys2Proof.Machine.execCalRetryTimer p l s
  | .loopTimeout p => Sys2Proof.Machine.execLoopTimeout p s
  | .flitRx p l j corr b => Sys2Proof.Machine.execFlitRx p l j corr b s
  | .retryTimeout p => Sys2Proof.Machine.execRetryTimeout p s
  | .unackedTimeout p => Sys2Proof.Machine.execUnackedTimeout p s
  | .hello p l => Sys2Proof.Machine.execHello p l s
  | .laneReq p l => Sys2Proof.Machine.execLaneReq p l s
  | .laneset p l => Sys2Proof.Machine.execLaneset p l s
  | .stepFlit p l => Sys2Proof.Machine.execStepFlit p l s
  | .retrainTimeout p => Sys2Proof.Machine.execRetrainTimeout p s
  | .autoStepDown p reason => Sys2Proof.Machine.execAutoStepDown p reason s
  | .stepUpTimer p => Sys2Proof.Machine.execStepUpTimer p s
  | .authHello p m => Sys2Proof.Machine.execAuthHello p m s
  | .proof p m => Sys2Proof.Machine.execProof p m s
  | .authFail p m => Sys2Proof.Machine.execAuthFail p m s
  | .authBackoffExpiry p => Sys2Proof.Machine.execAuthBackoffExpiry p s
  | .rekey p m => Sys2Proof.Machine.execRekey p m s
  | .rekeyTimer p => Sys2Proof.Machine.execRekeyTimer p s
  | .command p m => Sys2Proof.Machine.execCommand p m s
  | .reply p m => Sys2Proof.Machine.execReply p m s
  | .cellMessage p m => Sys2Proof.Machine.execCellMessage p m s
  | .discoverMessage p m => Sys2Proof.Machine.execDiscoverMessage p m s
  | .discoverReply p m => Sys2Proof.Machine.execDiscoverReply p m s
  | .probe p m => Sys2Proof.Machine.execProbe p m s
  | .probeReply p m => Sys2Proof.Machine.execProbeReply p m s
  | .probeWaitExpiry p h => Sys2Proof.Machine.execProbeWaitExpiry p h s
  | .assign p m => Sys2Proof.Machine.execAssign p m s
  | .assignAck p m => Sys2Proof.Machine.execAssignAck p m s
  | .assignRetryTimeout p h => Sys2Proof.Machine.execAssignRetryTimeout p h s
  | .linkEvent p m => Sys2Proof.Machine.execLinkEvent p m s
  | .healHoldExpiry p => Sys2Proof.Machine.execHealHoldExpiry p s
  | .liveness p m => Sys2Proof.Machine.execLiveness p m s
  | .livenessIdleTimer => Sys2Proof.Machine.execLivenessIdleTimer s
  | .primaryLost => Sys2Proof.Machine.execPrimaryLost s
  | .backupReq p m => Sys2Proof.Machine.execBackupReq p m s
  | .backupRelease p m => Sys2Proof.Machine.execBackupRelease p m s
  | .lockdownNotice p m => Sys2Proof.Machine.execLockdownNotice p m s
  | .slotNotice p m => Sys2Proof.Machine.execSlotNotice p m s
  | .slotReply p m => Sys2Proof.Machine.execSlotReply p m s
  | .slotNoticeRetry j => Sys2Proof.Machine.execSlotNoticeRetry j s
  | .deliveryReport p m => Sys2Proof.Machine.execDeliveryReport p m s
  | .wallSettings p m => Sys2Proof.Machine.execWallSettings p m s
  | .ambientReport p m => Sys2Proof.Machine.execAmbientReport p m s
  | .toneState p m => Sys2Proof.Machine.execToneState p m s
  | .budget p m => Sys2Proof.Machine.execBudget p m s
  | .demand p m => Sys2Proof.Machine.execDemand p m s
  | .feedClaim p m => Sys2Proof.Machine.execFeedClaim p m s
  | .tunnel p m => Sys2Proof.Machine.execTunnel p m s
  | .mslFrame frame => Sys2Proof.Machine.execMslFrame frame s
  | .ident seq payload => Sys2Proof.Machine.execIdent seq payload s
  | .faults seq payload => Sys2Proof.Machine.execFaults seq payload s
  | .updStatus seq payload => Sys2Proof.Machine.execUpdStatus seq payload s
  | .loadBegin seq payload => Sys2Proof.Machine.execLoadBegin seq payload s
  | .loadData seq payload => Sys2Proof.Machine.execLoadData seq payload s
  | .loadEnd seq payload => Sys2Proof.Machine.execLoadEnd seq payload s
  | .mslStage seq payload => Sys2Proof.Machine.execMslStage seq payload s
  | .mslActivate seq payload => Sys2Proof.Machine.execMslActivate seq payload s
  | .mslRevert seq payload => Sys2Proof.Machine.execMslRevert seq payload s
  | .tParamsTimer => Sys2Proof.Machine.execTParamsTimer s
  | .laneReqTimer p => Sys2Proof.Machine.execLaneReqTimer p s
  | .checkerLock p l => Sys2Proof.Machine.execCheckerLock p l s
  | .checkerLockLoss p l bits errs => Sys2Proof.Machine.execCheckerLockLoss p l bits errs s
  | .clockLoss bit => Sys2Proof.Machine.execClockLoss bit s
  | .clockRestored bit => Sys2Proof.Machine.execClockRestored bit s
  | .jtagInstruction j => Sys2Proof.Machine.execJtagInstruction j s
  | .apertureAccess off n w => Sys2Proof.Machine.execApertureAccess off n w s
  | .pcieConfigWrite bme msixEn d3 => Sys2Proof.Machine.execPcieConfigWrite bme msixEn d3 s
  | .activateVerifyDone good => Sys2Proof.Machine.execActivateVerifyDone good s
  | .factoryWriteDone good => Sys2Proof.Machine.execFactoryWriteDone good s
  | .degradedExpiry => Sys2Proof.Machine.execDegradedExpiry s

end Sys2Proof.Machine
end

