-- ==== Sys2Proof/Safety.lean ====
section
/-!
DEFINITION. The terms that statements use: the invariant of memory and registers, what no step undoes, and when a command
packet is taken and executed.
-/

namespace Sys2Proof.Machine

/-- The register table in its one form: keys rise, and no listed register holds its reset value. -/
def Regs.wf (r : Tab Word) : Bool := Tab.sorted r && r.all (fun e => e.2 != regReset e.1)

/-- Memory and registers are held in their one form, so that equal contents are equal data. -/
def State.Inv (s : State) : Prop := Memory.wf s.mem = true ∧ Regs.wf s.regs = true

/-- What the storage that survives every reset never loses (R428, R429, R456, R458): what was made into the part, and
fuses and counts that only rise. -/
structure NvGrows (a b : NvSt) : Prop where
  product : b.isS = a.isS
  certs : b.deviceCert = a.deviceCert ∧ b.issuerCert = a.issuerCert ∧ b.roots = a.roots
  svn : a.svnFuses ≤ b.svnFuses
  revoked : ∀ i, a.revoked.testBit i = true → b.revoked.testBit i = true
  killed : a.killed = true → b.killed = true
  events : a.events ≤ b.events
  epoch : a.epoch ≤ b.epoch

/-- What no effect of a command undoes: it leaves the queue alone, sends after all that was sent, and keeps the forms and
the storage. -/
structure State.Grows (s t : State) : Prop where
  pending : t.pending = s.pending
  out : s.out <+: t.out
  free : s.free ≤ t.free
  mem : Memory.wf s.mem = true → Memory.wf t.mem = true
  regs : Regs.wf s.regs = true → Regs.wf t.regs = true
  nv : NvGrows s.nv t.nv

/-- The packet of a command that a packet carries; none for an event. -/
def packetIn (i : Instr) : Option Pkt :=
  match i with
  | .getInfo k => some k
  | .getStatus k => some k
  | .setMode k => some k
  | .warmReset k => some k
  | .readRegs k => some k
  | .writeRegs k => some k
  | .ping k => some k
  | .semAcquire k => some k
  | .semRelease k => some k
  | .semStatus k => some k
  | .setLiveness k => some k
  | .readRemote k _ => some k
  | .writeRemote k _ => some k
  | .openExport k => some k
  | .closeExport k => some k
  | .setGroups k => some k
  | .setEthPort k => some k
  | .setAddress k => some k
  | .addFlow k => some k
  | .modifyFlow k => some k
  | .removeFlow k => some k
  | .getFlow k => some k
  | .createSurface k => some k
  | .destroySurface k => some k
  | .getSurface k => some k
  | .setSurface k => some k
  | .publish k => some k
  | .upload k => some k
  | .setLayer k => some k
  | .setZOrder k => some k
  | .setBackground k => some k
  | .loadBank k _ => some k
  | .setWriteback k => some k
  | .setPreview k => some k
  | .commit k => some k
  | .setWall k => some k
  | .setProfile k => some k
  | .setTone k => some k
  | .setAmbientCurve k => some k
  | .commitColour k => some k
  | .setAmbientSensors k => some k
  | .loadMap k _ => some k
  | .commitMap k => some k
  | .getMap k _ => some k
  | .calibrate k => some k
  | .discover k => some k
  | .step k => some k
  | .getTopology k => some k
  | .setPtp k => some k
  | .setCadence k => some k
  | .armTrigger k => some k
  | .disarmTrigger k => some k
  | .setWtSeconds k => some k
  | .getTime k => some k
  | .factoryWrite k _ => some k
  | .loadUserLayer k _ => some k
  | .revertUserLayer k => some k
  | .readAgeing k _ => some k
  | .moduleRelease k => some k
  | .setStrandGeometry k => some k
  | .strandRead k => some k
  | .enumerate k => some k
  | .diagDrive k => some k
  | .setFeed k => some k
  | .setDeratingCurve k => some k
  | .setSupplies k => some k
  | .clearSupplyFaults k => some k
  | .setDiode k => some k
  | .setAmon k => some k
  | .setThreshold k => some k
  | .enrolOwner k => some k
  | .rotateOwner k => some k
  | .releaseOwner k => some k
  | .setDelegate k => some k
  | .setDenyList k => some k
  | .loadModuleSigner k => some k
  | .revokeRoot k => some k
  | .setPolicy k => some k
  | .tamperClear k => some k
  | .zeroise k => some k
  | .lockdown k => some k
  | .getNonce k => some k
  | .debugUnlock k => some k
  | .debugLock k => some k
  | .getAttestation k => some k
  | .readTamperLog k => some k
  | .configSet k => some k
  | .configGet k _ => some k
  | .configCommit k => some k
  | .configRevert k => some k
  | .stageImage k _ => some k
  | .activate k => some k
  | .revertImage k => some k
  | .commitSvn k => some k
  | .getUpdateStatus k => some k
  | .readQueue k => some k
  | .readFaults k => some k
  | .readCell k => some k
  | _ => none

/-- The port and the Twill message of a command that is a message's arrival; none for any other. -/
def messageIn (i : Instr) : Option (Nat × Msg) :=
  match i with
  | .tSync p m => some (p, m)
  | .tFollow p m => some (p, m)
  | .tDreq p m => some (p, m)
  | .tDresp p m => some (p, m)
  | .tAnnounce p m => some (p, m)
  | .tParams p m => some (p, m)
  | .authHello p m => some (p, m)
  | .proof p m => some (p, m)
  | .authFail p m => some (p, m)
  | .rekey p m => some (p, m)
  | .command p m => some (p, m)
  | .reply p m => some (p, m)
  | .cellMessage p m => some (p, m)
  | .discoverMessage p m => some (p, m)
  | .discoverReply p m => some (p, m)
  | .probe p m => some (p, m)
  | .probeReply p m => some (p, m)
  | .assign p m => some (p, m)
  | .assignAck p m => some (p, m)
  | .linkEvent p m => some (p, m)
  | .liveness p m => some (p, m)
  | .backupReq p m => some (p, m)
  | .backupRelease p m => some (p, m)
  | .lockdownNotice p m => some (p, m)
  | .slotNotice p m => some (p, m)
  | .slotReply p m => some (p, m)
  | .deliveryReport p m => some (p, m)
  | .wallSettings p m => some (p, m)
  | .ambientReport p m => some (p, m)
  | .toneState p m => some (p, m)
  | .budget p m => some (p, m)
  | .demand p m => some (p, m)
  | .feedClaim p m => some (p, m)
  | .tunnel p m => some (p, m)
  | _ => none

/-- The device executes packets now: out of reset, past BOOT, and no activation holds the packet back. -/
def takesNow (s : State) (k : Pkt) : Prop := inReset s = false ∧ mode s ≠ mBoot ∧ waitsOut s k = false

/-- The packet k passes every check of R468 in the state s, and a reply of n result bytes fits: its own part then begins in
the state t with `copy`, the data SEC copied. An OPEN command may be unsigned; a signed one has been released (R439 to
R441). -/
def ready (s : State) (k : Pkt) (n : Nat) (copy : Option (List Byte)) (t : State) : Prop :=
  takesNow s k ∧ precheck (arrive k s) k = none ∧ parLenOk k.opcode k.par = true ∧ replyFits s k n = true ∧
    ((k.signed = false ∧ opClass (arrive k s) k.opcode k.par = 0 ∧ copy = none ∧ t = arrive k s) ∨
     (k.signed = true ∧ ∃ r, releasedOf (arrive k s) k = some r ∧ copy = r.copy ∧
        t = { arrive k s with sec := { (arrive k s).sec with released := (arrive k s).sec.released.erase r } }))

/-- A write by requester q acts on block b: q reaches it, the block is powered in the role, and the mode is not LOCKDOWN. -/
def mayAct (s : State) (q b : Nat) : Prop :=
  reaches s q b = true ∧ mode s ≠ mLockdown ∧ blockPowered (sender s) b = true

/-- What the device does with a message: it consumes it, it forwards it (R270, R271). -/
def fate (s : State) (m : Msg) : Bool × Bool := if sender s then senderFate s m else tileFate s m

/-- The state in which a message has been counted as received on port p and has left the port. -/
def counted (s : State) (p : Nat) (m : Msg) : State :=
  { addF s (R.LINK_MSG_RX_COUNT p m.vc) 1 with
    twl := { s.twl with ports := s.twl.ports.map (fun e =>
      if e.1 = p then (e.1, { e.2 with inbox := e.2.inbox.erase m }) else e) } }

/-- The state in which this device consumes a message of port p: counted, and forwarded where it goes on. -/
def received (s : State) (p : Nat) (m : Msg) : State :=
  if (fate s m).2 then forwardMsg p m (counted s p m) else counted s p m

/-- The message arrives at a device out of reset and LOCKDOWN, on a port whose link carries it, well formed. -/
def carried (s : State) (p : Nat) (m : Msg) : Prop :=
  alive s = true ∧ trafficPort s p = true ∧ carries s p m = true ∧ msgOk m = true

/-- This device consumes a message of port p. -/
def arrives (s : State) (p : Nat) (m : Msg) : Prop :=
  carried s p m ∧ (fate s m).1 = true ∧ (m.vc = 1 → unnumbered s = true → unnumberedTakes m.mtype = true)

end Sys2Proof.Machine
end

