-- ==== Sys2Proof/Certificates/Slice0/Obligations.lean ====
section
/-!
DEFINITION. The statements for the provers. In a statement about a command packet, `ready s k n copy t` says that packet k
passes every check of R468 in state s and that its own part begins in state t.
-/

open Sys2Proof Sys2Proof.Machine

/-! ### Steps, reset and what every step keeps -/

/-- A step takes the command at the front of the queue and runs it on the state with the rest of the queue.
(The model's choices it rests on: log entry 1.) -/
def Obligations.StepRunsFront : Prop :=
  ∀ (s : State) (c : Instr) (rest : List Instr), s.pending = c :: rest → step s = exec c { s with pending := rest }

/-- With no command waiting, a step is one cycle of the XO (the model's choice, log entry 2). -/
def Obligations.EmptyQueueTicks : Prop := ∀ s : State, s.pending = [] → step s = .next (tick s)

/-- Reset leaves the machine in BOOT with no command waiting, nothing held or sent, no semaphore taken, no export window
open, every register at its reset value, and memory and registers in their one form.
(The model's choices it rests on: log entries 4, 5, 6.) -/
def Obligations.ResetState : Prop :=
  State.reset.Inv ∧ State.reset.pending = [] ∧ State.reset.out = [] ∧ mode State.reset = mBoot ∧
    State.reset.cps.held = [] ∧ State.reset.cps.sems = [] ∧ State.reset.cps.exports = [] ∧ State.reset.mem = [] ∧
    ∀ key, regGet State.reset key = regReset key

/-- Every step keeps memory and registers in their one form, so that equal contents stay equal data.
(The model's choices it rests on: log entries 5, 10.) -/
def Obligations.StepKeepsInvariant : Prop := ∀ s t : State, s.Inv → step s = .next t → t.Inv

/-- No command undoes what only rises or is only appended: the queue is left alone, what was sent stays sent, free values
are not drawn twice, and the storage that survives every reset keeps product, certificates, fuses, the identity kill and its
counts. So an identity key destroyed by zeroisation level Z3 stays destroyed, whatever step follows, resets included.
(The model's choices it rests on: log entries 1, 7.) -/
def Obligations.NothingIsUndone : Prop :=
  (∀ (i : Instr) (s t : State), exec i s = .next t → s.Grows t) ∧
  ∀ s t : State, s.nv.killed = true → step s = .next t → t.nv.killed = true ∧ ostate t = 2

/-! ### How a packet is handled (R468) -/

/-- A command packet that reaches a device in reset or in BOOT is lost: only the held packets change.
(The model's choices it rests on: log entry 21.) -/
def Obligations.PacketLostBeforeBoot : Prop :=
  ∀ (i : Instr) (k : Pkt) (s : State), packetIn i = some k → inReset s = true ∨ mode s = mBoot →
    exec i s = .next { s with cps := { s.cps with held := s.cps.held.erase k } }

/-- The checks of R468 before a command's own part, in their order, for every command: each answers with its status, once a
reply without results fits, and changes nothing else. `t` is the state in which the packet has left the held ones.
(The model's choices it rests on: log entry 21.) -/
def Obligations.PacketChecksInOrder : Prop :=
  ∀ (i : Instr) (k : Pkt) (s : State), packetIn i = some k → takesNow s k → replyFits s k 0 = true →
    let t := arrive k s
    (k.version ≠ 2 → exec i s = .next (finish k St.badVersion [] t)) ∧
    (k.version = 2 → k.lengthOk = false → exec i s = .next (finish k St.badLength [] t)) ∧
    (k.version = 2 → k.lengthOk = true → mode t = mLockdown → exec i s = .next (finish k St.lockdown [] t)) ∧
    (k.version = 2 → k.lengthOk = true → mode t ≠ mLockdown → k.clean = false →
      exec i s = .next (finish k St.badParam [] t)) ∧
    (k.version = 2 → k.lengthOk = true → mode t ≠ mLockdown → k.clean = true → opInfo k.opcode = none →
      exec i s = .next (finish k St.badOpcode [] t)) ∧
    (∀ o, k.version = 2 → k.lengthOk = true → mode t ≠ mLockdown → k.clean = true → opInfo k.opcode = some o →
      ((o.role = 1 ∧ sender t = false ∨ o.role = 2 ∧ sender t = true) →
        exec i s = .next (finish k St.unsupported [] t)) ∧
      (¬ (o.role = 1 ∧ sender t = false ∨ o.role = 2 ∧ sender t = true) →
        (k.targetFits = false → exec i s = .next (finish k St.badParam [] t)) ∧
        (k.targetFits = true → isMine t k = false → exec i s = .next (finish k St.noRoute [] t)) ∧
        (k.targetFits = true → isMine t k = true →
          (k.req ≠ .muslin ∧ unnumbered t = true ∧ k.opcode ≠ 0 ∧ k.opcode ≠ 1 ∧ k.opcode ≠ 4 →
            exec i s = .next (finish k St.notNumbered [] t)) ∧
          (¬ (k.req ≠ .muslin ∧ unnumbered t = true ∧ k.opcode ≠ 0 ∧ k.opcode ≠ 1 ∧ k.opcode ≠ 4) →
            (modeAccepts (mode t) o = false → exec i s = .next (finish k St.badState [] t)) ∧
            (modeAccepts (mode t) o = true → o.read = false → (Tab.get t.cps.bg (opArea k.opcode)).isSome = true →
              exec i s = .next (finish k St.busy [] t))))))

/-- The gate of signatures: a command of a class other than OPEN that is not SIGNED is refused with SIG_BAD, whatever the
command; an envelope that SEC refuses is answered with the status of the first check that fails, and the command has none of its
effect: what remains is what SEC's own handling leaves.
(The model's choices it rests on: log entry 21.) -/
def Obligations.SignatureGate : Prop :=
  ∀ (i : Instr) (k : Pkt) (s : State), packetIn i = some k → takesNow s k → replyFits s k 0 = true →
    precheck (arrive k s) k = none →
    (k.signed = false → opClass (arrive k s) k.opcode k.par ≠ 0 → exec i s = .next (finish k St.sigBad [] (arrive k s))) ∧
    (k.signed = true → releasedOf (arrive k s) k = none → (∀ f, (envVerdict (arrive k s) k f).1 ≠ 0) →
      ∃ f, exec i s = .next (finish k (envVerdict (arrive k s) k f).1 [] (envelope k f (arrive k s)).1))

/-- A reply changes only what carries it: command transport, Twill ports, registers, the Muslin operation under way, and
what has been sent; a packet that begins changes only the held packets and the liveness watchdogs. Everything else the
device holds is unchanged, memory included.
(The model's choices it rests on: log entry 1.) -/
def Obligations.ReplyFrame : Prop :=
  (∀ (k : Pkt) (st : Nat) (d : List Byte) (s : State),
    finish k st d s = { s with out := (finish k st d s).out, regs := (finish k st d s).regs, cps := (finish k st d s).cps,
                               twl := (finish k st d s).twl, upd := (finish k st d s).upd }) ∧
  ∀ (k : Pkt) (s : State),
    arrive k s = { s with cps := { s.cps with held := (arrive k s).cps.held, liveStart := (arrive k s).cps.liveStart } }

/-! ### Areas 0x00 and 0x01 -/

/-- Information commands change nothing beside their reply: ping returns its parameters, sem-status a word for each of the 16
semaphores, get-info and get-status the device's own bytes. -/
def Obligations.InformationCommandsComplete : Prop :=
  ∀ (s t : State) (k : Pkt) (n : Nat) (c : Option (List Byte)), ready s k n c t →
    (n = k.par.length → exec (.ping k) s = .next (finish k St.ok k.par t)) ∧
    (n = (infoBytes t).length → exec (.getInfo k) s = .next (finish k St.ok (infoBytes t) t)) ∧
    (n = 24 → exec (.getStatus k) s = .next (finish k St.ok
      (leBytes 4 (viewWord 2 0 false 0x10 t).toNat ++ leBytes 4 (viewWord 2 0 false 0x14 t).toNat ++
       leBytes 4 (viewWord 2 11 false 4 t).toNat ++ leBytes 4 (viewWord 2 10 false 4 t).toNat ++
       (if sender t then leBytes 4 (viewWord 2 9 false 4 t).toNat else leBytes 4 (viewWord 2 9 false 0x100 t).toNat) ++
       (if sender t then zeros 4 else leBytes 4 (viewWord 2 12 false 4 t).toNat)) t)) ∧
    (n = 64 → exec (.semStatus k) s = .next (finish k St.ok
      ((List.range 16).map (fun i => leBytes 4 (semWord (Tab.get t.cps.sems i)))).flatten t))

/-- read-faults answers with the 32 bytes of the record of BLOCK, of its snapshot with SET 1, and with the 24 records in
ascending order with BLOCK 0xFF, each as one state holds it, zeros for a block powered down in the role; the Muslin FAULTS
operation answers with the same result. -/
def Obligations.ReadFaultsReturnsRecords : Prop :=
  ∀ (t : State) (p : List Byte) (one : Nat → List Byte) (result : List Byte),
    (∀ b, one b = if blockPowered (sender t) b = true then ((List.range 8).map (fun i =>
      leBytes 4 (regGet t (dirKey 0 ((if u8 p 1 = 1 then 0x800 else 0x400) + 32 * b + 4 * i))).toNat)).flatten
      else zeros 32) →
    u8 p 1 ≤ 1 → zeroAt p 2 2 = true →
    (u8 p 0 < 24 ∧ result = one (u8 p 0)) ∨ (u8 p 0 = 0xFF ∧ result = ((List.range 24).map one).flatten) →
    result.length = (if u8 p 0 = 0xFF then 768 else 32) ∧
    (∀ (s : State) (k : Pkt) (c : Option (List Byte)), k.par = p → ready s k result.length c t →
      exec (.readFaults k) s = .next (finish k St.ok result t)) ∧
    (∀ (s a : State) (q : Nat), inReset s = false → s.upd.mslBusy = none → p.length = 4 → a = incF s R.MSL_FRAMES_N →
      mslModeOk a 2 = true → t = { a with upd := { a.upd with mslBusy := some (q % 65536, 0xFFF, 2, none) } } →
      exec (.faults q p) s = .next (mslReply St.ok result t))


/-- set-mode makes exactly the transitions of Table 2.2; a mode that is current already is answered OK, another transition is
refused with BAD_STATE, a mode that cannot be asked for with BAD_PARAM, and any mode command during a transition with
BUSY. HOLD entered by command has cause 1. Entering a mode writes MODE, PREV_MODE and HOLD_CAUSE, counts the transition once, and
leaves role and straps alone.
(The model's choices it rests on: log entry 17.) -/
def Obligations.SetModeFollowsTable : Prop :=
  (∀ (s t : State) (k : Pkt) (c : Option (List Byte)), ready s k 0 c t →
    (k.p8 0 = 0 ∨ 4 < k.p8 0 → exec (.setMode k) s = .next (finish k St.badParam [] t)) ∧
    (1 ≤ k.p8 0 → k.p8 0 ≤ 4 → zeroAt k.par 1 3 = true →
      (transitioning t = true → exec (.setMode k) s = .next (finish k St.busy [] t)) ∧
      (transitioning t = false →
        (k.p8 0 = mode t → exec (.setMode k) s = .next (finish k St.ok [] t)) ∧
        (k.p8 0 ≠ mode t → (mode t, k.p8 0) ∈ [(1, 2), (1, 4), (2, 1), (2, 3), (3, 2), (3, 1), (4, 1)] →
          exec (.setMode k) s = .next (finish k St.ok [] (changeMode (k.p8 0) (if k.p8 0 = 3 then 1 else 0) t))) ∧
        (k.p8 0 ≠ mode t → (mode t, k.p8 0) ∉ [(1, 2), (1, 4), (2, 1), (2, 3), (3, 2), (3, 1), (4, 1)] →
          exec (.setMode k) s = .next (finish k St.badState [] t))))) ∧
  ∀ (s : State) (m cause : Nat), m < 8 → cause < 4 →
    getF (enterMode m cause s) R.SYS_MODE_MODE = m ∧ getF (enterMode m cause s) R.SYS_MODE_PREV_MODE = mode s ∧
    getF (enterMode m cause s) R.SYS_MODE_HOLD_CAUSE = cause ∧
    getF (enterMode m cause s) R.SYS_MODE_ROLE_EFF = getF s R.SYS_MODE_ROLE_EFF ∧
    getF (enterMode m cause s) R.SYS_MODE_EVT_COUNT = (getF s R.SYS_MODE_EVT_COUNT + 1) % 65536

/-- read-regs and write-regs act on COUNT words in order, directly or through the firmware's pair, set first with INC. -/
def Obligations.RegisterCommandsComplete : Prop :=
  ∀ (s t : State) (k : Pkt) (n : Nat) (c : Option (List Byte)), ready s k n c t → k.p8 6 ≤ 1 → zeroAt k.par 7 1 = true →
    1 ≤ k.p16 4 →
    (∀ u ws, k.p16 4 ≤ 1020 →
      readMany 2 (k.p8 6 == 1) (k.p32 0) (k.p16 4) (firmwarePair (k.p8 6 == 1) (k.p32 0) t) = (u, ws) →
      n = (wordBytes ws).length → exec (.readRegs k) s = .next (finish k St.ok (wordBytes ws) u)) ∧
    (k.p16 4 ≤ 1018 → n = 0 → exec (.writeRegs k) s = .next (finish k St.ok []
      (writeMany 2 (k.p8 6 == 1) (k.p32 0) ((List.range (k.p16 4)).map (fun i => BitVec.ofNat 32 (k.p32 (8 + 4 * i))))
        (firmwarePair (k.p8 6 == 1) (k.p32 0) t))))

/-- sem-acquire: a free semaphore is granted at once, one the requester holds already is answered OK, and one that another
holds is HELD with WAIT_MS 0 and else waits. sem-release frees a semaphore its requester holds; SEM3, whose release ends SERVICE,
and a semaphore with waits have their own effects besides. Another requester is answered NOT_HELD.
(The model's choices it rests on: log entry 21.) -/
def Obligations.Semaphores : Prop :=
  (∀ (s t : State) (k : Pkt) (c : Option (List Byte)), ready s k 0 c t → k.p8 0 < 16 → zeroAt k.par 1 1 = true →
    k.p16 2 ≤ 1000 →
    (Tab.get t.cps.sems (k.p8 0) = none →
      ∃ u, exec (.semAcquire k) s = .next (finish k St.ok [] u) ∧ Tab.get u.cps.sems (k.p8 0) = some k.req ∧
        (∀ m, m ≠ k.p8 0 → Tab.get u.cps.sems m = Tab.get t.cps.sems m) ∧ u.cps.semWaits = t.cps.semWaits ∧
        u.regs = t.regs ∧ u.mem = t.mem ∧ u.nv = t.nv ∧ u.out = t.out) ∧
    (Tab.get t.cps.sems (k.p8 0) = some k.req → exec (.semAcquire k) s = .next (finish k St.ok [] t)) ∧
    (∀ r, Tab.get t.cps.sems (k.p8 0) = some r → r ≠ k.req →
      (k.p16 2 = 0 → exec (.semAcquire k) s = .next (finish k St.held [] t)) ∧
      (k.p16 2 ≠ 0 → ∃ u, exec (.semAcquire k) s = .next u ∧ u.cps.semWaits = t.cps.semWaits ++ [⟨k.p8 0, k⟩] ∧
        u.cps.sems = t.cps.sems ∧ u.out = t.out ∧ u.regs = t.regs ∧ u.mem = t.mem ∧ u.nv = t.nv))) ∧
  ∀ (s t : State) (k : Pkt) (c : Option (List Byte)), ready s k 0 c t → k.p8 0 < 16 → zeroAt k.par 1 3 = true →
    (Tab.get t.cps.sems (k.p8 0) = some k.req →
      exec (.semRelease k) s = .next (finish k St.ok [] (stopWatch k.req (semFree (k.p8 0) t))) ∧
      (k.p8 0 ≠ 3 → (∀ w ∈ t.cps.semWaits, w.sem ≠ k.p8 0) →
        Tab.get (stopWatch k.req (semFree (k.p8 0) t)).cps.sems (k.p8 0) = none ∧
        (stopWatch k.req (semFree (k.p8 0) t)).regs = t.regs ∧ (stopWatch k.req (semFree (k.p8 0) t)).mem = t.mem)) ∧
    (Tab.get t.cps.sems (k.p8 0) ≠ some k.req → exec (.semRelease k) s = .next (finish k St.notHeld [] t))

/-- The ends of waits: an acquire that reaches WAIT_MS leaves the waits and is answered HELD; a requester whose liveness
watchdog runs out loses its semaphores, as `watchdogEnds` says, and holds none and waits for none afterwards.
(The model's choices it rests on: log entry 3.) -/
def Obligations.WaitsEnd : Prop :=
  (∀ (s : State) (k : Pkt), running s = true → (∃ w ∈ s.cps.semWaits, w.pkt = k) →
    exec (.semWaitExpiry k) s = .next (finish k St.held [] (stopWatch k.req
      { s with cps := { s.cps with semWaits := s.cps.semWaits.filter (fun w => w.pkt != k) } }))) ∧
  ∀ (s : State) (r : Req), running s = true → watchdogRuns s r = true →
    exec (.livenessExpiry r) s = .next (watchdogEnds r s)

/-- set-liveness and set-groups store their parameter and note it as the running configuration value. Export windows:
open-export stores the window under its number, close-export and the end of LIFE_S remove it, and nothing else of the device
changes.
(The model's choices it rests on: log entry 22.) -/
def Obligations.LivenessGroupsAndExports : Prop :=
  (∀ (s t : State) (k : Pkt) (c : Option (List Byte)), ready s k 0 c t →
    (exec (.setGroups k) s = .next (finish k St.ok []
      (setItem 2 0 k.par { t with cps := { t.cps with groups := BitVec.ofNat 32 (u32 k.par 0) } }))) ∧
    (100 ≤ u16 k.par 0 → u16 k.par 0 ≤ 60000 → zeroAt k.par 2 2 = true →
      (k.req = .cp1 → exec (.setLiveness k) s = .next (finish k St.ok []
        (setItem 3 1 k.par (setF t R.CPS_LIVE_CP1_TIMEOUT_MS (u16 k.par 0))))) ∧
      (k.req = .cp0 → exec (.setLiveness k) s = .next (finish k St.ok []
        (setItem 3 0 k.par (setF t R.CPS_LIVE_CP0_TIMEOUT_MS (u16 k.par 0))))) ∧
      (∀ src o, k.req = .vc1 src o →
        (sender t = false → exec (.setLiveness k) s = .next (finish k St.ok []
          (setItem 3 0 k.par (setF t R.CPS_LIVE_CP0_TIMEOUT_MS (u16 k.par 0))))) ∧
        (sender t = true → exec (.setLiveness k) s = .next (finish k St.ok []
          { t with cps := { t.cps with live := (k.req, u16 k.par 0) :: t.cps.live.filter (fun e => e.1 != k.req) } })))) ∧
    (u16 k.par 0 < 100 ∨ 60000 < u16 k.par 0 → exec (.setLiveness k) s = .next (finish k St.badParam [] t))) ∧
  (∀ (s t : State) (k : Pkt) (c : Option (List Byte)), ready s k 0 c t → k.p8 0 < 16 →
    (k.p8 1 ≤ 1 → k.p8 2 ≤ 3 → k.p16 4 ≤ 0xFFF → 1 ≤ k.p16 6 →
      (k.p8 1 = 1 → k.p8 3 ≤ 1 ∧ (sender t = true ∨ k.p8 3 = 1) ∧ k.p64 8 + k.p64 16 ≤ 134217728) →
      exec (.openExport k) s = .next (finish k St.ok [] { t with cps := { t.cps with
        exports := Tab.put t.cps.exports (k.p8 0)
          { space := k.p8 1, buf := k.p8 3, rights := k.p8 2, allow := k.p16 4, base := k.p64 8, len := k.p64 16 } } })) ∧
    (zeroAt k.par 1 3 = true → exec (.closeExport k) s = .next (finish k St.ok []
      { t with cps := { t.cps with exports := Tab.del t.cps.exports (k.p8 0) } }))) ∧
  ∀ (s : State) (w : Nat), running s = true →
    exec (.exportWindowExpiry w) s = .next { s with cps := { s.cps with exports := Tab.del s.cps.exports w } }

/-- Remote access within an export window of a stage buffer: write-remote stores exactly its bytes at the window's base plus
the offset, where they read back, and every other byte of memory is unchanged; read-remote returns what memory holds. An
access outside any window is answered NOT_EXPORTED.
(The model's choices it rests on: log entries 10, 22.) -/
def Obligations.RemoteAccess : Prop :=
  ∀ (s t : State) (k : Pkt) (n : Nat) (c : Option (List Byte)) (f : Fetch), ready s k n c t → remoteOk k = true →
    (∀ w, exportFor t k 0 = some w → w.space = 1 → n = k.p32 12 →
      exec (.readRemote k f) s = .next (finish k St.ok (memRead t (stageMem w.buf + w.base + k.p64 4) (k.p32 12)) t)) ∧
    (∀ w, exportFor t k 1 = some w → w.space = 1 → n = 0 →
      ∃ u, exec (.writeRemote k f) s = .next (finish k St.ok [] u) ∧
        (∀ i (h : i < (sub k.par 16 (k.p32 12)).length),
          memGet u (stageMem w.buf + w.base + k.p64 4 + i) = (sub k.par 16 (k.p32 12))[i]) ∧
        (∀ a, a < stageMem w.buf + w.base + k.p64 4 ∨
            stageMem w.buf + w.base + k.p64 4 + (sub k.par 16 (k.p32 12)).length ≤ a → memGet u a = memGet t a) ∧
        u = { t with mem := u.mem }) ∧
    (exportFor t k 0 = none → n = 0 → exec (.readRemote k f) s = .next (finish k St.notExported [] t)) ∧
    (exportFor t k 1 = none → n = 0 → exec (.writeRemote k f) s = .next (finish k St.notExported [] t))

/-! ### How packets travel -/

/-- CP0 rings: a doorbell stores the tail modulo the ring's size, a write of CPS_RQ_HEAD the head, and of a ring's control
register its ENABLE, with LOG2N brought into 2 to 10. Disabling a ring sets its head and tail to 0.
(The model's choices it rests on: log entry 22.) -/
def Obligations.RingRegisters : Prop :=
  ∀ (s : State) (v : Word), alive s = true → sender s = true →
    exec (.commandRingDoorbell v) s = .next (setF s R.CPS_CQ_TAIL_TAIL (v.toNat % 1024 % 2 ^ s.cps.cqLog)) ∧
    exec (.replyRingHeadWrite v) s = .next (setF s R.CPS_RQ_HEAD_HEAD v.toNat) ∧
    (v.toNat % 2 = 0 →
      (∃ t, exec (.ringEnableWrite false v) s = .next t ∧ getF t R.CPS_CQ_CTRL_ENABLE = 0 ∧
        getF t R.CPS_CQ_HEAD_HEAD = 0 ∧ getF t R.CPS_CQ_TAIL_TAIL = 0 ∧ t = { s with regs := t.regs }) ∧
      ∃ t, exec (.ringEnableWrite true v) s = .next t ∧ getF t R.CPS_RQ_CTRL_ENABLE = 0 ∧
        getF t R.CPS_RQ_HEAD_HEAD = 0 ∧ getF t R.CPS_RQ_TAIL_TAIL = 0 ∧ t = { s with regs := t.regs }) ∧
    (v.toNat % 2 = 1 →
      (∃ t, exec (.ringEnableWrite false v) s = .next t ∧ getF t R.CPS_CQ_CTRL_ENABLE = 1 ∧
        2 ≤ getF t R.CPS_CQ_CTRL_LOG2N ∧ getF t R.CPS_CQ_CTRL_LOG2N ≤ 10 ∧ t.mem = s.mem ∧ t.nv = s.nv) ∧
      ∃ t, exec (.ringEnableWrite true v) s = .next t ∧ getF t R.CPS_RQ_CTRL_ENABLE = 1 ∧
        2 ≤ getF t R.CPS_RQ_CTRL_LOG2N ∧ getF t R.CPS_RQ_CTRL_LOG2N ≤ 10 ∧ t.mem = s.mem ∧ t.nv = s.nv)

/-- The device takes a command entry only when it can reserve a reply entry for it: it then advances the head, reserves, and
handles the packet; an entry that could not be read is discarded, counted in CPS_DMA_ERR, and reserves nothing.
(The model's choices it rests on: log entry 28.) -/
def Obligations.CommandEntryTaken : Prop :=
  ∀ s : State,
    (canFetch s = false → ∀ e, exec (.commandEntryFetch e) s = .next s) ∧
    (canFetch s = true →
      s.cps.rqReserved < ringFree s ∧
      exec (.commandEntryFetch none) s = .next (tally R.CPS_DMA_ERR_COUNT 1 1 0 (cqAdvance s)) ∧
      ∀ l, exec (.commandEntryFetch (some l)) s = .next (fromPort
        { packetOf .cp0 0 (l.take 4096) with
            body := (packetOf .cp0 0 (l.take 4096)).body.take (packetOf .cp0 0 (l.take 4096)).plen }
        { cqAdvance s with cps := { s.cps with rqReserved := s.cps.rqReserved + 1 } }))

/-- CP1: a word enters the command FIFO and begins a packet's handling once it completes one; a full FIFO only counts it; a
read takes the oldest reply word, or reads zero and counts; a stalled packet is discarded and counted; FLUSH empties both
FIFOs; the QSPI status shows firmware, a waiting reply and the interrupt.
(The model's choices it rests on: log entry 22.) -/
def Obligations.Cp1Fifos : Prop :=
  ∀ s : State, inReset s = false → mode s ≠ mBoot → mode s ≠ mLockdown →
    (∀ v, cp1Level s < 2048 →
      exec (.cp1CmdWrite v) s = .next (cp1Complete { s with cps := { s.cps with cp1Cmd := s.cps.cp1Cmd ++ [v] } })) ∧
    (∀ v, cp1Level s < 2048 → s.cps.cp1Cmd.length < 3 →
      exec (.cp1CmdWrite v) s = .next { s with cps := { s.cps with cp1Cmd := s.cps.cp1Cmd ++ [v] } }) ∧
    (∀ v, 2048 ≤ cp1Level s → exec (.cp1CmdWrite v) s = .next (tally R.CPS_CP1_ERR_OVERFLOW 1 4 0 s)) ∧
    (∀ w l, s.cps.cp1Rpl = w :: l →
      exec .cp1RplRead s = .next { s with out := s.out ++ [.readData 1 w], cps := { s.cps with cp1Rpl := l } }) ∧
    (s.cps.cp1Rpl = [] →
      exec .cp1RplRead s = .next (send (tally R.CPS_CP1_ERR_UNDERFLOW 1 4 0 s) (.readData 1 0))) ∧
    (s.cps.cp1Cmd ≠ [] → exec .cp1PartialTimeout s =
      .next (tally R.CPS_CP1_ERR_PARTIAL_TO 1 4 0 { s with cps := { s.cps with cp1Cmd := [] } })) ∧
    (∃ t, exec .cp1Flush s = .next t ∧ t.cps.cp1Cmd = [] ∧ t.cps.cp1Rpl = [] ∧ t.cps.held = s.cps.held ∧
      (∀ k ∈ s.cps.held, k.req = .cp1 → k ∈ t.cps.mute) ∧ t.regs = s.regs ∧ t.mem = s.mem ∧ t.out = s.out) ∧
    exec .qspiStatus s = .next { s with out := s.out ++ [.qspiStatus ((if s.sys.fwRunning then 1 else 0) +
      (if s.cps.cp1Rpl.isEmpty then 0 else 2) + (if hqIntLow s then 4 else 0))] }

/-- A COMMAND or REPLY message that this device consumes has its effect on the state in which the message has been received.
Of any type, one that the port's link does not carry, or that is malformed, counts as a protocol error and has no other
effect.
(The model's choices it rests on: log entry 35.) -/
def Obligations.MessagesOfCommands : Prop :=
  (∀ (s : State) (p : Nat) (m : Msg), arrives s p m →
    exec (.command p m) s = .next (takeCommand p m (received s p m)) ∧
    exec (.reply p m) s = .next (takeReply m (received s p m))) ∧
  ∀ (i : Instr) (p : Nat) (m : Msg) (s : State), messageIn i = some (p, m) → alive s = true → trafficPort s p = true →
    carries s p m = false ∨ msgOk m = false → exec i s = .next (proto p (counted s p m))

/-- Timers of outstanding packets: a forwarded packet without a reply is resent twice and counted, then answered NO_REPLY; a
QUIET one is forgotten; the end of a collection gives its aggregate reply; a held command gets an interim reply. A final reply
to a packet that a sender forwarded for its CP1 host goes to the reply FIFO with the host's own tag and the responding device's
number, and the packet is no longer outstanding.
(The model's choices it rests on: log entries 3, 22, 42.) -/
def Obligations.OutstandingPackets : Prop :=
  (∀ (s : State) (m : Msg) (e : Fwd), Tab.get s.cps.fwd (u32 m.payload 4) = some e → e.pkt.req = .cp1 →
    (u32 m.payload 0).testBit 16 = false → s.cps.mute.contains e.pkt = false →
    ∀ w, w = wordsOf 2048 (replyBytes { s with cps := { s.cps with devnum := u32 m.payload 8 % 4096 } } e.pkt 0
        (u32 m.payload 8 / 65536) (sub m.payload 16 (u32 m.payload 12 % 8192))) →
      s.cps.cp1Rpl.length + w.length ≤ 2048 →
      takeReply m s = { s with cps := { s.cps with fwd := Tab.del s.cps.fwd (u32 m.payload 4)
                                                   cp1Rpl := s.cps.cp1Rpl ++ w } }) ∧
  (∀ (s : State) (tag : Nat) (e : Fwd), running s = true → Tab.get s.cps.fwd tag = some e → e.pkt.quiet = false →
    (e.resends < 2 → ∃ u, u = tally R.CPS_FWD_RESENDS 1 4 0
        { s with cps := { s.cps with fwd := Tab.put s.cps.fwd tag { e with resends := e.resends + 1 } } } ∧
      exec (.forwardResendTimeout tag) s = .next (sendTo e.pkt.target (fwdMsg u e.pkt tag) u)) ∧
    (2 ≤ e.resends → exec (.forwardResendTimeout tag) s = .next (finish e.pkt St.noReply []
      (tally R.CPS_FWD_NO_REPLY 1 3 0 { s with cps := { s.cps with fwd := Tab.del s.cps.fwd tag } })))) ∧
  (∀ (s : State) (tag : Nat) (e : Fwd), Tab.get s.cps.fwd tag = some e → e.pkt.quiet = true →
    exec (.quietForget tag) s = .next (unreserve e.pkt { s with cps := { s.cps with fwd := Tab.del s.cps.fwd tag } })) ∧
  (∀ (s : State) (tag : Nat) (a : Agg), running s = true → Tab.get s.cps.aggs tag = some a →
    s.cps.mute.contains a.pkt = false → a.interim = [] →
    exec (.aggregateCollectionEnd tag) s = .next (putReply a.pkt 2
      (if a.replies.all (fun e => e.2 == 0) && (aggMissing s a).isEmpty then St.ok else St.part) (aggResult s a)
      (unreserve a.pkt { s with cps := { s.cps with aggs := Tab.del s.cps.aggs tag } }))) ∧
  ∀ (s : State) (k : Pkt), running s = true → aggOf s k = none → exec (.interimReplyTimer k) s = .next (sendInterim k s)

/-- SEC releases an envelope that passes every check, and only then: LAST_CTR of its signer is written first, and nothing of
the command has taken effect. One that fails is answered with the failing check's status. The end of the throttling of a
requester takes it off the list.
(The model's choices it rests on: log entry 9.) -/
def Obligations.EnvelopeVerification : Prop :=
  (∀ (s : State) (k : Pkt) (f : Fetch), running s = true → k.signed = true → s.cps.held.contains k = true →
    releasedOf s k = none → precheck s k = none →
    ((envVerdict s k f).1 = 0 →
      ∃ t, exec (.envelopeVerified k f) s = .next t ∧ (releasedOf t k).isSome = true ∧
        t.nv = (raiseCtr k s).nv ∧ t.mem = s.mem ∧ t.cps = s.cps) ∧
    ((envVerdict s k f).1 ≠ 0 → replyFits s k 0 = true →
      exec (.envelopeVerified k f) s = .next (finish k (envVerdict s k f).1 []
        { (envelope k f s).1 with cps := { (envelope k f s).1.cps with held := (envelope k f s).1.cps.held.erase k } }))) ∧
  ∀ (s : State) (r : Req), ∃ t, exec (.envelopeThrottleExpiry r) s = .next t ∧
    (∀ e ∈ t.sec.throttled, e.1 ≠ r ∧ e ∈ s.sec.throttled) ∧
    (getF t R.SEC_STATUS_THROTTLED = 1 ↔ t.sec.throttled ≠ []) ∧ t.mem = s.mem ∧ t.nv = s.nv ∧ t.cps = s.cps

/-! ### Registers -/

/-- The gate of every register write: a requester that does not reach the block changes nothing; in LOCKDOWN, or on a block
that is powered down in the role, the write is a lock violation; an address outside the map is counted.
(The model's choices it rests on: log entry 13.) -/
def Obligations.RegisterWriteGate : Prop :=
  ∀ (s : State) (q a : Nat) (v : Word),
    (∀ b off, regAddr a = some (b, off) →
      (reaches s q b = false → exec (.registerWrite q a v 15) s = .next s) ∧
      (reaches s q b = true → (mode s = mLockdown ∨ blockPowered (sender s) b = false) →
        exec (.registerWrite q a v 15) s = .next (lockViol b q false off s)) ∧
      (mayAct s q b → exec (.registerWrite q a v 15) s = .next (directWrite q b off v s))) ∧
    (regAddr a = none →
      exec (.registerWrite q a v 15) s = .next (if reaches s q 1 then tally R.SYS_ACC_ERR_UNMAPPED 0 1 0 s else s))

/-- A narrow PCIe write to a side-effect register is ignored and counted; to another register it changes the enabled bytes
alone, as a write of the merged word; without an enabled byte it changes nothing. -/
def Obligations.NarrowWrites : Prop :=
  ∀ (s : State) (a b off : Nat) (v : Word) (be : BitVec 4), regAddr a = some (b, off) → mayAct s 0 b → be ≠ 15 →
    (sideEffect b off = true → exec (.registerWrite 0 a v be) s = .next (tally R.SYS_ACC_ERR_NARROW 0 1 0 s)) ∧
    (sideEffect b off = false → be = 0 → exec (.registerWrite 0 a v be) s = .next s) ∧
    (sideEffect b off = false → be ≠ 0 → b ≠ 0 → b ≠ 1 → exec (.registerWrite 0 a v be) s =
      .next (directWrite 0 b off (mergeBytes be (regGet s (dirKey b off)) v) s)) ∧
    ∀ i, i < 32 → (mergeBytes be (regGet s (dirKey b off)) v).getLsbD i =
      if be.getLsbD (i / 8) then v.getLsbD i else (regGet s (dirKey b off)).getLsbD i

/-- Storing a word in a register takes the bits of fields that a write stores from the value written and keeps every other
bit; only that register changes. Said of a register without limited fields.
(The model's choices it rests on: log entry 13.) -/
def Obligations.StoreTakesWritableBits : Prop :=
  ∀ (s : State) (key : Nat) (d : RegDef) (v : Word), regDef key = some d → clampsOf key = [] → key ≠ R.TNM_CTRL →
    (∀ f ∈ d.fields, f.lo ≤ f.hi ∧ f.hi < 32) →
    (∀ i, i < 32 → (regGet (storeWord key v s) key).getLsbD i =
      if d.fields.any (fun f => f.kind.stores && decide (f.lo ≤ i) && decide (i ≤ f.hi)) then v.getLsbD i
      else (regGet s key).getLsbD i) ∧
    (∀ other, other ≠ key → regGet (storeWord key v s) other = regGet s other) ∧
    storeWord key v s = { s with regs := (storeWord key v s).regs }

/-- The indirect pair: a write of CPS_IND_ADDR sets the requester's own block and offset and ends its snapshot; a write of
CPS_IND_DATA goes to that word and advances; a read answers with the word and advances; on a block without an indirect space
both count IND_BAD. No other requester's pair changes. A latched pair: the low half reads the current value and latches the
rest for this requester, and the high half reads what was latched; the value does not tear. An acknowledge written to an EA
field is stored; where it leaves the source's vector active, the message of the vector follows.
(The model's choices it rests on: log entry 13.) -/
def Obligations.PairsAndAcknowledges : Prop :=
  (∀ (s : State) (q : Nat) (v : Word), mayAct s q 1 →
    (∃ t, exec (.indAddrWrite q v) s = .next t ∧ (indOf t q).block = v.toNat / 65536 % 32 ∧
      (indOf t q).offset = v.toNat % 65536 / 4 * 4 ∧ (indOf t q).snap = none ∧ (indOf t q).inc = (indOf s q).inc ∧
      (∀ r, r ≠ q → indOf t r = indOf s r) ∧ t = { s with cps := { s.cps with ind := t.cps.ind } }) ∧
    exec (.indDataWrite q v) s = .next (indWrite q v s) ∧
    (indirectSize (indOf s q).block = 0 → indWrite q v s =
      indAdvance q (indUpd q (fun x => { x with snap := none }) (tally R.SYS_ACC_ERR_IND_BAD 0 1 0 s))) ∧
    (mayAct s q (indOf s q).block → indirectSize (indOf s q).block ≠ 0 → indWrite q v s =
      indAdvance q (indUpd q (fun x => { x with snap := none })
        (indirectWrite q (indOf s q).block ((indOf s q).offset % indirectSize (indOf s q).block) v s))) ∧
    ∀ t w, indRead q s = (t, w) → exec (.indDataRead q 15) s = .next { t with out := t.out ++ [.readData q w] }) ∧
  (∀ (s : State) (q i : Nat), mayAct s q 10 → i < 4 →
    (∃ t, exec (.latchedPairRead q i 0 15) s = .next t ∧
      t.out = s.out ++ [.readData q (BitVec.ofNat 32 (pairValue s i).1)] ∧
      Tab.get t.cps.latches (q * 4 + i) = some ((pairValue s i).1 / 4294967296, (pairValue s i).2) ∧
      (∀ j, j ≠ q * 4 + i → Tab.get t.cps.latches j = Tab.get s.cps.latches j) ∧ t.regs = s.regs ∧ t.mem = s.mem) ∧
    exec (.latchedPairRead q i 1 15) s = .next { s with out := s.out ++
      [.readData q (BitVec.ofNat 32 (Tab.getD s.cps.latches (q * 4 + i) (0, 0)).1)] }) ∧
  ∀ (s : State) (q a b off : Nat) (v : Word), regAddr a = some (b, off) → hasKind (dirKey b off) (· == .ea) = true →
    mayAct s q b → exec (.eventAcknowledge q a v) s = .next (ackWrite (dirKey b off) v s) ∧
      ∀ k, ackSource (dirKey b off) = some k →
        let t := storeWord (dirKey b off) v s
        ackWrite (dirKey b off) v s =
          if isSet t (R.CPS_IRQ_ROUTE_MSIX_EN k) && vecActive t (getF t (R.CPS_IRQ_ROUTE_VECTOR k)) then
            sendVector (getF t (R.CPS_IRQ_ROUTE_VECTOR k)) t else t

/-- SYS_CFG_LOCK stores its first write and locks; a later write is a lock violation. A GPIO register write is a lock
violation once GPIO is locked, and else SYS_GPIO_OUT takes its 24 bits and ends the pulses of the pins that change. SYS_LOAD:
in BOOT of a sender that boots over PCIe and has no image chosen, LEN is stored and the bundle in the load area is verified:
STAT reads 3 when it is taken and 2 when not, or when LEN is above 48 MiB. Otherwise the write changes nothing.
(The model's choices it rests on: log entries 14, 15.) -/
def Obligations.SystemRegisterWrites : Prop :=
  (∀ (s : State) (q : Nat) (v : Word), mayAct s q 0 →
    (s.sys.cfgLocked = 0 → ∃ t, exec (.cfgLockWrite q v) s = .next t ∧ t.sys.cfgLocked = 7 ∧
      (regGet t R.SYS_CFG_LOCK).toNat = v.toNat % 8 ∧ (∀ key, key ≠ R.SYS_CFG_LOCK → regGet t key = regGet s key) ∧
      t.mem = s.mem ∧ t.nv = s.nv ∧ t.cps = s.cps ∧ t.out = s.out) ∧
    (s.sys.cfgLocked ≠ 0 → exec (.cfgLockWrite q v) s = .next (lockViol 0 q false 8 s)) ∧
    (isSet s R.SYS_CFG_LOCK_GPIO = true → exec (.gpioOutWrite q v) s = .next (lockViol 0 q false 0x44 s)) ∧
    (isSet s R.SYS_CFG_LOCK_GPIO = false → ∃ t, exec (.gpioOutWrite q v) s = .next t ∧
      getF t R.SYS_GPIO_OUT_OUT = v.toNat % 16777216 ∧ (∀ key, key ≠ R.SYS_GPIO_OUT → regGet t key = regGet s key) ∧
      (∀ g ∈ t.sys.pulses, (getF s R.SYS_GPIO_OUT_OUT).testBit g = (v.toNat % 16777216).testBit g ∧ g ∈ s.sys.pulses) ∧
      t.mem = s.mem ∧ t.nv = s.nv ∧ t.cps = s.cps ∧ t.out = s.out)) ∧
  ∀ (s : State) (q : Nat) (v : Word), mayAct s q 0 →
    (mode s = mBoot → sender s = true → getF s R.SYS_MODE_BOOT_SRC = 2 → s.upd.chosen = none →
      ∃ t, exec (.sysLoadWrite q v) s = .next t ∧
        (50331648 < R.SYS_LOAD_LEN.of v → getF t R.SYS_LOAD_STAT = 2 ∧ t.upd = s.upd ∧ t.mem = s.mem ∧ t.nv = s.nv) ∧
        (R.SYS_LOAD_LEN.of v ≤ 50331648 →
          ∀ good u, loadBundle (memRead (setF s R.SYS_LOAD_LEN (R.SYS_LOAD_LEN.of v)) loadMem (R.SYS_LOAD_LEN.of v)) false
              (setF s R.SYS_LOAD_LEN (R.SYS_LOAD_LEN.of v)) = (good, u) →
            t = setF u R.SYS_LOAD_STAT (if good then 3 else 2))) ∧
    (mode s ≠ mBoot → exec (.sysLoadWrite q v) s = .next s)

/-- Register writes that act at once: clearing a fault record empties it but for LOST; retraining PCIe puts a link that is up
into Recovery; CLEAR of CMP_PASS_MAX zeroes MAX; TIM_SNAP takes the three clocks; FORCE_FULL makes every slot deliver in
full; CKPT_NOW stores the word and starts a checkpoint; a trigger record stores its word, DISARM wins over ARM. -/
def Obligations.RegisterActions : Prop :=
  ∀ (s : State) (q : Nat) (v : Word),
    (∀ b, b < 24 → v.toNat % 2 = 1 → mayAct s q 0 → ∃ t, exec (.faultRecordClear q b v) s = .next t ∧
      getF t (R.FREC_W0_VALID b) = 0 ∧ getF t (R.FREC_W0_DETAIL b) = 0 ∧ getF t (R.FREC_W0_EXTRA b) = 0 ∧
      getF t (R.FREC_LOST_LOST b) = getF s (R.FREC_LOST_LOST b) ∧ t = { s with regs := t.regs }) ∧
    (mayAct s q 2 → isSet s R.SYS_CFG_LOCK_PCI = false → R.PCI_CTRL_RETRAIN.of v = 1 →
      exec (.pciRetrain q v) s = .next (retrain (storeWord R.PCI_CTRL v s))) ∧
    (mayAct s q 2 → isSet s R.SYS_CFG_LOCK_PCI = true → exec (.pciRetrain q v) s = .next (lockViol 2 q false 4 s)) ∧
    (mayAct s q 7 → R.CMP_PASS_MAX_CLEAR.of v = 1 →
      exec (.passMaxClear q v) s = .next (setF s R.CMP_PASS_MAX_MAX 0)) ∧
    (mayAct s q 10 → v.toNat % 2 = 1 → ∃ t, exec (.timSnapGo q v) s = .next t ∧
      val48 t R.TIM_SNAP_LT_LO_VAL R.TIM_SNAP_LT_HI_VAL = ltNs s % 2 ^ 64 ∧
      val48 t R.TIM_SNAP_WT_LO_VAL R.TIM_SNAP_WT_HI_VAL = wtNs s % 2 ^ 64 ∧
      val48 t R.TIM_SNAP_NT_LO_VAL R.TIM_SNAP_NT_HI_VAL = ntNs s % 2 ^ 64 ∧ t = { s with regs := t.regs }) ∧
    (running s = true → sender s = true → ∃ t, exec .forceFull s = .next t ∧
      (∀ e ∈ t.cel.queues, (∃ sl, (e.1 / 4096, sl) ∈ s.cel.slots) → e.2.valid = false) ∧
      t = { s with cel := { s.cel with queues := t.cel.queues } }) ∧
    (mayAct s q 12 → R.DMK_AGE_CTRL_CKPT_NOW.of v = 1 →
      exec (.ckptNow q v) s = .next (ckptStart (storeWord R.DMK_AGE_CTRL v s))) ∧
    (∀ u, u < 16 → mayAct s q 10 →
      exec (.triggerArmWrite q u v) s = .next (trigWrite u v s) ∧
      exec (.triggerDisarmWrite q u v) s = .next (trigWrite u v s) ∧
      ((R.TRIG_CTL_DISARM u).of v = 1 → getF (trigWrite u v s) (R.TRIG_CTL_ARMED u) = 0))

/-- Writes to the test and control registers of a Twill port, where they are allowed and where they are lock violations.
(The model's choices it rests on: log entry 34.) -/
def Obligations.TwillRegisterWrites : Prop :=
  ∀ (s : State) (q p : Nat) (v : Word), p < 8 → mayAct s q (16 + p) →
    (mode s ≠ mBoot → exec (.calCmdWrite q p v) s = .next (calRequest p (v.toNat % 16) s)) ∧
    (mode s ≠ mService → exec (.testLoopWrite q p v) s = .next (lockViol (16 + p) q false 0x20 s)) ∧
    (mode s = mService → getF (storeWord (R.TWL_TEST_CTRL p) v s) (R.TWL_TEST_CTRL_LOOP p) = getF s (R.TWL_TEST_CTRL_LOOP p) →
      exec (.testLoopWrite q p v) s = .next (storeWord (R.TWL_TEST_CTRL p) v s)) ∧
    (mode s = mService → getF s (R.TWL_TEST_CTRL_LOOP p) = 0 →
      getF (storeWord (R.TWL_TEST_CTRL p) v s) (R.TWL_TEST_CTRL_LOOP p) ≠ 0 → ∃ t, exec (.testLoopWrite q p v) s = .next t ∧
        getF t (R.TWL_PHY_STATUS_PSTATE p) = 4) ∧
    (isSet s (R.TWL_PHY_CTRL_TX_IDLE p) = true → isSet (storeWord (R.TWL_PHY_CTRL p) v s) (R.TWL_PHY_CTRL_TX_IDLE p) = true →
      exec (.txIdleWrite q p v) s = .next (storeWord (R.TWL_PHY_CTRL p) v s)) ∧
    (isSet s (R.TWL_PHY_CTRL_TX_IDLE p) = false → isSet (storeWord (R.TWL_PHY_CTRL p) v s) (R.TWL_PHY_CTRL_TX_IDLE p) = true →
      exec (.txIdleWrite q p v) s = .next (holdPort p (linkDown p 0 (storeWord (R.TWL_PHY_CTRL p) v s)))) ∧
    ((R.TWL_STEP_CMD_GO p).of v = 1 → getF (storeWord (R.TWL_STEP_CMD p) v s) (R.TWL_STEP_CMD_TARGET p) ≤ 2 →
      exec (.stepCmdGo q p v) s = .next (requestStep p (getF (storeWord (R.TWL_STEP_CMD p) v s) (R.TWL_STEP_CMD_TARGET p)) 0
        (storeWord (R.TWL_STEP_CMD p) v s))) ∧
    ∀ l, l < 4 →
      ((R.LANE_OVR_OVR_EN p l).of v = 0 ∨ mode s = mService →
        exec (.eqOverrideWrite q p l v) s = .next (storeWord (R.LANE_OVR p l) v s)) ∧
      ((R.LANE_OVR_OVR_EN p l).of v = 1 → mode s ≠ mService →
        exec (.eqOverrideWrite q p l v) s = .next (lockViol (16 + p) q true (0x1038 + 64 * l) s)) ∧
      ((R.LANE_INJ_INJ_MODE p l).of v = 1 → injAllowed s p l = true → (R.LANE_INJ_INJ_GO p l).of v = 1 →
        exec (.injGo q p l v) s = .next (send (addF (storeWord (R.LANE_INJ p l) v s) (R.LANE_INJECTED_COUNT p l) 1)
          (.phy p 4 (l * 256 + 1)))) ∧
      ((R.LANE_INJ_INJ_MODE p l).of v ≠ 0 → injAllowed s p l = false →
        exec (.injGo q p l v) s = .next (lockViol (16 + p) q true (0x1008 + 64 * l) s)) ∧
      ((R.LANE_TEST_PARK_REQ p l).of v = 1 → testAllowed s p l = true →
        (R.LANE_TEST_CHK_PAT p l).of v = getF s (R.LANE_TEST_CHK_PAT p l) →
        exec (.parkReqWrite q p l v) s = .next (parkLane p l (storeWord (R.LANE_TEST p l) v s))) ∧
      ((R.LANE_TEST_PARK_REQ p l).of v = 1 → testAllowed s p l = false →
        exec (.parkReqWrite q p l v) s = .next (lockViol (16 + p) q true (0x1004 + 64 * l) s))

/-- A write of STR_CTRL is stored. While the strand clock runs, a new return rate is sent to the drivers, after the push window
where one is open; a clock that differs from the one in use waits in SHOW and HOLD and takes effect at once in another mode;
one that is in use drops a change that waited.
(The model's choices it rests on: log entry 38.) -/
def Obligations.StrandControlWrite : Prop :=
  ∀ (s u : State) (q : Nat) (v : Word), mayAct s q 13 → u = storeWord R.STR_CTRL v s →
    (clkRuns u = false → exec (.clkSelChange q v) s = .next u) ∧
    (clkRuns u = true → ∀ w,
      (getF u R.STR_CTRL_RET_EXP = getF s R.STR_CTRL_RET_EXP ∧ w = u) ∨
      (getF u R.STR_CTRL_RET_EXP ≠ getF s R.STR_CTRL_RET_EXP ∧ u.str.inWindow = true ∧
        w = { u with str := { u.str with cfgDue := true } }) ∨
      (getF u R.STR_CTRL_RET_EXP ≠ getF s R.STR_CTRL_RET_EXP ∧ u.str.inWindow = false ∧
        w = sendConfig (strandList u) false (frameNow0 u) u) →
      (clkCode u = getF u R.STR_STATUS_CLK_EFF →
        exec (.clkSelChange q v) s = .next { w with str := { w.str with clkNext := none } }) ∧
      (clkCode u ≠ getF u R.STR_STATUS_CLK_EFF →
        (mode w = mShow ∨ mode w = mHold →
          exec (.clkSelChange q v) s = .next { w with str := { w.str with clkNext := some (clkCode w) } }) ∧
        (¬ (mode w = mShow ∨ mode w = mHold) → exec (.clkSelChange q v) s = .next (clkApply true w))))
/-! ### Ethernet and ingest -/

/-- Ethernet ports: set-eth-port stores configuration, flags and reference, takes the sub-ports down and begins the port's
restart, unless a leg uses a sub-port that goes away; the restart's end brings the configured sub-ports up; set-address stores
the address of its family alone; a configured sub-port's loss of link is a level cause, and its return ends it.
(The model's choices it rests on: log entries 20, 29.) -/
def Obligations.EthernetPorts : Prop :=
  (∀ (s t : State) (k : Pkt) (c : Option (List Byte)), ready s k 0 c t →
    (k.p8 0 < 2 → k.p8 1 < 3 → k.p8 2 < 16 → k.p8 3 < 2 → (8 ≤ k.p8 2 → k.p8 1 = 2) →
      ((∃ g ∈ allLegs t, u8 g 0 = k.p8 0 ∧ cfgSubs (k.p8 1) ≤ u8 g 1) →
        exec (.setEthPort k) s = .next (finish k St.inUse [] t)) ∧
      ((∀ g ∈ allLegs t, u8 g 0 = k.p8 0 → u8 g 1 < cfgSubs (k.p8 1)) →
        ∃ u, exec (.setEthPort k) s = .next (finish k St.ok [] u) ∧ Tab.get u.eth.cfg (k.p8 0) = some (k.p8 1) ∧
          Tab.get u.eth.pflags (k.p8 0) = some (k.p8 2) ∧ Tab.get u.eth.ref (k.p8 0) = some (k.p8 3) ∧
          k.p8 0 ∈ u.eth.restarting ∧ (∀ x, x ∈ u.eth.up ↔ x ∈ t.eth.up ∧ x / 4 ≠ k.p8 0) ∧
          u = setItem 0x0010 (k.p8 0) k.par { t with eth := u.eth, regs := u.regs })) ∧
    (k.p8 0 < 2 → k.p8 1 < portSubs t (k.p8 0) →
      (k.p8 2 = 0 → k.p8 3 ≤ 32 → zeroAt k.par 8 12 = true → exec (.setAddress k) s = .next (finish k St.ok []
        (setItem 0x0011 (k.p8 0 * 4 + k.p8 1) k.par
          { t with eth := { t.eth with ip4 := Tab.put t.eth.ip4 (k.p8 0 * 4 + k.p8 1) (sub k.par 3 17) } }))) ∧
      (k.p8 2 = 1 → k.p8 3 ≤ 128 → exec (.setAddress k) s = .next (finish k St.ok []
        (setItem 0x0011 (k.p8 0 * 4 + k.p8 1) k.par
          { t with eth := { t.eth with ip6 := Tab.put t.eth.ip6 (k.p8 0 * 4 + k.p8 1) (sub k.par 3 17) } }))))) ∧
  (∀ (s : State) (p : Nat), running s = true → s.eth.restarting.contains p = true →
    ∃ u, exec (.ethPortRestartDone p) s = .next u ∧ u = { s with eth := { s.eth with restarting := u.eth.restarting, up := u.eth.up } } ∧
      (∀ q, q ∈ u.eth.restarting ↔ q ∈ s.eth.restarting ∧ q ≠ p) ∧
      (∀ x, x ∈ u.eth.up ↔ (x ∈ s.eth.up ∧ x / 4 ≠ p) ∨ ∃ b, b < portSubs s p ∧ x = p * 4 + b)) ∧
  ∀ (s : State) (p b : Nat), running s = true → sender s = true → p < 2 → b < portSubs s p →
    (s.eth.up.contains (p * 4 + b) = true → exec (.ethLinkChange p b false) s = .next (levelRise 4 1 (p * 4 + b)
      { s with eth := { s.eth with up := s.eth.up.filter (· != p * 4 + b), lost := (p * 4 + b) :: s.eth.lost } })) ∧
    (s.eth.up.contains (p * 4 + b) = false → exec (.ethLinkChange p b false) s = .next s ∧
      (s.eth.lost.contains (p * 4 + b) = true → exec (.ethLinkChange p b true) s = .next (levelFall 4 1
        { s with eth := { s.eth with up := (p * 4 + b) :: s.eth.up, lost := s.eth.lost.filter (· != p * 4 + b) } })))

/-- Flow commands and timers: add-flow enters the descriptor with its flow IDLE, modify-flow lets it wait for the next frame,
remove-flow takes the flow away and clears its record, get-flow returns the descriptor; a leg without packets loses its
LEG_ACTIVE bit; a running flow without packets is LOST; the end of the merge window ends the oldest frame that waits. A
received frame that finds the buffer full counts in ING_OVERRUN, one with an uncorrectable code word is an FEC fault, one with
a bad FCS, two tags or too great a length is discarded and counted; every other goes to the classifier, which takes PTP over
Ethernet first.
(The model's choices it rests on: log entries 27, 28, 29.) -/
def Obligations.FlowsAndFrames : Prop :=
  (∀ (s t : State) (k : Pkt) (n : Nat) (c : Option (List Byte)), ready s k n c t →
    (n = 0 → t.ing.flows.length < 64 → flowCheck t k.par = 0 → Tab.get t.ing.flows (k.p8 0) = none →
      exec (.addFlow k) s = .next (finish k St.ok [] (groupReport 1 k.par (flowState (k.p8 0) 1
        { t with ing := { t.ing with flows := Tab.put t.ing.flows (k.p8 0) (flowNew t k.par) } })))) ∧
    (n = 0 → 64 ≤ t.ing.flows.length → exec (.addFlow k) s = .next (finish k St.tableFull [] t)) ∧
    (n = 0 → flowCheck t k.par ≠ 0 → exec (.modifyFlow k) s = .next (finish k (flowCheck t k.par) [] t)) ∧
    (∀ f, Tab.get t.ing.flows (k.p8 0) = some f →
      (n = 0 → flowCheck t k.par = 0 → exec (.modifyFlow k) s = .next (finish k St.ok []
        (groupReport 1 k.par (flowUpd (k.p8 0) (fun x => { x with next := some k.par }) t)))) ∧
      (k.p8 0 < 64 → zeroAt k.par 1 3 = true →
        (n = f.desc.length → exec (.getFlow k) s = .next (finish k St.ok f.desc t)) ∧
        (n = 0 → ∃ u, exec (.removeFlow k) s = .next (finish k St.ok [] u) ∧
          (∀ i, Tab.get u.ing.flows i = if i = k.p8 0 then none else Tab.get t.ing.flows i) ∧
          (∀ j, j < 16 → regGet u (R.ING_F_STATE (k.p8 0) + 4 * j) = 0) ∧ u.mem = t.mem ∧ u.nv = t.nv ∧ u.srf = t.srf)))) ∧
  (∀ (s : State) (i l : Nat), running s = true → (Tab.get s.ing.flows i).isSome = true → l < 2 →
    exec (.legIdle i l) s = .next (legActive i l false s)) ∧
  (∀ (s : State) (i : Nat), running s = true → (Tab.get s.ing.flows i).isSome = true → getF s (R.ING_F_STATE_STATE i) = 3 →
    exec (.flowTimeout i) s = .next (flowState i 4
      (flowUpd i (fun f => { f with frames := [], lockTs := none, lastEnd := none }) s))) ∧
  (∀ (s : State) (i : Nat) (fl : Flow) (f : FrameRx), running s = true → Tab.get s.ing.flows i = some fl →
    fl.frames.find? (fun f => f.overOn && u8 f.desc 1 == 2) = some f →
    exec (.mergeWindowExpiry i) s = .next (endFrame i f s)) ∧
  ∀ (s : State) (p b : Nat) (l : List Byte) (fl : Nat), running s = true → sender s = true →
    s.eth.up.contains (p * 4 + b) = true →
    (fl.testBit 2 = true → exec (.ethFrameRx p b l fl) s = .next (tally R.ING_OVERRUN_COUNT 5 1 (p * 4 + b) s)) ∧
    (fl.testBit 2 = false →
      (fl.testBit 1 = true → exec (.ethFrameRx p b l fl) s = .next (occur 4 2 (p * 4 + b) 0 (incF s R.ING_UNMATCHED_COUNT))) ∧
      (fl.testBit 1 = false →
        (fl.testBit 0 = true ∨ 2 ≤ (ethHead l).1 ∨ 9022 < l.length + 4 →
          exec (.ethFrameRx p b l fl) s = .next (incF s R.ING_UNMATCHED_COUNT)) ∧
        (fl.testBit 0 = false → (ethHead l).1 ≤ 1 → l.length + 4 ≤ 9018 →
          exec (.ethFrameRx p b l fl) s = .next (classify p b l (fl.testBit 3) (fl.testBit 4) s)))) ∧
    (∀ vid off, ethHead l = (0, vid, 0x88F7, off) → classify p b l (fl.testBit 3) (fl.testBit 4) s = ptpRx p b 2 (l.drop off) s)

/-! ### Surfaces -/

/-- Commands on an existing surface: get-surface returns its descriptor, set-surface changes its three attributes, publish
makes the next generation and returns it, destroy-surface frees an unlatched one at once and lets a latched one live on
unnamed. One that a flow owns is IN_USE. create-surface takes an unused entry, gives it the next instance and memory of the heap,
at generation 0; without an entry it answers TABLE_FULL, without memory NO_MEMORY.
(The model's choices it rests on: log entries 7, 11, 30.) -/
def Obligations.SurfaceCommands : Prop :=
  (∀ (s t : State) (k : Pkt) (n : Nat) (c : Option (List Byte)) (i : Nat) (f : Surface), ready s k n c t →
    surfOf t (k.p32 0) = some (i, f) →
    (n = (surfDesc t i f).length → exec (.getSurface k) s = .next (finish k St.ok (surfDesc t i f) t)) ∧
    (n = 0 → k.p8 4 < 16 → k.p8 5 < 5 → k.p8 6 < 4 → k.p8 7 = 0 →
      exec (.setSurface k) s = .next (if ingestOwned t (k.p32 0) then finish k St.inUse [] t
        else finish k St.ok [] (surfUpd i (fun x => setAttrs x (k.p8 4) (k.p8 5) (k.p8 6)) t))) ∧
    (k.p32 4 < 2 →
      (n = 0 → publishBlocked t (k.p32 0) f = true → exec (.publish k) s = .next (finish k St.inUse [] t)) ∧
      (n = 4 → publishBlocked t (k.p32 0) f = false → exec (.publish k) s = .next (finish k St.ok (leBytes 4 (nextGen f.generation))
        (publishGen i (if k.p32 4 = 1 then some (k.p64 8) else none) t)))) ∧
    (n = 0 →
      (ingestOwned t (k.p32 0) = true ∨ layerRefers t (k.p32 0) = true ∨ uploadPending t (k.p32 0) = true →
        exec (.destroySurface k) s = .next (finish k St.inUse [] t)) ∧
      (ingestOwned t (k.p32 0) = false → layerRefers t (k.p32 0) = false → uploadPending t (k.p32 0) = false →
        (f.latched = [] → exec (.destroySurface k) s = .next (finish k St.ok []
          (heapGive f.desc { t with srf := { t.srf with table := Tab.del t.srf.table i } }))) ∧
        (f.latched ≠ [] → exec (.destroySurface k) s = .next (finish k St.ok []
          (surfUpd i (fun x => { x with alive := false, unlatched := [] }) t)))))) ∧
  ∀ (s t : State) (k : Pkt) (n : Nat) (c : Option (List Byte)), ready s k n c t → surfCheck k.par = 0 →
    (n = 0 → freeEntry t = none → exec (.createSurface k) s = .next (finish k St.tableFull [] t)) ∧
    (∀ i, freeEntry t = some i → Tab.get t.srf.table i = none ∧
      ∀ sizes, sizes = List.replicate (fmtPlanes (k.p8 4)) (macroTiles k.par) ++ (if k.p8 5 = 1 then [hdrUnits k.par] else []) →
        (n = 0 → heapTakeAll sizes (takeFree t) = none → exec (.createSurface k) s = .next (finish k St.noMemory [] t)) ∧
        (∀ bases v, heapTakeAll sizes (takeFree t) = some (bases, v) → ∃ u f,
          surfCreate k.par t = .ok u (surfDesc u i f) ∧ Tab.get u.srf.table i = some f ∧ f.alive = true ∧ f.generation = 0 ∧
          f.latched = [] ∧ f.instanceNo = Tab.getD v.srf.instances i 0 % 0xFFFFF + 1 ∧ u.srf.heap = v.srf.heap ∧
          u.mem = t.mem ∧ u.regs = t.regs ∧ u.nv = t.nv ∧
          (n = (surfDesc u i f).length → exec (.createSurface k) s = .next (finish k St.ok (surfDesc u i f) u))))

/-- Uploads: one with good parameters is queued, and runs when it is first; at its end its rows are written and, where asked,
published with the generation as result; a PCIe error answers DMA_ERROR and publishes nothing. The aperture: a read answers with the heap's bytes; a write stores
its bytes at the window's base in the heap and nowhere else; an access to bytes that are not allocated is counted once.
Without the enable a read is zero and a write has no effect.
(The model's choices it rests on: log entries 11, 30.) -/
def Obligations.UploadsAndAperture : Prop :=
  (∀ (s t : State) (k : Pkt) (c : Option (List Byte)), ready s k 0 c t →
    (isSet t R.SRF_CTRL_UPLOAD_EN = false → exec (.upload k) s = .next (finish k St.badState [] t)) ∧
    ∀ i f, isSet t R.SRF_CTRL_UPLOAD_EN = true → surfOf t (k.p32 0) = some (i, f) → uploadOk k.par f.desc = true →
      ingestOwned t (k.p32 0) = false → t.srf.uploads.length ≤ 63 →
      exec (.upload k) s = .next (startUpload 66 { t with srf := { t.srf with uploads := t.srf.uploads ++ [⟨k, k.par⟩] } }) ∧
      (t.srf.uploads = [] → t.srf.running = false → u8 k.par 5 % 2 = 0 →
        exec (.upload k) s = .next { t with srf := { t.srf with uploads := [⟨k, k.par⟩], running := true } })) ∧
  (∀ (s : State) (x : Upload) (rest : List Upload) (data : List Byte), running s = true → s.srf.running = true →
    s.srf.uploads = x :: rest →
    exec (.uploadDmaError data) s = .next (uploadPop (finish x.pkt St.dmaError [] (uploadWrite x data s))) ∧
    (u8 x.par 5 % 2 = 0 →
      exec (.uploadComplete data) s = .next (uploadPop (finish x.pkt St.ok (leBytes 4 0) (uploadWrite x data s)))) ∧
    (u8 x.par 5 % 2 = 1 → ∀ i f, surfOf (uploadWrite x data s) (u32 x.par 0) = some (i, f) →
      exec (.uploadComplete data) s = .next (uploadPop (finish x.pkt St.ok (leBytes 4 (nextGen f.generation))
        (publishGen i (if u8 x.par 5 / 2 % 2 = 1 then some (u64 x.par 0x20) else none) (uploadWrite x data s)))))) ∧
  ∀ (s : State) (off : Nat), running s = true → sender s = true → isSet s R.PCI_STATUS_LINK_UP = true → off < 1073741824 →
    (isSet s R.SRF_CTRL_APERTURE_EN = false → ∀ n,
      exec (.apertureAccess off n none) s = .next { s with out := s.out ++ [.windowData (zeros n)] } ∧
      ∀ l, exec (.apertureAccess off n (some l)) s = .next s) ∧
    (isSet s R.SRF_CTRL_APERTURE_EN = true → ∀ n a, a = getF s R.SRF_CTRL_BASE * 268435456 + off →
      ((∀ i, i < n → heapUsed s (a + i) = true) → exec (.apertureAccess off n none) s =
        .next { s with out := s.out ++ [.windowData (memRead s (heapMem + a) n)] }) ∧
      (∀ b, heapUsed s a = true → (inLatched s a = true → exec (.apertureAccess off n (some [b])) s =
          .next (tally R.SRF_EARLY_WRITE_COUNT 6 2 0 (memPut s (heapMem + a) b))) ∧
        (inLatched s a = false → exec (.apertureAccess off n (some [b])) s = .next (memPut s (heapMem + a) b))) ∧
      (∀ b, heapUsed s a = false → exec (.apertureAccess off n (some [b])) s = .next (tally R.SRF_STRAY_COUNT 6 2 0 s)) ∧
      ∀ l, (∀ i, i < l.length → heapUsed s (a + i) = true) → ∃ u, exec (.apertureAccess off n (some l)) s = .next u ∧
        (∀ i (h : i < l.length), memGet u (heapMem + a + i) = l[i]) ∧
        ∀ x, x < heapMem + a ∨ heapMem + a + l.length ≤ x → memGet u x = memGet s x)

/-- A sample of depth d written into a wider field stands in the top d bits, and its top bits fill the lower ones; at equal
width it is unchanged. So zero stays zero and full scale stays full scale. A pixel of a 4:2:2 flow has both its words so. -/
def Obligations.SampleWidening : Prop :=
  (∀ v, v < 256 → replicateBits 8 10 v = (v <<< 2) ||| (v >>> 6)) ∧
  (∀ v, v < 256 → replicateBits 8 16 v = (v <<< 8) ||| v) ∧
  (∀ v, v < 1024 → replicateBits 10 16 v = (v <<< 6) ||| (v >>> 4)) ∧
  (∀ v, v < 4096 → replicateBits 12 16 v = (v <<< 4) ||| (v >>> 8)) ∧
  (∀ d v, replicateBits d d v = v) ∧
  (∀ d w v, (d, w) ∈ [(8, 10), (8, 16), (10, 16), (12, 16)] → v < 2 ^ d →
    replicateBits d w v < 2 ^ w ∧ replicateBits d w v / 2 ^ (w - d) = v ∧ replicateBits d w 0 = 0 ∧
    replicateBits d w (2 ^ d - 1) = 2 ^ w - 1 ∧
    ∀ i, i < w - d → (replicateBits d w v).testBit (w - d - 1 - i) = v.testBit (d - 1 - i)) ∧
  ∀ (x : List Byte) (data : List Byte) (x0 n : Nat), fSampling x = 0 →
    segPixel x data x0 n = [
      replicateBits (sampleBits x) 16 (beBits data ((4 * (n / 2) + 1 + 2 * (n % 2)) * sampleBits x) (sampleBits x)) +
      65536 * replicateBits (sampleBits x) 16
        (beBits data ((4 * (n / 2) + (if (x0 + n) % 2 = 0 then 0 else 2)) * sampleBits x) (sampleBits x))]

/-- A host publication of a surface is refused with IN_USE when the surface is ingest-owned, or its generation is latched, that is,
RELEASED_GEN differs from GENERATION and GFLAGS[1] is 1; an upload with the publish flag is checked so when it starts, and
writes nothing where it is refused. -/
def Obligations.PublishInUse : Prop :=
  ∀ (s t : State) (k : Pkt) (c : Option (List Byte)) (i : Nat) (f : Surface), ready s k 0 c t →
    surfOf t (k.p32 0) = some (i, f) →
    (ingestOwned t (k.p32 0) = true ∨
      (f.releasedGen ≠ f.generation ∧ f.latched ≠ [])) →
    (f.desc.length = 64 → ((u8 (surfDesc t i f) 0x38).testBit 1 = true ↔ f.latched ≠ [])) ∧
    (k.p32 4 < 2 → exec (.publish k) s = .next (finish k St.inUse [] t)) ∧
    (isSet t R.SRF_CTRL_UPLOAD_EN = true → uploadOk k.par f.desc = true → u8 k.par 5 % 2 = 1 →
      (ingestOwned t (k.p32 0) = true ∨ (t.srf.uploads = [] ∧ t.srf.running = false) →
        exec (.upload k) s = .next (finish k St.inUse [] t)) ∧
      ∀ (n : Nat) (rest : List Upload), t.srf.running = false → t.srf.uploads = ⟨k, k.par⟩ :: rest →
        startUpload (n + 1) t = startUpload n (finish k St.inUse [] { t with srf := { t.srf with uploads := rest } }))
/-! ### Composition, colour and cells -/

/-- Commands that write shadow state of composition or tone mapping: each stores what it names, counts the shadow sequence
once, past 0xFFFFFFFF at 1, and changes nothing that is active. -/
def Obligations.ShadowWrites : Prop :=
  (∀ (n : Nat), n < 0xFFFFFFFF → nextSeq n = n + 1) ∧ nextSeq 0xFFFFFFFF = 1 ∧
  ∀ (s t : State) (k : Pkt) (c : Option (List Byte)), ready s k 0 c t →
    let cmp := fun (x : Shadow) => Host.Outcome.next (finish k St.ok []
      { setF t R.CMP_SHADOW_SEQ_SEQ (nextSeq (getF t R.CMP_SHADOW_SEQ_SEQ)) with cmp := { t.cmp with shadow := x } })
    let tnm := fun (x : TShadow) => Host.Outcome.next (finish k St.ok []
      { setF t R.TNM_SHADOW_SEQ_SEQ (nextSeq (getF t R.TNM_SHADOW_SEQ_SEQ)) with tnm := { t.tnm with shadow := x } })
    (layerStatic k.par = true → (∀ q, layerSource t k.par = some q → layerFits k.par q = true) →
      exec (.setLayer k) s = cmp { t.cmp.shadow with layers := Tab.put t.cmp.shadow.layers (k.p8 0) k.par }) ∧
    (zeroAt k.par 1 3 = true →
      (k.p8 0 = 0 → exec (.setZOrder k) s = cmp { t.cmp.shadow with zMode := 0 }) ∧
      (k.p8 0 = 1 → (∀ i, i < 24 → ∃ b ∈ sub k.par 4 24, b.toNat = i) → exec (.setZOrder k) s =
        cmp { t.cmp.shadow with zMode := 1, zList := (sub k.par 4 24).map (fun b => b.toNat) }) ∧
      (k.p8 0 < 2 → exec (.setWriteback k) s = cmp { t.cmp.shadow with wb := k.par }) ∧
      ∀ (f : Fetch) (d : List Byte), k.p8 0 < 4 → bulk k f c 4 1792 t = .ok d → bankOk (d.take 1792) = true →
        exec (.loadBank k f) s = cmp { t.cmp.shadow with banks := Tab.put t.cmp.shadow.banks (k.p8 0) (d.take 1792) }) ∧
    ((∀ i, i < 4 → k.p16 (2 * i) / 1024 % 32 ≠ 31) → exec (.setBackground k) s = cmp { t.cmp.shadow with bg := k.par }) ∧
    (∀ i, i < 4 → k.p16 (2 * i) / 1024 % 32 = 31 → exec (.setBackground k) s = .next (finish k St.badParam [] t)) ∧
    (k.p8 0 < 2 → zeroAt k.par 3 1 = true → zeroAt k.par 6 2 = true →
      exec (.setPreview k) s = cmp { t.cmp.shadow with pv := k.par }) ∧
    (profileOk k.par = true →
      exec (.setProfile k) s = tnm { t.tnm.shadow with profiles := Tab.put t.tnm.shadow.profiles (k.p8 0) k.par }) ∧
    (0x20 ≤ k.p16 2 → k.p16 2 ≤ 0x8000 →
      exec (.setTone k) s = tnm { t.tnm.shadow with kneeG := k.p16 0, kHost := k.p16 2 }) ∧
    (k.p16 2 < 0x20 ∨ 0x8000 < k.p16 2 → exec (.setTone k) s = .next (finish k St.badParam [] t)) ∧
    (2 ≤ k.p8 0 → k.p8 0 ≤ 16 → zeroAt k.par 1 3 = true → (∀ i, i < k.p8 0 → k.p16 (10 + 8 * i) = 0) →
      ∀ pts, pts = (List.range (k.p8 0)).map (fun i => (k.p32 (4 + 8 * i), k.p16 (8 + 8 * i))) →
        (∀ e ∈ pts, e.2 ≤ 0x8000) → curveRises pts = true →
        exec (.setAmbientCurve k) s = tnm { t.tnm.shadow with curve := pts })

/-- Commits: a stale sequence number is STALE, a configuration that fails its checks changes nothing, and one that passes
waits as a snapshot with its sequence number. The setup deadline of a boundary locks in what is due there, and it alone.
(The model's choices it rests on: log entry 31.) -/
def Obligations.Commits : Prop :=
  (∀ (s t : State) (k : Pkt) (n : Nat) (c : Option (List Byte)), ready s k n c t →
    (n = 0 → k.p32 0 ≠ 0 → k.p32 0 ≠ getF t R.CMP_SHADOW_SEQ_SEQ → exec (.commit k) s = .next (finish k St.stale [] t)) ∧
    (n = 0 → k.p32 0 ≠ 0 → k.p32 0 ≠ getF t R.TNM_SHADOW_SEQ_SEQ →
      exec (.commitColour k) s = .next (finish k St.stale [] t)) ∧
    (k.p32 0 = 0 → k.p32 4 = 0 → ∀ due i,
      (commitCheck t { t.cmp.shadow with seq := getF t R.CMP_SHADOW_SEQ_SEQ } ≠ 0 → n = 0 → exec (.commit k) s = .next
        (finish k (commitCheck t { t.cmp.shadow with seq := getF t R.CMP_SHADOW_SEQ_SEQ }) [] t)) ∧
      (commitCheck t { t.cmp.shadow with seq := getF t R.CMP_SHADOW_SEQ_SEQ } = 0 → n = 8 →
        placeCommit t none (t.cmp.pendings.map (fun p => (p.due, p.locked))) = .ok (due, i) →
        ∃ u, exec (.commit k) s = .next (finish k St.ok (commitReply due (getF t R.CMP_SHADOW_SEQ_SEQ)) u) ∧
          u.cmp = { t.cmp with pendings := (replaceAt t.cmp.pendings i
            ⟨{ t.cmp.shadow with seq := getF t R.CMP_SHADOW_SEQ_SEQ }, due, false, false⟩) } ∧
          getF u R.CMP_STATUS_PENDING = 1 ∧ u = { t with cmp := u.cmp, regs := u.regs }) ∧
      (dstPeaksOk t { t.tnm.shadow with seq := getF t R.TNM_SHADOW_SEQ_SEQ } = true → n = 8 →
        placeCommit t none (t.tnm.pendings.map (fun p => (p.due, p.locked))) = .ok (due, i) →
        exec (.commitColour k) s = .next (finish k St.ok (commitReply due (getF t R.TNM_SHADOW_SEQ_SEQ))
          { t with tnm := { t.tnm with pendings := (replaceAt t.tnm.pendings i
            ⟨{ t.tnm.shadow with seq := getF t R.TNM_SHADOW_SEQ_SEQ }, due, false, false, false⟩) } })))) ∧
  ∀ (s : State) (n : Nat), hasBoundaries s = true → ∃ u, exec (.commitLockIn n) s = .next u ∧
    u.cmp.pendings = s.cmp.pendings.map (fun p => { p with locked := p.locked || p.due == none || p.due == some n }) ∧
    u.tnm.pendings = s.tnm.pendings.map (fun p => { p with locked := p.locked || p.due == none || p.due == some n }) ∧
    u = { s with cmp := { s.cmp with pendings := u.cmp.pendings }, tnm := { s.tnm with pendings := u.tnm.pendings } }

/-- Passes: at a boundary the state of `boundary` follows, in which the boundary is the last one and no commit due there waits;
a guard check, its wait, a finished region and the end of a pass have their effects only where one is under way; a pass that
starts has every region to do and its frame's number, and one that ends is no longer active.
(The model's choices it rests on: log entries 3, 31.) -/
def Obligations.PassEvents : Prop :=
  ∀ s : State,
    (∀ n, hasBoundaries s = true → exec (.frameBoundary n) s = .next (boundary n s)) ∧
    (∀ i a l, running s = true → Tab.get s.cmp.acts i = some a → a.checking = some l →
      s.cmp.guardLeft.contains i = false → guardHolds s l = true → exec (.guardCheckDone i) s = .next (releaseSweep
        (setAct i { a with checking := none, prev := some l }
          { s with cmp := { s.cmp with guardLeft := s.cmp.guardLeft.filter (· != i) } }))) ∧
    (running s = true → isSet s R.CMP_STATUS_GUARD_WAIT = true →
      exec .guardWaitExpiry s = .next (startPass (s.cmp.lastFrame.getD 0) s)) ∧
    (∀ p i reg, running s = true → s.cmp.pass = some p → i < 4 → p.todo[i]? = some reg →
      exec (.regionComplete i) s = .next (composeRegion p reg s)) ∧
    (∀ p, running s = true → s.cmp.pass = some p → p.todo = [] → exec .passEnd s = .next (passDone p s)) ∧
    ∀ n, s.cmp.guardLeft = [] → ∃ p, (startPass n s).cmp.pass = some p ∧ p.frame = n ∧ p.started = ltNs s ∧ (startPass n s).cmp.guardLeft = [] ∧
      getF (startPass n s) R.CMP_STATUS_PASS_ACTIVE = 1 ∧ getF (startPass n s) R.CMP_STATUS_GUARD_WAIT = 0 ∧
      (startPass n s).cel.encoded = []

/-- Wall settings and ambient light: set-wall and set-ambient-sensors store their parameter; a tile's sample without a
reading shows AMB_VALID clear and keeps the level; each second it reports, or a sender tells its peers.
(The model's choices it rests on: log entry 3.) -/
def Obligations.WallAndAmbient : Prop :=
  (∀ (s t : State) (k : Pkt) (c : Option (List Byte)), ready s k 0 c t →
    (wallOk k.par = false → exec (.setWall k) s = .next (finish k St.badParam [] t)) ∧
    (wallOk k.par = true → t.cel.slots = [] →
      exec (.setWall k) s = .next (finish k St.ok [] (setItem 0x0021 0 k.par (wallStore k.par t)))) ∧
    (k.p8 0 = 0 → zeroAt k.par 1 3 = true → exec (.setAmbientSensors k) s = .next (finish k St.ok []
      (setItem 0x0030 0 k.par { t with tnm := { t.tnm with sensors := [] } }))) ∧
    (k.p8 0 = 1 → zeroAt k.par 1 3 = true → k.p8 4 < 128 → k.p8 6 < 2 → k.p8 7 = 0 →
      exec (.setAmbientSensors k) s = .next (finish k St.ok []
        (setItem 0x0030 0 k.par { t with tnm := { t.tnm with sensors := [sub k.par 4 8] } })))) ∧
  ∀ s : State, running s = true →
    (sender s = false → s.tnm.sensors ≠ [] →
      (∀ l, (∀ e ∈ s.tnm.sensors.zip l, luxOf e.1 e.2 = none) → ∃ u, exec (.ambientSample l) s = .next u ∧
        getF u R.TNM_STATUS_AMB_VALID = 0 ∧ getF u R.TNM_STATUS_AMB_TILES = 0 ∧ u.tnm = { s.tnm with validNow := 0 } ∧
        u = { s with regs := u.regs, tnm := u.tnm }) ∧
      (∀ e b w, s.tnm.sensors = [e] → luxOf e (some b) = some w → s.tnm.level = none → ∃ u,
        exec (.ambientSample [some b]) s = .next u ∧ getF u R.TNM_STATUS_AMB_VALID = 1 ∧ u.tnm.level = some (65536 * w) ∧
          u.tnm.validNow = 1 ∧ u.mem = s.mem ∧ u.nv = s.nv) ∧
      (∃ u, exec .ambientReportTimer s = .next u ∧ u.tnm = { s.tnm with validSec := s.tnm.validNow } ∧ u.mem = s.mem ∧
        u.nv = s.nv ∧ (upstreamUp s = none → u = { s with tnm := u.tnm }))) ∧
    (sender s = true → ctrlBits s 3 1 ≠ 0 → ∃ l, l.length = 16 ∧
      exec .toneStateTimer s = .next ((peerSenders s).foldl (fun a d => sendTo d (mkMsg a 1 0x15 d l) a) s)) ∧
    (sender s = true → ctrlBits s 3 1 = 0 → exec .toneStateTimer s = .next s)

/-- Maps and cells: load-map keeps its copy, commit-map needs one and returns its frame, get-map writes the map in force to
its reference, read-queue and read-cell return a descriptor and a version; a port launches its next entry; a notice without
reply is repeated three times, and its slot then fails or mismatches; a tile's delivery report restarts its margin.
(The model's choices it rests on: log entries 8, 33.) -/
def Obligations.MapsAndCells : Prop :=
  (∀ (s t : State) (k : Pkt) (n : Nat) (c : Option (List Byte)) (f : Fetch), ready s k n c t →
    (∀ d, n = 0 → bulk k f c 0 1 t = .ok d →
      exec (.loadMap k f) s = .next (finish k St.ok [] { t with cel := { t.cel with loaded := some d } })) ∧
    (n = 0 → t.cel.loaded = none → exec (.commitMap k) s = .next (finish k St.refMismatch [] t)) ∧
    (∀ m, t.cel.loaded = some m →
      (n = 0 → mapOk t m = false → exec (.commitMap k) s = .next (finish k St.badParam [] t)) ∧
      (n = 4 → mapOk t m = true → mode t ≠ mShow →
        exec (.commitMap k) s = .next (finish k St.ok (leBytes 4 0xFFFFFFFF) (mapTakes m t))) ∧
      (n = 4 → mapOk t m = true → mode t = mShow → hasBoundaries t = true →
        exec (.commitMap k) s = .next (finish k St.ok (leBytes 4 (nextBoundary t))
          { t with cel := { t.cel with mapPending := some (m, nextBoundary t) } }))) ∧
    (n = 0 → mapValid t = false → exec (.getMap k f) s = .next (finish k St.badState [] t)) ∧
    (∀ u, n = 4 → mapValid t = true → refWrite t (refAt k.par 0) (mapBytes t) f = .ok u →
      exec (.getMap k f) s = .next (finish k St.ok (leBytes 4 (mapBytes t).length) u)) ∧
    (k.p16 0 < 256 → k.p16 2 < 4096 → n = (qBytes (qDesc t (k.p16 0) (k.p16 2))).length →
      exec (.readQueue k) s = .next (finish k St.ok (qBytes (qDesc t (k.p16 0) (k.p16 2))) t)) ∧
    (∀ v, k.p16 0 < tileCells t → k.p8 2 = 0 → k.p8 3 = 0 → Tab.get t.celT.shown (k.p16 0) = some v →
      n = 16 + v.payload.length → exec (.readCell k) s =
        .next (finish k St.ok (leBytes 4 v.tag ++ zeros 4 ++ leBytes 8 v.hash.toNat ++ v.payload) t))) ∧
  ∀ s : State, running s = true →
    (∀ p e, sender s = true → mode s ≠ mHold → isSet s R.CEL_CTRL_LAUNCH_EN = true → linkUp s p = true →
      nextLaunch s p = some e → exec (.cellLaunch p) s = .next (launch p e s)) ∧
    (∀ i sl, slotState s i = 1 → Tab.get s.cel.slots i = some sl →
      (1 ≤ sl.notices → sl.notices < 4 → exec (.slotNoticeRetry i) s = .next
        (sendSlotNotice i (if sl.takeover then 1 else 0) (slotUpd i (fun o => { o with notices := o.notices + 1 }) s))) ∧
      (4 ≤ sl.notices → exec (.slotNoticeRetry i) s = .next
        (setF (slotUpd i (fun o => { o with notices := 0 }) s) (R.CEL_S_W0_STATE i) (if sl.mismatch then 4 else 5)))) ∧
    (sender s = false → isSet s R.CEL_T_STATUS_SERVED = false → ∃ u, exec .deliveryReportTimer s = .next u ∧
      u.celT.margin = none ∧ (∀ m, s.celT.margin = some m → getF u R.CEL_T_MARGIN_MARGIN = min 0xFFFFFF (m / 1000)) ∧
      u = { s with regs := u.regs, celT := { s.celT with margin := none } }) ∧
    (sender s = false → isSet s R.CEL_T_STATUS_SERVED = true → ∃ u l, l.length = 32 ∧ u.celT.margin = none ∧
      u = { s with regs := u.regs, celT := u.celT } ∧ exec .deliveryReportTimer s = .next (toSender 0x12 l u))
/-! ### Twill -/

/-- The physical layer of a port: loss of signal is counted and unlocks its lane, its end lets a waiting port train; a clock
out of lock, a lane out of lock, a measured frequency, a training block or timeout, calibration runs and their timers, the
end of a loopback and the pattern checker have the effect of their state, and no other port changes with the simple ones.
(The model's choices it rests on: log entries 3, 34.) -/
def Obligations.TwillPhysicalLayer : Prop :=
  (∀ (s : State) (p l : Nat), alive s = true → p < 8 → l < 4 →
    (pstate s p ≠ 0 → isSet s (R.LANE_W0_LOS p l) = false → ∀ u,
      u = occur (16 + p) 8 p 0 (incF (setB s (R.LANE_W0_LOS p l) true) (R.LANE_CNT_LOS_CNT p l)) →
      (pstate u p = 3 → exec (.losAssert p l) s = .next (laneLost p l u)) ∧
      (pstate u p ≠ 3 → exec (.losAssert p l) s = .next (laneUpd p l Lane.fresh (laneLock p l false u)))) ∧
    (pstate s p ≠ 0 → exec (.losDeassert p l) s = .next (setB s (R.LANE_W0_LOS p l) false)) ∧
    exec (.laneOutOfLock p l) s = .next (laneLost p l s) ∧
    (∀ r, (laneOf s p l).calibrating = true →
      ((laneOf s p l).runs = [] →
        exec (.calRunDone p l r) s = .next (laneUpd p l (fun x => { x with runs := [r] }) s)) ∧
      (∀ a b, (laneOf s p l).runs = [some a] → r = some b → runsAgree s p (some a) (some b) = true →
        exec (.calRunDone p l r) s = .next (calEnd p l true (calApply p l
          ((a.1 + b.1 + 1) / 2, (a.2.1 + b.2.1 + 1) / 2, (a.2.2.1 + b.2.2.1 + 1) / 2, (a.2.2.2 + b.2.2.2 + 1) / 2)
          (laneUpd p l (fun x => { x with runs := [some a, some b] }) s))))) ∧
    ((laneOf s p l).retry = true → (laneOf s p l).calibrated = false →
      exec (.calRetryTimer p l) s = .next (calBegin p l (laneUpd p l (fun x => { x with retry := false }) s))) ∧
    (getF s (R.LANE_TEST_CHK_PAT p l) ≠ 0 → exec (.checkerLock p l) s = .next (setB s (R.LANE_W0_CHK_LOCK p l) true)) ∧
    (isSet s (R.LANE_W0_CHK_LOCK p l) = true → ∀ n e, exec (.checkerLockLoss p l n e) s = .next
      (add48 (add48 (setB s (R.LANE_W0_CHK_LOCK p l) false) (R.LANE_BITS_LO_COUNT p l) (R.LANE_BITS_HI_COUNT p l) n)
        (R.LANE_ERR_LO_COUNT p l) (R.LANE_ERR_HI_COUNT p l) e)) ∧
    (∀ skew inv b, blockGood b = true → isSet s (R.LANE_W0_LOS p l) = false → isSet s (R.TWL_PHY_STATUS_CLK_LOL p) = false →
      isSet s (R.LANE_W0_PARKED p l) = false → pstate s p = 2 →
      exec (.trainingBlock p l skew inv b) s = .next (trainingBlock p l skew inv b s))) ∧
  (∀ (s : State) (p : Nat), alive s = true → p < 8 →
    (pstate s p = 2 ∨ pstate s p = 3 → exec (.clockOutOfLock p) s = .next (clockLost p s)) ∧
    (pstate s p = 1 → isSet s (R.LANE_W0_LOS p 4) = true → ∃ u, exec (.losDeassert p 4) s = .next u ∧ pstate u p = 2 ∧
      isSet u (R.LANE_W0_LOS p 4) = false ∧ u.mem = s.mem ∧ u.twl = s.twl) ∧
    (pstate s p = 2 → ∀ f,
      (stepOfHz f = none → exec (.frequencyMeasured p f) s = .next (tally (R.TWL_FREQ_BAD_COUNT p) (16 + p) 7 p s)) ∧
      (stepOfHz f = some (getF s (R.TWL_PHY_STATUS_RATE p)) → exec (.frequencyMeasured p f) s = .next
        (phyLevel p R.TWL_PHY_STATUS_CLK_LOL 0 (setB (portUpd p
          (fun q => { q with measured := some (getF s (R.TWL_PHY_STATUS_RATE p)) }) s) (R.LANE_W0_LOCK p 4) true)))) ∧
    (pstate s p = 2 → ∀ u, u = portUpd p (fun q => { q with trainFails := q.trainFails + 1 })
        (noteStepFail p (tally (R.TWL_TRAIN_FAIL_COUNT p) (16 + p) 8 p s)) →
      exec (.trainingTimeout p) s = .next (startTrain p (ownStep u p) u)) ∧
    (pstate s p = 3 → exec (.calStart p) s = .next (calStart p s)) ∧
    (pstate s p = 4 → exec (.loopTimeout p) s = .next (loopEnd p s))) ∧
  ∀ (s t : State) (k : Pkt) (n : Nat) (c : Option (List Byte)), ready s k n c t → zeroAt k.par 2 2 = true →
    (n = 4 → k.p8 0 < 8 → k.p8 1 = 0 → exec (.calibrate k) s = .next (finish k St.ok [3, 3, 3, 3] t)) ∧
    (n = 0 → 8 ≤ k.p8 0 → exec (.calibrate k) s = .next (finish k St.badParam [] t)) ∧
    (n = 0 → k.p8 0 < 8 → 1 ≤ k.p8 1 → k.p8 1 < 16 → exec (.calibrate k) s = .next (calRequest (k.p8 0) (k.p8 1)
      (startBg k (portUpd (k.p8 0) (fun q => { q with calRes := [] }) t)))) ∧
    (n = 0 → k.p8 0 < 8 → k.p8 1 < 3 →
      (lstate t (k.p8 0) ≠ 3 → exec (.step k) s = .next (finish k St.ok []
        (portUpd (k.p8 0) (fun q => { q with target := k.p8 1 }) t))) ∧
      (lstate t (k.p8 0) = 3 → exec (.step k) s = .next (finish k St.ok []
        (announceStep (k.p8 0) (max (k.p8 1) (fastest t (k.p8 0))) 0 t))))

/-- The link layer: LINK flits and timers of a link that is not DOWN. A lane request, a lane set, a step and a HELLO have
their effect; retry toggles RTOG and gives the link up at the eighth timeout; an unacknowledged flit and a RETRAIN that lasts
lose it; a link that is lost records its cause; backoff, rekey and step timers act on their port.
(The model's choices it rests on: log entries 3, 35.) -/
def Obligations.TwillLinkLayer : Prop :=
  (∀ (s : State) (p : Nat) (l : List Byte), alive s = true → 1 ≤ lstate s p → lstate s p ≤ 4 →
    exec (.laneReq p l) s = .next (laneReq p (u8 l 1 % 16) (u8 l 2 % 16) (u8 l 3 % 16) s) ∧
    (u8 l 1 % 16 ≠ 0 → exec (.laneset p l) s = .next (laneSet p (u8 l 1 % 16) s)) ∧
    (u8 l 1 % 16 = 0 → exec (.laneset p l) s = .next s) ∧
    (u8 l 1 ≤ 2 → exec (.stepFlit p l) s = .next (stepFlit p (u8 l 1) s)) ∧
    (2 < u8 l 1 → exec (.stepFlit p l) s = .next (proto p s)) ∧
    exec (.hello p l) s = .next (helloNext p l (helloPeer p l s)) ∧
    ((portOf s p).out ≠ 0 ∨ (portOf s p).ready ≠ 0 → exec (.laneReqTimer p) s = .next (sendLink p (laneReqBytes s p) s)) ∧
    (∀ w i corr b, p < 8 → w < 4 → pstate s p = 3 → b.length = 64 →
      exec (.flitRx p w i corr b) s = .next (flitRx p w i corr b s))) ∧
  (∀ (s : State) (p : Nat) (l : List Byte), p < 8 →
    getF (helloPeer p l s) (R.TWL_PEER_DEVNUM p) = u16 l 1 % 4096 ∧ getF (helloPeer p l s) (R.TWL_PEER_TPL p) = u8 l 3 ∧
    getF (helloPeer p l s) (R.TWL_PEER_PORT p) = u8 l 6 % 8 ∧ (portOf (helloPeer p l s) p).helloRx = true) ∧
  (∀ (s : State) (p : Nat), alive s = true →
    (isSet s (R.TWL_LL_STATUS_RETRYING p) = true → ∀ u, u = portUpd p (fun q => { q with timeouts := q.timeouts + 1 }) s →
      (7 ≤ (portOf s p).timeouts → exec (.retryTimeout p) s = .next (linkLost p 3 u)) ∧
      ((portOf s p).timeouts < 7 → exec (.retryTimeout p) s = .next (toggleRtog p u))) ∧
    ((portOf s p).replay ≠ [] → lstate s p ≠ 5 → exec (.unackedTimeout p) s = .next (linkLost p 3 s)) ∧
    (lstate s p = 5 → exec (.retrainTimeout p) s = .next (linkLost p 5 (noteStepFail p s))) ∧
    (isSet s (R.TWL_LL_CTRL_AUTO_STEP p) = true →
      getF s (R.TWL_PHY_STATUS_RATE p) < 2 → exec (.autoStepDown p 1) s = .next
        (requestStep p (getF s (R.TWL_PHY_STATUS_RATE p) + 1) 1 (noteStepFail p s))) ∧
    (lstate s p = 3 → getF s (R.TWL_LL_CTRL_STEP_UP_S p) ≠ 0 → fastest s p < getF s (R.TWL_PHY_STATUS_RATE p) →
      exec (.stepUpTimer p) s = .next (announceStep p (getF s (R.TWL_PHY_STATUS_RATE p) - 1) 4
        (portUpd p (fun q => { q with stepUpAt := some (ltNs s) }) s))) ∧
    (mode s ≠ mBoot →
      (lstate s p ≠ 2 → exec (.authBackoffExpiry p) s = .next (portUpd p (fun q => { q with inBackoff := false }) s)) ∧
      (∀ ss, (portOf s p).session = some ss →
        (4294967296 ≤ maxCount ss → exec (.rekeyTimer p) s = .next (linkLost p 7 s)) ∧
        (maxCount ss < 4294967296 → exec (.rekeyTimer p) s = .next (rekeyDone p (startRekey p s))))))

/-- Discovery, numbering and liveness: discover runs on a port that is UP and replies when the run ends, get-topology lists 8
bytes for each tile found; a tile without an answer to PROBE is assigned its number, one without ASSIGN_ACK is assigned again
four times in all; a healed port is discovered again; a sender without instants sends LIVENESS with frame 0; a tile that
loses its primary asks its backup.
(The model's choices it rests on: log entries 3, 35.) -/
def Obligations.DiscoveryAndLiveness : Prop :=
  (∀ (s t : State) (k : Pkt) (n : Nat) (c : Option (List Byte)), ready s k n c t → k.p8 0 < 8 → zeroAt k.par 1 3 = true →
    (n = 0 → lstate t (k.p8 0) = 3 → exec (.discover k) s = .next (startRun (k.p8 0) (startBg k t))) ∧
    (n = 0 → lstate t (k.p8 0) ≠ 3 → exec (.discover k) s = .next (finish k St.badState [] t)) ∧
    (n = 8 * foundTiles (portOf t (k.p8 0)) → ∃ l, l.length = 8 * foundTiles (portOf t (k.p8 0)) ∧
      exec (.getTopology k) s = .next (finish k St.ok l t))) ∧
  ∀ s : State, running s = true →
    (sender s = true →
      (∀ p h x, Tab.get (portOf s p).numbering h = some x →
        (x.2.1 = 0 → x.2.2 = false → exec (.probeWaitExpiry p h) s = .next (sendAssign p h x s)) ∧
        (x.2.1 = 0 → x.2.2 = true → exec (.probeWaitExpiry p h) s =
          .next (portUpd p (fun q => { q with numbering := Tab.del q.numbering h }) s)) ∧
        (1 ≤ x.2.1 → x.2.1 < 4 → exec (.assignRetryTimeout p h) s = .next (sendAssign p h x s)) ∧
        (4 ≤ x.2.1 → exec (.assignRetryTimeout p h) s =
          .next (portUpd p (fun q => { q with numbering := Tab.del q.numbering h }) s))) ∧
      (∀ p, (portOf s p).heal = true → lstate s p = 3 → exec (.healHoldExpiry p) s =
        .next (startRun p (portUpd p (fun q => { q with heal := false }) s))) ∧
      (hasInstants s = false → exec .livenessIdleTimer s = .next (sendLiveness 0 s))) ∧
    (∀ a b p, sender s = false → s.twl.primary = some a → s.twl.backup = some (b, p) → servedBy s = some a →
      linkUp s p = true → exec .primaryLost s = .next (sendMsg p (mkMsg s 1 0x0B b (leBytes 2 a ++ zeros 2)) s))

/-- Twill messages that this device consumes: each has its effect on the state in which it has been received.
(The model's choices it rests on: log entry 35.) -/
def Obligations.MessagesTakeEffect : Prop :=
  ∀ (s t : State) (p : Nat) (m : Msg), arrives s p m → t = received s p m →
    (exec (.tSync p m) s = .next (timPortUpd p (fun q => { q with t2 := some (u16 m.payload 0, t.tim.lt, t.tim.wt.fine)
                                                                  syncs := q.syncs + 1, disturbed := false }) t) ∧
      exec (.tFollow p m) s = .next (takeFollow p m t) ∧
      exec (.tDreq p m) s = .next (sendMsg p (timeMsg t 0x33 (m.payload.take 2 ++ leBytes 1 (if wtValid t then 1 else 0) ++
        zeros 1 ++ stampBytes t.tim.wt.t16 ++ zeros 2)) t) ∧
      exec (.tDresp p m) s = .next (takeDresp p m t) ∧
      exec (.tAnnounce p m) s = .next (takeAnnounce m t) ∧ exec (.tParams p m) s = .next (takeParams p m t)) ∧
    (exec (.authHello p m) s = .next (takeAuthHello p m.payload t) ∧ exec (.proof p m) s = .next (takeProof p m.payload t) ∧
      exec (.authFail p m) s = .next (authFail p t) ∧ exec (.rekey p m) s = .next (takeRekey p m.payload t) ∧
      exec (.lockdownNotice p m) s = .next (linkLost p 4 t) ∧ exec (.tunnel p m) s = .next (takeTunnel m t)) ∧
    (sender t = false →
      exec (.cellMessage p m) s = .next (cellIn m.payload t) ∧
      exec (.discoverMessage p m) s = .next (discoverTile p m t) ∧
      exec (.wallSettings p m) s = .next (wallFollow (wallStore (m.payload.take 16) t)) ∧
      exec (.assign p m) s = .next (takeAssign p m t) ∧
      exec (.liveness p m) s = .next (takeLiveness p m (livenessFrame (u32 m.payload 0) t)) ∧
      (∃ u, exec (.slotNotice p m) s = .next u ∧ ((u16 m.payload 0, u16 m.payload 2) = tileGeom t → geomReady t = true →
        linkUp t p = false → isSet t R.CEL_T_STATUS_SERVED = false → isSet u R.CEL_T_STATUS_SERVED = true)) ∧
      (∃ u, exec (.budget p m) s = .next u ∧ (mode t ≠ mHold →
        (budgetOf m.payload).flags.testBit 0 = false → (budgetOf m.payload).flags.testBit 1 = false →
        u.thm.budgetNext = some (budgetOf m.payload)))) ∧
    (sender t = true →
      exec (.discoverMessage p m) s = .next (discoverSender p m t) ∧
      exec (.discoverReply p m) s = .next (takeDiscoverReply p m t) ∧
      exec (.probeReply p m) s = .next (takeProbeReply m t) ∧ exec (.assignAck p m) s = .next (takeAssignAck m t) ∧
      exec (.linkEvent p m) s = .next (takeLinkEvent p m t) ∧
      exec (.backupReq p m) s = .next (takeBackupReq m t) ∧ exec (.backupRelease p m) s = .next (takeBackupRelease m t) ∧
      exec (.ambientReport p m) s = .next { t with tnm := { t.tnm with reports := (Tab.put t.tnm.reports m.src
        ⟨u32 m.payload 0, u8 m.payload 4, u8 m.payload 5, 0, ltNs t⟩) } } ∧
      exec (.toneState p m) s = .next { t with tnm := { t.tnm with peers := (Tab.put t.tnm.peers m.src
        ⟨u32 m.payload 0, u16 m.payload 4, u8 m.payload 6, u16 m.payload 8, ltNs t⟩) } } ∧
      exec (.feedClaim p m) s = .next (feedCheck
        { t with thm := { t.thm with claims := Tab.put (keptClaims t) m.src (sub m.payload 4 32, ltNs t) } }) ∧
      ∀ i, slotOf t m.src = some i →
        exec (.slotReply p m) s = .next (slotReply i (u16 m.payload 0) t) ∧
        exec (.deliveryReport p m) s = .next (deliveryReport i m.payload t) ∧
        ∃ feed u, exec (.demand p m) s = .next (releaseHeld feed u) ∧
          getF u (R.THM_SLOT_DEMAND_MW i) = u32 m.payload 4 ∧ getF u (R.THM_SLOT_RV_RHO i) = u16 m.payload 18 ∧
          u.tnm.rho = some (max (t.tnm.rho.getD 0) (u16 m.payload 18)) ∧ u.mem = t.mem ∧ u.nv = t.nv) ∧
    (u16 m.payload 0 = t.cps.devnum → t.cps.devnum ≠ 0xFFF → exec (.probe p m) s =
      .next (sendMsg p (mkMsg t 1 0x08 m.src (leBytes 2 t.cps.devnum ++ zeros 2 ++ certId t)) t)) ∧
    (u16 m.payload 0 ≠ t.cps.devnum → exec (.probe p m) s = .next t)
/-! ### Time -/

/-- Time commands: set-ptp makes a stopped instance anew with its port, domain and asymmetry; set-cadence needs a master that
holds WT; arm-trigger without WT is BAD_STATE and for a compare value ahead arms its unit with outcome 0; disarm-trigger
disarms; set-wt-seconds keeps the seconds for the next edge; get-time returns the three clocks and the frame.
(The model's choices it rests on: log entry 36.) -/
def Obligations.TimeCommands : Prop :=
  ∀ (s t : State) (k : Pkt) (n : Nat) (c : Option (List Byte)), ready s k n c t →
    (n = 0 → k.p8 0 < 2 → k.p8 1 < 2 → k.p8 2 < portSubs t (k.p8 1) → k.p8 3 < 3 → k.p8 4 < 128 → k.p8 5 < 4 →
      2 ≤ k.p8 6 → k.p8 6 ≤ 10 → zeroAt k.par 7 1 = true →
      ∃ u, getF u (R.PTP_W0_PORT (k.p8 0)) = k.p8 1 ∧ getF u (R.PTP_W0_SUBPORT (k.p8 0)) = k.p8 2 ∧
        getF u (R.PTP_W0_DOMAIN (k.p8 0)) = k.p8 4 ∧ getF u (R.PTP_W0_VALID (k.p8 0)) = 0 ∧
        getF u (R.PTP_ASYM_PS_VAL (k.p8 0)) = u32 k.par 8 ∧ u = { t with regs := u.regs } ∧
        exec (.setPtp k) s = .next (finish k St.ok [] (setItem 0x0012 (k.p8 0) k.par (ntCheck (ptpUpdate
          (ptpUpd (k.p8 0) (fun _ => { PtpInst.off with enabled := k.p8 5 % 2 == 1, unicast := k.p8 5 / 2 == 1
                                                        transport := k.p8 3, annTo := k.p8 6 }) u)))))) ∧
    (n = 0 → isMaster (promoteParams t) = false ∨ wtHeld (promoteParams t) = false →
      exec (.setCadence k) s = .next (finish k St.badState [] t)) ∧
    (∀ u, u = promoteParams t → isMaster u = true → wtHeld u = true → n = 0 → k.p8 0x10 = 0 →
      (cadenceOk k.par = false → exec (.setCadence k) s = .next (finish k St.badParam [] t)) ∧
      (cadenceOk k.par = true → (cadenceSet u k.par = none → exec (.setCadence k) s = .next (finish k St.tooLate [] t)) ∧
        ∀ q, cadenceSet u k.par = some q → exec (.setCadence k) s = .next (finish k St.ok [] (setItem 0x0024 0 k.par
          (holdParams q { u with tim := { u.tim with align := 0, glMul := k.p8 0x11, phase := signed 32 (u32 k.par 0x14) } }))))) ∧
    (k.p8 0 < 16 → k.p8 1 < 4 → k.p8 2 < 24 → zeroAt k.par 3 1 = true → zeroAt k.par 10 2 = true →
      (n = 0 → wtValid t = false → exec (.armTrigger k) s = .next (finish k St.badState [] t)) ∧
      (n = 8 → wtValid t = true → 0 < signed 32 (unsigned 32 ((k.p32 4 : Int) - wtTick t)) →
        ∃ u, exec (.armTrigger k) s = .next (finish k St.ok (zeros 8) u) ∧ getF u (R.TRIG_CTL_ARMED (k.p8 0)) = 1 ∧
          getF u (R.TRIG_CMP_CMP (k.p8 0)) = k.p32 4 ∧ getF u (R.TRIG_CTL_ACTION (k.p8 0)) = k.p8 1 ∧
          getF u (R.TRIG_CTL_GPIO (k.p8 0)) = k.p8 2 ∧ getF u (R.TRIG_CTL_REFUSED (k.p8 0)) = 0 ∧
          u = { t with regs := u.regs })) ∧
    (n = 0 → k.p8 0 < 16 → zeroAt k.par 1 3 = true →
      exec (.disarmTrigger k) s = .next (finish k St.ok [] (setF t (R.TRIG_CTL_ARMED (k.p8 0)) 0))) ∧
    (n = 0 → exec (.setWtSeconds k) s =
      .next (finish k St.ok [] { t with tim := { t.tim with ppsSeconds := some (k.p64 0) } })) ∧
    (∀ l, l = stampBytes t.tim.lt ++ stampBytes (if wtValid t then t.tim.wt.t16 else 0) ++
        stampBytes (if ntValid t then t.tim.nt.t16 else 0) ++ zeros 2 ++ leBytes 8 (frameNow0 t) → n = l.length →
      exec (.getTime k) s = .next (finish k St.ok l t))

/-- Time events: an armed trigger fires and an unarmed one does nothing; a pulse ends; captures record WT and count their
edge; an expired announcement or offer is forgotten and the election or choice repeated; a dwell ends with the change it
waited for, or without; offers and parameters are sent; a port's PTP timers act on its instance.
(The model's choices it rests on: log entries 27, 36.) -/
def Obligations.TimeEvents : Prop :=
  (∀ (s : State) (k : Nat), alive s = true → k < 16 →
    (isSet s (R.TRIG_CTL_ARMED k) = true → exec (.triggerFire k) s = .next (triggerFire k none s)) ∧
    (isSet s (R.TRIG_CTL_ARMED k) = false → exec (.triggerFire k) s = .next s)) ∧
  (∀ (s : State) (g : Nat), ∃ u, exec (.pulseEnd g) s = .next u ∧ (∀ h, h ∈ u.sys.pulses ↔ h ∈ s.sys.pulses ∧ h ≠ g) ∧
    u = { s with sys := { s.sys with pulses := u.sys.pulses } }) ∧
  ∀ s : State, running s = true →
    (∃ u, u = { s with regs := u.regs } ∧ getF u (R.CAP_LO_VAL 1) = wtNs s % 2 ^ 32 ∧
      exec .genlockEdge s = .next (genlockSample u)) ∧
    (∃ u, u = { s with regs := u.regs } ∧ getF u (R.CAP_LO_VAL 0) = wtNs s % 2 ^ 32 ∧
      exec .ppsEdge s = .next (ppsSample u)) ∧
    (∀ u, isMaster u = false → genlockSample u = u ∧ ppsSample u = u) ∧
    (isMaster s = true → getF s R.TIM_CTRL_WT_SRC = 1 → exec .genlockLoss s = .next (edgesLost (genlockUnits s) s)) ∧
    exec .syncInterval s = .next (sendOffers s) ∧
    exec .tParamsTimer s = .next (sendParams s) ∧
    (∀ l u, l = (ltNs s, oscTemp s) :: s.tim.temps.filter (fun e => decide (ltNs s ≤ e.1 + 10000000000)) →
      u = { s with tim := { s.tim with temps := l } } →
      (servoState u (learnsFromWt u) ≠ 2 ∨ tempSteady l = false →
        exec .oscLearn s = .next (holdLongUpdate (holdAgain true (holdAgain false u)))) ∧
      (servoState u (learnsFromWt u) = 2 → (clockOf u (learnsFromWt u)).lockedAt + 60000000000 * 65536 ≤ s.tim.lt →
        tempSteady l = true → exec .oscLearn s =
          .next (holdLongUpdate (holdAgain true (holdAgain false (learnBin u (learnsFromWt u))))))) ∧
    (∀ p, p < 8 → (timPort s p).offered = true → exec (.offerExpiry p) s =
      .next (timeUpdate s (chooseSource (timPortUpd p (fun q => { q with offered := false }) s)))) ∧
    (∀ b, s.tim.dwell = some b →
      (bestMaster s = some b → exec .masterChangeDwell s = .next (offerChange s (masterIs b s))) ∧
      (bestMaster s ≠ some b → exec .masterChangeDwell s = .next { s with tim := { s.tim with dwell := none } })) ∧
    (sender s = true →
      (isSet s R.TIM_CTRL_MASTER_EN = false → exec .announceTimer s = .next (offerChange s (elect false s))) ∧
      (isSet s R.TIM_CTRL_MASTER_EN = true → exec .announceTimer s = .next (offerChange s (elect false
        ((dualPorts s).foldl (fun a p => sendMsg p (mkMsg s 3 0x34 0xFFF (leBytes 1 1 ++ leBytes 1 (ownClass s) ++
          leBytes 1 (getF s R.TIM_CTRL_PRIO) ++ leBytes 1 (getF s R.TIM_CTRL_WT_SRC) ++ zeros 4)) a) s)))) ∧
      (∀ d, exec (.announceExpiry d) s = .next (offerChange s (elect false
        { s with tim := { s.tim with anns := s.tim.anns.filter (fun a => a.dev != d) } }))) ∧
      (∀ i, i < 2 → (ptpInst s i).enabled = true →
        exec (.ptpAnnounceTimeout i) s = .next (ntCheck (ptpUpdate (setF (ptpUpd i
          (fun q => { q with masters := [], sync := none, last := none, dreq := none, path := none }) s)
          (R.PTP_W0_VALID i) 0))) ∧
        ∀ t1 t2, (ptpInst s i).last = some (t1, t2) → (ptpBest (ptpInst s i)).isSome = true → ∃ u b,
          exec (.delayReqTimer i) s = .next u ∧ (ptpInst u i).dreq = some ((ptpInst s i).dseq, s.tim.lt, t1, t2) ∧
          (ptpInst u i).dseq = ((ptpInst s i).dseq + 1) % 65536 ∧ b.length = 44 ∧
          u.out = s.out ++ [.eth (getF s (R.PTP_W0_PORT i)) (getF s (R.PTP_W0_SUBPORT i)) 3 b] ∧ u.regs = s.regs))
/-! ### Module, strands and presentation -/

/-- Module commands and the ends of their writes: a layer or image that passes its checks is kept until its write ends, which
stores it and replies OK, or empties the slot and replies FLASH_ERROR; read-ageing credits and writes the image to its
reference; module-release takes a checkpoint first where one can be taken; a checkpoint stores its slot and sequence number.
(The model's choices it rests on: log entries 9, 37.) -/
def Obligations.ModuleCommands : Prop :=
  (∀ (s t : State) (k : Pkt) (n : Nat) (c : Option (List Byte)) (f : Fetch), ready s k n c t →
    (n = 0 → ∀ m d, t.nv.module = some m → isSet t R.DMK_STATUS_RELEASED = false → k.p8 0 = 0 → zeroAt k.par 1 3 = true →
      bulk k f c 4 1 t = .ok d →
      (flJudge t d m.serial = 2 → exec (.factoryWrite k f) s =
        .next (startBg k { t with dmk := { t.dmk with factoryWrite := some (k, d) } })) ∧
      (flJudge t d m.serial = 4 → exec (.factoryWrite k f) s = .next (finish k St.sigBad [] t))) ∧
    (n = 0 → t.nv.module = none → k.p8 0 < 2 → zeroAt k.par 1 3 = true →
      exec (.factoryWrite k f) s = .next (finish k St.badState [] t)) ∧
    (n = 0 → getF t R.DMK_STATUS_FL_STATE = 2 → isSet t R.DMK_STATUS_RELEASED = false →
      (∀ d, bulk k f c 0 1 t = .ok d → userOk t d = true → exec (.loadUserLayer k f) s =
        .next (startBg k { t with dmk := { t.dmk with userWrite := some (k, d) } })) ∧
      (∀ m u, t.nv.module = some m → t.dmk.user = some u → m.user0 = u → userOk t m.user1 = true →
        exec (.revertUserLayer k) s = .next (finish k St.ok [] { t with dmk := { t.dmk with userNext := some m.user1 } }))) ∧
    (getF t R.DMK_STATUS_FL_STATE ≠ 2 → n = 0 → exec (.loadUserLayer k f) s = .next (finish k St.badState [] t) ∧
      exec (.readAgeing k f) s = .next (finish k St.badState [] t) ∧
      exec (.setStrandGeometry k) s = .next (finish k St.badState [] t)) ∧
    (getF t R.DMK_STATUS_FL_STATE = 2 → n = 4 → ∀ a u, a = creditAll t →
      refWrite a (refAt k.par 0) (ckptImage a ((getF a R.DMK_CKPT_SEQ_SEQ + 1) % 4294967296)) f = .ok u →
      exec (.readAgeing k f) s = .next (finish k St.ok (leBytes 4 (3 * flW (flOf t) * flH (flOf t))) u)) ∧
    (n = 0 → t.nv.module.isSome = true → isSet t R.DMK_STATUS_RELEASED = false →
      (ckptMay t = true → exec (.moduleRelease k) s =
        .next (ckptStart (startBg k { t with dmk := { t.dmk with release := some k } }))) ∧
      (ckptMay t = false → exec (.moduleRelease k) s =
        .next (finish k St.ok [] (setLevel 13 R.DMK_STATUS_RELEASED 1 (goDark t))))) ∧
    (n = 0 → getF t R.DMK_STATUS_FL_STATE = 2 → sub k.par 32 16 ≠ factoryIdOf (flOf t) →
      exec (.setStrandGeometry k) s = .next (finish k St.badParam [] t)) ∧
    (n = 0 → getF t R.DMK_STATUS_FL_STATE = 2 → sub k.par 32 16 = factoryIdOf (flOf t) → geoOk t (sub k.par 0 32) = true →
      ∃ u, exec (.setStrandGeometry k) s = .next (finish k St.ok [] (setItem 0x0035 0 k.par (strandsStart true u))) ∧
        u.str.enums = [])) ∧
  (∀ (s : State) (k : Pkt) (b : List Byte) (m : Module), running s = true → s.nv.module = some m →
    (s.dmk.userWrite = some (k, b) → s.dmk.user = none →
      exec (.userLayerWriteDone true) s = .next (finish k St.ok [] (endBg 9 { s with
        nv := { s.nv with module := some { m with user0 := b } }
        dmk := { s.dmk with userWrite := none, userNext := some b } })) ∧
      exec (.userLayerWriteDone false) s = .next (finish k St.flashError [] (endBg 9 { s with
        nv := { s.nv with module := some { m with user0 := [] } }, dmk := { s.dmk with userWrite := none } }))) ∧
    (s.dmk.factoryWrite = some (k, b) → k.p8 0 = 0 →
      exec (.factoryWriteDone true) s = .next (finish k St.ok [] (moduleLoad false (endBg 9 { s with
        nv := { s.nv with module := some { m with factory := b } }, dmk := { s.dmk with factoryWrite := none } }))) ∧
      exec (.factoryWriteDone false) s = .next (finish k St.flashError [] (endBg 9 { s with
        nv := { s.nv with module := some { m with factory := [] } }, dmk := { s.dmk with factoryWrite := none } })))) ∧
  ∀ s : State,
    exec .checkpoint s = .next (ckptStart s) ∧
    (ckptMay s = false → ckptStart s = s) ∧
    ∀ (i : Nat) (b : List Byte) (m : Module), running s = true → s.dmk.ckptWrite = some (i, b) → s.nv.module = some m →
      s.dmk.ckptAgain = false → s.dmk.release = none → ∃ u, exec (.checkpointDone true) s = .next u ∧
        u.nv = { s.nv with module := some (if i = 0 then { m with ckpt0 := b } else { m with ckpt1 := b }) } ∧
        getF u R.DMK_CKPT_SEQ_SEQ = u32 b 8 ∧ u.dmk.ckptWrite = none ∧ u.mem = s.mem

/-- Strands and presentation: strand-read waits for its group, enumerate replies at its end, diag-drive sends its packets and
the swap; replies, timeouts and polls of READs, the strand supply, the close of a frame, ARM, cutoff, window end, present
instants and PWM cycles have their effect on a tile, and a sender's present instant sends LIVENESS.
(The model's choices it rests on: log entry 38.) -/
def Obligations.StrandsAndPresentation : Prop :=
  (∀ (s t : State) (k : Pkt) (c : Option (List Byte)), ready s k 0 c t →
    (clkRuns t = false → exec (.strandRead k) s = .next (finish k St.badState [] t)) ∧
    (clkRuns t = true → k.p8 0 < gNstr (geoOf t) → k.p8 1 < gNdrv (geoOf t) → k.p8 2 < 4 → k.p8 3 = 0 → k.p8 4 < 32 →
      k.p8 5 ≤ 32 → k.p8 6 < 48 → k.p8 7 ≤ 48 → exec (.strandRead k) s = .next (pumpGroup (k.p8 0 / 8)
        { t with str := { t.str with waiting := (Tab.put t.str.waiting (k.p8 0 / 8) (Tab.getD t.str.waiting (k.p8 0 / 8) [] ++
          [⟨k.p8 0, k.p8 1, k.p8 2, k.p8 4, k.p8 5, k.p8 6, k.p8 7, some k⟩])) } })) ∧
    (zeroAt k.par 1 3 = true →
      (clkRuns t = false → exec (.enumerate k) s = .next (finish k St.badState [] t)) ∧
      (clkRuns t = true → k.p8 0 ≠ 0xFF → k.p8 0 < gNstr (geoOf t) → exec (.enumerate k) s = .next (enumStrands (enumBlanks t)
        [k.p8 0] (startBg k { t with str := { t.str with enumWait := t.str.enumWait ++ [(k, [k.p8 0])] } })))) ∧
    (clkRuns t = false → exec (.diagDrive k) s = .next (finish k St.badState [] t)) ∧
    (clkRuns t = true → k.p8 0 ≠ 0xFF → k.p8 0 < gNstr (geoOf t) → k.p8 1 ≠ 0xFF → k.p8 1 < gNdrv (geoOf t) → 1 ≤ k.p8 5 →
      1 ≤ k.p8 7 → k.p8 4 + k.p8 5 ≤ 32 → k.p8 6 + k.p8 7 ≤ 48 → ∀ u,
      u = strandSend (k.p8 0) (strandPacket 2 0 true [0x8000, 1]) (strandSend (k.p8 0) (strandPacket 1 (k.p8 1) false
        ([k.p8 4 + (k.p8 5 - 1) * 32, k.p8 6 + (k.p8 7 - 1) * 64] ++ List.replicate (k.p8 5 * k.p8 7) (k.p16 2))) t) →
      exec (.diagDrive k) s = .next (finish k St.ok []
        { u with out := u.out ++ [.sync 2 0], str := { u.str with blanked := false } }))) ∧
  (∀ (s : State) (g : Nat) (r : StrRead), running s = true → Tab.get s.str.reading g = some r →
    (∀ ws, ws.length = readWords r →
      exec (.returnReply g ws (crc16 ((ws.map (leBytes 2)).flatten))) s = .next (readEnd g r (some ws) s)) ∧
    (∀ ws x, x ≠ crc16 ((ws.map (leBytes 2)).flatten) → exec (.returnReply g ws x) s =
      .next (readEnd g r none (tally R.STR_RET_CRC_N 13 6 (r.strand * 64 + r.drv) s))) ∧
    (r.pkt.isSome = true → exec (.readTimeout g) s =
      .next (readEnd g r none (tally R.STR_READ_TO_N 13 6 (r.strand * 64 + r.drv) s)))) ∧
  (∀ s : State, running s = true → sender s = false →
    (∀ g k, g < 8 → isSet s R.STR_CTRL_POLL_EN = true → clkRuns s = true → s.str.inWindow = false → mode s ≠ mService →
      getF s R.THM_STATUS_STEP < 3 → Tab.get s.str.reading g = none → s.str.enums = [] → Tab.getD s.str.waiting g [] = [] →
      nextPoll s g = some k → exec (.statusPoll g) s = .next (issueRead (shortRead (8 * g + k / 64) (k % 64) 0)
        { s with str := { s.str with pollNext := Tab.put s.str.pollNext g (k + 1) } })) ∧
    (s.str.vddLost = false → ∀ u, u = strandWaitsFail { s with str := { s.str with vddLost := true, queue := [], enums := [] } } →
      exec .vddStrLoss s = .next (strRefresh ((strandList u).foldl (fun a st => setStrand st 2 a) u))) ∧
    (s.str.vddLost = true → ∀ u, u = markEvery { s with str := { s.str with vddLost := false } } →
      exec .vddStrReturn s = .next (if clkRuns u then enumStrands (enumBlanks u) (strandList u) u
        else strandsStart (enumBlanks u) u)) ∧
    (s.str.inWindow = true → s.str.cfgDue = false →
      exec .pushWindowEnd s = .next (pumpAll { s with str := { s.str with inWindow := false } })) ∧
    (∀ m, s.nv.module = none → exec (.moduleInserted m) s = .next (moduleLoad false
      (setLevel 13 R.DMK_STATUS_RELEASED 0 { s with nv := { s.nv with module := some m } }))) ∧
    (∀ m, s.nv.module = some m → ∃ u, exec .modulePulled s = .next u ∧ u.nv.module = none ∧ u.dmk.userWrite = none ∧
      u.dmk.factoryWrite = none ∧ u.dmk.release = none ∧ u.dmk.ckptWrite = none)) ∧
  ∀ s : State, hasInstants s = true →
    (sender s = true → getF s R.TIM_CTRL_PPS_OUT ≠ 2 → ∀ n, exec (.presentInstant n) s = .next (sendLiveness n (freeSent n (promoteParams s)))) ∧
    (sender s = false →
      (∀ n, getF s R.TIM_CTRL_PPS_OUT ≠ 2 →
        exec (.presentInstant n) s = .next (tilePresent n (promoteParams s))) ∧
      (∀ n, mode s ≠ mShow → exec (.frameClose n) s = .next (closePower n false (closeFrame n s))) ∧
      (∀ n u, mode s = mShow → canPush s = true → u = closePower n true (correctFrame n (closeFrame n s)) → ∃ w, w ≤ 22000 + 160 *
        u.dmk.corrected.length ∧ exec (.frameClose n) s =
          .next (pushBegin n (wtNs s + w) (wtNs s) u.dmk.corrected { u with free := u.free + 1 })) ∧
      (∀ n, clkRuns s = true → mode s ≠ mHold → willPresent n s = true →
        exec (.armSend n) s = .next (sendArm (armScale n s).1 true (armScale n s).2)) ∧
      (∀ n v, clkRuns s = true → mode s = mHold → s.thm.rescale = some v → exec (.armSend n) s = .next (sendArm v false s)) ∧
      (∀ n v, s.str.pushFrame = some n → tOf s n = some v →
        exec .pushCutoff s = .next (pushCut (gridUp s v - 640 * strPeriod s) s)) ∧
      (clkRuns s = true → pwmNone s (frameNow0 s) = true →
        exec .pwmCycleStart s = .next { s with tim := { s.tim with pwmK := s.tim.pwmK + 1 } }))
/-! ### Heat and power -/

/-- Thermal and power commands: each stores what it carries where its checks hold, and answers BAD_PARAM (set-feed:
TABLE_FULL) where they fail; set-feed takes the entry that holds the feed, else the lowest one not enabled.
(The model's choices it rests on: log entries 39, 40.) -/
def Obligations.ThermalCommands : Prop :=
  ∀ (s t : State) (k : Pkt) (c : Option (List Byte)), ready s k 0 c t →
    (feedOk k.par = false → exec (.setFeed k) s = .next (finish k St.badParam [] t)) ∧
    (feedOk k.par = true → k.p8 1 = 1 →
      (∀ e, feedEntry t (k.p8 0) = some e → exec (.setFeed k) s =
        .next (finish k St.ok [] (setItem 0x0022 e k.par (feedCheck (entryPut e k.par t))))) ∧
      (feedEntry t (k.p8 0) = none → ∀ e, e < 32 → entryOn t e = false → (∀ i, i < e → entryOn t i = true) →
        exec (.setFeed k) s = .next (finish k St.ok [] (setItem 0x0022 e k.par (feedCheck (entryPut e k.par t))))) ∧
      (feedEntry t (k.p8 0) = none → (∀ i, i < 32 → entryOn t i = true) →
        exec (.setFeed k) s = .next (finish k St.tableFull [] t))) ∧
    (curveOk k.par = false → exec (.setDeratingCurve k) s = .next (finish k St.badParam [] t)) ∧
    (curveOk k.par = true → k.p8 0 = 0xFF → exec (.setDeratingCurve k) s = .next (finish k St.ok [] (setItem 0x0023 32 k.par
      { t with thm := { t.thm with curve := curvePts (k.par.drop 4) (k.p8 1) } }))) ∧
    (curveOk k.par = true → k.p8 0 ≠ 0xFF → sender t = true →
      (feedEntry t (k.p8 0) = none → exec (.setDeratingCurve k) s = .next (finish k St.badParam [] t)) ∧
      ∀ e, feedEntry t (k.p8 0) = some e → exec (.setDeratingCurve k) s = .next (finish k St.ok [] (setItem 0x0023 e k.par
        { t with thm := { t.thm with feedCurves := Tab.put t.thm.feedCurves e (curvePts (k.par.drop 4) (k.p8 1)) } }))) ∧
    (k.p8 0 ≤ 4 → k.p8 1 ≤ 1 → zeroAt k.par 2 2 = true → (∀ i, i < k.p8 0 → k.p8 (4 + 4 * i) < 128 ∧ k.p8 (5 + 4 * i) ≤ 1 ∧
      zeroAt k.par (6 + 4 * i) 2 = true) → ∃ u, exec (.setSupplies k) s = .next (finish k St.ok [] (setItem 0x0031 0 k.par u)) ∧
        u.thm.nsup = k.p8 0 ∧ u.thm.bus = k.p8 1 ∧ u.mem = t.mem ∧ u.nv = t.nv) ∧
    (4 < k.p8 0 → exec (.setSupplies k) s = .next (finish k St.badParam [] t)) ∧
    (k.p8 0 < t.thm.nsup → t.thm.nsup ≤ 4 → zeroAt k.par 1 3 = true → exec (.clearSupplyFaults k) s = .next (finish k St.ok []
      (send t (.bus (getF t (R.THM_SUP_ADDR (k.p8 0))) 3 [])))) ∧
    (k.p8 0 < 4 → k.p8 1 = 0 → (k.p8 6 < 56 ∨ k.p8 6 = 0xFF) → (k.p8 7 < 56 ∨ k.p8 7 = 0xFF) → ∃ u,
      exec (.setDiode k) s = .next (finish k St.ok [] (setItem 0x0032 (k.p8 0) k.par u)) ∧
      getF u (R.THM_SENSN_NB0 (20 + k.p8 0)) = k.p8 6 ∧ getF u (R.THM_SENSN_NB1 (20 + k.p8 0)) = k.p8 7 ∧
      Tab.get u.thm.diodes (k.p8 0) = some (sub k.par 2 4)) ∧
    (k.p8 0 < 8 → zeroAt k.par 1 3 = true → exec (.setAmon k) s = .next (finish k St.ok [] (setItem 0x0033 (k.p8 0) k.par
      { t with thm := { t.thm with amon := Tab.put t.thm.amon (k.p8 0) (sub k.par 4 8) } }))) ∧
    (k.p8 0 ≤ 24 → k.p8 1 = 0 → ∃ u, exec (.setThreshold k) s = .next (finish k St.ok [] (setItem 0x0034 (k.p8 0) k.par u)) ∧
      getF u (R.THM_THR_LEVEL (k.p8 0)) = k.p16 2 ∧ getF u (R.THM_THR_HYST (k.p8 0)) = k.p16 4 ∧
      getF u (R.THM_THRD_DWELL_MS (k.p8 0)) = k.p16 6 ∧ getF u (R.THM_THRD_STATE (k.p8 0)) = getF t (R.THM_THRD_STATE (k.p8 0)) ∧
      u = { t with regs := u.regs }) ∧
    (24 < k.p8 0 → exec (.setThreshold k) s = .next (finish k St.badParam [] t))

/-- Thermal and power events: samples, dwell timers of thresholds and of lanes, model updates and conversions wherever the device is out of reset;
budget periods, claims, gathering and echo timeouts at a sender; DEMAND, budget loss and the overhead at a tile.
(The model's choices it rests on: log entries 3, 39, 40.) -/
def Obligations.ThermalEvents : Prop :=
  (∀ s : State, alive s = true →
    (∀ x r, sensorExists s x = true →
      (-880 ≤ readingOf s x r → readingOf s x r ≤ 2400 →
        exec (.sensorSample x (some r)) s = .next (goodSample x (readingOf s x r) s)) ∧
      (readingOf s x r < -880 ∨ 2400 < readingOf s x r → exec (.sensorSample x (some r)) s = .next (hardFault x s))) ∧
    (∀ x r, sensorExists s x = false → exec (.sensorSample x r) s = .next s) ∧
    (∀ x, x < 20 → exec (.sensorSample x none) s = .next s) ∧
    (∀ t, t < 24 →
      (getF s (R.THM_THRD_STATE t) = 1 → exec (.thresholdDwellExpiry t) s = .next (restep (thrEnter t 2 s))) ∧
      (getF s (R.THM_THRD_STATE t) = 3 → exec (.thresholdDwellExpiry t) s = .next (restep (thrEnter t 0 s))) ∧
      (getF s (R.THM_THRD_STATE t) ≠ 1 → getF s (R.THM_THRD_STATE t) ≠ 3 → exec (.thresholdDwellExpiry t) s = .next s)) ∧
    (∀ p l, p < 8 → l < 4 →
      ((Tab.getD s.thm.lanes (4 * p + l) (0, 0)).1 = 1 → exec (.thresholdDwellExpiry (32 + (4 * p + l))) s = .next (laneEnter p l 2 s)) ∧
      ((Tab.getD s.thm.lanes (4 * p + l) (0, 0)).1 = 3 → exec (.thresholdDwellExpiry (32 + (4 * p + l))) s = .next (laneEnter p l 0 s))) ∧
    (s.thm.seeded = false → ∀ rails, rails.sum < 65536 → ∃ u, exec (.dieModelUpdate rails) s = .next u ∧
      getF u R.THM_CHIP_MW_MW = rails.sum ∧ u = { s with regs := u.regs }) ∧
    exec (.adcStart []) s = .next s ∧
    (∀ v w, v < 4096 → w = Config.adcCorrect v (getI s (R.THM_SENS_USED 3)) % 4096 → thrOff s 8 = true → thrOff s 9 = true →
      ∃ u, exec (.adcStart [v]) s = .next u ∧ getF u (R.THM_AMON_CODE 0) = w ∧ u = { s with regs := u.regs }) ∧
    (sender s = true → ∀ l, exec (.modIntEdge l) s = .next s) ∧
    (sender s = false → ∀ r, nsens s = 1 → exec (.modIntEdge [r]) s = .next (sensorSample 24 r s)) ∧
    (isSet s R.THM_CTRL_PMB_EN = false → ∀ l, exec (.pmbAlert l) s = .next s) ∧
    (isSet s R.THM_CTRL_PMB_EN = true → s.thm.nsup = 1 → ∀ r w, r.statusWord = some w →
      exec (.pmbAlert [r]) s = .next (sagCheck (putRead (R.THM_SUP_IN_VIN 0) r.vin 49 10 (supplyStatus 0 r s)))) ∧
    (isSet s R.THM_CTRL_PMB_EN = false → ∃ u, (∀ l, exec (.telemetryRound l) s = .next (setLevel 15 R.THM_STATUS_TELEM_VALID 0 u)) ∧
      (∀ k, k < 4 → isSet u (R.THM_SUP_VALID k) = false) ∧ u = { s with regs := u.regs }) ∧
    (isSet s R.THM_CTRL_PMB_EN = true → sender s = true → s.thm.nsup = 1 → ∀ r, ∃ u, exec (.telemetryRound [r]) s = .next u ∧
      u = setLevel 15 R.THM_STATUS_TELEM_VALID (if (validSupplies (supplyRound 0 r s)).isEmpty then 0 else 1) (supplyRound 0 r s))) ∧
  (∀ s : State, running s = true → sender s = true →
    (∀ f, exec (.budgetPeriod f) s = .next (feedRun f s) ∧ (feedSlots s f = [] → feedRun f s = s)) ∧
    (∀ f, s.thm.gather.contains f = true → exec (.sagGatherExpiry f) s =
      .next (feedRun f { s with thm := { s.thm with gather := s.thm.gather.erase f } })) ∧
    (∀ f, s.thm.gather.contains f = false → exec (.sagGatherExpiry f) s = .next s) ∧
    exec .feedClaimTimer s =
      .next (feedCheck ((peerSenders s).foldl (fun a d => sendTo d (mkMsg a 1 0x1A d (claimPayload s)) a) s)) ∧
    (∀ i e, Tab.get s.cel.slots i = some e → (feedSlot s i).lowered.isSome = true → ∃ u, exec (.budgetEchoTimeout i) s = .next u ∧
      (feedSlot u i).silent = true ∧ Tab.get u.thm.heldBack (u8 e.entry 4) = none ∧ u.regs = s.regs ∧ u.out = s.out)) ∧
  (∀ s : State, running s = true → sender s = false →
    (unnumbered s = false → exec .demandTimer s = .next { toSender 0x19 (demandPayload s) s with
      thm := { (toSender 0x19 (demandPayload s) s).thm with acc := DemandAcc.zero } }) ∧
    (unnumbered s = true → exec .demandTimer s = .next { s with thm := { s.thm with acc := DemandAcc.zero } }) ∧
    (s.thm.ot = [] → exec .overheadMeasurement s = .next s) ∧
    (s.thm.ot ≠ [] → ∃ u, exec .overheadMeasurement s = .next u ∧ u.thm.ot = [] ∧
      u = { s with regs := u.regs, thm := { s.thm with ot := [] } })) ∧
  ∀ s : State, alive s = true → sender s = false →
    (mode s = mStandby ∨ mode s = mService ∨ mode s = mHold →
      exec .zoneModelUpdate s = .next (zoneJudge (zoneStep 10000000 (litScale s) s))) ∧
    (mode s = mShow → exec .zoneModelUpdate s = .next s) ∧
    (isSet s R.THM_STATUS_SAFE = true → exec .budgetHoldExpiry s = .next s) ∧
    (∀ b, isSet s R.THM_STATUS_SAFE = false → s.thm.budgetNext = none → s.thm.budget = some b → ∃ u,
      exec .budgetHoldExpiry s = .next (thmLevel R.THM_STATUS_SAFE 4 true u) ∧ u.thm.budget = some { b with b := b.floor } ∧
      u.thm.budgetNext = none ∧ u.mem = s.mem ∧ u.dmk = s.dmk)
/-! ### Security -/

/-- Ownership commands: enrolment makes a new store with the owner key, the counter of slot 0 and default policies, and changes
nothing in a device the key already owns; rotation, release, delegates, deny list, module signers and root revocation act on
the store as R433 to R435 say; policies apply once in range, and tamper-clear ends a restriction.
(The model's choices it rests on: log entries 9, 41.) -/
def Obligations.OwnershipCommands : Prop :=
  ∀ (s t : State) (k : Pkt) (c : Option (List Byte)), ready s k 0 c t →
    (∀ u, u = { t with nv := { t.nv with store := some (newStore (sub k.par 0 96) (u64 k.body 0x10)), storeGood := true, restricted := false }
                       sec := { t.sec with loaded := true } } → ostate t = 0 → t.nv.storeGood = true →
      exec (.enrolOwner k) s = .next (finish k St.ok [] (rekeyAll u)) ∧ storeOf u = some (newStore (sub k.par 0 96) (u64 k.body 0x10))) ∧
    (∀ o, ostate t = 1 → storeOf t = some o →
      (o.owner = sub k.par 0 96 → exec (.enrolOwner k) s = .next (finish k St.ok [] t)) ∧
      (o.owner ≠ sub k.par 0 96 → exec (.enrolOwner k) s = .next (finish k St.badState [] t)) ∧
      (Config.ecdsaVerify (sub k.par 0 96) (certId t ++ sub k.body 0x10 8) (sub k.par 96 96) = false →
        exec (.rotateOwner k) s = .next (finish k St.sigBad [] t)) ∧
      (Config.ecdsaVerify (sub k.par 0 96) (certId t ++ sub k.body 0x10 8) (sub k.par 96 96) = true → ∃ l,
        exec (.rotateOwner k) s = .next (finish k St.ok [] (rekeyAll { t with nv := { t.nv with
          store := some { o with owner := sub k.par 0 96, lastCtr := l } } })) ∧ ∀ i, i < 9 → Tab.get l i = some (u64 k.body 0x10)) ∧
      (1 ≤ k.p8 0 → k.p8 0 ≤ 8 → k.p8 1 < 16 → k.p8 1 % 2 = 0 → zeroAt k.par 2 2 = true →
        ((sub k.par 4 96).all (· == 0) = false → exec (.setDelegate k) s = .next (finish k St.ok [] { t with nv := { t.nv with
          store := some { o with delegates := Tab.put o.delegates (k.p8 0) (sub k.par 4 96, k.p8 1) } } })) ∧
        ((sub k.par 4 96).all (· == 0) = true → exec (.setDelegate k) s = .next (finish k St.ok [] { t with nv := { t.nv with
          store := some { o with delegates := Tab.del o.delegates (k.p8 0) } } }))) ∧
      ((k.p8 0 = 0 ∨ 8 < k.p8 0 ∨ k.p8 1 % 2 = 1 ∨ 16 ≤ k.p8 1) → exec (.setDelegate k) s = .next (finish k St.badParam [] t)) ∧
      (k.p8 0 = 0 → zeroAt k.par 1 3 = true → (∀ p, (portOf t p).session = none) →
        exec (.setDenyList k) s = .next (finish k St.ok [] { t with nv := { t.nv with store := some { o with deny := [] } } })) ∧
      (k.p8 0 < 16 → zeroAt k.par 1 3 = true → (k.par.drop 4).all (· == 0) = true → exec (.loadModuleSigner k) s =
        .next (finish k St.ok [] { t with nv := { t.nv with store := some { o with signers := Tab.del o.signers (k.p8 0) } } })) ∧
      (k.p8 0 < 16 → zeroAt k.par 1 3 = true → (k.par.drop 4).all (· == 0) = false →
        chainUnder t (sub (k.par.drop 4) 0 96) (sub (k.par.drop 4) 96 256) (sub (k.par.drop 4) 352 256) useModule = true →
        exec (.loadModuleSigner k) s = .next (finish k St.ok [] { t with nv := { t.nv with
          store := some { o with signers := Tab.put o.signers (k.p8 0) (sub (k.par.drop 4) 96 512) } } })) ∧
      (policyOk k.par = true → ∀ u, u = { t with nv := { t.nv with store := some { o with
          policies := (List.range 11).map (fun i => k.p8 i), pflags := k.p8 11, rekeyH := k.p8 12 } } } →
        ((∀ i, i < 2 → (k.p8 11).testBit i = o.pflags.testBit i) → exec (.setPolicy k) s = .next (finish k St.ok [] u)) ∧
        ((k.p8 11).testBit 0 ≠ o.pflags.testBit 0 → exec (.setPolicy k) s = .next (finish k St.ok [] (rekeyAll u)))) ∧
      exec (.tamperClear k) s =
        .next (finish k St.ok [] { t with nv := { t.nv with store := some { o with restricted := false } } })) ∧
    (policyOk k.par = false → exec (.setPolicy k) s = .next (finish k St.badParam [] t)) ∧
    exec (.releaseOwner k) s = .next (dropLinks (zero2 (finish k St.ok [] t))) ∧
    (k.p8 0 < 4 → k.p8 1 < 4 → k.p8 0 ≠ k.p8 1 → zeroAt k.par 2 2 = true →
      t.nv.revoked.testBit (k.p8 1) = false → Tab.get t.nv.roots (k.p8 1) = some (Config.sha384 (sub k.par 4 96)) →
      Config.ecdsaVerify (sub k.par 4 96) (ascii "MRRV" ++ leBytes 1 (k.p8 0)) (sub k.par 100 96) = true →
      ∃ u, exec (.revokeRoot k) s = .next (finish k St.ok [] u) ∧ u.nv.revoked.testBit (k.p8 0) = true ∧
        (∀ i, i ≠ k.p8 0 → u.nv.revoked.testBit i = t.nv.revoked.testBit i) ∧ u = { t with nv := { t.nv with revoked := u.nv.revoked } }) ∧
    (k.p8 0 < 4 → (∀ i, i < 4 → i ≠ k.p8 0 → Tab.get t.nv.roots i = none ∨ t.nv.revoked.testBit i = true) →
      exec (.revokeRoot k) s = .next (finish k St.badParam [] t))

/-- Zeroisation, debug, attestation, the tamper log, and events of SEC: zeroise and lockdown reply, enter LOCKDOWN with
LOCK_CAUSE 3 and destroy; an unlock spends its nonce; a tamper input that is watched has its event,
and arming handles what was latched.
(The model's choices it rests on: log entry 41.) -/
def Obligations.ZeroisationDebugAndTamper : Prop :=
  (∀ (s t : State) (k : Pkt) (n : Nat) (c : Option (List Byte)), ready s k n c t →
    (n = 0 → 1 ≤ k.p8 0 → k.p8 0 ≤ 3 → zeroAt k.par 1 3 = true →
      exec (.zeroise k) s = .next (zeroise (k.p8 0) (enterLockdown 3 (finish k St.ok [] t)))) ∧
    (n = 0 → k.p8 0 = 0 ∨ 4 ≤ k.p8 0 → exec (.zeroise k) s = .next (finish k St.badParam [] t)) ∧
    (n = 0 → exec (.lockdown k) s = .next (enterLockdown 3 (finish k St.ok [] t))) ∧
    (n = 0 → holds t k.req 3 = false → exec (.getNonce k) s = .next (finish k St.notHeld [] t)) ∧
    (n = 32 → holds t k.req 3 = true → ∃ u l, l.length = 32 ∧ exec (.getNonce k) s = .next (finish k St.ok l u) ∧
      u = { t with free := u.free, sec := { t.sec with nonce := some (l, ltNs t + 300000000000, k.req) } }) ∧
    (n = 0 → k.p8 0 = 1 ∨ k.p8 0 = 2 → zeroAt k.par 1 3 = true → 1 ≤ k.p16 36 → k.p16 36 ≤ 480 → zeroAt k.par 38 2 = true →
      (∀ x, t.sec.nonce = some (sub k.par 4 32, x, k.req) → ltNs t < x → ∀ u, u = { t with sec := { t.sec with nonce := none } } →
        (k.p8 0 = 1 ∨ tokenOk u (k.par.drop 40) (sub k.par 4 32) = true →
          exec (.debugUnlock k) s = .next (grantDebug (k.p8 0) (k.p16 36) (finish k St.ok [] u))) ∧
        (k.p8 0 = 2 → tokenOk u (k.par.drop 40) (sub k.par 4 32) = false →
          exec (.debugUnlock k) s = .next (finish k St.sigBad [] u))) ∧
      (t.sec.nonce = none → exec (.debugUnlock k) s = .next (finish k St.sigBad [] t))) ∧
    (n = 0 → exec (.debugLock k) s = .next (finish k St.ok [] (endDebug t))) ∧
    (∀ l, l = statement t (sub k.par 0 32) ++ dikSign (statement t (sub k.par 0 32)) ++ t.nv.deviceCert ++ t.nv.issuerCert →
      n = l.length → exec (.getAttestation k) s = .next (finish k St.ok l t)) ∧
    (∀ l, l = (((t.nv.log.reverse.filter (fun e => decide (k.p32 0 ≤ e.seq))).take (k.p8 4)).map logEntry).flatten →
      1 ≤ k.p8 4 → k.p8 4 ≤ 31 → zeroAt k.par 5 3 = true → n = l.length → exec (.readTamperLog k) s = .next (finish k St.ok l t))) ∧
  ∀ s : State,
    (alive s = true → 1 ≤ getF s R.SEC_STATUS_DEBUG → exec .debugUnlockExpiry s = .next (endDebug s)) ∧
    (getF s R.SEC_STATUS_DEBUG = 0 → exec .debugUnlockExpiry s = .next s) ∧
    (∀ x d h, x = 1 ∨ x = 2 ∨ x = 4 ∨ x = 5 → ∃ u, exec (.tamperEvent x d h) s = .next (tamperEvent x 0 u) ∧
      (u.sec.active.contains x = h) ∧ u = { s with sec := { s.sec with active := u.sec.active } }) ∧
    (∀ d h, inReset s = true → s.sys.rst.porst = true → exec (.tamperEvent 3 d h) s = .next s) ∧
    (inReset s = true ∨ s.sys.tamperArmed = true → exec .tamperArm s = .next s) ∧
    (inReset s = false → s.sys.tamperArmed = false → s.sec.latched = [] → s.sec.active = [] →
      (s.nv.store = none ∨ s.nv.storeGood = true) →
      exec .tamperArm s = .next { s with sys := { s.sys with tamperArmed := true }, sec := { s.sec with latched := [], loaded := true } })

/-- JTAG: BYPASS and IDCODE are honoured in every state, SAMPLE/PRELOAD and EXTEST unless the device is OWNED without an unlock,
EXTEST only in BOOT, STANDBY and SERVICE, core debug from level 1 and scan and test from level 2. An instruction that is not
honoured acts as BYPASS and, when the device is OWNED, raises tamper source 6; nothing else of the device is reached. -/
def Obligations.JtagByState : Prop :=
  ∀ (s : State) (i : JtagInstr) (lvl : Nat) (honoured : Prop), lvl = getF s R.SEC_STATUS_DEBUG →
    (honoured ↔ i = .bypass ∨ i = .idcode ∨ (i = .sample ∧ (ostate s ≠ 1 ∨ 1 ≤ lvl)) ∨
      (i = .extest ∧ (ostate s ≠ 1 ∨ 1 ≤ lvl) ∧ (mode s = mBoot ∨ mode s = mStandby ∨ mode s = mService)) ∨
      (i = .coreDebug ∧ 1 ≤ lvl) ∨ (i = .scanTest ∧ 2 ≤ lvl)) →
    (honoured → exec (.jtagInstruction i) s = .next { s with sec := { s.sec with jtag := i } }) ∧
    (¬ honoured → ostate s ≠ 1 → exec (.jtagInstruction i) s = .next { s with sec := { s.sec with jtag := .bypass } }) ∧
    (¬ honoured → ostate s = 1 →
      exec (.jtagInstruction i) s = .next (tamperEvent 6 0 { s with sec := { s.sec with jtag := .bypass } }))
/-! ### Configuration, update and the Muslin port -/

/-- Configuration commands: config-set keeps a running value, config-get returns an item, a commit or revert writes a new
generation into a slot that holds neither of the two newest, and the end of the write answers with its GEN or FLASH_ERROR.
(The model's choices it rests on: log entry 24.) -/
def Obligations.ConfigurationCommands : Prop :=
  (∀ (s t : State) (k : Pkt) (n : Nat) (c : Option (List Byte)) (f : Fetch), ready s k n c t →
    (n = 0 → k.p16 0 = 1 → k.p8 2 = 0 → zeroAt k.par 3 1 = true → zeroAt k.par 6 2 = true → (k.par.drop 8).length = 4 →
      (sender t = true → u32 (k.par.drop 8) 0 < 4095 → exec (.configSet k) s =
        .next (finish k St.ok [] (setItem 1 0 (k.par.drop 8) t))) ∧
      (sender t = true → 4095 ≤ u32 (k.par.drop 8) 0 → exec (.configSet k) s = .next (finish k St.badParam [] t)) ∧
      (sender t = false → exec (.configSet k) s = .next (finish k St.unsupported [] t))) ∧
    (n = 0 → k.p16 0 ≠ 1 → k.p16 0 ≠ 0x40 → exec (.configSet k) s = .next (finish k St.badParam [] t)) ∧
    (itemKnown (k.p16 0) (k.p8 2) = true → k.p8 3 ≤ 2 → ∀ x d, itemWhich t (k.p8 3) (k.p16 0) (k.p8 2) = (x, d) →
      (k.par.length = 4 → d.length ≤ 4072 → n = 8 + d.length → exec (.configGet k f) s =
        .next (finish k St.ok (leBytes 2 x ++ zeros 2 ++ leBytes 2 d.length ++ zeros 2 ++ d) t)) ∧
      (k.par.length ≠ 4 → n = 8 → ∀ u, refWrite t (refAt k.par 4) d f = .ok u → exec (.configGet k f) s =
        .next (finish k St.ok (leBytes 2 x ++ zeros 2 ++ leBytes 2 d.length ++ zeros 2) u))) ∧
    (n = 0 → itemKnown (k.p16 0) (k.p8 2) = false → exec (.configGet k f) s = .next (finish k St.badParam [] t)) ∧
    (n = 0 → exec (.configCommit k) s = .next (genWrite k (ownCfs t) 0 t.upd.items t)) ∧
    (n = 0 → previousGen t = none → exec (.configRevert k) s = .next (finish k St.badState [] t)) ∧
    (n = 0 → ∀ e, previousGen t = some e → exec (.configRevert k) s =
      .next (genWrite k e.2.cfs (genNum (currentGen t)) e.2.items t))) ∧
  (∀ (s : State) (k : Pkt) (a b : Nat) (l : List Item), ∃ i g u, (genWrite k a b l s).upd.cfgWrite = some (k, i, g) ∧ g.items = l ∧
    g.cfs = a ∧ g.revertOf = b ∧ g.gen ≠ 0 ∧ i < 8 ∧ (∀ e, currentGen s = some e → e.1 < 8 → e.1 ≠ i) ∧
    (∀ e, previousGen s = some e → e.1 < 8 → e.1 ≠ i) ∧ (genWrite k a b l s).nv = { s.nv with gens := u } ∧
    ∀ j, j ≠ i → Tab.get u j = Tab.get s.nv.gens j) ∧
  ∀ s : State,
    (s.upd.cfgWrite = none → ∀ good, exec (.configWriteDone good) s = .next s) ∧
    ∀ k i g, s.upd.cfgWrite = some (k, i, g) → ∀ t,
      t = setLevel 17 R.UPD_STATUS_CFG_BUSY 0 (endBg 0x0D { s with upd := { s.upd with cfgWrite := none } }) →
      exec (.configWriteDone false) s = .next (finish k St.flashError [] (tally R.UPD_FLASH_ERR_N 15 1 0 t)) ∧
      (k.opcode ≠ 0x0D03 → exec (.configWriteDone true) s =
        .next (finish k St.ok (leBytes 4 g.gen) (syncGens { t with nv := { t.nv with gens := Tab.put t.nv.gens i g } }))) ∧
      (k.opcode = 0x0D03 → ∀ u, u = syncGens { t with nv := { t.nv with gens := Tab.put t.nv.gens i g } } →
        exec (.configWriteDone true) s = .next (finish k St.ok (leBytes 4 g.gen) (itemsApply (mode u) g.items u)))

/-- Updates: a bundle that fails R502 is answered with the status of the first failing check and one that passes is staged;
activation and revert need the other slot STAGED or GOOD and the windows of R504, hold the device, and end in the new
firmware or an internal reset; commit-svn raises the fuses to the running image's version.
(The model's choices it rests on: log entries 9, 25.) -/
def Obligations.FirmwareUpdate : Prop :=
  (∀ (s t : State) (k : Pkt) (n : Nat) (c : Option (List Byte)) (f : Fetch), ready s k n c t →
    (n = 0 → zeroAt k.par 0 4 = true → activating t = false → ∀ b, bulk k f c 4 0 t = .ok b →
      (stageVerdict t b ≠ 0 → exec (.stageImage k f) s = .next (finish k (stageVerdict t b) [] t)) ∧
      (stageVerdict t b = 0 → exec (.stageImage k f) s = .next (stageBegin k b t))) ∧
    (∀ b, u32 b 0 ≠ 0x4D42524D → stageVerdict t b ≠ 0) ∧
    (n = 0 → transitioning t = false →
      (activateVerdict t 2 ≠ 0 → exec (.activate k) s = .next (finish k (activateVerdict t 2) [] t)) ∧
      (activateVerdict t 4 ≠ 0 → exec (.revertImage k) s = .next (finish k (activateVerdict t 4) [] t)) ∧
      ∀ a, a = { pkt := k, slot := otherSlot t, fromMode := mode t, verifying := true } →
        (activateVerdict t 2 = 0 → t.upd.copyOf = some (otherSlot t) → exec (.activate k) s = .next (activateHold a t)) ∧
        (activateVerdict t 2 = 0 → t.upd.copyOf ≠ some (otherSlot t) → exec (.activate k) s =
          .next (startBg k { t with upd := { t.upd with activation := some a } })) ∧
        (activateVerdict t 4 = 0 → t.upd.copyOf = some (otherSlot t) → exec (.revertImage k) s = .next (activateHold a t)) ∧
        (activateVerdict t 4 = 0 → t.upd.copyOf ≠ some (otherSlot t) → exec (.revertImage k) s =
          .next (startBg k { t with upd := { t.upd with activation := some a } }))) ∧
    (mode t = mHold ∨ (slotEntry t (otherSlot t)).state ≠ 2 → activateVerdict t 2 = St.badState) ∧
    (∀ r, n = 4 → t.upd.running = some r → t.upd.activated = false → t.nv.bootRec.isSome = true →
      t.upd.chosen = some (currentSlot t) → exec (.commitSvn k) s = .next (finish k St.ok (leBytes 4 (max t.nv.svnFuses r.rec_.svn))
        { t with nv := { t.nv with svnFuses := max t.nv.svnFuses r.rec_.svn } })) ∧
    (n = 0 → t.upd.running = none ∨ t.upd.activated = true → exec (.commitSvn k) s = .next (finish k St.badState [] t)) ∧
    (∀ l, l = updateStatus t → n = l.length → exec (.getUpdateStatus k) s = .next (finish k St.ok l t))) ∧
  ∀ s : State,
    (s.upd.staging = none → ∀ g, exec (.stageDone g) s = .next s) ∧
    (∀ k b t, s.upd.staging = some (k, b) → t = setF (setLevel 17 R.UPD_STATUS_STAGING 0 (endBg 0x0D { s with
        upd := { s.upd with staging := none } })) R.UPD_STATUS_STAGE_PCT 0 →
      exec (.stageDone true) s = .next (finish k St.ok [] (appendRec (fun r => r.setSlot (otherSlot s) (fun _ =>
        recOf b 2 (stagedSlot t b).2)) { t with nv := { t.nv with slots := Tab.put t.nv.slots (otherSlot s) (stagedSlot t b).1 }
                                                upd := { t.upd with copyOf := some (otherSlot s) } })) ∧
      exec (.stageDone false) s = .next (finish k St.flashError [] (appendRec (fun r => r.setSlot (otherSlot s) (fun _ =>
        SlotRec.empty)) (tally R.UPD_FLASH_ERR_N 15 1 0 t)))) ∧
    (s.upd.activation = none → ∀ g, exec (.activateVerifyDone g) s = .next s ∧ exec .activationReady s = .next s ∧
      exec .activationTimeout s = .next s) ∧
    ∀ a, s.upd.activation = some a →
      (a.verifying = true → ∀ t, t = endBg 0x0D { s with upd := { s.upd with activation := none } } →
        exec (.activateVerifyDone false) s = .next (finish a.pkt St.flashError [] t) ∧
        (mainVerifies t (slotBytes t a.slot) = false → exec (.activateVerifyDone true) s = .next (finish a.pkt St.sigBad [] t)) ∧
        (mainVerifies t (slotBytes t a.slot) = true → mode t = mStandby ∨ mode t = mShow → t.sys.warmWait = false →
          exec (.activateVerifyDone true) s = .next (activateHold { a with fromMode := mode t }
            { t with upd := { t.upd with copyOf := some a.slot } }))) ∧
      (a.verifying = false → exec .activationTimeout s = .next (beginInternal false false true s) ∧
        (settingsLost (runNew a.slot s) = true → exec .activationReady s = .next (beginInternal false true false (appendRec (fun r =>
          { r.setSlot a.slot (fun e => { e with state := 5, reason := 4 }) with lastAct := 3 }) (runNew a.slot s)))) ∧
        (settingsLost (runNew a.slot s) = false → ∀ u, u = appendRec (fun r =>
            { r.setSlot a.slot (fun e => { e with state := 3, reason := 0, tries := 0 }) with lastAct := 1 }) (runNew a.slot s) →
          ∀ w, w = { u with upd := { u.upd with running := u.upd.running.map (fun x => { x with rec_ := slotEntry u a.slot }) } } →
          exec .activationReady s = .next ((upPorts w).foldl (fun b p => sendHello p b) (changeMode a.fromMode 0 w))))

/-- The Muslin port: a good frame for the device runs its operation where the mode allows it and is answered BAD_STATE
where it does not; a frame with a wrong CRC is counted and discarded; a load fills its area and is taken when its hash
matches; STAGE, ACTIVATE and REVERT act as their commands.
(The model's choices it rests on: log entries 9, 26.) -/
def Obligations.MuslinOperations : Prop :=
  (∀ (s a t : State) (q : Nat) (p : List Byte) (m : Nat) (i : Instr), inReset s = false → s.upd.mslBusy = none → p.length ≤ 2040 →
    (m, i) ∈ [(1, Instr.ident q p), (2, .faults q p), (3, .updStatus q p), (4, .loadBegin q p), (5, .loadData q p),
      (6, .loadEnd q p), (7, .mslStage q p), (8, .mslActivate q p), (9, .mslRevert q p)] →
    a = incF s R.MSL_FRAMES_N → t = { a with upd := { a.upd with mslBusy := some (q % 65536, 0xFFF, m, none) } } →
    (mslModeOk a m = true → exec i s = .next (mslRun m p t)) ∧
    (mslModeOk a m = false → exec i s = .next (mslReply St.badState [] t))) ∧
  (∀ (s : State) (b : List Byte), inReset s = false → u8 b 0 = 0x4D → u16 b 4 ≤ 2040 → b.length = 12 + u16 b 4 →
    (crc32c (b.take (8 + u16 b 4)) = u32 b (8 + u16 b 4) → exec (.mslFrame b) s =
      .next (mslTake none (b.take (8 + u16 b 4)) (incF s R.MSL_FRAMES_N))) ∧
    (crc32c (b.take (8 + u16 b 4)) ≠ u32 b (8 + u16 b 4) → exec (.mslFrame b) s = .next (tally R.MSL_ERR_CRC 15 4 0 s))) ∧
  ∀ (t : State) (p : List Byte),
    mslRun 1 [] t = mslReply St.ok (identBytes t) t ∧
    (∀ d, p.length = 4 → faultBytes t p = .ok d → mslRun 2 p t = mslReply St.ok d t) ∧
    mslRun 3 [] t = mslReply St.ok (updateStatus t) t ∧
    (p.length = 8 → 1 ≤ u32 p 0 → u32 p 0 ≤ 50331648 → u8 p 4 = 0 → zeroAt p 5 3 = true → ∃ u, mslRun 4 p t = mslReply St.ok [] u ∧
      u.upd.loadLen = some (u32 p 0) ∧ (∀ x, loadMem ≤ x → x < loadMem + 50331648 → ∀ c, c ∈ u.mem → c.1 ≠ x) ∧
      (∀ c, c.1 < loadMem → (c ∈ u.mem ↔ c ∈ t.mem)) ∧ u.regs = t.regs) ∧
    (t.upd.loadLen = none → mslRun 5 p t = mslReply St.badState [] t ∧ mslRun 6 p t = mslReply St.badState [] t) ∧
    (∀ n, t.upd.loadLen = some n →
      (4 ≤ p.length → u32 p 0 + (p.length - 4) ≤ n → mslRun 5 p t = mslReply St.ok [] (memWrite t (loadMem + u32 p 0) (p.drop 4))) ∧
      (4 ≤ p.length → n < u32 p 0 + (p.length - 4) → mslRun 5 p t = mslReply St.badParam [] t) ∧
      (p.length = 48 → Config.sha384 (memRead t loadMem n) ≠ p → mslRun 6 p t = mslReply St.refMismatch [] t) ∧
      (p.length = 48 → Config.sha384 (memRead t loadMem n) = p → mode t ≠ mBoot → mslRun 6 p t = mslReply St.ok [] t) ∧
      (p.length = 48 → Config.sha384 (memRead t loadMem n) = p → mode t = mBoot →
        mslRun 6 p t = (loadBundle (memRead t loadMem n) (t.upd.loadFlags == 1) (mslReply St.ok [] t)).2)) ∧
    (∀ u c b, ready t (mslPkt 0x0D04 p) 0 c u → zeroAt (mslPkt 0x0D04 p).par 0 4 = true → activating u = false →
      bulk (mslPkt 0x0D04 p) .dmaError c 4 0 u = .ok b → stageVerdict u b = 0 → mslRun 7 p t = stageBegin (mslPkt 0x0D04 p) b u) ∧
    (∀ u c, ready t (mslPkt 0x0D05 p) 0 c u → transitioning u = false → activateVerdict u 2 = 0 →
      u.upd.copyOf = some (otherSlot u) → mslRun 8 p t = activateHold
        { pkt := mslPkt 0x0D05 p, slot := otherSlot u, fromMode := mode u, verifying := true } u) ∧
    (∀ u c, ready t (mslPkt 0x0D06 p) 0 c u → transitioning u = false → activateVerdict u 4 = 0 →
      u.upd.copyOf = some (otherSlot u) → mslRun 9 p t = activateHold
        { pkt := mslPkt 0x0D06 p, slot := otherSlot u, fromMode := mode u, verifying := true } u)

/-! ### Resets, boot and the device as a whole -/

/-- Resets: each cause puts the device in reset and is remembered, WRST_N and internal causes are ignored in LOCKDOWN, and
warm-reset replies and waits first. The end of the last cause begins BOOT: after power-on with the straps as sampled and
nothing else kept, after a warm reset with role, LT, staged data and storage kept.
(The model's choices it rests on: log entries 4, 18.) -/
def Obligations.ResetCauses : Prop :=
  (∀ (s t : State) (k : Pkt) (c : Option (List Byte)), ready s k 0 c t → k.p16 0 ≤ 1000 → zeroAt k.par 2 2 = true →
    (transitioning t = false →
      exec (.warmReset k) s = .next (finish k St.ok [] { t with sys := { t.sys with warmWait := true } })) ∧
    (transitioning t = true → exec (.warmReset k) s = .next (finish k St.busy [] t))) ∧
  (∀ s : State,
    (∀ u, u = resetBegins s →
      exec .powerOnReset s = .next { u with sys := { u.sys with rst := { s.sys.rst with porst := true, sawPower := true } } } ∧
      exec .brownOut s = .next { u with sys := { u.sys with rst := { s.sys.rst with power := true, sawPower := true } } } ∧
      (mode s ≠ mLockdown ∨ inReset s = true →
        exec .wrstAssert s = .next { u with sys := { u.sys with rst := { s.sys.rst with wrst := true, sawPin := true } } })) ∧
    (mode s = mLockdown → inReset s = false → exec .wrstAssert s = .next (incF s R.SYS_RESET_CAUSE_WRST_IGN) ∧
      exec .watchdogExpiry s = .next s) ∧
    (s.upd.chosen.isSome = true → mode s ≠ mLockdown → ∃ t, exec .watchdogExpiry s = .next t ∧ inReset t = true ∧
      t.sys.rst.sawWdog = true ∧ t.regs = s.regs ∧ t.mem = s.mem ∧ t.nv = s.nv ∧ t.out = s.out) ∧
    (s.sys.warmWait = true → mode s ≠ mLockdown → ∃ t, exec .warmResetDelayExpiry s = .next t ∧ inReset t = true ∧
      t.sys.rst.sawCmd = true ∧ t.sys.warmWait = false ∧ t.regs = s.regs ∧ t.mem = s.mem ∧ t.nv = s.nv ∧ t.out = s.out) ∧
    ∀ (role : Bool) (b x : Nat) (l : List Nat),
      (inReset s = false → exec (.resetEnd role b x l) s = .next s) ∧
      (inReset s = true → s.sys.rst.sawPower = true → exec (.resetEnd role b x l) s = .next (romStarts (afterPower role b x s))) ∧
      (inReset s = true → s.sys.rst.sawPower = false → exec (.resetEnd role b x l) s = .next (romStarts (afterWarm l s)))) ∧
  ∀ (s : State) (role : Bool) (b x : Nat) (l : List Nat),
    mode (afterPower role b x s) = mBoot ∧ inReset (afterPower role b x s) = false ∧ (afterPower role b x s).nv = s.nv ∧
    (afterPower role b x s).mem = [] ∧ (afterPower role b x s).pending = s.pending ∧ sender (afterPower role b x s) = (role && s.nv.isS) ∧
    isSet (afterPower role b x s) R.SYS_RESET_CAUSE_POR = true ∧ (afterPower role b x s).tim.lt = 0 ∧
    mode (afterWarm l s) = mBoot ∧ inReset (afterWarm l s) = false ∧ (afterWarm l s).nv = s.nv ∧
    sender (afterWarm l s) = sender s ∧ (afterWarm l s).tim.lt = s.tim.lt ∧
    isSet (afterWarm l s) R.SYS_RESET_CAUSE_POR = false ∧ isSet (afterWarm l s) R.SYS_RESET_CAUSE_CMD = s.sys.rst.sawCmd ∧
    isSet (afterWarm l s) R.SYS_RESET_CAUSE_WDOG = s.sys.rst.sawWdog ∧
    ∀ e, e ∈ (afterWarm l s).mem ↔ e ∈ s.mem ∧ e.1 < loadMem

/-- Boot and events of the device: a chosen image that has been armed reaches STANDBY, or resets when its trial reads no
settings; balls, clocks, the PCIe link and its configuration space, memory scrubbing, and the ends of containments and of
DEGRADED.
(The model's choices it rests on: log entries 19, 20.) -/
def Obligations.BootAndDeviceEvents : Prop :=
  (∀ s u : State, u = settleActivation { s with sys := { s.sys with fwRunning := true } } → inReset s = false → mode s = mBoot →
    (s.upd.chosen = none ∨ s.sys.tamperArmed = false → exec .bootComplete s = .next s) ∧
    (s.upd.chosen.isSome = true → s.sys.tamperArmed = true →
      (settingsLost u = false → exec .bootComplete s = .next (bootRest u)) ∧
      ∀ k, u.upd.slot = some k → (slotEntry u k).state = 3 → settingsLost u = true → exec .bootComplete s =
        .next (beginInternal false true false (appendRec (fun r =>
          { r.setSlot k (fun e => { e with state := 5, reason := 4 }) with lastAct := 3 }) u)))) ∧
  (∀ (s : State) (g : Nat) (up : Bool), g < 24 →
    ((getF s R.SYS_GPIO_IN_IN).testBit g = up → exec (.gpioEdge g up) s = .next s) ∧
    ((getF s R.SYS_GPIO_IN_IN).testBit g ≠ up → inReset s = true → ∃ t, exec (.gpioEdge g up) s = .next t ∧
      (∀ i, i < 24 → (getF t R.SYS_GPIO_IN_IN).testBit i = if i = g then up else (getF s R.SYS_GPIO_IN_IN).testBit i) ∧
      t = { s with regs := t.regs }) ∧
    ((getF s R.SYS_GPIO_IN_IN).testBit g ≠ up → inReset s = false → up = false → ∃ t,
      exec (.gpioEdge g up) s = .next (if (getF s R.SYS_GPIO_FALL_FALL).testBit g then raise 19 t else t) ∧
      (∀ i, i < 24 → (getF t R.SYS_GPIO_IN_IN).testBit i = if i = g then up else (getF s R.SYS_GPIO_IN_IN).testBit i) ∧
      t = { s with regs := t.regs })) ∧
  (∀ (s : State) (b : Nat), b < 8 →
    (isSet s (clkBit b) = false → exec (.clockLoss b) s = .next s) ∧
    (isSet s (clkBit b) = true → exec (.clockRestored b) s = .next s) ∧
    (isSet s (clkBit b) = true → inReset s = false → 1 ≤ b → exec (.clockLoss b) s = .next (levelRise 0 2 b (setF s (clkBit b) 0))) ∧
    (isSet s (clkBit b) = true → b = 0 → ∃ t, exec (.clockLoss b) s = .next t ∧ inReset t = true ∧ t.sys.rst.sawPower = true) ∧
    (isSet s (clkBit b) = false → inReset s = false → exec (.clockRestored b) s = .next (levelFall 0 2 (setF s (clkBit b) 1)))) ∧
  ∀ s : State, alive s = true →
    (∀ v w, v < 8 → w < 32 → ∃ t, exec (.pcieLinkUp v w) s = .next t ∧ t.nv = s.nv ∧ t.cps = s.cps ∧ t.mem = s.mem) ∧
    (isSet s R.PCI_STATUS_LINK_UP = false → exec .pcieLinkDown s = .next s ∧ ∀ a b c, exec (.pcieConfigWrite a b c) s = .next s) ∧
    (isSet s R.PCI_STATUS_LINK_UP = true → ∀ u, u = { pcieOff 0 s with
        cps := { (pcieOff 0 s).cps with exports := (pcieOff 0 s).cps.exports.filter (fun e => e.2.space != 0) } } →
      (watchdogRuns u .cp0 = false → exec .pcieLinkDown s = .next u) ∧
      (running u = true → watchdogRuns u .cp0 = true → exec .pcieLinkDown s = .next (watchdogEnds .cp0 u))) ∧
    (isSet s R.PCI_STATUS_LINK_UP = true → ∀ bme x d3, ∃ u, exec (.pcieConfigWrite bme x d3) s = .next (sendPending s u) ∧
      isSet u R.PCI_STATUS_MSIX_EN = (x && sender s) ∧ u.nv = s.nv ∧ u.cps = s.cps ∧ u.mem = s.mem) ∧
    (∀ a r x, exec (.patrolScrub a r x 0) s = .next s ∧ exec (.patrolScrub a r x 1) s = .next (occur 3 1 r a s)) ∧
    (∀ a r x y, 2 ≤ y → exec (.patrolScrub a r x y) s = .next (poisoned r x (occur 3 (if r = 8 then 3 else 2) r a s))) ∧
    (∀ b, ∃ t, exec (.containmentEnd b) s = .next t ∧ Tab.get t.flt.containing b = none ∧
      (∀ j, j ≠ b → Tab.get t.flt.containing j = Tab.get s.flt.containing j) ∧
      (isSet t R.SYS_FAULT_STATUS_CONTAINING = true ↔ t.flt.containing ≠ []) ∧
      t = { s with regs := t.regs, flt := { s.flt with containing := t.flt.containing } }) ∧
    ∃ t, exec .degradedExpiry s = .next t ∧ (isSet t R.SYS_FAULT_STATUS_DEGRADED = true ↔ s.flt.levels ≠ []) ∧
      t = { s with regs := t.regs, flt := { s.flt with recent := [] } }
end

