-- ==== Sys2Proof/Laws/State.lean ====
section
/-! SUPPORT. What the named updates leave of the state: one lemma for each field of State and each update. -/

namespace Sys2Proof.Machine

@[simp] theorem regPut_pending (s : State) (k : Nat) (v : Word) : (regPut s k v).pending = s.pending := rfl
@[simp] theorem regPut_out (s : State) (k : Nat) (v : Word) : (regPut s k v).out = s.out := rfl
@[simp] theorem regPut_free (s : State) (k : Nat) (v : Word) : (regPut s k v).free = s.free := rfl
@[simp] theorem regPut_mem (s : State) (k : Nat) (v : Word) : (regPut s k v).mem = s.mem := rfl
@[simp] theorem regPut_nv (s : State) (k : Nat) (v : Word) : (regPut s k v).nv = s.nv := rfl
@[simp] theorem regPut_sys (s : State) (k : Nat) (v : Word) : (regPut s k v).sys = s.sys := rfl
@[simp] theorem regPut_flt (s : State) (k : Nat) (v : Word) : (regPut s k v).flt = s.flt := rfl
@[simp] theorem regPut_cps (s : State) (k : Nat) (v : Word) : (regPut s k v).cps = s.cps := rfl
@[simp] theorem regPut_eth (s : State) (k : Nat) (v : Word) : (regPut s k v).eth = s.eth := rfl
@[simp] theorem regPut_ing (s : State) (k : Nat) (v : Word) : (regPut s k v).ing = s.ing := rfl
@[simp] theorem regPut_srf (s : State) (k : Nat) (v : Word) : (regPut s k v).srf = s.srf := rfl
@[simp] theorem regPut_cmp (s : State) (k : Nat) (v : Word) : (regPut s k v).cmp = s.cmp := rfl
@[simp] theorem regPut_tnm (s : State) (k : Nat) (v : Word) : (regPut s k v).tnm = s.tnm := rfl
@[simp] theorem regPut_cel (s : State) (k : Nat) (v : Word) : (regPut s k v).cel = s.cel := rfl
@[simp] theorem regPut_celT (s : State) (k : Nat) (v : Word) : (regPut s k v).celT = s.celT := rfl
@[simp] theorem regPut_tim (s : State) (k : Nat) (v : Word) : (regPut s k v).tim = s.tim := rfl
@[simp] theorem regPut_twl (s : State) (k : Nat) (v : Word) : (regPut s k v).twl = s.twl := rfl
@[simp] theorem regPut_dmk (s : State) (k : Nat) (v : Word) : (regPut s k v).dmk = s.dmk := rfl
@[simp] theorem regPut_str (s : State) (k : Nat) (v : Word) : (regPut s k v).str = s.str := rfl
@[simp] theorem regPut_thm (s : State) (k : Nat) (v : Word) : (regPut s k v).thm = s.thm := rfl
@[simp] theorem regPut_sec (s : State) (k : Nat) (v : Word) : (regPut s k v).sec = s.sec := rfl
@[simp] theorem regPut_upd (s : State) (k : Nat) (v : Word) : (regPut s k v).upd = s.upd := rfl

@[simp] theorem setF_pending (s : State) (f : Fld) (v : Nat) : (setF s f v).pending = s.pending := rfl
@[simp] theorem setF_out (s : State) (f : Fld) (v : Nat) : (setF s f v).out = s.out := rfl
@[simp] theorem setF_free (s : State) (f : Fld) (v : Nat) : (setF s f v).free = s.free := rfl
@[simp] theorem setF_mem (s : State) (f : Fld) (v : Nat) : (setF s f v).mem = s.mem := rfl
@[simp] theorem setF_nv (s : State) (f : Fld) (v : Nat) : (setF s f v).nv = s.nv := rfl
@[simp] theorem setF_sys (s : State) (f : Fld) (v : Nat) : (setF s f v).sys = s.sys := rfl
@[simp] theorem setF_flt (s : State) (f : Fld) (v : Nat) : (setF s f v).flt = s.flt := rfl
@[simp] theorem setF_cps (s : State) (f : Fld) (v : Nat) : (setF s f v).cps = s.cps := rfl
@[simp] theorem setF_eth (s : State) (f : Fld) (v : Nat) : (setF s f v).eth = s.eth := rfl
@[simp] theorem setF_ing (s : State) (f : Fld) (v : Nat) : (setF s f v).ing = s.ing := rfl
@[simp] theorem setF_srf (s : State) (f : Fld) (v : Nat) : (setF s f v).srf = s.srf := rfl
@[simp] theorem setF_cmp (s : State) (f : Fld) (v : Nat) : (setF s f v).cmp = s.cmp := rfl
@[simp] theorem setF_tnm (s : State) (f : Fld) (v : Nat) : (setF s f v).tnm = s.tnm := rfl
@[simp] theorem setF_cel (s : State) (f : Fld) (v : Nat) : (setF s f v).cel = s.cel := rfl
@[simp] theorem setF_celT (s : State) (f : Fld) (v : Nat) : (setF s f v).celT = s.celT := rfl
@[simp] theorem setF_tim (s : State) (f : Fld) (v : Nat) : (setF s f v).tim = s.tim := rfl
@[simp] theorem setF_twl (s : State) (f : Fld) (v : Nat) : (setF s f v).twl = s.twl := rfl
@[simp] theorem setF_dmk (s : State) (f : Fld) (v : Nat) : (setF s f v).dmk = s.dmk := rfl
@[simp] theorem setF_str (s : State) (f : Fld) (v : Nat) : (setF s f v).str = s.str := rfl
@[simp] theorem setF_thm (s : State) (f : Fld) (v : Nat) : (setF s f v).thm = s.thm := rfl
@[simp] theorem setF_sec (s : State) (f : Fld) (v : Nat) : (setF s f v).sec = s.sec := rfl
@[simp] theorem setF_upd (s : State) (f : Fld) (v : Nat) : (setF s f v).upd = s.upd := rfl

@[simp] theorem setB_pending (s : State) (f : Fld) (b : Bool) : (setB s f b).pending = s.pending := rfl
@[simp] theorem setB_out (s : State) (f : Fld) (b : Bool) : (setB s f b).out = s.out := rfl
@[simp] theorem setB_free (s : State) (f : Fld) (b : Bool) : (setB s f b).free = s.free := rfl
@[simp] theorem setB_mem (s : State) (f : Fld) (b : Bool) : (setB s f b).mem = s.mem := rfl
@[simp] theorem setB_nv (s : State) (f : Fld) (b : Bool) : (setB s f b).nv = s.nv := rfl
@[simp] theorem setB_sys (s : State) (f : Fld) (b : Bool) : (setB s f b).sys = s.sys := rfl
@[simp] theorem setB_flt (s : State) (f : Fld) (b : Bool) : (setB s f b).flt = s.flt := rfl
@[simp] theorem setB_cps (s : State) (f : Fld) (b : Bool) : (setB s f b).cps = s.cps := rfl
@[simp] theorem setB_eth (s : State) (f : Fld) (b : Bool) : (setB s f b).eth = s.eth := rfl
@[simp] theorem setB_ing (s : State) (f : Fld) (b : Bool) : (setB s f b).ing = s.ing := rfl
@[simp] theorem setB_srf (s : State) (f : Fld) (b : Bool) : (setB s f b).srf = s.srf := rfl
@[simp] theorem setB_cmp (s : State) (f : Fld) (b : Bool) : (setB s f b).cmp = s.cmp := rfl
@[simp] theorem setB_tnm (s : State) (f : Fld) (b : Bool) : (setB s f b).tnm = s.tnm := rfl
@[simp] theorem setB_cel (s : State) (f : Fld) (b : Bool) : (setB s f b).cel = s.cel := rfl
@[simp] theorem setB_celT (s : State) (f : Fld) (b : Bool) : (setB s f b).celT = s.celT := rfl
@[simp] theorem setB_tim (s : State) (f : Fld) (b : Bool) : (setB s f b).tim = s.tim := rfl
@[simp] theorem setB_twl (s : State) (f : Fld) (b : Bool) : (setB s f b).twl = s.twl := rfl
@[simp] theorem setB_dmk (s : State) (f : Fld) (b : Bool) : (setB s f b).dmk = s.dmk := rfl
@[simp] theorem setB_str (s : State) (f : Fld) (b : Bool) : (setB s f b).str = s.str := rfl
@[simp] theorem setB_thm (s : State) (f : Fld) (b : Bool) : (setB s f b).thm = s.thm := rfl
@[simp] theorem setB_sec (s : State) (f : Fld) (b : Bool) : (setB s f b).sec = s.sec := rfl
@[simp] theorem setB_upd (s : State) (f : Fld) (b : Bool) : (setB s f b).upd = s.upd := rfl

@[simp] theorem addF_pending (s : State) (f : Fld) (n : Nat) : (addF s f n).pending = s.pending := rfl
@[simp] theorem addF_out (s : State) (f : Fld) (n : Nat) : (addF s f n).out = s.out := rfl
@[simp] theorem addF_free (s : State) (f : Fld) (n : Nat) : (addF s f n).free = s.free := rfl
@[simp] theorem addF_mem (s : State) (f : Fld) (n : Nat) : (addF s f n).mem = s.mem := rfl
@[simp] theorem addF_nv (s : State) (f : Fld) (n : Nat) : (addF s f n).nv = s.nv := rfl
@[simp] theorem addF_sys (s : State) (f : Fld) (n : Nat) : (addF s f n).sys = s.sys := rfl
@[simp] theorem addF_flt (s : State) (f : Fld) (n : Nat) : (addF s f n).flt = s.flt := rfl
@[simp] theorem addF_cps (s : State) (f : Fld) (n : Nat) : (addF s f n).cps = s.cps := rfl
@[simp] theorem addF_eth (s : State) (f : Fld) (n : Nat) : (addF s f n).eth = s.eth := rfl
@[simp] theorem addF_ing (s : State) (f : Fld) (n : Nat) : (addF s f n).ing = s.ing := rfl
@[simp] theorem addF_srf (s : State) (f : Fld) (n : Nat) : (addF s f n).srf = s.srf := rfl
@[simp] theorem addF_cmp (s : State) (f : Fld) (n : Nat) : (addF s f n).cmp = s.cmp := rfl
@[simp] theorem addF_tnm (s : State) (f : Fld) (n : Nat) : (addF s f n).tnm = s.tnm := rfl
@[simp] theorem addF_cel (s : State) (f : Fld) (n : Nat) : (addF s f n).cel = s.cel := rfl
@[simp] theorem addF_celT (s : State) (f : Fld) (n : Nat) : (addF s f n).celT = s.celT := rfl
@[simp] theorem addF_tim (s : State) (f : Fld) (n : Nat) : (addF s f n).tim = s.tim := rfl
@[simp] theorem addF_twl (s : State) (f : Fld) (n : Nat) : (addF s f n).twl = s.twl := rfl
@[simp] theorem addF_dmk (s : State) (f : Fld) (n : Nat) : (addF s f n).dmk = s.dmk := rfl
@[simp] theorem addF_str (s : State) (f : Fld) (n : Nat) : (addF s f n).str = s.str := rfl
@[simp] theorem addF_thm (s : State) (f : Fld) (n : Nat) : (addF s f n).thm = s.thm := rfl
@[simp] theorem addF_sec (s : State) (f : Fld) (n : Nat) : (addF s f n).sec = s.sec := rfl
@[simp] theorem addF_upd (s : State) (f : Fld) (n : Nat) : (addF s f n).upd = s.upd := rfl

@[simp] theorem incF_pending (s : State) (f : Fld) : (incF s f).pending = s.pending := rfl
@[simp] theorem incF_out (s : State) (f : Fld) : (incF s f).out = s.out := rfl
@[simp] theorem incF_free (s : State) (f : Fld) : (incF s f).free = s.free := rfl
@[simp] theorem incF_mem (s : State) (f : Fld) : (incF s f).mem = s.mem := rfl
@[simp] theorem incF_nv (s : State) (f : Fld) : (incF s f).nv = s.nv := rfl
@[simp] theorem incF_sys (s : State) (f : Fld) : (incF s f).sys = s.sys := rfl
@[simp] theorem incF_flt (s : State) (f : Fld) : (incF s f).flt = s.flt := rfl
@[simp] theorem incF_cps (s : State) (f : Fld) : (incF s f).cps = s.cps := rfl
@[simp] theorem incF_eth (s : State) (f : Fld) : (incF s f).eth = s.eth := rfl
@[simp] theorem incF_ing (s : State) (f : Fld) : (incF s f).ing = s.ing := rfl
@[simp] theorem incF_srf (s : State) (f : Fld) : (incF s f).srf = s.srf := rfl
@[simp] theorem incF_cmp (s : State) (f : Fld) : (incF s f).cmp = s.cmp := rfl
@[simp] theorem incF_tnm (s : State) (f : Fld) : (incF s f).tnm = s.tnm := rfl
@[simp] theorem incF_cel (s : State) (f : Fld) : (incF s f).cel = s.cel := rfl
@[simp] theorem incF_celT (s : State) (f : Fld) : (incF s f).celT = s.celT := rfl
@[simp] theorem incF_tim (s : State) (f : Fld) : (incF s f).tim = s.tim := rfl
@[simp] theorem incF_twl (s : State) (f : Fld) : (incF s f).twl = s.twl := rfl
@[simp] theorem incF_dmk (s : State) (f : Fld) : (incF s f).dmk = s.dmk := rfl
@[simp] theorem incF_str (s : State) (f : Fld) : (incF s f).str = s.str := rfl
@[simp] theorem incF_thm (s : State) (f : Fld) : (incF s f).thm = s.thm := rfl
@[simp] theorem incF_sec (s : State) (f : Fld) : (incF s f).sec = s.sec := rfl
@[simp] theorem incF_upd (s : State) (f : Fld) : (incF s f).upd = s.upd := rfl

@[simp] theorem setI_pending (s : State) (f : Fld) (i : Int) : (setI s f i).pending = s.pending := rfl
@[simp] theorem setI_out (s : State) (f : Fld) (i : Int) : (setI s f i).out = s.out := rfl
@[simp] theorem setI_free (s : State) (f : Fld) (i : Int) : (setI s f i).free = s.free := rfl
@[simp] theorem setI_mem (s : State) (f : Fld) (i : Int) : (setI s f i).mem = s.mem := rfl
@[simp] theorem setI_nv (s : State) (f : Fld) (i : Int) : (setI s f i).nv = s.nv := rfl
@[simp] theorem setI_sys (s : State) (f : Fld) (i : Int) : (setI s f i).sys = s.sys := rfl
@[simp] theorem setI_flt (s : State) (f : Fld) (i : Int) : (setI s f i).flt = s.flt := rfl
@[simp] theorem setI_cps (s : State) (f : Fld) (i : Int) : (setI s f i).cps = s.cps := rfl
@[simp] theorem setI_eth (s : State) (f : Fld) (i : Int) : (setI s f i).eth = s.eth := rfl
@[simp] theorem setI_ing (s : State) (f : Fld) (i : Int) : (setI s f i).ing = s.ing := rfl
@[simp] theorem setI_srf (s : State) (f : Fld) (i : Int) : (setI s f i).srf = s.srf := rfl
@[simp] theorem setI_cmp (s : State) (f : Fld) (i : Int) : (setI s f i).cmp = s.cmp := rfl
@[simp] theorem setI_tnm (s : State) (f : Fld) (i : Int) : (setI s f i).tnm = s.tnm := rfl
@[simp] theorem setI_cel (s : State) (f : Fld) (i : Int) : (setI s f i).cel = s.cel := rfl
@[simp] theorem setI_celT (s : State) (f : Fld) (i : Int) : (setI s f i).celT = s.celT := rfl
@[simp] theorem setI_tim (s : State) (f : Fld) (i : Int) : (setI s f i).tim = s.tim := rfl
@[simp] theorem setI_twl (s : State) (f : Fld) (i : Int) : (setI s f i).twl = s.twl := rfl
@[simp] theorem setI_dmk (s : State) (f : Fld) (i : Int) : (setI s f i).dmk = s.dmk := rfl
@[simp] theorem setI_str (s : State) (f : Fld) (i : Int) : (setI s f i).str = s.str := rfl
@[simp] theorem setI_thm (s : State) (f : Fld) (i : Int) : (setI s f i).thm = s.thm := rfl
@[simp] theorem setI_sec (s : State) (f : Fld) (i : Int) : (setI s f i).sec = s.sec := rfl
@[simp] theorem setI_upd (s : State) (f : Fld) (i : Int) : (setI s f i).upd = s.upd := rfl

@[simp] theorem setSat_pending (s : State) (f : Fld) (v : Nat) : (setSat s f v).pending = s.pending := rfl
@[simp] theorem setSat_out (s : State) (f : Fld) (v : Nat) : (setSat s f v).out = s.out := rfl
@[simp] theorem setSat_free (s : State) (f : Fld) (v : Nat) : (setSat s f v).free = s.free := rfl
@[simp] theorem setSat_mem (s : State) (f : Fld) (v : Nat) : (setSat s f v).mem = s.mem := rfl
@[simp] theorem setSat_nv (s : State) (f : Fld) (v : Nat) : (setSat s f v).nv = s.nv := rfl
@[simp] theorem setSat_sys (s : State) (f : Fld) (v : Nat) : (setSat s f v).sys = s.sys := rfl
@[simp] theorem setSat_flt (s : State) (f : Fld) (v : Nat) : (setSat s f v).flt = s.flt := rfl
@[simp] theorem setSat_cps (s : State) (f : Fld) (v : Nat) : (setSat s f v).cps = s.cps := rfl
@[simp] theorem setSat_eth (s : State) (f : Fld) (v : Nat) : (setSat s f v).eth = s.eth := rfl
@[simp] theorem setSat_ing (s : State) (f : Fld) (v : Nat) : (setSat s f v).ing = s.ing := rfl
@[simp] theorem setSat_srf (s : State) (f : Fld) (v : Nat) : (setSat s f v).srf = s.srf := rfl
@[simp] theorem setSat_cmp (s : State) (f : Fld) (v : Nat) : (setSat s f v).cmp = s.cmp := rfl
@[simp] theorem setSat_tnm (s : State) (f : Fld) (v : Nat) : (setSat s f v).tnm = s.tnm := rfl
@[simp] theorem setSat_cel (s : State) (f : Fld) (v : Nat) : (setSat s f v).cel = s.cel := rfl
@[simp] theorem setSat_celT (s : State) (f : Fld) (v : Nat) : (setSat s f v).celT = s.celT := rfl
@[simp] theorem setSat_tim (s : State) (f : Fld) (v : Nat) : (setSat s f v).tim = s.tim := rfl
@[simp] theorem setSat_twl (s : State) (f : Fld) (v : Nat) : (setSat s f v).twl = s.twl := rfl
@[simp] theorem setSat_dmk (s : State) (f : Fld) (v : Nat) : (setSat s f v).dmk = s.dmk := rfl
@[simp] theorem setSat_str (s : State) (f : Fld) (v : Nat) : (setSat s f v).str = s.str := rfl
@[simp] theorem setSat_thm (s : State) (f : Fld) (v : Nat) : (setSat s f v).thm = s.thm := rfl
@[simp] theorem setSat_sec (s : State) (f : Fld) (v : Nat) : (setSat s f v).sec = s.sec := rfl
@[simp] theorem setSat_upd (s : State) (f : Fld) (v : Nat) : (setSat s f v).upd = s.upd := rfl

@[simp] theorem setSatI_pending (s : State) (f : Fld) (i : Int) : (setSatI s f i).pending = s.pending := rfl
@[simp] theorem setSatI_out (s : State) (f : Fld) (i : Int) : (setSatI s f i).out = s.out := rfl
@[simp] theorem setSatI_free (s : State) (f : Fld) (i : Int) : (setSatI s f i).free = s.free := rfl
@[simp] theorem setSatI_mem (s : State) (f : Fld) (i : Int) : (setSatI s f i).mem = s.mem := rfl
@[simp] theorem setSatI_nv (s : State) (f : Fld) (i : Int) : (setSatI s f i).nv = s.nv := rfl
@[simp] theorem setSatI_sys (s : State) (f : Fld) (i : Int) : (setSatI s f i).sys = s.sys := rfl
@[simp] theorem setSatI_flt (s : State) (f : Fld) (i : Int) : (setSatI s f i).flt = s.flt := rfl
@[simp] theorem setSatI_cps (s : State) (f : Fld) (i : Int) : (setSatI s f i).cps = s.cps := rfl
@[simp] theorem setSatI_eth (s : State) (f : Fld) (i : Int) : (setSatI s f i).eth = s.eth := rfl
@[simp] theorem setSatI_ing (s : State) (f : Fld) (i : Int) : (setSatI s f i).ing = s.ing := rfl
@[simp] theorem setSatI_srf (s : State) (f : Fld) (i : Int) : (setSatI s f i).srf = s.srf := rfl
@[simp] theorem setSatI_cmp (s : State) (f : Fld) (i : Int) : (setSatI s f i).cmp = s.cmp := rfl
@[simp] theorem setSatI_tnm (s : State) (f : Fld) (i : Int) : (setSatI s f i).tnm = s.tnm := rfl
@[simp] theorem setSatI_cel (s : State) (f : Fld) (i : Int) : (setSatI s f i).cel = s.cel := rfl
@[simp] theorem setSatI_celT (s : State) (f : Fld) (i : Int) : (setSatI s f i).celT = s.celT := rfl
@[simp] theorem setSatI_tim (s : State) (f : Fld) (i : Int) : (setSatI s f i).tim = s.tim := rfl
@[simp] theorem setSatI_twl (s : State) (f : Fld) (i : Int) : (setSatI s f i).twl = s.twl := rfl
@[simp] theorem setSatI_dmk (s : State) (f : Fld) (i : Int) : (setSatI s f i).dmk = s.dmk := rfl
@[simp] theorem setSatI_str (s : State) (f : Fld) (i : Int) : (setSatI s f i).str = s.str := rfl
@[simp] theorem setSatI_thm (s : State) (f : Fld) (i : Int) : (setSatI s f i).thm = s.thm := rfl
@[simp] theorem setSatI_sec (s : State) (f : Fld) (i : Int) : (setSatI s f i).sec = s.sec := rfl
@[simp] theorem setSatI_upd (s : State) (f : Fld) (i : Int) : (setSatI s f i).upd = s.upd := rfl

@[simp] theorem add48_pending (s : State) (lo hi : Fld) (n : Nat) : (add48 s lo hi n).pending = s.pending := by unfold add48; rw [setF_pending, setF_pending]
@[simp] theorem add48_out (s : State) (lo hi : Fld) (n : Nat) : (add48 s lo hi n).out = s.out := by unfold add48; rw [setF_out, setF_out]
@[simp] theorem add48_free (s : State) (lo hi : Fld) (n : Nat) : (add48 s lo hi n).free = s.free := by unfold add48; rw [setF_free, setF_free]
@[simp] theorem add48_mem (s : State) (lo hi : Fld) (n : Nat) : (add48 s lo hi n).mem = s.mem := by unfold add48; rw [setF_mem, setF_mem]
@[simp] theorem add48_nv (s : State) (lo hi : Fld) (n : Nat) : (add48 s lo hi n).nv = s.nv := by unfold add48; rw [setF_nv, setF_nv]
@[simp] theorem add48_sys (s : State) (lo hi : Fld) (n : Nat) : (add48 s lo hi n).sys = s.sys := by unfold add48; rw [setF_sys, setF_sys]
@[simp] theorem add48_flt (s : State) (lo hi : Fld) (n : Nat) : (add48 s lo hi n).flt = s.flt := by unfold add48; rw [setF_flt, setF_flt]
@[simp] theorem add48_cps (s : State) (lo hi : Fld) (n : Nat) : (add48 s lo hi n).cps = s.cps := by unfold add48; rw [setF_cps, setF_cps]
@[simp] theorem add48_eth (s : State) (lo hi : Fld) (n : Nat) : (add48 s lo hi n).eth = s.eth := by unfold add48; rw [setF_eth, setF_eth]
@[simp] theorem add48_ing (s : State) (lo hi : Fld) (n : Nat) : (add48 s lo hi n).ing = s.ing := by unfold add48; rw [setF_ing, setF_ing]
@[simp] theorem add48_srf (s : State) (lo hi : Fld) (n : Nat) : (add48 s lo hi n).srf = s.srf := by unfold add48; rw [setF_srf, setF_srf]
@[simp] theorem add48_cmp (s : State) (lo hi : Fld) (n : Nat) : (add48 s lo hi n).cmp = s.cmp := by unfold add48; rw [setF_cmp, setF_cmp]
@[simp] theorem add48_tnm (s : State) (lo hi : Fld) (n : Nat) : (add48 s lo hi n).tnm = s.tnm := by unfold add48; rw [setF_tnm, setF_tnm]
@[simp] theorem add48_cel (s : State) (lo hi : Fld) (n : Nat) : (add48 s lo hi n).cel = s.cel := by unfold add48; rw [setF_cel, setF_cel]
@[simp] theorem add48_celT (s : State) (lo hi : Fld) (n : Nat) : (add48 s lo hi n).celT = s.celT := by unfold add48; rw [setF_celT, setF_celT]
@[simp] theorem add48_tim (s : State) (lo hi : Fld) (n : Nat) : (add48 s lo hi n).tim = s.tim := by unfold add48; rw [setF_tim, setF_tim]
@[simp] theorem add48_twl (s : State) (lo hi : Fld) (n : Nat) : (add48 s lo hi n).twl = s.twl := by unfold add48; rw [setF_twl, setF_twl]
@[simp] theorem add48_dmk (s : State) (lo hi : Fld) (n : Nat) : (add48 s lo hi n).dmk = s.dmk := by unfold add48; rw [setF_dmk, setF_dmk]
@[simp] theorem add48_str (s : State) (lo hi : Fld) (n : Nat) : (add48 s lo hi n).str = s.str := by unfold add48; rw [setF_str, setF_str]
@[simp] theorem add48_thm (s : State) (lo hi : Fld) (n : Nat) : (add48 s lo hi n).thm = s.thm := by unfold add48; rw [setF_thm, setF_thm]
@[simp] theorem add48_sec (s : State) (lo hi : Fld) (n : Nat) : (add48 s lo hi n).sec = s.sec := by unfold add48; rw [setF_sec, setF_sec]
@[simp] theorem add48_upd (s : State) (lo hi : Fld) (n : Nat) : (add48 s lo hi n).upd = s.upd := by unfold add48; rw [setF_upd, setF_upd]

@[simp] theorem send_pending (s : State) (e : Emit) : (send s e).pending = s.pending := rfl
@[simp] theorem send_free (s : State) (e : Emit) : (send s e).free = s.free := rfl
@[simp] theorem send_regs (s : State) (e : Emit) : (send s e).regs = s.regs := rfl
@[simp] theorem send_mem (s : State) (e : Emit) : (send s e).mem = s.mem := rfl
@[simp] theorem send_nv (s : State) (e : Emit) : (send s e).nv = s.nv := rfl
@[simp] theorem send_sys (s : State) (e : Emit) : (send s e).sys = s.sys := rfl
@[simp] theorem send_flt (s : State) (e : Emit) : (send s e).flt = s.flt := rfl
@[simp] theorem send_cps (s : State) (e : Emit) : (send s e).cps = s.cps := rfl
@[simp] theorem send_eth (s : State) (e : Emit) : (send s e).eth = s.eth := rfl
@[simp] theorem send_ing (s : State) (e : Emit) : (send s e).ing = s.ing := rfl
@[simp] theorem send_srf (s : State) (e : Emit) : (send s e).srf = s.srf := rfl
@[simp] theorem send_cmp (s : State) (e : Emit) : (send s e).cmp = s.cmp := rfl
@[simp] theorem send_tnm (s : State) (e : Emit) : (send s e).tnm = s.tnm := rfl
@[simp] theorem send_cel (s : State) (e : Emit) : (send s e).cel = s.cel := rfl
@[simp] theorem send_celT (s : State) (e : Emit) : (send s e).celT = s.celT := rfl
@[simp] theorem send_tim (s : State) (e : Emit) : (send s e).tim = s.tim := rfl
@[simp] theorem send_twl (s : State) (e : Emit) : (send s e).twl = s.twl := rfl
@[simp] theorem send_dmk (s : State) (e : Emit) : (send s e).dmk = s.dmk := rfl
@[simp] theorem send_str (s : State) (e : Emit) : (send s e).str = s.str := rfl
@[simp] theorem send_thm (s : State) (e : Emit) : (send s e).thm = s.thm := rfl
@[simp] theorem send_sec (s : State) (e : Emit) : (send s e).sec = s.sec := rfl
@[simp] theorem send_upd (s : State) (e : Emit) : (send s e).upd = s.upd := rfl

@[simp] theorem takeFree_pending (s : State) : (takeFree s).pending = s.pending := rfl
@[simp] theorem takeFree_out (s : State) : (takeFree s).out = s.out := rfl
@[simp] theorem takeFree_regs (s : State) : (takeFree s).regs = s.regs := rfl
@[simp] theorem takeFree_mem (s : State) : (takeFree s).mem = s.mem := rfl
@[simp] theorem takeFree_nv (s : State) : (takeFree s).nv = s.nv := rfl
@[simp] theorem takeFree_sys (s : State) : (takeFree s).sys = s.sys := rfl
@[simp] theorem takeFree_flt (s : State) : (takeFree s).flt = s.flt := rfl
@[simp] theorem takeFree_cps (s : State) : (takeFree s).cps = s.cps := rfl
@[simp] theorem takeFree_eth (s : State) : (takeFree s).eth = s.eth := rfl
@[simp] theorem takeFree_ing (s : State) : (takeFree s).ing = s.ing := rfl
@[simp] theorem takeFree_srf (s : State) : (takeFree s).srf = s.srf := rfl
@[simp] theorem takeFree_cmp (s : State) : (takeFree s).cmp = s.cmp := rfl
@[simp] theorem takeFree_tnm (s : State) : (takeFree s).tnm = s.tnm := rfl
@[simp] theorem takeFree_cel (s : State) : (takeFree s).cel = s.cel := rfl
@[simp] theorem takeFree_celT (s : State) : (takeFree s).celT = s.celT := rfl
@[simp] theorem takeFree_tim (s : State) : (takeFree s).tim = s.tim := rfl
@[simp] theorem takeFree_twl (s : State) : (takeFree s).twl = s.twl := rfl
@[simp] theorem takeFree_dmk (s : State) : (takeFree s).dmk = s.dmk := rfl
@[simp] theorem takeFree_str (s : State) : (takeFree s).str = s.str := rfl
@[simp] theorem takeFree_thm (s : State) : (takeFree s).thm = s.thm := rfl
@[simp] theorem takeFree_sec (s : State) : (takeFree s).sec = s.sec := rfl
@[simp] theorem takeFree_upd (s : State) : (takeFree s).upd = s.upd := rfl

@[simp] theorem memPut_pending (s : State) (a : Nat) (v : Byte) : (memPut s a v).pending = s.pending := rfl
@[simp] theorem memPut_out (s : State) (a : Nat) (v : Byte) : (memPut s a v).out = s.out := rfl
@[simp] theorem memPut_free (s : State) (a : Nat) (v : Byte) : (memPut s a v).free = s.free := rfl
@[simp] theorem memPut_regs (s : State) (a : Nat) (v : Byte) : (memPut s a v).regs = s.regs := rfl
@[simp] theorem memPut_nv (s : State) (a : Nat) (v : Byte) : (memPut s a v).nv = s.nv := rfl
@[simp] theorem memPut_sys (s : State) (a : Nat) (v : Byte) : (memPut s a v).sys = s.sys := rfl
@[simp] theorem memPut_flt (s : State) (a : Nat) (v : Byte) : (memPut s a v).flt = s.flt := rfl
@[simp] theorem memPut_cps (s : State) (a : Nat) (v : Byte) : (memPut s a v).cps = s.cps := rfl
@[simp] theorem memPut_eth (s : State) (a : Nat) (v : Byte) : (memPut s a v).eth = s.eth := rfl
@[simp] theorem memPut_ing (s : State) (a : Nat) (v : Byte) : (memPut s a v).ing = s.ing := rfl
@[simp] theorem memPut_srf (s : State) (a : Nat) (v : Byte) : (memPut s a v).srf = s.srf := rfl
@[simp] theorem memPut_cmp (s : State) (a : Nat) (v : Byte) : (memPut s a v).cmp = s.cmp := rfl
@[simp] theorem memPut_tnm (s : State) (a : Nat) (v : Byte) : (memPut s a v).tnm = s.tnm := rfl
@[simp] theorem memPut_cel (s : State) (a : Nat) (v : Byte) : (memPut s a v).cel = s.cel := rfl
@[simp] theorem memPut_celT (s : State) (a : Nat) (v : Byte) : (memPut s a v).celT = s.celT := rfl
@[simp] theorem memPut_tim (s : State) (a : Nat) (v : Byte) : (memPut s a v).tim = s.tim := rfl
@[simp] theorem memPut_twl (s : State) (a : Nat) (v : Byte) : (memPut s a v).twl = s.twl := rfl
@[simp] theorem memPut_dmk (s : State) (a : Nat) (v : Byte) : (memPut s a v).dmk = s.dmk := rfl
@[simp] theorem memPut_str (s : State) (a : Nat) (v : Byte) : (memPut s a v).str = s.str := rfl
@[simp] theorem memPut_thm (s : State) (a : Nat) (v : Byte) : (memPut s a v).thm = s.thm := rfl
@[simp] theorem memPut_sec (s : State) (a : Nat) (v : Byte) : (memPut s a v).sec = s.sec := rfl
@[simp] theorem memPut_upd (s : State) (a : Nat) (v : Byte) : (memPut s a v).upd = s.upd := rfl

@[simp] theorem memWrite_pending (s : State) (a : Nat) (l : List Byte) : (memWrite s a l).pending = s.pending := rfl
@[simp] theorem memWrite_out (s : State) (a : Nat) (l : List Byte) : (memWrite s a l).out = s.out := rfl
@[simp] theorem memWrite_free (s : State) (a : Nat) (l : List Byte) : (memWrite s a l).free = s.free := rfl
@[simp] theorem memWrite_regs (s : State) (a : Nat) (l : List Byte) : (memWrite s a l).regs = s.regs := rfl
@[simp] theorem memWrite_nv (s : State) (a : Nat) (l : List Byte) : (memWrite s a l).nv = s.nv := rfl
@[simp] theorem memWrite_sys (s : State) (a : Nat) (l : List Byte) : (memWrite s a l).sys = s.sys := rfl
@[simp] theorem memWrite_flt (s : State) (a : Nat) (l : List Byte) : (memWrite s a l).flt = s.flt := rfl
@[simp] theorem memWrite_cps (s : State) (a : Nat) (l : List Byte) : (memWrite s a l).cps = s.cps := rfl
@[simp] theorem memWrite_eth (s : State) (a : Nat) (l : List Byte) : (memWrite s a l).eth = s.eth := rfl
@[simp] theorem memWrite_ing (s : State) (a : Nat) (l : List Byte) : (memWrite s a l).ing = s.ing := rfl
@[simp] theorem memWrite_srf (s : State) (a : Nat) (l : List Byte) : (memWrite s a l).srf = s.srf := rfl
@[simp] theorem memWrite_cmp (s : State) (a : Nat) (l : List Byte) : (memWrite s a l).cmp = s.cmp := rfl
@[simp] theorem memWrite_tnm (s : State) (a : Nat) (l : List Byte) : (memWrite s a l).tnm = s.tnm := rfl
@[simp] theorem memWrite_cel (s : State) (a : Nat) (l : List Byte) : (memWrite s a l).cel = s.cel := rfl
@[simp] theorem memWrite_celT (s : State) (a : Nat) (l : List Byte) : (memWrite s a l).celT = s.celT := rfl
@[simp] theorem memWrite_tim (s : State) (a : Nat) (l : List Byte) : (memWrite s a l).tim = s.tim := rfl
@[simp] theorem memWrite_twl (s : State) (a : Nat) (l : List Byte) : (memWrite s a l).twl = s.twl := rfl
@[simp] theorem memWrite_dmk (s : State) (a : Nat) (l : List Byte) : (memWrite s a l).dmk = s.dmk := rfl
@[simp] theorem memWrite_str (s : State) (a : Nat) (l : List Byte) : (memWrite s a l).str = s.str := rfl
@[simp] theorem memWrite_thm (s : State) (a : Nat) (l : List Byte) : (memWrite s a l).thm = s.thm := rfl
@[simp] theorem memWrite_sec (s : State) (a : Nat) (l : List Byte) : (memWrite s a l).sec = s.sec := rfl
@[simp] theorem memWrite_upd (s : State) (a : Nat) (l : List Byte) : (memWrite s a l).upd = s.upd := rfl

@[simp] theorem send_out (s : State) (e : Emit) : (send s e).out = s.out ++ [e] := rfl
@[simp] theorem takeFree_free (s : State) : (takeFree s).free = s.free + 1 := rfl
@[simp] theorem memWrite_mem (s : State) (a : Nat) (l : List Byte) : (memWrite s a l).mem = cellsWrite s.mem a l := rfl

end Sys2Proof.Machine
end

