-- ==== Sys2Proof/Laws/Commands.lean ====
section
/-! SUPPORT. Laws of the handling of a command packet (R468): what follows each outcome of the checks. -/

namespace Sys2Proof.Machine

/-- Every command that a packet carries is handled as a packet. -/
theorem exec_packet {i : Instr} {k : Pkt} (h : packetIn i = some k) (s : State) :
    ∃ f body, exec i s = .next (command k f body s) := by
  cases i <;> first | (cases h; exact ⟨_, _, rfl⟩) | cases h

/-- Every command that is a message's arrival is handled as a message. -/
theorem exec_message {i : Instr} {p : Nat} {m : Msg} (h : messageIn i = some (p, m)) (s : State) :
    ∃ take, exec i s = .next (msgIn p m take s) := by
  cases i <;> first | (cases h; exact ⟨_, rfl⟩) | cases h

/-- A packet that passes every check ends as its own part ends. -/
theorem command_ready {s t : State} {k : Pkt} {copy : Option (List Byte)} {n : Nat} (f : Fetch)
    (body : Option (List Byte) → State → Res) (h : ready s k n copy t) (hn : (body copy t).size = n) :
    command k f body s = conclude k t (body copy t) := by
  obtain ⟨⟨hr, hm, hw⟩, hp, hl, hf, ho⟩ := h
  subst hn
  rcases ho with ⟨hs, hc, rfl, rfl⟩ | ⟨hs, r, hr2, rfl, rfl⟩
  · simp [command, authorise, *]
  · simp [command, authorise, *]

/-- The same for a command without referenced data. -/
theorem plain_ready {s t : State} {k : Pkt} {copy : Option (List Byte)} {n : Nat} (body : State → Res)
    (h : ready s k n copy t) (hn : (body t).size = n) : plain k body s = conclude k t (body t) :=
  command_ready .dmaError (fun _ u => body u) h hn

/-- A packet that fails a check is answered with that check's status. -/
theorem command_refused {s : State} {k : Pkt} {st : Nat} (f : Fetch) (body : Option (List Byte) → State → Res)
    (ht : takesNow s k) (h : precheck (arrive k s) k = some st) (hf : replyFits s k 0 = true) :
    command k f body s = finish k st [] (arrive k s) := by
  obtain ⟨hr, hm, hw⟩ := ht
  simp [command, *]

/-- An unsigned packet of a class other than OPEN is answered SIG_BAD. -/
theorem command_unsigned {s : State} {k : Pkt} (f : Fetch) (body : Option (List Byte) → State → Res)
    (ht : takesNow s k) (h : precheck (arrive k s) k = none) (hs : k.signed = false)
    (hc : opClass (arrive k s) k.opcode k.par ≠ 0) (hf : replyFits s k 0 = true) :
    command k f body s = finish k St.sigBad [] (arrive k s) := by
  obtain ⟨hr, hm, hw⟩ := ht
  simp [command, authorise, *]

/-- A packet in reset or in BOOT is lost. -/
theorem command_lost {s : State} {k : Pkt} (f : Fetch) (body : Option (List Byte) → State → Res)
    (h : inReset s = true ∨ mode s = mBoot) :
    command k f body s = { s with cps := { s.cps with held := s.cps.held.erase k } } := by
  unfold command
  rw [if_pos (by rcases h with h | h <;> simp [h])]

/-- A message that this device consumes has its effect on the state in which it has been received. -/
theorem msgIn_arrives {s : State} {p : Nat} {m : Msg} (take : State → State) (h : arrives s p m) :
    msgIn p m take s = take (received s p m) := by
  obtain ⟨⟨ha, ht, hc, ho⟩, hf, hu⟩ := h
  have hr : (inReset s || mode s == mLockdown || !trafficPort s p) = false := by
    simp [alive] at ha; simp [ha, ht]
  have hn : (m.vc == 1 && unnumbered s && !unnumberedTakes m.mtype) = false := by
    by_cases h1 : m.vc = 1
    · cases h2 : unnumbered s
      · simp
      · simp [h1, hu h1 h2]
    · simp [h1]
  unfold msgIn received counted
  rw [hr]
  simp only [hc, ho, hn]
  unfold fate at hf ⊢
  split <;> simp_all

/-- A message whose link does not carry it, or that is not well formed, counts as a protocol error. -/
theorem msgIn_refused {s : State} {p : Nat} {m : Msg} (take : State → State) (ha : alive s = true)
    (ht : trafficPort s p = true) (h : carries s p m = false ∨ msgOk m = false) :
    msgIn p m take s = proto p (counted s p m) := by
  have hr : (inReset s || mode s == mLockdown || !trafficPort s p) = false := by
    simp [alive] at ha; simp [ha, ht]
  have hc : (!carries s p m || !msgOk m) = true := by rcases h with h | h <;> simp [h]
  unfold msgIn counted
  rw [hr]
  simp [hc]

/-- A write that may act acts. -/
theorem access_acts {s : State} {q b : Nat} (ind : Bool) (off : Nat) (act : State → State) (h : mayAct s q b) :
    access q b ind off act s = act s := by
  obtain ⟨hr, hm, hp⟩ := h
  unfold access
  rw [if_neg (by simp [hr]), if_neg (by rintro (e | e); exact hm e; simp [hp] at e)]

end Sys2Proof.Machine
end

