-- ==== Sys2Proof/Laws/Table.lean ====
section
/-! SUPPORT. Laws of the sparse tables: what is read after a write, and the canonical form. -/

namespace Sys2Proof.Machine

variable {α : Type}

@[simp] theorem Tab.get_nil (a : Nat) : Tab.get ([] : Tab α) a = none := rfl

@[simp] theorem Tab.get_put_same (t : Tab α) (a : Nat) (v : α) : Tab.get (Tab.put t a v) a = some v := by
  induction t with
  | nil => simp [Tab.put, Tab.get]
  | cons e r ih =>
    obtain ⟨k, w⟩ := e
    unfold Tab.put
    split
    · simp [Tab.get]
    · split
      · simp [Tab.get]
      · next h => simp [Tab.get, h, ih]

theorem Tab.get_put_ne (t : Tab α) {a b : Nat} (v : α) (h : b ≠ a) : Tab.get (Tab.put t a v) b = Tab.get t b := by
  induction t with
  | nil => simp [Tab.put, Tab.get, h]
  | cons e r ih =>
    obtain ⟨k, w⟩ := e
    unfold Tab.put
    split
    · simp [Tab.get, h]
    · split
      · next h2 => subst h2; simp [Tab.get, h]
      · simp [Tab.get, ih]

@[simp] theorem Tab.get_del_same (t : Tab α) (a : Nat) : Tab.get (Tab.del t a) a = none := by
  induction t with
  | nil => rfl
  | cons e r ih =>
    obtain ⟨k, w⟩ := e
    unfold Tab.del
    split
    · exact ih
    · next h => simp [Tab.get, h, ih]

theorem Tab.get_del_ne (t : Tab α) {a b : Nat} (h : b ≠ a) : Tab.get (Tab.del t a) b = Tab.get t b := by
  induction t with
  | nil => rfl
  | cons e r ih =>
    obtain ⟨k, w⟩ := e
    unfold Tab.del
    split
    · next h2 => subst h2; simp [Tab.get, h, ih]
    · simp [Tab.get, ih]

/-- The keys of a sorted table after its first are greater. -/
theorem Tab.sorted_cons {k : Nat} {w : α} {r : Tab α} :
    Tab.sorted ((k, w) :: r) = true ↔ (∀ e ∈ r, k < e.1) ∧ Tab.sorted r = true := by
  induction r generalizing k w with
  | nil => simp [Tab.sorted]
  | cons e t ih =>
    obtain ⟨k', w'⟩ := e
    simp only [Tab.sorted, Bool.and_eq_true, decide_eq_true_eq, List.mem_cons, forall_eq_or_imp]
    constructor
    · rintro ⟨h1, h2⟩
      exact ⟨⟨h1, fun e he => Nat.lt_trans h1 ((ih.mp h2).1 e he)⟩, h2⟩
    · rintro ⟨⟨h1, _⟩, h2⟩
      exact ⟨h1, h2⟩

theorem Tab.mem_put {t : Tab α} {a : Nat} {v : α} {e : Nat × α} (h : e ∈ Tab.put t a v) : e = (a, v) ∨ e ∈ t := by
  induction t with
  | nil => simp [Tab.put] at h; exact .inl h
  | cons x r ih =>
    obtain ⟨k, w⟩ := x
    unfold Tab.put at h
    split at h
    · simp only [List.mem_cons] at h ⊢; exact h
    · split at h
      · simp only [List.mem_cons] at h ⊢; exact h.imp id .inr
      · simp only [List.mem_cons] at h ⊢
        rcases h with h | h
        · exact .inr (.inl h)
        · exact (ih h).imp id .inr

theorem Tab.mem_del {t : Tab α} {a : Nat} {e : Nat × α} (h : e ∈ Tab.del t a) : e ∈ t := by
  induction t with
  | nil => exact h
  | cons x r ih =>
    obtain ⟨k, w⟩ := x
    unfold Tab.del at h
    split at h
    · exact .tail _ (ih h)
    · simp only [List.mem_cons] at h ⊢; exact h.imp id ih

theorem Tab.sorted_put (t : Tab α) (a : Nat) (v : α) (h : Tab.sorted t = true) : Tab.sorted (Tab.put t a v) = true := by
  induction t with
  | nil => rfl
  | cons x r ih =>
    obtain ⟨k, w⟩ := x
    obtain ⟨hk, hr⟩ := Tab.sorted_cons.mp h
    unfold Tab.put
    split
    · next hlt =>
      refine Tab.sorted_cons.mpr ⟨fun e he => ?_, h⟩
      rcases List.mem_cons.mp he with rfl | he
      · exact hlt
      · exact Nat.lt_trans hlt (hk e he)
    · split
      · next heq => subst heq; exact Tab.sorted_cons.mpr ⟨hk, hr⟩
      · refine Tab.sorted_cons.mpr ⟨fun e he => ?_, ih hr⟩
        rcases Tab.mem_put he with rfl | he
        · show k < a; omega
        · exact hk e he

theorem Tab.sorted_del (t : Tab α) (a : Nat) (h : Tab.sorted t = true) : Tab.sorted (Tab.del t a) = true := by
  induction t with
  | nil => rfl
  | cons x r ih =>
    obtain ⟨k, w⟩ := x
    obtain ⟨hk, hr⟩ := Tab.sorted_cons.mp h
    unfold Tab.del
    split
    · exact ih hr
    · exact Tab.sorted_cons.mpr ⟨fun e he => hk e (Tab.mem_del he), ih hr⟩

theorem Tab.sorted_filter (t : Tab α) (p : Nat × α → Bool) (h : Tab.sorted t = true) :
    Tab.sorted (t.filter p : Tab α) = true := by
  induction t with
  | nil => rfl
  | cons x r ih =>
    obtain ⟨k, w⟩ := x
    obtain ⟨hk, hr⟩ := Tab.sorted_cons.mp h
    rw [List.filter_cons]
    split
    · exact Tab.sorted_cons.mpr ⟨fun e he => hk e ((List.mem_filter.mp he).1), ih hr⟩
    · exact ih hr

end Sys2Proof.Machine
end

