-- ==== Sys2Proof/Laws/Memory.lean ====
section
/-! SUPPORT. Laws of the in-package memory: reads after writes, and the canonical form. -/

namespace Sys2Proof.Machine

/-- What the canonical form says. -/
theorem Memory.wf_iff (m : List Host.Cell) : Memory.wf m = true ↔ Tab.sorted m = true ∧ ∀ c ∈ m, c.2 ≠ 0 := by
  simp [Memory.wf, List.all_eq_true]

/-- Writing one byte keeps the form. -/
theorem cellsPut_wf (m : List Host.Cell) (a : Nat) (v : Byte) (h : Memory.wf m = true) : Memory.wf (cellsPut m a v) = true := by
  obtain ⟨hs, hz⟩ := (Memory.wf_iff m).mp h
  refine (Memory.wf_iff _).mpr ?_
  unfold cellsPut
  split
  · exact ⟨Tab.sorted_del _ _ hs, fun c hc => hz c (Tab.mem_del hc)⟩
  · next hv =>
    refine ⟨Tab.sorted_put _ _ _ hs, fun c hc => ?_⟩
    rcases Tab.mem_put hc with rfl | hc
    · exact hv
    · exact hz c hc

/-- Writing bytes keeps the form. -/
theorem cellsWrite_wf (l : List Byte) : ∀ (m : List Host.Cell) (a : Nat), Memory.wf m = true →
    Memory.wf (cellsWrite m a l) = true := by
  induction l with
  | nil => intro m a h; exact h
  | cons b t ih => intro m a h; exact ih _ _ (cellsPut_wf m a b h)

/-- Keeping some of the bytes keeps the form. -/
theorem cellsFilter_wf (m : List Host.Cell) (p : Host.Cell → Bool) (h : Memory.wf m = true) :
    Memory.wf (m.filter p) = true := by
  obtain ⟨hs, hz⟩ := (Memory.wf_iff m).mp h
  exact (Memory.wf_iff _).mpr ⟨Tab.sorted_filter m p hs, fun c hc => hz c (List.mem_filter.mp hc).1⟩

/-- The byte an address reads as in a table. -/
theorem getD_cellsPut (m : List Host.Cell) (a b : Nat) (v : Byte) :
    Tab.getD (cellsPut m a v) b 0 = if b = a then v else Tab.getD m b 0 := by
  unfold cellsPut Tab.getD
  split
  · next hv =>
    split
    · next h => subst h; simp [hv]
    · next h => rw [Tab.get_del_ne _ h]
  · split
    · next h => subst h; simp
    · next h => rw [Tab.get_put_ne _ _ h]

/-- A byte outside the bytes written reads as before. -/
theorem getD_cellsWrite_out (l : List Byte) : ∀ (m : List Host.Cell) (a b : Nat), b < a ∨ a + l.length ≤ b →
    Tab.getD (cellsWrite m a l) b 0 = Tab.getD m b 0 := by
  induction l with
  | nil => intro m a b _; rfl
  | cons x t ih =>
    intro m a b h
    simp only [List.length_cons] at h
    show Tab.getD (cellsWrite (cellsPut m a x) (a + 1) t) b 0 = _
    rw [ih _ _ _ (by omega), getD_cellsPut, if_neg (by omega)]

/-- A byte written reads back. -/
theorem getD_cellsWrite_in (l : List Byte) : ∀ (m : List Host.Cell) (a i : Nat) (h : i < l.length),
    Tab.getD (cellsWrite m a l) (a + i) 0 = l[i] := by
  induction l with
  | nil => intro m a i h; exact absurd h (Nat.not_lt_zero i)
  | cons x t ih =>
    intro m a i h
    show Tab.getD (cellsWrite (cellsPut m a x) (a + 1) t) (a + i) 0 = _
    cases i with
    | zero => rw [getD_cellsWrite_out _ _ _ _ (by omega), getD_cellsPut]; simp
    | succ j =>
      have := ih (cellsPut m a x) (a + 1) j (by simpa using h)
      rw [show a + (j + 1) = a + 1 + j by omega, this]; simp

/-- A byte of memory outside a write reads as before. -/
theorem memGet_memWrite_out (s : State) (a b : Nat) (l : List Byte) (h : b < a ∨ a + l.length ≤ b) :
    memGet (memWrite s a l) b = memGet s b := getD_cellsWrite_out l s.mem a b h

/-- A byte of memory inside a write reads as written. -/
theorem memGet_memWrite_in (s : State) (a i : Nat) (l : List Byte) (h : i < l.length) :
    memGet (memWrite s a l) (a + i) = l[i] := getD_cellsWrite_in l s.mem a i h

/-- A read of as many bytes as were written returns them. -/
theorem memRead_memWrite (s : State) (a : Nat) (l : List Byte) : memRead (memWrite s a l) a l.length = l := by
  unfold memRead
  apply List.ext_getElem
  · simp
  · intro i h1 h2
    simp [memGet_memWrite_in s a i l h2]

/-- The memory after reset has the form. -/
theorem reset_mem_wf : Memory.wf State.reset.mem = true := rfl

end Sys2Proof.Machine
end

