-- ==== Sys2Proof/Laws/Grows.lean ====
section
/-!
SUPPORT. What no effect undoes (`State.Grows`): the laws of the basic operations, and how they chain. The files after this
one state, for each operation and each meaning, that it keeps to it.
-/

namespace Sys2Proof.Machine

open State

/-- Every state of an optional result grows. -/
def OptGrows (a : State) (o : Option State) : Prop := ∀ t, o = some t → Grows a t

/-- As `OptGrows`, for a state with a value. -/
def OptGrows₂ (a : State) {α : Type} (o : Option (α × State)) : Prop := ∀ x t, o = some (x, t) → Grows a t

/-- The state of a setting that succeeds grows. -/
def ExGrows (a : State) (o : Except Nat State) : Prop := ∀ t, o = .ok t → Grows a t

/-- The state of a command's own part grows. -/
def ResGrows (a : State) : Res → Prop | .ok t _ => Grows a t | .later t => Grows a t | .err _ => True

/-- The next state of an outcome grows. -/
def OutGrows (a : State) (o : Out) : Prop := ∀ t, o = .next t → Grows a t

variable {a s : State}

theorem NvGrows.refl (n : NvSt) : NvGrows n n := ⟨rfl, ⟨rfl,rfl,rfl⟩, Nat.le_refl _, fun _ h => h, id, Nat.le_refl _,
    Nat.le_refl _⟩

theorem Grows.refl (s : State) : Grows s s := ⟨rfl, ⟨[], by simp⟩, Nat.le_refl _, id, id, NvGrows.refl _⟩

theorem grows_nv {n : NvSt} (h : Grows a s) (h1 : n.isS = s.nv.isS) (h2 : n.deviceCert = s.nv.deviceCert) (h3 :
    n.issuerCert = s.nv.issuerCert)
  (h4 : n.roots = s.nv.roots) (h5 : s.nv.svnFuses ≤ n.svnFuses) (h6 : ∀ i, s.nv.revoked.testBit i = true →
    n.revoked.testBit i = true)
  (h7 : s.nv.killed = true → n.killed = true) (h8 : s.nv.events ≤ n.events) (h9 : s.nv.epoch ≤ n.epoch) {x1 x2 x3 x4
    x5 x6 x7 x8 x9 x10 x11 x12 x13 x14 x15 x16 x17} : Grows a ⟨s.pending, s.out, s.free, s.regs, s.mem, n, x1, x2,
    x3, x4, x5, x6, x7, x8, x9, x10, x11, x12, x13, x14, x15, x16, x17⟩ := ⟨h.1,h.2,h.3,h.4,h.5,⟨h1.trans h.6.1,
    ⟨h2.trans h.6.2.1, h3.trans h.6.2.2.1, h4.trans h.6.2.2.2⟩, Nat.le_trans h.6.3 h5, fun i x => h6 i (h.6.4 i x),
    fun x => h7 (h.6.5 x), Nat.le_trans h.6.6 h8, Nat.le_trans h.6.7 h9⟩⟩

theorem grows_mk (h : Grows a s)  {x1 x2 x3 x4 x5 x6 x7 x8 x9 x10 x11 x12 x13 x14 x15 x16 x17} : Grows a ⟨s.pending,
    s.out, s.free, s.regs, s.mem, s.nv, x1, x2, x3, x4, x5, x6, x7, x8, x9, x10, x11, x12, x13, x14, x15, x16, x17⟩
    := ⟨h.1,h.2,h.3,h.4,h.5,h.6⟩

theorem foldl_grows {α : Type} {f : State → α → State} {l : List α} (hf : ∀ x c b, Grows c b → Grows c (f b x)) (h :
    Grows a s) : Grows a (l.foldl f s) := by
  induction l generalizing s with
  | nil => exact h
  | cons x t ih => exact ih (hf x a s h)

theorem fst_grows {α : Type} {p : State × α} {x : α} (h : Grows a p.1) (e : p = (s, x)) : Grows a s := by
  subst e; exact h

theorem snd_grows {α : Type} {p : α × State} {x : α} (h : Grows a p.2) (e : p = (x, s)) : Grows a s := by
  subst e; exact h

theorem OptGrows.of {p : Option State} (h : OptGrows a p) (e : p = some s) : Grows a s := h _ e

theorem OptGrows₂.of {α : Type} {x : α} {p : Option (α × State)} (h : OptGrows₂ a p) (e : p = some (x, s)) : Grows a
    s := h _ _ e

theorem ExGrows.of {p : Except Nat State} (h : ExGrows a p) (e : p = .ok s) : Grows a s := h _ e

theorem OutGrows.next (h : Grows a s) : OutGrows a (.next s) := by
  intro t e; cases e; exact h

theorem ExGrows.ok (h : Grows a s) : ExGrows a (.ok s) := by
  intro t e; cases e; exact h

theorem ExGrows.error {e} : ExGrows a (.error e) := by
  intro t e; cases e

theorem OptGrows.some (h : Grows a s) : OptGrows a (.some s) := by
  intro t e; cases e; exact h

theorem OptGrows.none : OptGrows a .none := by
  intro t e; cases e

theorem OptGrows₂.some {α : Type} {x : α} (h : Grows a s) : OptGrows₂ a (.some (x, s)) := by
  intro y t e; cases e; exact h

theorem OptGrows₂.none {α : Type} : OptGrows₂ a (none : Option (α × State)) := by
  intro y t e; cases e

theorem ResGrows.ok {d} (h : Grows a s) : ResGrows a (.ok s d) := h

theorem ResGrows.err {d} : ResGrows a (.err d) := trivial

theorem ResGrows.later (h : Grows a s) : ResGrows a (.later s) := h

theorem regs_wf_iff (r : Tab Word) : Regs.wf r = true ↔ Tab.sorted r = true ∧ ∀ e ∈ r, e.2 ≠ regReset e.1 := by
  simp [Regs.wf, List.all_eq_true]

theorem regs_filter_wf (r : Tab Word) (p : Nat × Word → Bool) (h : Regs.wf r = true) : Regs.wf (r.filter p) = true :=
    by
  obtain ⟨hs, hz⟩ := (regs_wf_iff r).mp h
  exact (regs_wf_iff _).mpr ⟨Tab.sorted_filter r p hs, fun c hc => hz c (List.mem_filter.mp hc).1⟩

theorem regPut_grows (h : Grows a s) (f v) : Grows a (regPut s f v) := by
  refine ⟨h.1, h.2, h.3, h.4, fun x => ?_, h.6⟩
  obtain ⟨hs, hz⟩ := (regs_wf_iff _).mp (h.5 x)
  refine (regs_wf_iff _).mpr ?_
  unfold regPut
  dsimp only
  split
  · exact ⟨Tab.sorted_del _ _ hs, fun c hc => hz c (Tab.mem_del hc)⟩
  · next hv =>
    refine ⟨Tab.sorted_put _ _ _ hs, fun c hc => ?_⟩
    rcases Tab.mem_put hc with rfl | hc
    · exact hv
    · exact hz c hc

theorem setF_grows (h : Grows a s) (f v) : Grows a (setF s f v) := regPut_grows h _ _

theorem send_grows (h : Grows a s) (f) : Grows a (send s f) := ⟨h.1, h.2.trans (List.prefix_append _ _), h.3, h.4,
    h.5, h.6⟩

theorem takeFree_grows (h : Grows a s) : Grows a (takeFree s) := ⟨h.1, h.2, Nat.le_trans h.3 (Nat.le_succ _), h.4,
    h.5, h.6⟩

theorem memPut_grows (h : Grows a s) (x y) : Grows a (memPut s x y) := ⟨h.1, h.2, h.3, fun w => cellsPut_wf _ _ _
    (h.4 w), h.5, h.6⟩

theorem memWrite_grows (h : Grows a s) (x y) : Grows a (memWrite s x y) := ⟨h.1, h.2, h.3, fun w => cellsWrite_wf _ _
    _ (h.4 w), h.5, h.6⟩

theorem grows_mk_iff {x1 x2 x3 x4 x5 x6 x7 x8 x9 x10 x11 x12 x13 x14 x15 x16 x17} : Grows a ⟨s.pending, s.out,
    s.free, s.regs, s.mem, s.nv, x1, x2, x3, x4, x5, x6, x7, x8, x9, x10, x11, x12, x13, x14, x15, x16, x17⟩ ↔ Grows
    a s := ⟨fun h => ⟨h.1,h.2,h.3,h.4,h.5,h.6⟩, fun h => ⟨h.1,h.2,h.3,h.4,h.5,h.6⟩⟩

theorem grows_nvx_iff {y1 y2 y3 y4 y5 y6 y7 y8 y9 y10 x1 x2 x3 x4 x5 x6 x7 x8 x9 x10 x11 x12 x13 x14 x15 x16 x17} :
    Grows a ⟨s.pending, s.out, s.free, s.regs, s.mem,
    ⟨s.nv.isS, s.nv.svnFuses, s.nv.roots, s.nv.revoked, s.nv.killed, s.nv.deviceCert, s.nv.issuerCert, y1, y2,
    s.nv.epoch, y3, y4, s.nv.events, y5, y6, y7, y8, y9, y10⟩,
    x1, x2, x3, x4, x5, x6, x7, x8, x9, x10, x11, x12, x13, x14, x15, x16, x17⟩ ↔ Grows a s :=
  ⟨fun h => ⟨h.1,h.2,h.3,h.4,h.5,⟨h.6.1,h.6.2,h.6.3,h.6.4,h.6.5,h.6.6,h.6.7⟩⟩, fun h =>
    ⟨h.1,h.2,h.3,h.4,h.5,⟨h.6.1,h.6.2,h.6.3,h.6.4,h.6.5,h.6.6,h.6.7⟩⟩⟩

theorem grows_free (h : Grows a s) {n x1 x2 x3 x4 x5 x6 x7 x8 x9 x10 x11 x12 x13 x14 x15 x16 x17} : Grows a
    ⟨s.pending, s.out, s.free + n, s.regs, s.mem, s.nv, x1, x2, x3, x4, x5, x6, x7, x8, x9, x10, x11, x12, x13, x14,
    x15, x16, x17⟩ := ⟨h.1,h.2,Nat.le_trans h.3 (Nat.le_add_right _ _),h.4,h.5,h.6⟩

theorem grows_mem {m : List Host.Cell} (h : Grows a s) (hm : Memory.wf s.mem = true → Memory.wf m = true) {x1 x2 x3
    x4 x5 x6 x7 x8 x9 x10 x11 x12 x13 x14 x15 x16 x17} : Grows a ⟨s.pending, s.out, s.free, s.regs, m, s.nv, x1, x2,
    x3, x4, x5, x6, x7, x8, x9, x10, x11, x12, x13, x14, x15, x16, x17⟩ := ⟨h.1,h.2,h.3,fun x => hm (h.4 x),h.5,h.6⟩

theorem OptGrows₂.map_snd {α : Type} {o : Option (α × State)} (h : OptGrows₂ a o) : OptGrows a (o.map Prod.snd) := by
  intro t e
  cases o with
  | none => cases e
  | some p => cases e; exact h _ _ rfl

end Sys2Proof.Machine
end

