-- ==== Sys2Proof/Laws/GrowsLink.lean ====
section
/-! SUPPORT. What no effect undoes, for the operations on registers, interrupts, messages and lanes. -/

namespace Sys2Proof.Machine

open State

variable {a : State}

/-! ### Ops -/

theorem addF_grows {s : State} (f : Fld) (n : Nat) (h : Grows a s) : Grows a (addF s f n) := by
  unfold addF; try dsimp only
  repeat' first | with_reducible (first | assumption | apply setF_grows) | simp only [grows_mk_iff] | split | intro _

theorem incF_grows {s : State} (f : Fld) (h : Grows a s) : Grows a (incF s f) := by
  unfold incF; try dsimp only
  repeat' first | with_reducible (first | assumption | apply addF_grows) | simp only [grows_mk_iff] | split | intro _

theorem setB_grows {s : State} (f : Fld) (b : Bool) (h : Grows a s) : Grows a (setB s f b) := by
  unfold setB; try dsimp only
  repeat' first | with_reducible (first | assumption | apply setF_grows) | simp only [grows_mk_iff] | split | intro _

theorem setI_grows {s : State} (f : Fld) (i : Int) (h : Grows a s) : Grows a (setI s f i) := by
  unfold setI; try dsimp only
  repeat' first | with_reducible (first | assumption | apply setF_grows) | simp only [grows_mk_iff] | split | intro _

theorem setSat_grows {s : State} (f : Fld) (v : Nat) (h : Grows a s) : Grows a (setSat s f v) := by
  unfold setSat; try dsimp only
  repeat' first | with_reducible (first | assumption | apply setF_grows) | simp only [grows_mk_iff] | split | intro _

theorem setSatI_grows {s : State} (f : Fld) (i : Int) (h : Grows a s) : Grows a (setSatI s f i) := by
  unfold setSatI; try dsimp only
  repeat' first | with_reducible (first | assumption | apply setI_grows) | simp only [grows_mk_iff] | split | intro _

theorem add48_grows {s : State} (lo : Fld) (hi : Fld) (n : Nat) (h : Grows a s) : Grows a (add48 s lo hi n) := by
  unfold add48; try dsimp only
  repeat' first | with_reducible (first | assumption | apply setF_grows) | simp only [grows_mk_iff] | split | intro _

/-! ### Flags -/

theorem sendVector_grows (v : Nat) {s : State} (h : Grows a s) : Grows a (sendVector v s) := by
  unfold sendVector; try dsimp only
  repeat' first
    | with_reducible (first
        | assumption | apply send_grows | apply setF_grows)
    | simp only [grows_mk_iff] | split | intro _

theorem vecEdges_grows (old : State) {s : State} (h : Grows a s) : Grows a (vecEdges old s) := by
  unfold vecEdges; try dsimp only
  repeat' first
    | with_reducible (first
        | assumption | apply foldl_grows | apply sendVector_grows)
    | simp only [grows_mk_iff] | split | intro _

theorem raise_grows (src : Nat) {s : State} (h : Grows a s) : Grows a (raise src s) := by
  unfold raise; try dsimp only
  repeat' first
    | with_reducible (first
        | assumption | apply incF_grows | apply sendVector_grows)
    | simp only [grows_mk_iff] | split | intro _

theorem setLevel_grows (src : Nat) (f : Fld) (v : Nat) {s : State} (h : Grows a s) : Grows a (setLevel src f v s) := by
  unfold setLevel; try dsimp only
  repeat' first
    | with_reducible (first
        | assumption | apply raise_grows | apply setF_grows)
    | simp only [grows_mk_iff] | split | intro _

theorem enterMode_grows (m : Nat) (holdCause : Nat) {s : State} (h : Grows a s) :
    Grows a (enterMode m holdCause s) := by
  unfold enterMode; try dsimp only
  repeat' first
    | with_reducible (first
        | assumption | apply raise_grows | apply setF_grows)
    | simp only [grows_mk_iff] | split | intro _

/-! ### Link -/

theorem portUpd_grows (p : Nat) (f : Port → Port) {s : State} (h : Grows a s) : Grows a (portUpd p f s) := by
  unfold portUpd; try dsimp only
  repeat' first | with_reducible assumption | simp only [grows_mk_iff] | split | intro _

theorem transmit_grows (p : Nat) (m : Msg) {s : State} (h : Grows a s) : Grows a (transmit p m s) := by
  unfold transmit; try dsimp only
  repeat' first
    | with_reducible (first
        | assumption | apply portUpd_grows | apply send_grows | apply incF_grows | apply add48_grows)
    | simp only [grows_mk_iff] | split | intro _

theorem pumpN_grows (p : Nat) (x1 : Nat) {x2 : State} (h : Grows a x2) : Grows a (pumpN p x1 x2) := by
  induction x1 generalizing x2 with
  | zero => exact h
  | succ n ih =>
    unfold pumpN; split
    · exact h
    · exact ih (transmit_grows _ _ (portUpd_grows _ _ h))

theorem pump_grows (p : Nat) {s : State} (h : Grows a s) : Grows a (pump p s) := by
  unfold pump; try dsimp only
  repeat' first | with_reducible (first | assumption | apply pumpN_grows) | simp only [grows_mk_iff] | split | intro _

theorem sendMsg_grows (p : Nat) (m : Msg) {s : State} (h : Grows a s) : Grows a (sendMsg p m s) := by
  unfold sendMsg; try dsimp only
  repeat' first
    | with_reducible (first
        | assumption | apply pump_grows | apply portUpd_grows)
    | simp only [grows_mk_iff] | split | intro _

theorem sendLink_grows (p : Nat) (payload : List Byte) {s : State} (h : Grows a s) :
    Grows a (sendLink p payload s) := by
  unfold sendLink; try dsimp only
  repeat' first | with_reducible (first | assumption | apply send_grows) | simp only [grows_mk_iff] | split | intro _

/-! ### Wire -/

theorem sendTo_grows (dev : Nat) (m : Msg) {s : State} (h : Grows a s) : Grows a (sendTo dev m s) := by
  unfold sendTo; try dsimp only
  repeat' first
    | with_reducible (first
        | assumption | apply sendMsg_grows)
    | simp only [grows_mk_iff] | split | intro _

theorem broadcast_grows (m : Msg) {s : State} (h : Grows a s) : Grows a (broadcast m s) := by
  unfold broadcast; try dsimp only
  repeat' first
    | with_reducible (first
        | assumption | apply foldl_grows | apply sendMsg_grows)
    | simp only [grows_mk_iff] | split | intro _

theorem sendTunnel_grows (dest : Nat) (frame : List Byte) {s : State} (h : Grows a s) :
    Grows a (sendTunnel dest frame s) := by
  unfold sendTunnel; try dsimp only
  repeat' first
    | with_reducible (first
        | assumption | apply foldl_grows | apply sendMsg_grows)
    | simp only [grows_mk_iff] | split | intro _

theorem mslAnswer_grows (mop : Nat) (seq : Nat) (via : Option Nat) (status : Nat) (data : List Byte) {s : State} (h :
    Grows a s) : Grows a (mslAnswer mop seq via status data s) := by
  unfold mslAnswer; try dsimp only
  repeat' first
    | with_reducible (first
        | assumption | apply send_grows | apply sendTunnel_grows)
    | simp only [grows_mk_iff] | split | intro _

theorem mslReply_grows (status : Nat) (data : List Byte) {s : State} (h : Grows a s) :
    Grows a (mslReply status data s) := by
  unfold mslReply; try dsimp only
  repeat' first
    | with_reducible (first
        | assumption | apply mslAnswer_grows)
    | simp only [grows_mk_iff] | split | intro _

theorem ringPut_grows (k : Pkt) (rflags : Nat) (status : Nat) (data : List Byte) {s : State} (h : Grows a s) :
    Grows a (ringPut k rflags status data s) := by
  unfold ringPut; try dsimp only
  repeat' first
    | with_reducible (first
        | assumption | apply send_grows | apply setF_grows | apply raise_grows)
    | simp only [grows_mk_iff] | split | intro _

theorem fifoPut_grows (k : Pkt) (rflags : Nat) (status : Nat) (data : List Byte) {s : State} (h : Grows a s) :
    Grows a (fifoPut k rflags status data s) := by
  unfold fifoPut; try dsimp only
  repeat' first | with_reducible assumption | simp only [grows_mk_iff] | split | intro _

theorem vc1Put_grows (k : Pkt) (src : Nat) (rflags : Nat) (status : Nat) (data : List Byte) {s : State} (h :
    Grows a s) : Grows a (vc1Put k src rflags status data s) := by
  unfold vc1Put; try dsimp only
  repeat' first
    | with_reducible (first
        | assumption | apply sendTo_grows | apply sendMsg_grows)
    | simp only [grows_mk_iff] | split | intro _

theorem putReply_grows (k : Pkt) (rflags : Nat) (status : Nat) (data : List Byte) {s : State} (h : Grows a s) :
    Grows a (putReply k rflags status data s) := by
  unfold putReply; try dsimp only
  repeat' first
    | with_reducible (first
        | assumption | apply ringPut_grows | apply fifoPut_grows | apply vc1Put_grows | apply mslReply_grows)
    | simp only [grows_mk_iff] | split | intro _

theorem unreserve_grows (k : Pkt) {s : State} (h : Grows a s) : Grows a (unreserve k s) := by
  unfold unreserve; try dsimp only
  repeat' first | with_reducible assumption | simp only [grows_mk_iff] | split | intro _

theorem keepReply_grows (k : Pkt) (status : Nat) (data : List Byte) {s : State} (h : Grows a s) :
    Grows a (keepReply k status data s) := by
  unfold keepReply; try dsimp only
  repeat' first | with_reducible assumption | simp only [grows_mk_iff] | split | intro _

theorem aggNote_grows (tag : Nat) (dev : Nat) (status : Nat) {s : State} (h : Grows a s) :
    Grows a (aggNote tag dev status s) := by
  unfold aggNote; try dsimp only
  repeat' first | with_reducible assumption | simp only [grows_mk_iff] | split | intro _

theorem sendFinal_grows (k : Pkt) (hasResult : Bool) (status : Nat) (data : List Byte) {s : State} (h : Grows a s) :
    Grows a (sendFinal k hasResult status data s) := by
  unfold sendFinal; try dsimp only
  repeat' first
    | with_reducible (first
        | assumption | apply aggNote_grows | apply keepReply_grows | apply unreserve_grows | apply putReply_grows)
    | simp only [grows_mk_iff] | split | intro _

theorem sendInterim_grows (k : Pkt) {s : State} (h : Grows a s) : Grows a (sendInterim k s) := by
  unfold sendInterim; try dsimp only
  repeat' first
    | with_reducible (first
        | assumption | apply ringPut_grows | apply putReply_grows)
    | simp only [grows_mk_iff] | split | intro _

/-! ### Phy -/

theorem laneUpd_grows (p : Nat) (l : Nat) (f : Lane → Lane) {s : State} (h : Grows a s) :
    Grows a (laneUpd p l f s) := by
  unfold laneUpd; try dsimp only
  repeat' first
    | with_reducible (first
        | assumption | apply portUpd_grows)
    | simp only [grows_mk_iff] | split | intro _

theorem phyLevel_grows (p : Nat) (f : Nat → Fld) (v : Nat) {s : State} (h : Grows a s) :
    Grows a (phyLevel p f v s) := by
  unfold phyLevel; try dsimp only
  repeat' first
    | with_reducible (first
        | assumption | apply setLevel_grows)
    | simp only [grows_mk_iff] | split | intro _

theorem phyBit_grows (p : Nat) (f : Nat → Fld) (l : Nat) (b : Bool) {s : State} (h : Grows a s) :
    Grows a (phyBit p f l b s) := by
  unfold phyBit; try dsimp only
  repeat' first
    | with_reducible (first
        | assumption | apply phyLevel_grows)
    | simp only [grows_mk_iff] | split | intro _

theorem laneLock_grows (p : Nat) (l : Nat) (b : Bool) {s : State} (h : Grows a s) : Grows a (laneLock p l b s) := by
  unfold laneLock; try dsimp only
  repeat' first
    | with_reducible (first
        | assumption | apply phyBit_grows | apply setB_grows)
    | simp only [grows_mk_iff] | split | intro _

theorem calReply_grows (p : Nat) {s : State} (h : Grows a s) : Grows a (calReply p s) := by
  unfold calReply; try dsimp only
  repeat' first
    | with_reducible (first
        | assumption | apply sendFinal_grows)
    | simp only [grows_mk_iff] | split | intro _

theorem calOutcome_grows (p : Nat) (l : Nat) (v : Nat) {s : State} (h : Grows a s) : Grows a (calOutcome p l v s) := by
  unfold calOutcome; try dsimp only
  repeat' first
    | with_reducible (first
        | assumption | apply calReply_grows | apply portUpd_grows)
    | simp only [grows_mk_iff] | split | intro _

theorem calAbandon_grows (p : Nat) {s : State} (h : Grows a s) : Grows a (calAbandon p s) := by
  unfold calAbandon; try dsimp only
  repeat' first
    | with_reducible (first
        | assumption | apply foldl_grows | apply portUpd_grows | apply setF_grows | apply calOutcome_grows)
    | simp only [grows_mk_iff] | split | intro _

theorem timDisturb_grows (p : Nat) {s : State} (h : Grows a s) : Grows a (timDisturb p s) := by
  unfold timDisturb; try dsimp only
  repeat' first | with_reducible assumption | simp only [grows_mk_iff] | split | intro _

theorem timReplay_grows (p : Nat) {s : State} (h : Grows a s) : Grows a (timReplay p s) := by
  unfold timReplay; try dsimp only
  repeat' first | with_reducible assumption | simp only [grows_mk_iff] | split | intro _

theorem timRestart_grows (p : Nat) {s : State} (h : Grows a s) : Grows a (timRestart p s) := by
  unfold timRestart; try dsimp only
  repeat' first
    | with_reducible (first
        | assumption | apply timDisturb_grows)
    | simp only [grows_mk_iff] | split | intro _

theorem lanesDown_grows (p : Nat) {s : State} (h : Grows a s) : Grows a (lanesDown p s) := by
  unfold lanesDown; try dsimp only
  repeat' first
    | with_reducible (first
        | assumption | apply foldl_grows | apply calAbandon_grows | apply laneUpd_grows | apply laneLock_grows
        | apply portUpd_grows | apply phyLevel_grows)
    | simp only [grows_mk_iff] | split | intro _

theorem startTrain_grows (p : Nat) (step : Nat) {s : State} (h : Grows a s) : Grows a (startTrain p step s) := by
  unfold startTrain; try dsimp only
  repeat' first
    | with_reducible (first
        | assumption | apply setF_grows | apply lanesDown_grows | apply send_grows)
    | simp only [grows_mk_iff] | split | intro _

theorem holdPort_grows (p : Nat) {s : State} (h : Grows a s) : Grows a (holdPort p s) := by
  unfold holdPort; try dsimp only
  repeat' first
    | with_reducible (first
        | assumption | apply send_grows | apply setF_grows | apply lanesDown_grows)
    | simp only [grows_mk_iff] | split | intro _

theorem releasePort_grows (p : Nat) {s : State} (h : Grows a s) : Grows a (releasePort p s) := by
  unfold releasePort; try dsimp only
  repeat' first
    | with_reducible (first
        | assumption | apply startTrain_grows | apply phyLevel_grows | apply setB_grows)
    | simp only [grows_mk_iff] | split | intro _

theorem twillBringUp_grows {s : State} (h : Grows a s) : Grows a (twillBringUp s) := by
  unfold twillBringUp; try dsimp only
  repeat' first
    | with_reducible (first
        | assumption | apply foldl_grows | apply releasePort_grows)
    | simp only [grows_mk_iff] | split | intro _

theorem linkLevel_grows (p : Nat) (f : Nat → Fld) (v : Nat) {s : State} (h : Grows a s) :
    Grows a (linkLevel p f v s) := by
  unfold linkLevel; try dsimp only
  repeat' first
    | with_reducible (first
        | assumption | apply setLevel_grows)
    | simp only [grows_mk_iff] | split | intro _

theorem enterRetrain_grows (p : Nat) (step : Nat) {s : State} (h : Grows a s) : Grows a (enterRetrain p step s) := by
  unfold enterRetrain; try dsimp only
  repeat' first
    | with_reducible (first
        | assumption | apply portUpd_grows | apply linkLevel_grows | apply incF_grows | apply startTrain_grows
        | apply timRestart_grows)
    | simp only [grows_mk_iff] | split | intro _

end Sys2Proof.Machine
end

