-- ==== Sys2Proof/Laws/GrowsFaults.lean ====
section
/-! SUPPORT. What no effect undoes, for faults and the handling of commands. -/

namespace Sys2Proof.Machine

open State

variable {a : State}

/-! ### Faults -/

theorem endDebug_grows {s : State} (h : Grows a s) : Grows a (endDebug s) := by
  unfold endDebug; try dsimp only
  repeat' first
    | with_reducible (first
        | assumption | apply setF_grows | apply twillBringUp_grows)
    | simp only [grows_mk_iff] | split | intro _

theorem zero1_grows {s : State} (h : Grows a s) : Grows a (zero1 s) := by
  unfold zero1; try dsimp only
  repeat' first
    | with_reducible (first
        | assumption | apply endDebug_grows | apply setF_grows)
    | simp only [grows_mk_iff] | split | intro _

theorem zero2_grows {s : State} (h : Grows a s) : Grows a (zero2 s) := by
  refine grows_nv (s := zero1 s) (zero1_grows h) ?_ ?_ ?_ ?_ ?_ ?_ ?_ ?_ (Nat.le_succ _) <;>
    first | rfl | exact Nat.le_refl _ | exact id | exact fun _ => id

theorem zero3_grows {s : State} (h : Grows a s) : Grows a (zero3 s) := by
  refine grows_nv (s := zero2 s) (zero2_grows h) ?_ ?_ ?_ ?_ ?_ ?_ (fun _ => rfl) ?_ ?_ <;>
    first | rfl | exact Nat.le_refl _ | exact id | exact fun _ => id

theorem zeroise_grows (level : Nat) {s : State} (h : Grows a s) : Grows a (zeroise level s) := by
  unfold zeroise; try dsimp only
  repeat' first
    | with_reducible (first
        | assumption | apply zero1_grows | apply zero2_grows | apply zero3_grows)
    | simp only [grows_mk_iff] | split | intro _

theorem sendNotices_grows (cause : Nat) {s : State} (h : Grows a s) : Grows a (sendNotices cause s) := by
  unfold sendNotices; try dsimp only
  repeat' first
    | with_reducible (first
        | assumption | apply foldl_grows | apply sendMsg_grows)
    | simp only [grows_mk_iff] | split | intro _

theorem twillSilent_grows {s : State} (h : Grows a s) : Grows a (twillSilent s) := by
  unfold twillSilent; try dsimp only
  repeat' first
    | with_reducible (first
        | assumption | apply foldl_grows | apply holdPort_grows | apply portUpd_grows | apply linkLevel_grows)
    | simp only [grows_mk_iff] | split | intro _

theorem gpioReset_grows {s : State} (h : Grows a s) : Grows a (gpioReset s) := by
  unfold gpioReset; try dsimp only
  repeat' first | with_reducible (first | assumption | apply setF_grows) | simp only [grows_mk_iff] | split | intro _

theorem strandSend_grows (st : Nat) (pkt : List Byte) {s : State} (h : Grows a s) : Grows a (strandSend st pkt s) := by
  unfold strandSend; try dsimp only
  repeat' first
    | with_reducible (first
        | assumption | apply send_grows | apply addF_grows)
    | simp only [grows_mk_iff] | split | intro _

theorem strandAll_grows (op : Nat) (params : List Nat) {s : State} (h : Grows a s) :
    Grows a (strandAll op params s) := by
  unfold strandAll; try dsimp only
  repeat' first
    | with_reducible (first
        | assumption | apply foldl_grows | apply strandSend_grows)
    | simp only [grows_mk_iff] | split | intro _

theorem strandsStop_grows {s : State} (h : Grows a s) : Grows a (strandsStop s) := by
  unfold strandsStop; try dsimp only
  repeat' first
    | with_reducible (first
        | assumption | apply strandAll_grows | apply setF_grows)
    | simp only [grows_mk_iff] | split | intro _

theorem pcieOff_grows (ltssm : Nat) {s : State} (h : Grows a s) : Grows a (pcieOff ltssm s) := by
  unfold pcieOff; try dsimp only
  repeat' first
    | with_reducible (first
        | assumption | apply setLevel_grows | apply setF_grows)
    | simp only [grows_mk_iff] | split | intro _

theorem endAll_grows {s : State} (h : Grows a s) : Grows a (endAll s) := by
  unfold endAll; try dsimp only
  repeat' first
    | with_reducible (first
        | assumption | apply foldl_grows | apply sendFinal_grows)
    | simp only [grows_mk_iff] | split | intro _

theorem enterLockdown_grows (cause : Nat) {s : State} (h : Grows a s) : Grows a (enterLockdown cause s) := by
  unfold enterLockdown; try dsimp only
  repeat' first
    | with_reducible (first
        | assumption | apply setF_grows | apply enterMode_grows | apply sendNotices_grows | apply endDebug_grows
        | apply gpioReset_grows | apply pcieOff_grows | apply twillSilent_grows | apply strandsStop_grows
        | apply endAll_grows)
    | simp only [grows_mk_iff] | simp only [grows_nvx_iff] | split | intro _

theorem resetBegins_grows {s : State} (h : Grows a s) : Grows a (resetBegins s) := by
  unfold resetBegins; try dsimp only
  repeat' first | with_reducible assumption | simp only [grows_mk_iff] | split | intro _

theorem beginInternal_grows (wdog : Bool) (cmd : Bool) (act : Bool) {s : State} (h : Grows a s) :
    Grows a (beginInternal wdog cmd act s) := by
  unfold beginInternal; try dsimp only
  repeat' first
    | with_reducible (first
        | assumption | apply resetBegins_grows)
    | simp only [grows_mk_iff] | split | intro _

theorem flowState_grows (i : Nat) (st : Nat) {s : State} (h : Grows a s) : Grows a (flowState i st s) := by
  unfold flowState; try dsimp only
  repeat' first
    | with_reducible (first
        | assumption | apply raise_grows | apply setF_grows)
    | simp only [grows_mk_iff] | split | intro _

theorem flowLocking_grows (i : Nat) {s : State} (h : Grows a s) : Grows a (flowLocking i s) := by
  unfold flowLocking; try dsimp only
  repeat' first
    | with_reducible (first
        | assumption | apply flowState_grows)
    | simp only [grows_mk_iff] | split | intro _

theorem slotFull_grows (i : Nat) {s : State} (h : Grows a s) : Grows a (slotFull i s) := by
  unfold slotFull; try dsimp only
  repeat' first | with_reducible assumption | simp only [grows_mk_iff] | split | intro _

theorem sendSlotNotice_grows (i : Nat) (nflags : Nat) {s : State} (h : Grows a s) :
    Grows a (sendSlotNotice i nflags s) := by
  unfold sendSlotNotice; try dsimp only
  repeat' first
    | with_reducible (first
        | assumption | apply sendMsg_grows)
    | simp only [grows_mk_iff] | split | intro _

theorem slotReadmit_grows (i : Nat) (nflags : Nat) {s : State} (h : Grows a s) : Grows a (slotReadmit i nflags s) := by
  unfold slotReadmit; try dsimp only
  repeat' first
    | with_reducible (first
        | assumption | apply slotFull_grows | apply setF_grows | apply sendSlotNotice_grows)
    | simp only [grows_mk_iff] | split | intro _

theorem announceStep_grows (p : Nat) (step : Nat) (reason : Nat) {s : State} (h : Grows a s) :
    Grows a (announceStep p step reason s) := by
  unfold announceStep; try dsimp only
  repeat' first
    | with_reducible (first
        | assumption | apply enterRetrain_grows | apply sendLink_grows)
    | simp only [grows_mk_iff] | split | intro _

theorem abortUpload_grows {s : State} (h : Grows a s) : Grows a (abortUpload s) := by
  unfold abortUpload; try dsimp only
  repeat' first
    | with_reducible (first
        | assumption | apply sendFinal_grows)
    | simp only [grows_mk_iff] | split | intro _

theorem containAct_grows (o : Occ) {s : State} (h : Grows a s) : Grows a (containAct o s) := by
  unfold containAct; try dsimp only
  repeat' first
    | with_reducible (first
        | assumption | apply foldl_grows | apply beginInternal_grows | apply flowLocking_grows
        | apply abortUpload_grows | apply slotReadmit_grows | apply slotFull_grows | apply strandAll_grows
        | apply announceStep_grows)
    | simp only [grows_mk_iff] | split | intro _

theorem contain_grows (o : Occ) {s : State} (h : Grows a s) : Grows a (contain o s) := by
  unfold contain; try dsimp only
  repeat' first
    | with_reducible (first
        | assumption | apply containAct_grows | apply setF_grows)
    | simp only [grows_mk_iff] | split | intro _

theorem writeRecord_grows (o : Occ) (sev : Nat) {s : State} (h : Grows a s) : Grows a (writeRecord o sev s) := by
  unfold writeRecord; try dsimp only
  repeat' first
    | with_reducible (first
        | assumption | apply setF_grows | apply raise_grows)
    | simp only [grows_mk_iff] | split | intro _

theorem recordFault_grows (o : Occ) (sev : Nat) {s : State} (h : Grows a s) : Grows a (recordFault o sev s) := by
  unfold recordFault; try dsimp only
  repeat' first
    | with_reducible (first
        | assumption | apply setSat_grows | apply writeRecord_grows)
    | simp only [grows_mk_iff] | split | intro _

theorem noteDegraded_grows (o : Occ) {s : State} (h : Grows a s) : Grows a (noteDegraded o s) := by
  unfold noteDegraded; try dsimp only
  repeat' first | with_reducible (first | assumption | apply setF_grows) | simp only [grows_mk_iff] | split | intro _

theorem haltFault_grows (o : Occ) {s : State} (h : Grows a s) : Grows a (haltFault o s) := by
  unfold haltFault; try dsimp only
  repeat' first
    | with_reducible (first
        | assumption | apply enterLockdown_grows | apply setF_grows)
    | simp only [grows_mk_iff] | split | intro _

theorem loseFault_grows (o : Occ) {s : State} (h : Grows a s) : Grows a (loseFault o s) := by
  unfold loseFault; try dsimp only
  repeat' first | with_reducible (first | assumption | apply incF_grows) | simp only [grows_mk_iff] | split | intro _

theorem actFault_grows (busy : Bool) (sev : Nat) (o : Occ) {s : State} (h : Grows a s) :
    Grows a (actFault busy sev o s) := by
  unfold actFault; try dsimp only
  repeat' first
    | with_reducible (first
        | assumption | apply haltFault_grows | apply noteDegraded_grows | apply recordFault_grows
        | apply loseFault_grows | apply contain_grows)
    | simp only [grows_mk_iff] | split | intro _

theorem occurs_grows (l : List Occ) {s : State} (h : Grows a s) : Grows a (occurs l s) := by
  unfold occurs; try dsimp only
  repeat' first
    | with_reducible (first
        | assumption | apply foldl_grows | apply actFault_grows)
    | simp only [grows_mk_iff] | split | intro _

theorem occur_grows (b : Nat) (src : Nat) (detail : Nat) (info : Nat) {s : State} (h : Grows a s) :
    Grows a (occur b src detail info s) := by
  unfold occur; try dsimp only
  repeat' first | with_reducible (first | assumption | apply occurs_grows) | simp only [grows_mk_iff] | split | intro _

theorem tally_grows (f : Fld) (b : Nat) (src : Nat) (detail : Nat) {s : State} (h : Grows a s) :
    Grows a (tally f b src detail s) := by
  unfold tally; try dsimp only
  repeat' first
    | with_reducible (first
        | assumption | apply occur_grows | apply incF_grows)
    | simp only [grows_mk_iff] | split | intro _

theorem tallyN_grows (n : Nat) (f : Fld) (b : Nat) (src : Nat) (detail : Nat) {s : State} (h : Grows a s) :
    Grows a (tallyN n f b src detail s) := by
  unfold tallyN; try dsimp only
  repeat' first
    | with_reducible (first
        | assumption | apply foldl_grows | apply tally_grows)
    | simp only [grows_mk_iff] | split | intro _

theorem levelRise_grows (b : Nat) (src : Nat) (detail : Nat) {s : State} (h : Grows a s) :
    Grows a (levelRise b src detail s) := by
  unfold levelRise; try dsimp only
  repeat' first
    | with_reducible (first
        | assumption | apply occur_grows | apply setF_grows)
    | simp only [grows_mk_iff] | split | intro _

theorem levelFall_grows (b : Nat) (src : Nat) {s : State} (h : Grows a s) : Grows a (levelFall b src s) := by
  unfold levelFall; try dsimp only
  repeat' first | with_reducible (first | assumption | apply setB_grows) | simp only [grows_mk_iff] | split | intro _

theorem restrict_grows {s : State} (h : Grows a s) : Grows a (restrict s) := by
  unfold restrict; try dsimp only
  repeat' first | with_reducible assumption | simp only [grows_mk_iff] | simp only [grows_nvx_iff] | split | intro _

theorem recordTamper_grows (e : TamperRec) {s : State} (h : Grows a s) : Grows a (recordTamper e s) := by
  unfold recordTamper; dsimp only
  refine grows_nv ?_ ?_ ?_ ?_ ?_ ?_ ?_ ?_ (Nat.le_succ _) ?_
  · repeat' first
      | assumption
      | with_reducible (first | apply setF_grows | apply raise_grows | apply incF_grows)
  all_goals first | rfl | exact Nat.le_refl _ | exact id | exact fun _ => id

theorem applyPolicy_grows (p : Nat) {s : State} (h : Grows a s) : Grows a (applyPolicy p s) := by
  unfold applyPolicy; try dsimp only
  repeat' first
    | with_reducible (first
        | assumption | apply endDebug_grows | apply restrict_grows | apply zeroise_grows)
    | simp only [grows_mk_iff] | split | intro _

theorem handleTamper_grows (e : TamperRec) {s : State} (h : Grows a s) : Grows a (handleTamper e s) := by
  unfold handleTamper; try dsimp only
  repeat' first
    | with_reducible (first
        | assumption | apply applyPolicy_grows | apply occur_grows | apply recordTamper_grows)
    | simp only [grows_mk_iff] | split | intro _

theorem tamperEvent_grows (src : Nat) (detail : Nat) {s : State} (h : Grows a s) :
    Grows a (tamperEvent src detail s) := by
  unfold tamperEvent; try dsimp only
  repeat' first
    | with_reducible (first
        | assumption | apply handleTamper_grows)
    | simp only [grows_mk_iff] | split | intro _

theorem tamperOcc_grows (src : Nat) (unit : Nat) (detail : Nat) {s : State} (h : Grows a s) :
    Grows a (tamperOcc src unit detail s) := by
  unfold tamperOcc; try dsimp only
  repeat' first
    | with_reducible (first
        | assumption | apply tamperEvent_grows)
    | simp only [grows_mk_iff] | split | intro _

theorem lockViol_grows (b : Nat) (req : Nat) (indirect : Bool) (off : Nat) {s : State} (h : Grows a s) :
    Grows a (lockViol b req indirect off s) := by
  unfold lockViol; try dsimp only
  repeat' first
    | with_reducible (first
        | assumption | apply incF_grows | apply setF_grows | apply tamperOcc_grows | apply occur_grows)
    | simp only [grows_mk_iff] | split | intro _

/-! ### Commands -/

theorem restartWatchdog_grows (r : Req) {s : State} (h : Grows a s) : Grows a (restartWatchdog r s) := by
  unfold restartWatchdog; try dsimp only
  repeat' first | with_reducible assumption | simp only [grows_mk_iff] | split | intro _

theorem arrive_grows (k : Pkt) {s : State} (h : Grows a s) : Grows a (arrive k s) := by
  unfold arrive; try dsimp only
  repeat' first
    | with_reducible (first
        | assumption | apply restartWatchdog_grows)
    | simp only [grows_mk_iff] | split | intro _

theorem refWrite_grows {s : State} (r : Ref) (data : List Byte) (f : Fetch) (h : Grows a s) :
    ExGrows a (refWrite s r data f) := by
  unfold refWrite; try dsimp only
  repeat' first
    | with_reducible (first
        | assumption | apply ExGrows.ok | apply ExGrows.error | apply memWrite_grows | apply send_grows)
    | simp only [grows_mk_iff] | split | intro _

theorem noteVerified_grows (r : Req) {s : State} (h : Grows a s) : Grows a (noteVerified r s) := by
  unfold noteVerified; try dsimp only
  repeat' first | with_reducible assumption | simp only [grows_mk_iff] | split | intro _

theorem countRefusal_grows (r : Req) {s : State} (h : Grows a s) : Grows a (countRefusal r s) := by
  unfold countRefusal; try dsimp only
  repeat' first
    | with_reducible (first
        | assumption | apply tally_grows | apply tamperEvent_grows | apply setF_grows)
    | simp only [grows_mk_iff] | split | intro _

theorem raiseCtr_grows (k : Pkt) {s : State} (h : Grows a s) : Grows a (raiseCtr k s) := by
  unfold raiseCtr; try dsimp only
  repeat' first | with_reducible assumption | simp only [grows_mk_iff] | simp only [grows_nvx_iff] | split | intro _

theorem envelope_grows (k : Pkt) (f : Fetch) {s : State} (h : Grows a s) : Grows a (envelope k f s).1 := by
  unfold envelope; try dsimp only
  repeat' first
    | with_reducible (first
        | assumption | apply noteVerified_grows | apply raiseCtr_grows | apply incF_grows | apply countRefusal_grows)
    | simp only [grows_mk_iff] | split | intro _

theorem authorise_grows (k : Pkt) (f : Fetch) {s : State} (h : Grows a s) : Grows a (authorise k f s).1 := by
  unfold authorise; try dsimp only
  repeat' first
    | with_reducible (first
        | assumption | apply envelope_grows | refine fst_grows ?_ (by with_reducible assumption))
    | simp only [grows_mk_iff] | split | intro _

theorem resOf_grows {r : Except Nat State} (h1 : ExGrows a r) : ResGrows a (resOf r) := by
  unfold resOf; split
  · exact h1 _ rfl
  · trivial

theorem finish_grows (k : Pkt) (status : Nat) (data : List Byte) {s : State} (h : Grows a s) :
    Grows a (finish k status data s) := by
  unfold finish; try dsimp only
  repeat' first
    | with_reducible (first
        | assumption | apply sendFinal_grows)
    | simp only [grows_mk_iff] | split | intro _

theorem conclude_grows (k : Pkt) {s : State} {r : Res} (h : Grows a s) (h1 : ResGrows a r) :
    Grows a (conclude k s r) := by
  cases r with
  | ok t d => exact finish_grows _ _ _ h1
  | err st => exact finish_grows _ _ _ h
  | later t => exact h1

theorem command_grows (k : Pkt) (f : Fetch) {body : Option (List Byte) → State → Res} {s : State} (h1 :
    ∀ d c b, Grows c b → ResGrows c (body d b)) (h : Grows a s) : Grows a (command k f body s) := by
  unfold command; try dsimp only
  repeat' first
    | with_reducible (first
        | assumption | apply h1 | apply arrive_grows | apply finish_grows | apply authorise_grows
        | apply conclude_grows | refine fst_grows ?_ (by with_reducible assumption))
    | simp only [grows_mk_iff] | split | intro _

theorem plain_grows (k : Pkt) {body : State → Res} {s : State} (h1 : ∀ c b, Grows c b → ResGrows c (body b)) (h :
    Grows a s) : Grows a (plain k body s) := by
  unfold plain; try dsimp only
  repeat' first
    | with_reducible (first
        | assumption | apply h1 | apply ResGrows.ok | apply ResGrows.err | apply ResGrows.later
        | apply command_grows | refine fst_grows ?_ (by with_reducible assumption))
    | simp only [grows_mk_iff] | split | intro _

theorem need_grows (c : Bool) (status : Nat) {r : Res} (h1 : ResGrows a r) : ResGrows a (need c status r) := by
  unfold need; try dsimp only
  repeat' first
    | with_reducible (first
        | assumption | apply h1 | apply ResGrows.ok | apply ResGrows.err | apply ResGrows.later
        | refine fst_grows ?_ (by with_reducible assumption))
    | simp only [grows_mk_iff] | split | intro _

theorem setItem_grows (item : Nat) (inst : Nat) (data : List Byte) {s : State} (h : Grows a s) :
    Grows a (setItem item inst data s) := by
  unfold setItem; try dsimp only
  repeat' first | with_reducible assumption | simp only [grows_mk_iff] | split | intro _

theorem startBg_grows (k : Pkt) {s : State} (h : Grows a s) : Grows a (startBg k s) := by
  unfold startBg; try dsimp only
  repeat' first | with_reducible assumption | simp only [grows_mk_iff] | split | intro _

theorem endBg_grows (area : Nat) {s : State} (h : Grows a s) : Grows a (endBg area s) := by
  unfold endBg; try dsimp only
  repeat' first | with_reducible assumption | simp only [grows_mk_iff] | split | intro _

/-! ### Messages -/

theorem forwardMsg_grows (p : Nat) (m : Msg) {s : State} (h : Grows a s) : Grows a (forwardMsg p m s) := by
  unfold forwardMsg; try dsimp only
  repeat' first
    | with_reducible (first
        | assumption | apply foldl_grows | apply sendMsg_grows | apply tally_grows)
    | simp only [grows_mk_iff] | split | intro _

theorem proto_grows (p : Nat) {s : State} (h : Grows a s) : Grows a (proto p s) := by
  unfold proto; try dsimp only
  repeat' first | with_reducible (first | assumption | apply tally_grows) | simp only [grows_mk_iff] | split | intro _

theorem msgIn_grows (p : Nat) (m : Msg) {take : State → State} {s : State} (h1 :
    ∀ c b, Grows c b → Grows c (take b)) (h : Grows a s) : Grows a (msgIn p m take s) := by
  unfold msgIn; try dsimp only
  repeat' first
    | with_reducible (first
        | assumption | apply h1 | apply addF_grows | apply proto_grows | apply forwardMsg_grows
        | refine fst_grows ?_ (by with_reducible assumption))
    | simp only [grows_mk_iff] | split | intro _

theorem noteSeen_grows (src : Nat) (tag : Nat) {s : State} (h : Grows a s) : Grows a (noteSeen src tag s) := by
  unfold noteSeen; try dsimp only
  repeat' first | with_reducible assumption | simp only [grows_mk_iff] | split | intro _

/-! ### Transport -/

theorem hold_grows (k : Pkt) {s : State} (h : Grows a s) : Grows a (hold k s) := by
  unfold hold; try dsimp only
  repeat' first | with_reducible (first | assumption | apply finish_grows) | simp only [grows_mk_iff] | split | intro _

theorem forwardPkt_grows (k : Pkt) {s : State} (h : Grows a s) : Grows a (forwardPkt k s) := by
  unfold forwardPkt; try dsimp only
  repeat' first
    | with_reducible (first
        | assumption | apply finish_grows | apply sendMsg_grows)
    | simp only [grows_mk_iff] | split | intro _

theorem issueWide_grows (k : Pkt) {s : State} (h : Grows a s) : Grows a (issueWide k s) := by
  unfold issueWide; try dsimp only
  repeat' first
    | with_reducible (first
        | assumption | apply finish_grows | apply broadcast_grows | apply hold_grows)
    | simp only [grows_mk_iff] | split | intro _

theorem fromPort_grows (k : Pkt) {s : State} (h : Grows a s) : Grows a (fromPort k s) := by
  unfold fromPort; try dsimp only
  repeat' first
    | with_reducible (first
        | assumption | apply restartWatchdog_grows | apply finish_grows | apply hold_grows | apply forwardPkt_grows
        | apply issueWide_grows)
    | simp only [grows_mk_iff] | split | intro _

theorem execCommandRingDoorbell_grows (v : Word) {s : State} (h : Grows a s) :
    OutGrows a (execCommandRingDoorbell v s) := by
  unfold execCommandRingDoorbell; try dsimp only
  repeat' first
    | with_reducible (first
        | assumption | apply OutGrows.next | apply setF_grows)
    | simp only [grows_mk_iff] | split | intro _

theorem cqAdvance_grows {s : State} (h : Grows a s) : Grows a (cqAdvance s) := by
  unfold cqAdvance; try dsimp only
  repeat' first | with_reducible (first | assumption | apply setF_grows) | simp only [grows_mk_iff] | split | intro _

theorem execCommandEntryFetch_grows (entry : Option (List Byte)) {s : State} (h : Grows a s) :
    OutGrows a (execCommandEntryFetch entry s) := by
  unfold execCommandEntryFetch; try dsimp only
  repeat' first
    | with_reducible (first
        | assumption | apply OutGrows.next | apply tally_grows | apply cqAdvance_grows | apply fromPort_grows)
    | simp only [grows_mk_iff] | split | intro _

theorem execReplyRingHeadWrite_grows (v : Word) {s : State} (h : Grows a s) :
    OutGrows a (execReplyRingHeadWrite v s) := by
  unfold execReplyRingHeadWrite; try dsimp only
  repeat' first
    | with_reducible (first
        | assumption | apply OutGrows.next | apply setF_grows)
    | simp only [grows_mk_iff] | split | intro _

theorem ringEnable_grows (reply : Bool) (v : Word) {s : State} (h : Grows a s) : Grows a (ringEnable reply v s) := by
  unfold ringEnable; try dsimp only
  repeat' first | with_reducible (first | assumption | apply setF_grows) | simp only [grows_mk_iff] | split | intro _

theorem execRingEnableWrite_grows (reply : Bool) (v : Word) {s : State} (h : Grows a s) :
    OutGrows a (execRingEnableWrite reply v s) := by
  unfold execRingEnableWrite; try dsimp only
  repeat' first
    | with_reducible (first
        | assumption | apply OutGrows.next | apply ringEnable_grows)
    | simp only [grows_mk_iff] | split | intro _

theorem cp1Complete_grows {s : State} (h : Grows a s) : Grows a (cp1Complete s) := by
  unfold cp1Complete; try dsimp only
  repeat' first
    | with_reducible (first
        | assumption | apply tally_grows | apply finish_grows | apply fromPort_grows)
    | simp only [grows_mk_iff] | split | intro _

theorem cp1Push_grows (v : Word) {s : State} (h : Grows a s) : Grows a (cp1Push v s) := by
  unfold cp1Push; try dsimp only
  repeat' first
    | with_reducible (first
        | assumption | apply tally_grows | apply cp1Complete_grows)
    | simp only [grows_mk_iff] | split | intro _

theorem execCp1CmdWrite_grows (v : Word) {s : State} (h : Grows a s) : OutGrows a (execCp1CmdWrite v s) := by
  unfold execCp1CmdWrite; try dsimp only
  repeat' first
    | with_reducible (first
        | assumption | apply OutGrows.next | apply cp1Push_grows)
    | simp only [grows_mk_iff] | split | intro _

theorem execCp1RplRead_grows {s : State} (h : Grows a s) : OutGrows a (execCp1RplRead s) := by
  unfold execCp1RplRead; try dsimp only
  repeat' first
    | with_reducible (first
        | assumption | apply OutGrows.next | apply send_grows | apply tally_grows)
    | simp only [grows_mk_iff] | split | intro _

theorem cp1Flush_grows {s : State} (h : Grows a s) : Grows a (cp1Flush s) := by
  unfold cp1Flush; try dsimp only
  repeat' first | with_reducible assumption | simp only [grows_mk_iff] | split | intro _

theorem execCp1Flush_grows {s : State} (h : Grows a s) : OutGrows a (execCp1Flush s) := by
  unfold execCp1Flush; try dsimp only
  repeat' first
    | with_reducible (first
        | assumption | apply OutGrows.next | apply cp1Flush_grows)
    | simp only [grows_mk_iff] | split | intro _

theorem execCp1PartialTimeout_grows {s : State} (h : Grows a s) : OutGrows a (execCp1PartialTimeout s) := by
  unfold execCp1PartialTimeout; try dsimp only
  repeat' first
    | with_reducible (first
        | assumption | apply OutGrows.next | apply tally_grows)
    | simp only [grows_mk_iff] | split | intro _

theorem execQspiStatus_grows {s : State} (h : Grows a s) : OutGrows a (execQspiStatus s) := by
  unfold execQspiStatus; try dsimp only
  repeat' first
    | with_reducible (first
        | assumption | apply OutGrows.next | apply send_grows)
    | simp only [grows_mk_iff] | split | intro _

theorem dupAdd_grows (src : Nat) (tag : Nat) (scope : Nat) {s : State} (h : Grows a s) :
    Grows a (dupAdd src tag scope s) := by
  unfold dupAdd; try dsimp only
  repeat' first | with_reducible assumption | simp only [grows_mk_iff] | split | intro _

theorem takeCommand_grows (p : Nat) (m : Msg) {s : State} (h : Grows a s) : Grows a (takeCommand p m s) := by
  unfold takeCommand; try dsimp only
  repeat' first
    | with_reducible (first
        | assumption | apply proto_grows | apply incF_grows | apply occur_grows | apply sendTo_grows
        | apply sendMsg_grows | apply putReply_grows | apply hold_grows | apply restartWatchdog_grows
        | apply dupAdd_grows | apply noteSeen_grows)
    | simp only [grows_mk_iff] | split | intro _

theorem execCommand_grows (p : Nat) (m : Msg) {s : State} (h : Grows a s) : OutGrows a (execCommand p m s) := by
  unfold execCommand; try dsimp only
  repeat' first
    | with_reducible (first
        | assumption | apply OutGrows.next | apply msgIn_grows | apply takeCommand_grows)
    | simp only [grows_mk_iff] | split | intro _

theorem takeReply_grows (m : Msg) {s : State} (h : Grows a s) : Grows a (takeReply m s) := by
  unfold takeReply; try dsimp only
  repeat' first
    | with_reducible (first
        | assumption | apply sendInterim_grows | apply unreserve_grows | apply putReply_grows | apply aggNote_grows)
    | simp only [grows_mk_iff] | split | intro _

theorem execReply_grows (p : Nat) (m : Msg) {s : State} (h : Grows a s) : OutGrows a (execReply p m s) := by
  unfold execReply; try dsimp only
  repeat' first
    | with_reducible (first
        | assumption | apply OutGrows.next | apply msgIn_grows | apply takeReply_grows)
    | simp only [grows_mk_iff] | split | intro _

theorem execInterimReplyTimer_grows (k : Pkt) {s : State} (h : Grows a s) :
    OutGrows a (execInterimReplyTimer k s) := by
  unfold execInterimReplyTimer; try dsimp only
  repeat' first
    | with_reducible (first
        | assumption | apply OutGrows.next | apply sendInterim_grows)
    | simp only [grows_mk_iff] | split | intro _

theorem execForwardResendTimeout_grows (tag : Nat) {s : State} (h : Grows a s) :
    OutGrows a (execForwardResendTimeout tag s) := by
  unfold execForwardResendTimeout; try dsimp only
  repeat' first
    | with_reducible (first
        | assumption | apply OutGrows.next | apply tally_grows | apply sendTo_grows | apply finish_grows)
    | simp only [grows_mk_iff] | split | intro _

theorem execQuietForget_grows (tag : Nat) {s : State} (h : Grows a s) : OutGrows a (execQuietForget tag s) := by
  unfold execQuietForget; try dsimp only
  repeat' first
    | with_reducible (first
        | assumption | apply OutGrows.next | apply unreserve_grows)
    | simp only [grows_mk_iff] | split | intro _

theorem execAggregateCollectionEnd_grows (tag : Nat) {s : State} (h : Grows a s) :
    OutGrows a (execAggregateCollectionEnd tag s) := by
  unfold execAggregateCollectionEnd; try dsimp only
  repeat' first
    | with_reducible (first
        | assumption | apply OutGrows.next | apply unreserve_grows | apply putReply_grows)
    | simp only [grows_mk_iff] | split | intro _

theorem execEnvelopeVerified_grows (k : Pkt) (f : Fetch) {s : State} (h : Grows a s) :
    OutGrows a (execEnvelopeVerified k f s) := by
  unfold execEnvelopeVerified; try dsimp only
  repeat' first
    | with_reducible (first
        | assumption | apply OutGrows.next | apply envelope_grows | apply finish_grows
        | refine fst_grows ?_ (by with_reducible assumption))
    | simp only [grows_mk_iff] | split | intro _

theorem execEnvelopeThrottleExpiry_grows (r : Req) {s : State} (h : Grows a s) :
    OutGrows a (execEnvelopeThrottleExpiry r s) := by
  unfold execEnvelopeThrottleExpiry; try dsimp only
  repeat' first
    | with_reducible (first
        | assumption | apply OutGrows.next | apply setB_grows)
    | simp only [grows_mk_iff] | split | intro _

end Sys2Proof.Machine
end

