-- ==== Sys2Proof/Laws/GrowsPixels.lean ====
section
/-! SUPPORT. What no effect undoes, for surfaces, tone, cells and register access. -/

namespace Sys2Proof.Machine

open State

variable {a : State}

/-! ### Surfaces -/

theorem heapTake_grows (n : Nat) {s : State} (h : Grows a s) : OptGrows₂ a (heapTake n s) := by
  unfold heapTake; dsimp only; split
  · exact .none
  · exact .some (grows_free h)

theorem heapTakeAll_grows (x0 : List Nat) {x1 : State} (h : Grows a x1) : OptGrows₂ a (heapTakeAll x0 x1) := by
  induction x0 generalizing x1 with
  | nil => exact .some h
  | cons n l ih =>
    unfold heapTakeAll
    split
    · exact .none
    · next e =>
      have h2 := OptGrows₂.of (heapTake_grows _ h) e
      split
      · exact .none
      · next e2 => exact .some (OptGrows₂.of (ih h2) e2)

theorem heapGive_grows (d : List Byte) {s : State} (h : Grows a s) : Grows a (heapGive d s) := by
  unfold heapGive; try dsimp only
  repeat' first | with_reducible assumption | simp only [grows_mk_iff] | split | intro _

theorem surfUpd_grows (i : Nat) (g : Surface → Surface) {s : State} (h : Grows a s) : Grows a (surfUpd i g s) := by
  unfold surfUpd; try dsimp only
  repeat' first | with_reducible assumption | simp only [grows_mk_iff] | split | intro _

theorem surfCreate_grows (p : List Byte) {s : State} (h : Grows a s) : ResGrows a (surfCreate p s) := by
  unfold surfCreate
  extract_lets c
  split
  · exact .err
  split
  · exact .err
  split
  · exact .err
  · next e => exact .ok (grows_mk (OptGrows₂.of (heapTakeAll_grows _ (takeFree_grows h)) e))

theorem execCreateSurface_grows (k : Pkt) {s : State} (h : Grows a s) : OutGrows a (execCreateSurface k s) := by
  unfold execCreateSurface; try dsimp only
  repeat' first
    | with_reducible (first
        | assumption | apply OutGrows.next | apply ResGrows.ok | apply ResGrows.err | apply ResGrows.later
        | apply plain_grows | apply surfCreate_grows)
    | simp only [grows_mk_iff] | split | intro _

theorem execGetSurface_grows (k : Pkt) {s : State} (h : Grows a s) : OutGrows a (execGetSurface k s) := by
  unfold execGetSurface; try dsimp only
  repeat' first
    | with_reducible (first
        | assumption | apply OutGrows.next | apply ResGrows.ok | apply ResGrows.err | apply ResGrows.later
        | apply plain_grows)
    | simp only [grows_mk_iff] | split | intro _

theorem execSetSurface_grows (k : Pkt) {s : State} (h : Grows a s) : OutGrows a (execSetSurface k s) := by
  unfold execSetSurface; try dsimp only
  repeat' first
    | with_reducible (first
        | assumption | apply OutGrows.next | apply ResGrows.ok | apply ResGrows.err | apply ResGrows.later
        | apply plain_grows | apply surfUpd_grows)
    | simp only [grows_mk_iff] | split | intro _

theorem fence_grows (i : Nat) (gen : Nat) (reason : Nat) {s : State} (h : Grows a s) :
    Grows a (fence i gen reason s) := by
  unfold fence; try dsimp only
  repeat' first
    | with_reducible (first
        | assumption | apply surfUpd_grows | apply send_grows | apply raise_grows | apply heapGive_grows)
    | simp only [grows_mk_iff] | split | intro _

theorem release_grows (i : Nat) (gen : Nat) (reason : Nat) {s : State} (h : Grows a s) :
    Grows a (release i gen reason s) := by
  unfold release; try dsimp only
  repeat' first
    | with_reducible (first
        | assumption | apply fence_grows | apply surfUpd_grows)
    | simp only [grows_mk_iff] | split | intro _

theorem releaseSweep_grows {s : State} (h : Grows a s) : Grows a (releaseSweep s) := by
  unfold releaseSweep; try dsimp only
  repeat' first
    | with_reducible (first
        | assumption | apply foldl_grows | apply release_grows)
    | simp only [grows_mk_iff] | split | intro _

theorem latchGen_grows (i : Nat) (gen : Nat) {s : State} (h : Grows a s) : Grows a (latchGen i gen s) := by
  unfold latchGen; try dsimp only
  repeat' first
    | with_reducible (first
        | assumption | apply foldl_grows | apply surfUpd_grows | apply fence_grows)
    | simp only [grows_mk_iff] | split | intro _

theorem planePut_grows (base : Nat) (pitch : Nat) (x : Nat) (y : Nat) (w : List Byte) {s : State} (h : Grows a s) :
    Grows a (planePut base pitch x y w s) := by
  unfold planePut; try dsimp only
  repeat' first
    | with_reducible (first
        | assumption | apply memWrite_grows)
    | simp only [grows_mk_iff] | split | intro _

theorem publishGen_grows (i : Nat) (tCap : Option Nat) {s : State} (h : Grows a s) :
    Grows a (publishGen i tCap s) := by
  unfold publishGen; try dsimp only
  repeat' first
    | with_reducible (first
        | assumption | apply surfUpd_grows)
    | simp only [grows_mk_iff] | split | intro _

theorem execPublish_grows (k : Pkt) {s : State} (h : Grows a s) : OutGrows a (execPublish k s) := by
  unfold execPublish; try dsimp only
  repeat' first
    | with_reducible (first
        | assumption | apply OutGrows.next | apply ResGrows.ok | apply ResGrows.err | apply ResGrows.later
        | apply plain_grows | apply publishGen_grows)
    | simp only [grows_mk_iff] | split | intro _

theorem execDestroySurface_grows (k : Pkt) {s : State} (h : Grows a s) : OutGrows a (execDestroySurface k s) := by
  unfold execDestroySurface; try dsimp only
  repeat' first
    | with_reducible (first
        | assumption | apply OutGrows.next | apply ResGrows.ok | apply ResGrows.err | apply ResGrows.later
        | apply plain_grows | apply heapGive_grows | apply surfUpd_grows)
    | simp only [grows_mk_iff] | split | intro _

theorem startUpload_grows (x0 : Nat) {x1 : State} (h : Grows a x1) : Grows a (startUpload x0 x1) := by
  induction x0 generalizing x1 with
  | zero => exact h
  | succ n ih =>
    unfold startUpload; dsimp only
    repeat' first | with_reducible (first | assumption | apply ih | apply finish_grows) | simp only [grows_mk_iff] |
      split

theorem execUpload_grows (k : Pkt) {s : State} (h : Grows a s) : OutGrows a (execUpload k s) := by
  unfold execUpload; try dsimp only
  repeat' first
    | with_reducible (first
        | assumption | apply OutGrows.next | apply ResGrows.ok | apply ResGrows.err | apply ResGrows.later
        | apply plain_grows | apply startUpload_grows)
    | simp only [grows_mk_iff] | split | intro _

theorem uploadTiled_grows (p : List Byte) (d : List Byte) (data : List Byte) {s : State} (h : Grows a s) :
    Grows a (uploadTiled p d data s) := by
  unfold uploadTiled; try dsimp only
  repeat' first
    | with_reducible (first
        | assumption | apply foldl_grows | apply planePut_grows)
    | simp only [grows_mk_iff] | split | intro _

theorem uploadBlock_grows (p : List Byte) (d : List Byte) (data : List Byte) (bx : Nat) (by_ : Nat) {s : State} (h :
    Grows a s) : Grows a (uploadBlock p d data bx by_ s) := by
  unfold uploadBlock
  exact grows_free (memWrite_grows (memWrite_grows h _ _) _ _)

theorem uploadMbc_grows (p : List Byte) (d : List Byte) (data : List Byte) {s : State} (h : Grows a s) :
    Grows a (uploadMbc p d data s) := by
  unfold uploadMbc; try dsimp only
  repeat' first
    | with_reducible (first
        | assumption | apply foldl_grows | apply uploadBlock_grows)
    | simp only [grows_mk_iff] | split | intro _

theorem uploadWrite_grows (u : Upload) (data : List Byte) {s : State} (h : Grows a s) :
    Grows a (uploadWrite u data s) := by
  unfold uploadWrite; try dsimp only
  repeat' first
    | with_reducible (first
        | assumption | apply uploadMbc_grows | apply uploadTiled_grows | apply tally_grows)
    | simp only [grows_mk_iff] | split | intro _

theorem uploadPop_grows {s : State} (h : Grows a s) : Grows a (uploadPop s) := by
  unfold uploadPop; try dsimp only
  repeat' first
    | with_reducible (first
        | assumption | apply startUpload_grows)
    | simp only [grows_mk_iff] | split | intro _

theorem uploadDone_grows (data : List Byte) {s : State} (h : Grows a s) : Grows a (uploadDone data s) := by
  unfold uploadDone; try dsimp only
  repeat' first
    | with_reducible (first
        | assumption | apply uploadWrite_grows | apply publishGen_grows | apply uploadPop_grows | apply finish_grows)
    | simp only [grows_mk_iff] | split | intro _

theorem execUploadComplete_grows (data : List Byte) {s : State} (h : Grows a s) :
    OutGrows a (execUploadComplete data s) := by
  unfold execUploadComplete; try dsimp only
  repeat' first
    | with_reducible (first
        | assumption | apply OutGrows.next | apply uploadDone_grows)
    | simp only [grows_mk_iff] | split | intro _

theorem execUploadDmaError_grows (data : List Byte) {s : State} (h : Grows a s) :
    OutGrows a (execUploadDmaError data s) := by
  unfold execUploadDmaError; try dsimp only
  repeat' first
    | with_reducible (first
        | assumption | apply OutGrows.next | apply uploadPop_grows | apply finish_grows | apply uploadWrite_grows)
    | simp only [grows_mk_iff] | split | intro _

theorem execApertureAccess_grows (off : Nat) (n : Nat) (w : Option (List Byte)) {s : State} (h : Grows a s) :
    OutGrows a (execApertureAccess off n w s) := by
  unfold execApertureAccess; try dsimp only
  repeat' first
    | with_reducible (first
        | assumption | apply OutGrows.next | apply foldl_grows | apply send_grows | apply tally_grows
        | apply memPut_grows)
    | simp only [grows_mk_iff] | split | intro _

/-! ### Tone -/

theorem tnmShadow_grows (f : TShadow → TShadow) {s : State} (h : Grows a s) : Grows a (tnmShadow f s) := by
  unfold tnmShadow; try dsimp only
  repeat' first | with_reducible (first | assumption | apply setF_grows) | simp only [grows_mk_iff] | split | intro _

theorem execSetProfile_grows (k : Pkt) {s : State} (h : Grows a s) : OutGrows a (execSetProfile k s) := by
  unfold execSetProfile; try dsimp only
  repeat' first
    | with_reducible (first
        | assumption | apply OutGrows.next | apply ResGrows.ok | apply ResGrows.err | apply ResGrows.later
        | apply plain_grows | apply tnmShadow_grows)
    | simp only [grows_mk_iff] | split | intro _

theorem execSetTone_grows (k : Pkt) {s : State} (h : Grows a s) : OutGrows a (execSetTone k s) := by
  unfold execSetTone; try dsimp only
  repeat' first
    | with_reducible (first
        | assumption | apply OutGrows.next | apply ResGrows.ok | apply ResGrows.err | apply ResGrows.later
        | apply plain_grows | apply tnmShadow_grows)
    | simp only [grows_mk_iff] | split | intro _

theorem execSetAmbientCurve_grows (k : Pkt) {s : State} (h : Grows a s) : OutGrows a (execSetAmbientCurve k s) := by
  unfold execSetAmbientCurve; try dsimp only
  repeat' first
    | with_reducible (first
        | assumption | apply OutGrows.next | apply ResGrows.ok | apply ResGrows.err | apply ResGrows.later
        | apply plain_grows | apply tnmShadow_grows)
    | simp only [grows_mk_iff] | split | intro _

theorem execCommitColour_grows (k : Pkt) {s : State} (h : Grows a s) : OutGrows a (execCommitColour k s) := by
  unfold execCommitColour; try dsimp only
  repeat' first
    | with_reducible (first
        | assumption | apply OutGrows.next | apply ResGrows.ok | apply ResGrows.err | apply ResGrows.later
        | apply plain_grows)
    | simp only [grows_mk_iff] | split | intro _

theorem ambUpdate_grows {s : State} (h : Grows a s) : Grows a (ambUpdate s) := by
  unfold ambUpdate; try dsimp only
  repeat' first
    | with_reducible (first
        | assumption | apply setSat_grows | apply setF_grows | apply tally_grows)
    | simp only [grows_mk_iff] | split | intro _

theorem budgetUpdate_grows {s : State} (h : Grows a s) : Grows a (budgetUpdate s) := by
  unfold budgetUpdate; try dsimp only
  repeat' first
    | with_reducible (first
        | assumption | apply setF_grows | apply setSat_grows)
    | simp only [grows_mk_iff] | split | intro _

theorem kAmbNow_grows {s : State} (h : Grows a s) : Grows a (kAmbNow s) := by
  unfold kAmbNow; try dsimp only
  repeat' first | with_reducible (first | assumption | apply setF_grows) | simp only [grows_mk_iff] | split | intro _

theorem kUpdate_grows (n : Nat) (immediate : Bool) {s : State} (h : Grows a s) : Grows a (kUpdate n immediate s) := by
  unfold kUpdate; try dsimp only
  repeat' first
    | with_reducible (first
        | assumption | apply kAmbNow_grows | apply ambUpdate_grows | apply budgetUpdate_grows | apply setF_grows
        | apply raise_grows)
    | simp only [grows_mk_iff] | split | intro _

theorem colourCommits_grows (n : Nat) {s : State} (h : Grows a s) : Grows a (colourCommits n s).1 := by
  unfold colourCommits; try dsimp only
  repeat' first
    | with_reducible (first
        | assumption | apply foldl_grows | apply setF_grows)
    | simp only [grows_mk_iff] | split | intro _

theorem ambientSet_grows (l : List Byte) {t : State} (h : Grows a t) : ExGrows a (ambientSet l t) := by
  unfold ambientSet; try dsimp only
  repeat' first
    | with_reducible (first
        | assumption | apply ExGrows.ok | apply ExGrows.error | apply setItem_grows)
    | simp only [grows_mk_iff] | split | intro _

theorem execSetAmbientSensors_grows (k : Pkt) {s : State} (h : Grows a s) :
    OutGrows a (execSetAmbientSensors k s) := by
  unfold execSetAmbientSensors; try dsimp only
  repeat' first
    | with_reducible (first
        | assumption | apply OutGrows.next | apply ResGrows.ok | apply ResGrows.err | apply ResGrows.later
        | apply plain_grows | apply resOf_grows | apply ambientSet_grows
        | refine ExGrows.of ?_ (by with_reducible assumption))
    | simp only [grows_mk_iff] | split | intro _

theorem execAmbientSample_grows (reads : List (Option (List Byte))) {s : State} (h : Grows a s) :
    OutGrows a (execAmbientSample reads s) := by
  unfold execAmbientSample; try dsimp only
  repeat' first
    | with_reducible (first
        | assumption | apply OutGrows.next | apply setF_grows | apply setB_grows | apply setSat_grows)
    | simp only [grows_mk_iff] | split | intro _

theorem toSender_grows (mtype : Nat) (payload : List Byte) {s : State} (h : Grows a s) :
    Grows a (toSender mtype payload s) := by
  unfold toSender; try dsimp only
  repeat' first
    | with_reducible (first
        | assumption | apply sendMsg_grows)
    | simp only [grows_mk_iff] | split | intro _

theorem execAmbientReportTimer_grows {s : State} (h : Grows a s) : OutGrows a (execAmbientReportTimer s) := by
  unfold execAmbientReportTimer; try dsimp only
  repeat' first
    | with_reducible (first
        | assumption | apply OutGrows.next | apply toSender_grows)
    | simp only [grows_mk_iff] | split | intro _

theorem execAmbientReport_grows (p : Nat) (m : Msg) {s : State} (h : Grows a s) :
    OutGrows a (execAmbientReport p m s) := by
  unfold execAmbientReport; try dsimp only
  repeat' first
    | with_reducible (first
        | assumption | apply OutGrows.next | apply msgIn_grows)
    | simp only [grows_mk_iff] | split | intro _

theorem execToneState_grows (p : Nat) (m : Msg) {s : State} (h : Grows a s) : OutGrows a (execToneState p m s) := by
  unfold execToneState; try dsimp only
  repeat' first
    | with_reducible (first
        | assumption | apply OutGrows.next | apply msgIn_grows)
    | simp only [grows_mk_iff] | split | intro _

theorem execToneStateTimer_grows {s : State} (h : Grows a s) : OutGrows a (execToneStateTimer s) := by
  unfold execToneStateTimer; try dsimp only
  repeat' first
    | with_reducible (first
        | assumption | apply OutGrows.next | apply foldl_grows | apply sendTo_grows)
    | simp only [grows_mk_iff] | split | intro _

theorem wallStore_grows (w : List Byte) {s : State} (h : Grows a s) : Grows a (wallStore w s) := by
  unfold wallStore; try dsimp only
  repeat' first | with_reducible (first | assumption | apply setF_grows) | simp only [grows_mk_iff] | split | intro _

/-! ### Feeds -/

theorem thmLevel_grows (f : Fld) (src : Nat) (on : Bool) {s : State} (h : Grows a s) :
    Grows a (thmLevel f src on s) := by
  unfold thmLevel; try dsimp only
  repeat' first
    | with_reducible (first
        | assumption | apply levelRise_grows | apply setLevel_grows | apply levelFall_grows)
    | simp only [grows_mk_iff] | split | intro _

theorem feedCheck_grows {s : State} (h : Grows a s) : Grows a (feedCheck s) := by
  unfold feedCheck; try dsimp only
  repeat' first
    | with_reducible (first
        | assumption | apply thmLevel_grows)
    | simp only [grows_mk_iff] | split | intro _

theorem slotBudgetClear_grows (i : Nat) {s : State} (h : Grows a s) : Grows a (slotBudgetClear i s) := by
  unfold slotBudgetClear; try dsimp only
  repeat' first
    | with_reducible (first
        | assumption | apply foldl_grows | apply setF_grows)
    | simp only [grows_mk_iff] | split | intro _

/-! ### Cells -/

theorem qPut_grows (sl : Nat) (c : Nat) (d : QDesc) {s : State} (h : Grows a s) : Grows a (qPut sl c d s) := by
  unfold qPut; try dsimp only
  repeat' first | with_reducible assumption | simp only [grows_mk_iff] | split | intro _

theorem poolCount_grows {s : State} (h : Grows a s) : Grows a (poolCount s) := by
  unfold poolCount; try dsimp only
  repeat' first | with_reducible (first | assumption | apply setF_grows) | simp only [grows_mk_iff] | split | intro _

theorem slotEmpty_grows (i : Nat) {s : State} (h : Grows a s) : Grows a (slotEmpty i s) := by
  unfold slotEmpty; try dsimp only
  repeat' first
    | with_reducible (first
        | assumption | apply poolCount_grows)
    | simp only [grows_mk_iff] | split | intro _

theorem execReadQueue_grows (k : Pkt) {s : State} (h : Grows a s) : OutGrows a (execReadQueue k s) := by
  unfold execReadQueue; try dsimp only
  repeat' first
    | with_reducible (first
        | assumption | apply OutGrows.next | apply ResGrows.ok | apply ResGrows.err | apply ResGrows.later
        | apply plain_grows)
    | simp only [grows_mk_iff] | split | intro _

theorem queueVersion_grows (sl : Nat) (c : Nat) (n : Nat) (refresh : Bool) (hash : Nat) (payload : List Byte) {s :
    State} (h : Grows a s) : Grows a (queueVersion sl c n refresh hash payload s) := by
  unfold queueVersion; try dsimp only
  repeat' first
    | with_reducible (first
        | assumption | apply foldl_grows | apply addF_grows | apply tally_grows | apply qPut_grows
        | apply poolCount_grows | apply takeFree_grows | apply incF_grows)
    | simp only [grows_mk_iff] | split | intro _

theorem hashPosition_grows (n : Nat) (sl : Nat) (c : Nat) (e : List Byte) {s : State} (h : Grows a s) :
    Grows a (hashPosition n sl c e s) := by
  unfold hashPosition; try dsimp only
  repeat' first
    | with_reducible (first
        | assumption | apply queueVersion_grows)
    | simp only [grows_mk_iff] | split | intro _

theorem hashAfter_grows (n : Nat) (region : Nat) {s : State} (h : Grows a s) : Grows a (hashAfter n region s) := by
  unfold hashAfter; try dsimp only
  repeat' first
    | with_reducible (first
        | assumption | apply foldl_grows | apply hashPosition_grows)
    | simp only [grows_mk_iff] | split | intro _

theorem slotUpd_grows (i : Nat) (f : Slot → Slot) {s : State} (h : Grows a s) : Grows a (slotUpd i f s) := by
  unfold slotUpd; try dsimp only
  repeat' first | with_reducible assumption | simp only [grows_mk_iff] | split | intro _

theorem sendWall_grows (i : Nat) {s : State} (h : Grows a s) : Grows a (sendWall i s) := by
  unfold sendWall; try dsimp only
  repeat' first
    | with_reducible (first
        | assumption | apply sendMsg_grows)
    | simp only [grows_mk_iff] | split | intro _

theorem admitSlot_grows (i : Nat) (nflags : Nat) {s : State} (h : Grows a s) : Grows a (admitSlot i nflags s) := by
  unfold admitSlot; try dsimp only
  repeat' first
    | with_reducible (first
        | assumption | apply setF_grows | apply slotReadmit_grows | apply sendWall_grows)
    | simp only [grows_mk_iff] | split | intro _

theorem wallSet_grows (l : List Byte) {t : State} (h : Grows a t) : ExGrows a (wallSet l t) := by
  unfold wallSet; try dsimp only
  repeat' first
    | with_reducible (first
        | assumption | apply ExGrows.ok | apply ExGrows.error | apply foldl_grows | apply setItem_grows
        | apply wallStore_grows | apply slotFull_grows | apply sendWall_grows | apply admitSlot_grows)
    | simp only [grows_mk_iff] | split | intro _

theorem execSetWall_grows (k : Pkt) {s : State} (h : Grows a s) : OutGrows a (execSetWall k s) := by
  unfold execSetWall; try dsimp only
  repeat' first
    | with_reducible (first
        | assumption | apply OutGrows.next | apply ResGrows.ok | apply ResGrows.err | apply ResGrows.later
        | apply plain_grows | apply resOf_grows | apply wallSet_grows
        | refine ExGrows.of ?_ (by with_reducible assumption))
    | simp only [grows_mk_iff] | split | intro _

theorem enterSlot_grows (i : Nat) (e : List Byte) {s : State} (h : Grows a s) : Grows a (enterSlot i e s) := by
  unfold enterSlot; try dsimp only
  repeat' first
    | with_reducible (first
        | assumption | apply foldl_grows | apply setF_grows | apply slotBudgetClear_grows | apply slotUpd_grows
        | apply slotFull_grows | apply slotEmpty_grows | apply regPut_grows)
    | simp only [grows_mk_iff] | split | intro _

theorem removeSlot_grows (i : Nat) {s : State} (h : Grows a s) : Grows a (removeSlot i s) := by
  unfold removeSlot; try dsimp only
  repeat' first
    | with_reducible (first
        | assumption | apply slotBudgetClear_grows | apply slotEmpty_grows | apply setF_grows)
    | simp only [grows_mk_iff] | split | intro _

theorem countUnreach_grows {s : State} (h : Grows a s) : Grows a (countUnreach s) := by
  unfold countUnreach; try dsimp only
  repeat' first | with_reducible (first | assumption | apply setF_grows) | simp only [grows_mk_iff] | split | intro _

theorem applyMap_grows (m : List Byte) {s : State} (h : Grows a s) : Grows a (applyMap m s) := by
  unfold applyMap; try dsimp only
  repeat' first
    | with_reducible (first
        | assumption | apply foldl_grows | apply removeSlot_grows | apply enterSlot_grows | apply slotFull_grows
        | apply setF_grows | apply addF_grows | apply setItem_grows | apply feedCheck_grows
        | apply countUnreach_grows)
    | simp only [grows_mk_iff] | split | intro _

theorem execLoadMap_grows (k : Pkt) (f : Fetch) {s : State} (h : Grows a s) : OutGrows a (execLoadMap k f s) := by
  unfold execLoadMap; try dsimp only
  repeat' first
    | with_reducible (first
        | assumption | apply OutGrows.next | apply ResGrows.ok | apply ResGrows.err | apply ResGrows.later
        | apply command_grows)
    | simp only [grows_mk_iff] | split | intro _

theorem execGetMap_grows (k : Pkt) (f : Fetch) {s : State} (h : Grows a s) : OutGrows a (execGetMap k f s) := by
  unfold execGetMap; try dsimp only
  repeat' first
    | with_reducible (first
        | assumption | apply OutGrows.next | apply ResGrows.ok | apply ResGrows.err | apply ResGrows.later
        | apply command_grows | apply refWrite_grows | refine ExGrows.of ?_ (by with_reducible assumption))
    | simp only [grows_mk_iff] | split | intro _

theorem slotReply_grows (i : Nat) (status : Nat) {s : State} (h : Grows a s) : Grows a (slotReply i status s) := by
  unfold slotReply; try dsimp only
  repeat' first
    | with_reducible (first
        | assumption | apply setF_grows | apply slotFull_grows | apply slotUpd_grows)
    | simp only [grows_mk_iff] | split | intro _

theorem execSlotReply_grows (p : Nat) (m : Msg) {s : State} (h : Grows a s) : OutGrows a (execSlotReply p m s) := by
  unfold execSlotReply; try dsimp only
  repeat' first
    | with_reducible (first
        | assumption | apply OutGrows.next | apply msgIn_grows | apply slotReply_grows)
    | simp only [grows_mk_iff] | split | intro _

theorem execSlotNoticeRetry_grows (i : Nat) {s : State} (h : Grows a s) : OutGrows a (execSlotNoticeRetry i s) := by
  unfold execSlotNoticeRetry; try dsimp only
  repeat' first
    | with_reducible (first
        | assumption | apply OutGrows.next | apply sendSlotNotice_grows | apply slotUpd_grows | apply setF_grows)
    | simp only [grows_mk_iff] | split | intro _

theorem deliveryReport_grows (i : Nat) (l : List Byte) {s : State} (h : Grows a s) :
    Grows a (deliveryReport i l s) := by
  unfold deliveryReport; try dsimp only
  repeat' first
    | with_reducible (first
        | assumption | apply setF_grows | apply slotUpd_grows | apply slotFull_grows)
    | simp only [grows_mk_iff] | split | intro _

theorem execDeliveryReport_grows (p : Nat) (m : Msg) {s : State} (h : Grows a s) :
    OutGrows a (execDeliveryReport p m s) := by
  unfold execDeliveryReport; try dsimp only
  repeat' first
    | with_reducible (first
        | assumption | apply OutGrows.next | apply msgIn_grows | apply deliveryReport_grows)
    | simp only [grows_mk_iff] | split | intro _

theorem forceFull_grows {s : State} (h : Grows a s) : Grows a (forceFull s) := by
  unfold forceFull; try dsimp only
  repeat' first
    | with_reducible (first
        | assumption | apply foldl_grows | apply slotFull_grows)
    | simp only [grows_mk_iff] | split | intro _

theorem execForceFull_grows {s : State} (h : Grows a s) : OutGrows a (execForceFull s) := by
  unfold execForceFull; try dsimp only
  repeat' first
    | with_reducible (first
        | assumption | apply OutGrows.next | apply forceFull_grows)
    | simp only [grows_mk_iff] | split | intro _

theorem launch_grows (p : Nat) (c : LaunchCand) {s : State} (h : Grows a s) : Grows a (launch p c s) := by
  unfold launch; try dsimp only
  repeat' first
    | with_reducible (first
        | assumption | apply qPut_grows | apply incF_grows | apply tally_grows | apply sendMsg_grows)
    | simp only [grows_mk_iff] | split | intro _

theorem execCellLaunch_grows (p : Nat) {s : State} (h : Grows a s) : OutGrows a (execCellLaunch p s) := by
  unfold execCellLaunch; try dsimp only
  repeat' first
    | with_reducible (first
        | assumption | apply OutGrows.next | apply launch_grows)
    | simp only [grows_mk_iff] | split | intro _

theorem freeSent_grows (n : Nat) {s : State} (h : Grows a s) : Grows a (freeSent n s) := by
  unfold freeSent; try dsimp only
  repeat' first
    | with_reducible (first
        | assumption | apply poolCount_grows)
    | simp only [grows_mk_iff] | split | intro _

theorem moveRoute_grows (i : Nat) (p : Nat) (hops : Nat) {s : State} (h : Grows a s) :
    Grows a (moveRoute i p hops s) := by
  unfold moveRoute; try dsimp only
  repeat' first
    | with_reducible (first
        | assumption | apply setF_grows | apply poolCount_grows | apply addF_grows)
    | simp only [grows_mk_iff] | split | intro _

theorem slotUnreachable_grows (i : Nat) {s : State} (h : Grows a s) : Grows a (slotUnreachable i s) := by
  unfold slotUnreachable; try dsimp only
  repeat' first
    | with_reducible (first
        | assumption | apply setF_grows | apply slotFull_grows | apply slotEmpty_grows | apply slotUpd_grows)
    | simp only [grows_mk_iff] | split | intro _

theorem setFl_grows (code : Nat) {s : State} (h : Grows a s) : Grows a (setFl code s) := by
  unfold setFl; try dsimp only
  repeat' first
    | with_reducible (first
        | assumption | apply foldl_grows | apply setLevel_grows | apply levelRise_grows | apply levelFall_grows
        | apply setF_grows)
    | simp only [grows_mk_iff] | split | intro _

theorem adoptGeometry_grows {s : State} (h : Grows a s) : Grows a (adoptGeometry s) := by
  unfold adoptGeometry; try dsimp only
  repeat' first
    | with_reducible (first
        | assumption | apply setFl_grows | apply setF_grows)
    | simp only [grows_mk_iff] | split | intro _

theorem acceptCell_grows (c : Nat) (m : Nat) (hash : Nat) (payload : List Byte) {s : State} (h : Grows a s) :
    Grows a (acceptCell c m hash payload s) := by
  unfold acceptCell; try dsimp only
  repeat' first
    | with_reducible (first
        | assumption | apply raise_grows | apply occur_grows | apply tally_grows)
    | simp only [grows_mk_iff] | split | intro _

theorem cellIn_grows (payload : List Byte) {s : State} (h : Grows a s) : Grows a (cellIn payload s) := by
  unfold cellIn; try dsimp only
  repeat' first
    | with_reducible (first
        | assumption | apply tally_grows | apply acceptCell_grows)
    | simp only [grows_mk_iff] | split | intro _

theorem execCellMessage_grows (p : Nat) (m : Msg) {s : State} (h : Grows a s) :
    OutGrows a (execCellMessage p m s) := by
  unfold execCellMessage; try dsimp only
  repeat' first
    | with_reducible (first
        | assumption | apply OutGrows.next | apply msgIn_grows | apply cellIn_grows)
    | simp only [grows_mk_iff] | split | intro _

theorem backupRelease_grows (old : Option Nat) (new : Nat) {s : State} (h : Grows a s) :
    Grows a (backupRelease old new s) := by
  unfold backupRelease; try dsimp only
  repeat' first
    | with_reducible (first
        | assumption | apply sendMsg_grows)
    | simp only [grows_mk_iff] | split | intro _

theorem execSlotNotice_grows (p : Nat) (m : Msg) {s : State} (h : Grows a s) : OutGrows a (execSlotNotice p m s) := by
  unfold execSlotNotice; try dsimp only
  repeat' first
    | with_reducible (first
        | assumption | apply OutGrows.next | apply msgIn_grows | apply setF_grows | apply sendMsg_grows
        | apply backupRelease_grows)
    | simp only [grows_mk_iff] | split | intro _

theorem execDeliveryReportTimer_grows {s : State} (h : Grows a s) : OutGrows a (execDeliveryReportTimer s) := by
  unfold execDeliveryReportTimer; try dsimp only
  repeat' first
    | with_reducible (first
        | assumption | apply OutGrows.next | apply setF_grows | apply toSender_grows)
    | simp only [grows_mk_iff] | split | intro _

theorem closeFrame_grows (n : Nat) {s : State} (h : Grows a s) : Grows a (closeFrame n s) := by
  unfold closeFrame; try dsimp only
  repeat' first | with_reducible assumption | simp only [grows_mk_iff] | split | intro _

theorem advanceStore_grows (n : Nat) {s : State} (h : Grows a s) : Grows a (advanceStore n s) := by
  unfold advanceStore; try dsimp only
  repeat' first
    | with_reducible (first
        | assumption | apply foldl_grows | apply setF_grows | apply setB_grows)
    | simp only [grows_mk_iff] | split | intro _

theorem foldStore_grows (n : Nat) {s : State} (h : Grows a s) : Grows a (foldStore n s) := by
  unfold foldStore; try dsimp only
  repeat' first | with_reducible (first | assumption | apply setF_grows) | simp only [grows_mk_iff] | split | intro _

theorem execReadCell_grows (k : Pkt) {s : State} (h : Grows a s) : OutGrows a (execReadCell k s) := by
  unfold execReadCell; try dsimp only
  repeat' first
    | with_reducible (first
        | assumption | apply OutGrows.next | apply ResGrows.ok | apply ResGrows.err | apply ResGrows.later
        | apply plain_grows)
    | simp only [grows_mk_iff] | split | intro _

/-! ### Access -/

theorem storeWord_grows (key : Nat) (v : Word) {s : State} (h : Grows a s) : Grows a (storeWord key v s) := by
  unfold storeWord; try dsimp only
  repeat' first | with_reducible (first | assumption | apply regPut_grows) | simp only [grows_mk_iff] | split | intro _

theorem access_grows (q : Nat) (b : Nat) (ind : Bool) (off : Nat) {act : State → State} {s : State} (h1 :
    ∀ c b, Grows c b → Grows c (act b)) (h : Grows a s) : Grows a (access q b ind off act s) := by
  unfold access; try dsimp only
  repeat' first
    | with_reducible (first
        | assumption | apply h1 | apply lockViol_grows | refine fst_grows ?_ (by with_reducible assumption))
    | simp only [grows_mk_iff] | split | intro _

end Sys2Proof.Machine
end

