-- ==== Sys2Proof/Laws/GrowsTime.lean ====
section
/-! SUPPORT. What no effect undoes, for clocks and time messages. -/

namespace Sys2Proof.Machine

open State

variable {a : State}

/-! ### Clock -/

theorem clockPut_grows (w : Bool) (c : Clock) {s : State} (h : Grows a s) : Grows a (clockPut w c s) := by
  unfold clockPut; try dsimp only
  repeat' first | with_reducible (first | assumption | apply setI_grows) | simp only [grows_mk_iff] | split | intro _

theorem servoEnter_grows (w : Bool) (st : Nat) (ts : Nat) {s : State} (h : Grows a s) :
    Grows a (servoEnter w st ts s) := by
  unfold servoEnter; try dsimp only
  repeat' first
    | with_reducible (first
        | assumption | apply raise_grows | apply setF_grows | apply clockPut_grows | apply occur_grows
        | apply takeFree_grows)
    | simp only [grows_mk_iff] | split | intro _

theorem servoAct_grows (w : Bool) (theta : Int) (ts : Nat) {s : State} (h : Grows a s) :
    Grows a (servoAct w theta ts s) := by
  unfold servoAct; try dsimp only
  repeat' first
    | with_reducible (first
        | assumption | apply clockPut_grows | apply tally_grows)
    | simp only [grows_mk_iff] | split | intro _

theorem servoJudge_grows (w : Bool) (theta : Int) (lock : Nat) (ts : Nat) {s : State} (h : Grows a s) :
    Grows a (servoJudge w theta lock ts s) := by
  unfold servoJudge; try dsimp only
  repeat' first
    | with_reducible (first
        | assumption | apply clockPut_grows | apply servoEnter_grows)
    | simp only [grows_mk_iff] | split | intro _

theorem pulseStop_grows (g : Nat) {s : State} (h : Grows a s) : Grows a (pulseStop g s) := by
  unfold pulseStop; try dsimp only
  repeat' first | with_reducible assumption | simp only [grows_mk_iff] | split | intro _

theorem gpioDrive_grows (g : Nat) (high : Bool) {s : State} (h : Grows a s) : Grows a (gpioDrive g high s) := by
  unfold gpioDrive; try dsimp only
  repeat' first
    | with_reducible (first
        | assumption | apply setF_grows | apply pulseStop_grows)
    | simp only [grows_mk_iff] | split | intro _

theorem triggerAct_grows (k : Nat) {s : State} (h : Grows a s) : Grows a (triggerAct k s) := by
  unfold triggerAct; try dsimp only
  repeat' first
    | with_reducible (first
        | assumption | apply pulseStop_grows | apply gpioDrive_grows)
    | simp only [grows_mk_iff] | split | intro _

theorem triggerFire_grows (k : Nat) (late : Option Nat) {s : State} (h : Grows a s) :
    Grows a (triggerFire k late s) := by
  unfold triggerFire; try dsimp only
  repeat' first
    | with_reducible (first
        | assumption | apply setF_grows | apply setB_grows | apply raise_grows | apply occur_grows
        | apply triggerAct_grows)
    | simp only [grows_mk_iff] | split | intro _

theorem triggerArm_grows (k : Nat) {s : State} (h : Grows a s) : Grows a (triggerArm k s).1 := by
  unfold triggerArm; try dsimp only
  repeat' first
    | with_reducible (first
        | assumption | apply setF_grows | apply triggerFire_grows)
    | simp only [grows_mk_iff] | split | intro _

theorem triggerStep_grows (old : Int) {s : State} (h : Grows a s) : Grows a (triggerStep old s) := by
  unfold triggerStep; try dsimp only
  repeat' first
    | with_reducible (first
        | assumption | apply foldl_grows | apply triggerFire_grows | apply tally_grows | apply setF_grows)
    | simp only [grows_mk_iff] | split | intro _

theorem servoSample_grows (w : Bool) (theta : Int) (now : Int) (lock : Nat) (ts : Nat) {s : State} (h : Grows a s) :
    Grows a (servoSample w theta now lock ts s) := by
  unfold servoSample; try dsimp only
  repeat' first
    | with_reducible (first
        | assumption | apply setSatI_grows | apply servoEnter_grows | apply clockPut_grows | apply servoAct_grows
        | apply triggerStep_grows | apply servoJudge_grows)
    | simp only [grows_mk_iff] | split | intro _

theorem servoLost_grows (w : Bool) (ts : Nat) {s : State} (h : Grows a s) : Grows a (servoLost w ts s) := by
  unfold servoLost; try dsimp only
  repeat' first
    | with_reducible (first
        | assumption | apply servoEnter_grows)
    | simp only [grows_mk_iff] | split | intro _

theorem ppsOut_grows (old : State) {s : State} (h : Grows a s) : Grows a (ppsOut old s) := by
  unfold ppsOut; try dsimp only
  repeat' first | with_reducible (first | assumption | apply send_grows) | simp only [grows_mk_iff] | split | intro _

theorem tick_grows {s : State} (h : Grows a s) : Grows a (tick s) := by
  unfold tick; try dsimp only
  repeat' first | with_reducible (first | assumption | apply ppsOut_grows) | simp only [grows_mk_iff] | split | intro _

theorem learnBin_grows {s : State} (w : Bool) (h : Grows a s) : Grows a (learnBin s w) := by
  unfold learnBin; try dsimp only
  repeat' first
    | with_reducible (first
        | assumption | apply setI_grows | apply setF_grows | apply setB_grows)
    | simp only [grows_mk_iff] | split | intro _

theorem holdAgain_grows (w : Bool) {s : State} (h : Grows a s) : Grows a (holdAgain w s) := by
  unfold holdAgain; try dsimp only
  repeat' first
    | with_reducible (first
        | assumption | apply clockPut_grows)
    | simp only [grows_mk_iff] | split | intro _

theorem holdLongUpdate_grows {s : State} (h : Grows a s) : Grows a (holdLongUpdate s) := by
  unfold holdLongUpdate; try dsimp only
  repeat' first
    | with_reducible (first
        | assumption | apply setB_grows | apply levelRise_grows | apply levelFall_grows)
    | simp only [grows_mk_iff] | split | intro _

theorem execOscLearn_grows {s : State} (h : Grows a s) : OutGrows a (execOscLearn s) := by
  unfold execOscLearn; try dsimp only
  repeat' first
    | with_reducible (first
        | assumption | apply OutGrows.next | apply learnBin_grows | apply holdLongUpdate_grows
        | apply holdAgain_grows)
    | simp only [grows_mk_iff] | split | intro _

theorem execTriggerFire_grows (k : Nat) {s : State} (h : Grows a s) : OutGrows a (execTriggerFire k s) := by
  unfold execTriggerFire; try dsimp only
  repeat' first
    | with_reducible (first
        | assumption | apply OutGrows.next | apply triggerFire_grows)
    | simp only [grows_mk_iff] | split | intro _

theorem execPulseEnd_grows (g : Nat) {s : State} (h : Grows a s) : OutGrows a (execPulseEnd g s) := by
  unfold execPulseEnd; try dsimp only
  repeat' first
    | with_reducible (first
        | assumption | apply OutGrows.next | apply pulseStop_grows)
    | simp only [grows_mk_iff] | split | intro _

theorem execArmTrigger_grows (k : Pkt) {s : State} (h : Grows a s) : OutGrows a (execArmTrigger k s) := by
  unfold execArmTrigger; try dsimp only
  repeat' first
    | with_reducible (first
        | assumption | apply OutGrows.next | apply ResGrows.ok | apply ResGrows.err | apply ResGrows.later
        | apply plain_grows | apply setF_grows | apply triggerArm_grows
        | refine fst_grows ?_ (by with_reducible assumption))
    | simp only [grows_mk_iff] | split | intro _

theorem execDisarmTrigger_grows (k : Pkt) {s : State} (h : Grows a s) : OutGrows a (execDisarmTrigger k s) := by
  unfold execDisarmTrigger; try dsimp only
  repeat' first
    | with_reducible (first
        | assumption | apply OutGrows.next | apply ResGrows.ok | apply ResGrows.err | apply ResGrows.later
        | apply plain_grows | apply setF_grows)
    | simp only [grows_mk_iff] | split | intro _

/-! ### TimeLink -/

theorem timPortUpd_grows (p : Nat) (g : TimPort → TimPort) {s : State} (h : Grows a s) :
    Grows a (timPortUpd p g s) := by
  unfold timPortUpd; try dsimp only
  repeat' first | with_reducible assumption | simp only [grows_mk_iff] | split | intro _

theorem sendOffer_grows (p : Nat) {s : State} (h : Grows a s) : Grows a (sendOffer p s) := by
  unfold sendOffer; try dsimp only
  repeat' first
    | with_reducible (first
        | assumption | apply timPortUpd_grows | apply sendMsg_grows)
    | simp only [grows_mk_iff] | split | intro _

theorem sendOffers_grows {s : State} (h : Grows a s) : Grows a (sendOffers s) := by
  unfold sendOffers; try dsimp only
  repeat' first
    | with_reducible (first
        | assumption | apply foldl_grows | apply sendOffer_grows)
    | simp only [grows_mk_iff] | split | intro _

theorem offerChange_grows (old : State) {s : State} (h : Grows a s) : Grows a (offerChange old s) := by
  unfold offerChange; try dsimp only
  repeat' first
    | with_reducible (first
        | assumption | apply sendOffers_grows)
    | simp only [grows_mk_iff] | split | intro _

theorem offerFlags_grows (src : Option Nat) {s : State} (h : Grows a s) : Grows a (offerFlags src s) := by
  unfold offerFlags; try dsimp only
  repeat' first
    | with_reducible (first
        | assumption | apply foldl_grows | apply setB_grows)
    | simp only [grows_mk_iff] | split | intro _

theorem chooseSource_grows {s : State} (h : Grows a s) : Grows a (chooseSource s) := by
  unfold chooseSource; try dsimp only
  repeat' first
    | with_reducible (first
        | assumption | apply offerFlags_grows | apply setF_grows | apply servoLost_grows)
    | simp only [grows_mk_iff] | split | intro _

theorem masterWt_grows {s : State} (h : Grows a s) : Grows a (masterWt s) := by
  unfold masterWt; try dsimp only
  repeat' first
    | with_reducible (first
        | assumption | apply clockPut_grows | apply servoEnter_grows | apply servoLost_grows)
    | simp only [grows_mk_iff] | split | intro _

theorem setMaster_grows (on : Bool) {s : State} (h : Grows a s) : Grows a (setMaster on s) := by
  unfold setMaster; try dsimp only
  repeat' first
    | with_reducible (first
        | assumption | apply raise_grows | apply setB_grows | apply masterWt_grows | apply chooseSource_grows)
    | simp only [grows_mk_iff] | split | intro _

theorem masterIs_grows (dev : Nat) {s : State} (h : Grows a s) : Grows a (masterIs dev s) := by
  unfold masterIs; try dsimp only
  repeat' first
    | with_reducible (first
        | assumption | apply setMaster_grows | apply setF_grows)
    | simp only [grows_mk_iff] | split | intro _

theorem elect_grows (classOnly : Bool) {s : State} (h : Grows a s) : Grows a (elect classOnly s) := by
  unfold elect; try dsimp only
  repeat' first
    | with_reducible (first
        | assumption | apply setMaster_grows | apply masterIs_grows)
    | simp only [grows_mk_iff] | split | intro _

theorem timeUpdate_grows (old : State) {s : State} (h : Grows a s) : Grows a (timeUpdate old s) := by
  unfold timeUpdate; try dsimp only
  repeat' first
    | with_reducible (first
        | assumption | apply offerChange_grows | apply chooseSource_grows | apply elect_grows)
    | simp only [grows_mk_iff] | split | intro _

theorem timeUp_grows (p : Nat) {s : State} (h : Grows a s) : Grows a (timeUp p s) := by
  unfold timeUp; try dsimp only
  repeat' first
    | with_reducible (first
        | assumption | apply offerChange_grows | apply chooseSource_grows | apply elect_grows)
    | simp only [grows_mk_iff] | split | intro _

theorem timeDown_grows (p : Nat) {s : State} (h : Grows a s) : Grows a (timeDown p s) := by
  unfold timeDown; try dsimp only
  repeat' first
    | with_reducible (first
        | assumption | apply offerChange_grows | apply chooseSource_grows | apply elect_grows
        | apply timRestart_grows | apply timPortUpd_grows)
    | simp only [grows_mk_iff] | split | intro _

theorem wtFromNt_grows (ts : Nat) {s : State} (h : Grows a s) : Grows a (wtFromNt ts s) := by
  unfold wtFromNt; try dsimp only
  repeat' first
    | with_reducible (first
        | assumption | apply servoSample_grows | apply servoLost_grows)
    | simp only [grows_mk_iff] | split | intro _

theorem wtFromTwill_grows (p : Nat) (t1 : Nat) (t2 : Nat) (wtAt : Int) {s : State} (h : Grows a s) :
    Grows a (wtFromTwill p t1 t2 wtAt s) := by
  unfold wtFromTwill; try dsimp only
  repeat' first
    | with_reducible (first
        | assumption | apply setSatI_grows | apply incF_grows | apply servoSample_grows)
    | simp only [grows_mk_iff] | split | intro _

theorem takeSync_grows (p : Nat) (m : Msg) {s : State} (h : Grows a s) : Grows a (takeSync p m s) := by
  unfold takeSync; try dsimp only
  repeat' first
    | with_reducible (first
        | assumption | apply timPortUpd_grows)
    | simp only [grows_mk_iff] | split | intro _

theorem execTSync_grows (p : Nat) (m : Msg) {s : State} (h : Grows a s) : OutGrows a (execTSync p m s) := by
  unfold execTSync; try dsimp only
  repeat' first
    | with_reducible (first
        | assumption | apply OutGrows.next | apply msgIn_grows | apply takeSync_grows)
    | simp only [grows_mk_iff] | split | intro _

theorem sendDreq_grows (p : Nat) (t1 : Nat) (t2 : Nat) {s : State} (h : Grows a s) : Grows a (sendDreq p t1 t2 s) := by
  unfold sendDreq; try dsimp only
  repeat' first
    | with_reducible (first
        | assumption | apply timPortUpd_grows | apply sendMsg_grows)
    | simp only [grows_mk_iff] | split | intro _

theorem takeFollow_grows (p : Nat) (m : Msg) {s : State} (h : Grows a s) : Grows a (takeFollow p m s) := by
  unfold takeFollow; try dsimp only
  repeat' first
    | with_reducible (first
        | assumption | apply setB_grows | apply setF_grows | apply timPortUpd_grows | apply tally_grows
        | apply sendDreq_grows | apply chooseSource_grows | apply wtFromTwill_grows | apply timeUpdate_grows)
    | simp only [grows_mk_iff] | split | intro _

theorem execTFollow_grows (p : Nat) (m : Msg) {s : State} (h : Grows a s) : OutGrows a (execTFollow p m s) := by
  unfold execTFollow; try dsimp only
  repeat' first
    | with_reducible (first
        | assumption | apply OutGrows.next | apply msgIn_grows | apply takeFollow_grows)
    | simp only [grows_mk_iff] | split | intro _

theorem takeDreq_grows (p : Nat) (m : Msg) {s : State} (h : Grows a s) : Grows a (takeDreq p m s) := by
  unfold takeDreq; try dsimp only
  repeat' first
    | with_reducible (first
        | assumption | apply sendMsg_grows)
    | simp only [grows_mk_iff] | split | intro _

theorem execTDreq_grows (p : Nat) (m : Msg) {s : State} (h : Grows a s) : OutGrows a (execTDreq p m s) := by
  unfold execTDreq; try dsimp only
  repeat' first
    | with_reducible (first
        | assumption | apply OutGrows.next | apply msgIn_grows | apply takeDreq_grows)
    | simp only [grows_mk_iff] | split | intro _

theorem takeDresp_grows (p : Nat) (m : Msg) {s : State} (h : Grows a s) : Grows a (takeDresp p m s) := by
  unfold takeDresp; try dsimp only
  repeat' first
    | with_reducible (first
        | assumption | apply timPortUpd_grows | apply tally_grows | apply timeUpdate_grows
        | apply chooseSource_grows | apply setI_grows)
    | simp only [grows_mk_iff] | split | intro _

theorem execTDresp_grows (p : Nat) (m : Msg) {s : State} (h : Grows a s) : OutGrows a (execTDresp p m s) := by
  unfold execTDresp; try dsimp only
  repeat' first
    | with_reducible (first
        | assumption | apply OutGrows.next | apply msgIn_grows | apply takeDresp_grows)
    | simp only [grows_mk_iff] | split | intro _

theorem takeAnnounce_grows (m : Msg) {s : State} (h : Grows a s) : Grows a (takeAnnounce m s) := by
  unfold takeAnnounce; try dsimp only
  repeat' first
    | with_reducible (first
        | assumption | apply offerChange_grows | apply elect_grows)
    | simp only [grows_mk_iff] | split | intro _

theorem execTAnnounce_grows (p : Nat) (m : Msg) {s : State} (h : Grows a s) : OutGrows a (execTAnnounce p m s) := by
  unfold execTAnnounce; try dsimp only
  repeat' first
    | with_reducible (first
        | assumption | apply OutGrows.next | apply msgIn_grows | apply takeAnnounce_grows)
    | simp only [grows_mk_iff] | split | intro _

theorem execAnnounceTimer_grows {s : State} (h : Grows a s) : OutGrows a (execAnnounceTimer s) := by
  unfold execAnnounceTimer; try dsimp only
  repeat' first
    | with_reducible (first
        | assumption | apply OutGrows.next | apply foldl_grows | apply sendMsg_grows | apply offerChange_grows
        | apply elect_grows)
    | simp only [grows_mk_iff] | split | intro _

theorem execAnnounceExpiry_grows (dev : Nat) {s : State} (h : Grows a s) : OutGrows a (execAnnounceExpiry dev s) := by
  unfold execAnnounceExpiry; try dsimp only
  repeat' first
    | with_reducible (first
        | assumption | apply OutGrows.next | apply offerChange_grows | apply elect_grows)
    | simp only [grows_mk_iff] | split | intro _

theorem execMasterChangeDwell_grows {s : State} (h : Grows a s) : OutGrows a (execMasterChangeDwell s) := by
  unfold execMasterChangeDwell; try dsimp only
  repeat' first
    | with_reducible (first
        | assumption | apply OutGrows.next | apply offerChange_grows | apply masterIs_grows)
    | simp only [grows_mk_iff] | split | intro _

theorem execOfferExpiry_grows (p : Nat) {s : State} (h : Grows a s) : OutGrows a (execOfferExpiry p s) := by
  unfold execOfferExpiry; try dsimp only
  repeat' first
    | with_reducible (first
        | assumption | apply OutGrows.next | apply timeUpdate_grows | apply chooseSource_grows
        | apply timPortUpd_grows)
    | simp only [grows_mk_iff] | split | intro _

theorem execSyncInterval_grows {s : State} (h : Grows a s) : OutGrows a (execSyncInterval s) := by
  unfold execSyncInterval; try dsimp only
  repeat' first
    | with_reducible (first
        | assumption | apply OutGrows.next | apply sendOffers_grows)
    | simp only [grows_mk_iff] | split | intro _

theorem sendParams_grows {s : State} (h : Grows a s) : Grows a (sendParams s) := by
  unfold sendParams; try dsimp only
  repeat' first
    | with_reducible (first
        | assumption | apply foldl_grows | apply sendMsg_grows)
    | simp only [grows_mk_iff] | split | intro _

theorem promoteParams_grows {s : State} (h : Grows a s) : Grows a (promoteParams s) := by
  unfold promoteParams; try dsimp only
  repeat' first | with_reducible assumption | simp only [grows_mk_iff] | split | intro _

theorem holdParams_grows (q : Params) {s0 : State} (h : Grows a s0) : Grows a (holdParams q s0) := by
  unfold holdParams; try dsimp only
  repeat' first
    | with_reducible (first
        | assumption | apply promoteParams_grows | apply sendParams_grows | apply setF_grows)
    | simp only [grows_mk_iff] | split | intro _

theorem takeParams_grows (p : Nat) (m : Msg) {s : State} (h : Grows a s) : Grows a (takeParams p m s) := by
  unfold takeParams; try dsimp only
  repeat' first
    | with_reducible (first
        | assumption | apply holdParams_grows)
    | simp only [grows_mk_iff] | split | intro _

theorem execTParams_grows (p : Nat) (m : Msg) {s : State} (h : Grows a s) : OutGrows a (execTParams p m s) := by
  unfold execTParams; try dsimp only
  repeat' first
    | with_reducible (first
        | assumption | apply OutGrows.next | apply msgIn_grows | apply takeParams_grows)
    | simp only [grows_mk_iff] | split | intro _

theorem execTParamsTimer_grows {s : State} (h : Grows a s) : OutGrows a (execTParamsTimer s) := by
  unfold execTParamsTimer; try dsimp only
  repeat' first
    | with_reducible (first
        | assumption | apply OutGrows.next | apply sendParams_grows)
    | simp only [grows_mk_iff] | split | intro _

end Sys2Proof.Machine
end

