-- ==== Sys2Proof/Laws/GrowsTwill.lean ====
section
/-! SUPPORT. What no effect undoes, for Twill links and discovery. -/

namespace Sys2Proof.Machine

open State

variable {a : State}

/-! ### TwillLink -/

theorem rerouteSlot_grows (i : Nat) (sl : Slot) {s : State} (h : Grows a s) : Grows a (rerouteSlot i sl s) := by
  unfold rerouteSlot; try dsimp only
  repeat' first
    | with_reducible (first
        | assumption | apply slotUnreachable_grows | apply moveRoute_grows | apply setF_grows)
    | simp only [grows_mk_iff] | split | intro _

theorem reroute_grows {s : State} (h : Grows a s) : Grows a (reroute s) := by
  unfold reroute; try dsimp only
  repeat' first
    | with_reducible (first
        | assumption | apply foldl_grows | apply countUnreach_grows | apply rerouteSlot_grows | apply raise_grows)
    | simp only [grows_mk_iff] | split | intro _

theorem reachFall_grows (p : Nat) (n : Nat) {s : State} (h : Grows a s) : Grows a (reachFall p n s) := by
  unfold reachFall; try dsimp only
  repeat' first
    | with_reducible (first
        | assumption | apply reroute_grows | apply setF_grows)
    | simp only [grows_mk_iff] | split | intro _

theorem startRun_grows (p : Nat) {s : State} (h : Grows a s) : Grows a (startRun p s) := by
  unfold startRun; try dsimp only
  repeat' first
    | with_reducible (first
        | assumption | apply portUpd_grows | apply sendMsg_grows)
    | simp only [grows_mk_iff] | split | intro _

theorem linkEvent_grows (p : Nat) (event : Nat) {s : State} (h : Grows a s) : Grows a (linkEvent p event s) := by
  unfold linkEvent; try dsimp only
  repeat' first
    | with_reducible (first
        | assumption | apply sendMsg_grows)
    | simp only [grows_mk_iff] | split | intro _

theorem linkGone_grows (p : Nat) (event : Nat) {s : State} (h : Grows a s) : Grows a (linkGone p event s) := by
  unfold linkGone; try dsimp only
  repeat' first
    | with_reducible (first
        | assumption | apply reachFall_grows | apply linkEvent_grows)
    | simp only [grows_mk_iff] | split | intro _

theorem linkDown_grows (p : Nat) (event : Nat) {s : State} (h : Grows a s) : Grows a (linkDown p event s) := by
  unfold linkDown; try dsimp only
  repeat' first
    | with_reducible (first
        | assumption | apply linkLevel_grows | apply setF_grows | apply timeDown_grows | apply portUpd_grows
        | apply linkGone_grows)
    | simp only [grows_mk_iff] | split | intro _

theorem linkLost_grows (p : Nat) (cause : Nat) {s : State} (h : Grows a s) : Grows a (linkLost p cause s) := by
  unfold linkLost; try dsimp only
  repeat' first
    | with_reducible (first
        | assumption | apply setF_grows | apply linkDown_grows | apply tally_grows | apply startTrain_grows)
    | simp only [grows_mk_iff] | split | intro _

theorem sendLinkN_grows (p : Nat) (n : Nat) (l : List Byte) {s : State} (h : Grows a s) :
    Grows a (sendLinkN p n l s) := by
  unfold sendLinkN; try dsimp only
  repeat' first
    | with_reducible (first
        | assumption | apply foldl_grows | apply sendLink_grows)
    | simp only [grows_mk_iff] | split | intro _

theorem sendHello_grows (p : Nat) {s : State} (h : Grows a s) : Grows a (sendHello p s) := by
  unfold sendHello; try dsimp only
  repeat' first
    | with_reducible (first
        | assumption | apply sendLinkN_grows)
    | simp only [grows_mk_iff] | split | intro _

theorem sendLaneReq_grows (p : Nat) {s : State} (h : Grows a s) : Grows a (sendLaneReq p s) := by
  unfold sendLaneReq; try dsimp only
  repeat' first
    | with_reducible (first
        | assumption | apply sendLinkN_grows)
    | simp only [grows_mk_iff] | split | intro _

theorem sendLaneSet_grows (p : Nat) (mask : Nat) {s : State} (h : Grows a s) : Grows a (sendLaneSet p mask s) := by
  unfold sendLaneSet; try dsimp only
  repeat' first
    | with_reducible (first
        | assumption | apply sendLink_grows)
    | simp only [grows_mk_iff] | split | intro _

theorem toggleRtog_grows (p : Nat) {s : State} (h : Grows a s) : Grows a (toggleRtog p s) := by
  unfold toggleRtog; try dsimp only
  repeat' first
    | with_reducible (first
        | assumption | apply tally_grows | apply portUpd_grows)
    | simp only [grows_mk_iff] | split | intro _

theorem enterRetry_grows (p : Nat) {s : State} (h : Grows a s) : Grows a (enterRetry p s) := by
  unfold enterRetry; try dsimp only
  repeat' first
    | with_reducible (first
        | assumption | apply toggleRtog_grows | apply setF_grows | apply portUpd_grows)
    | simp only [grows_mk_iff] | split | intro _

theorem replayAll_grows (p : Nat) {s : State} (h : Grows a s) : Grows a (replayAll p s) := by
  unfold replayAll; try dsimp only
  repeat' first
    | with_reducible (first
        | assumption | apply timReplay_grows | apply addF_grows | apply tally_grows)
    | simp only [grows_mk_iff] | split | intro _

theorem laneOut_grows (p : Nat) (l : Nat) {s : State} (h : Grows a s) : Grows a (laneOut p l s) := by
  unfold laneOut; try dsimp only
  repeat' first
    | with_reducible (first
        | assumption | apply sendLaneReq_grows | apply portUpd_grows)
    | simp only [grows_mk_iff] | split | intro _

theorem laneReady_grows (p : Nat) (l : Nat) {s : State} (h : Grows a s) : Grows a (laneReady p l s) := by
  unfold laneReady; try dsimp only
  repeat' first
    | with_reducible (first
        | assumption | apply sendLaneReq_grows | apply portUpd_grows)
    | simp only [grows_mk_iff] | split | intro _

theorem calGiveUp_grows (p : Nat) (c : Nat) {s : State} (h : Grows a s) : Grows a (calGiveUp p c s) := by
  unfold calGiveUp; try dsimp only
  repeat' first
    | with_reducible (first
        | assumption | apply setF_grows | apply tally_grows | apply calOutcome_grows | apply portUpd_grows
        | apply laneReady_grows | apply laneUpd_grows | apply laneLock_grows)
    | simp only [grows_mk_iff] | split | intro _

theorem laneLost_grows (p : Nat) (l : Nat) {s : State} (h : Grows a s) : Grows a (laneLost p l s) := by
  unfold laneLost; try dsimp only
  repeat' first
    | with_reducible (first
        | assumption | apply occur_grows | apply incF_grows | apply laneLock_grows | apply laneUpd_grows
        | apply laneOut_grows | apply calGiveUp_grows | apply linkLost_grows | apply enterRetry_grows)
    | simp only [grows_mk_iff] | split | intro _

theorem setTxMask_grows (p : Nat) (mask : Nat) {s : State} (h : Grows a s) : Grows a (setTxMask p mask s) := by
  unfold setTxMask; try dsimp only
  repeat' first
    | with_reducible (first
        | assumption | apply sendLaneSet_grows | apply phyLevel_grows | apply linkLevel_grows | apply addF_grows
        | apply timDisturb_grows)
    | simp only [grows_mk_iff] | split | intro _

theorem laneReq_grows (p : Nat) (out : Nat) (ready : Nat) (cur : Nat) {s : State} (h : Grows a s) :
    Grows a (laneReq p out ready cur s) := by
  unfold laneReq; try dsimp only
  repeat' first
    | with_reducible (first
        | assumption | apply foldl_grows | apply replayAll_grows | apply setTxMask_grows | apply sendLaneSet_grows)
    | simp only [grows_mk_iff] | split | intro _

theorem execLaneReq_grows (p : Nat) (l : List Byte) {s : State} (h : Grows a s) : OutGrows a (execLaneReq p l s) := by
  unfold execLaneReq; try dsimp only
  repeat' first
    | with_reducible (first
        | assumption | apply OutGrows.next | apply laneReq_grows)
    | simp only [grows_mk_iff] | split | intro _

theorem laneSet_grows (p : Nat) (mask : Nat) {s : State} (h : Grows a s) : Grows a (laneSet p mask s) := by
  unfold laneSet; try dsimp only
  repeat' first
    | with_reducible (first
        | assumption | apply foldl_grows | apply linkLevel_grows | apply addF_grows | apply portUpd_grows
        | apply timDisturb_grows | apply laneUpd_grows)
    | simp only [grows_mk_iff] | split | intro _

theorem execLaneset_grows (p : Nat) (l : List Byte) {s : State} (h : Grows a s) : OutGrows a (execLaneset p l s) := by
  unfold execLaneset; try dsimp only
  repeat' first
    | with_reducible (first
        | assumption | apply OutGrows.next | apply laneSet_grows)
    | simp only [grows_mk_iff] | split | intro _

theorem execLaneReqTimer_grows (p : Nat) {s : State} (h : Grows a s) : OutGrows a (execLaneReqTimer p s) := by
  unfold execLaneReqTimer; try dsimp only
  repeat' first
    | with_reducible (first
        | assumption | apply OutGrows.next | apply sendLink_grows)
    | simp only [grows_mk_iff] | split | intro _

theorem requestStep_grows (p : Nat) (step : Nat) (reason : Nat) {s : State} (h : Grows a s) :
    Grows a (requestStep p step reason s) := by
  unfold requestStep; try dsimp only
  repeat' first
    | with_reducible (first
        | assumption | apply announceStep_grows | apply portUpd_grows)
    | simp only [grows_mk_iff] | split | intro _

theorem noteStepFail_grows (p : Nat) {s : State} (h : Grows a s) : Grows a (noteStepFail p s) := by
  unfold noteStepFail; try dsimp only
  repeat' first
    | with_reducible (first
        | assumption | apply portUpd_grows)
    | simp only [grows_mk_iff] | split | intro _

theorem stepDown_grows (p : Nat) (reason : Nat) {s : State} (h : Grows a s) : Grows a (stepDown p reason s) := by
  unfold stepDown; try dsimp only
  repeat' first
    | with_reducible (first
        | assumption | apply noteStepFail_grows | apply requestStep_grows)
    | simp only [grows_mk_iff] | split | intro _

theorem execAutoStepDown_grows (p : Nat) (reason : Nat) {s : State} (h : Grows a s) :
    OutGrows a (execAutoStepDown p reason s) := by
  unfold execAutoStepDown; try dsimp only
  repeat' first
    | with_reducible (first
        | assumption | apply OutGrows.next | apply stepDown_grows)
    | simp only [grows_mk_iff] | split | intro _

theorem execStepUpTimer_grows (p : Nat) {s : State} (h : Grows a s) : OutGrows a (execStepUpTimer p s) := by
  unfold execStepUpTimer; try dsimp only
  repeat' first
    | with_reducible (first
        | assumption | apply OutGrows.next | apply announceStep_grows | apply portUpd_grows)
    | simp only [grows_mk_iff] | split | intro _

theorem stepFlit_grows (p : Nat) (target : Nat) {s : State} (h : Grows a s) : Grows a (stepFlit p target s) := by
  unfold stepFlit; try dsimp only
  repeat' first
    | with_reducible (first
        | assumption | apply announceStep_grows | apply timeUpdate_grows | apply chooseSource_grows
        | apply enterRetrain_grows)
    | simp only [grows_mk_iff] | split | intro _

theorem execStepFlit_grows (p : Nat) (l : List Byte) {s : State} (h : Grows a s) :
    OutGrows a (execStepFlit p l s) := by
  unfold execStepFlit; try dsimp only
  repeat' first
    | with_reducible (first
        | assumption | apply OutGrows.next | apply stepFlit_grows | apply proto_grows)
    | simp only [grows_mk_iff] | split | intro _

theorem execStep_grows (k : Pkt) {s : State} (h : Grows a s) : OutGrows a (execStep k s) := by
  unfold execStep; try dsimp only
  repeat' first
    | with_reducible (first
        | assumption | apply OutGrows.next | apply ResGrows.ok | apply ResGrows.err | apply ResGrows.later
        | apply plain_grows | apply requestStep_grows)
    | simp only [grows_mk_iff] | split | intro _

theorem stepCmdWrite_grows (p : Nat) (v : Word) {s : State} (h : Grows a s) : Grows a (stepCmdWrite p v s) := by
  unfold stepCmdWrite; try dsimp only
  repeat' first
    | with_reducible (first
        | assumption | apply storeWord_grows | apply requestStep_grows)
    | simp only [grows_mk_iff] | split | intro _

theorem execStepCmdGo_grows (q : Nat) (p : Nat) (v : Word) {s : State} (h : Grows a s) :
    OutGrows a (execStepCmdGo q p v s) := by
  unfold execStepCmdGo; try dsimp only
  repeat' first
    | with_reducible (first
        | assumption | apply OutGrows.next | apply access_grows | apply stepCmdWrite_grows)
    | simp only [grows_mk_iff] | split | intro _

theorem execRetrainTimeout_grows (p : Nat) {s : State} (h : Grows a s) : OutGrows a (execRetrainTimeout p s) := by
  unfold execRetrainTimeout; try dsimp only
  repeat' first
    | with_reducible (first
        | assumption | apply OutGrows.next | apply linkLost_grows | apply noteStepFail_grows)
    | simp only [grows_mk_iff] | split | intro _

theorem enterUp_grows (p : Nat) {s : State} (h : Grows a s) : Grows a (enterUp p s) := by
  unfold enterUp; try dsimp only
  repeat' first
    | with_reducible (first
        | assumption | apply linkLevel_grows | apply setB_grows | apply setF_grows | apply pump_grows
        | apply timeUp_grows | apply startRun_grows | apply linkEvent_grows)
    | simp only [grows_mk_iff] | split | intro _

theorem sendAuth_grows (p : Nat) (payload : List Byte) {s : State} (h : Grows a s) :
    Grows a (sendAuth p payload s) := by
  unfold sendAuth; try dsimp only
  repeat' first
    | with_reducible (first
        | assumption | apply sendMsg_grows)
    | simp only [grows_mk_iff] | split | intro _

theorem freshBytes_grows (n : Nat) {s : State} (h : Grows a s) : Grows a (freshBytes n s).2 := by
  unfold freshBytes; try dsimp only
  repeat' first
    | with_reducible (first
        | assumption | apply takeFree_grows)
    | simp only [grows_mk_iff] | split | intro _

theorem sendAuthHello_grows (p : Nat) {s : State} (h : Grows a s) : Grows a (sendAuthHello p s) := by
  unfold sendAuthHello; try dsimp only
  repeat' first
    | with_reducible (first
        | assumption | apply freshBytes_grows | apply sendAuth_grows | apply portUpd_grows
        | refine snd_grows ?_ (by with_reducible assumption))
    | simp only [grows_mk_iff] | split | intro _

theorem tryProof_grows (p : Nat) {s : State} (h : Grows a s) : Grows a (tryProof p s) := by
  unfold tryProof; try dsimp only
  repeat' first
    | with_reducible (first
        | assumption | apply portUpd_grows | apply sendAuth_grows)
    | simp only [grows_mk_iff] | split | intro _

theorem authFail_grows (p : Nat) {s : State} (h : Grows a s) : Grows a (authFail p s) := by
  unfold authFail; try dsimp only
  repeat' first
    | with_reducible (first
        | assumption | apply tally_grows | apply portUpd_grows | apply linkLost_grows | apply tamperOcc_grows)
    | simp only [grows_mk_iff] | split | intro _

theorem authReject_grows (p : Nat) (reason : Nat) {s : State} (h : Grows a s) : Grows a (authReject p reason s) := by
  unfold authReject; try dsimp only
  repeat' first
    | with_reducible (first
        | assumption | apply authFail_grows | apply sendAuth_grows)
    | simp only [grows_mk_iff] | split | intro _

theorem takeAuthHello_grows (p : Nat) (x1 : List Byte) {s : State} (h : Grows a s) :
    Grows a (takeAuthHello p x1 s) := by
  unfold takeAuthHello; try dsimp only
  repeat' first
    | with_reducible (first
        | assumption | apply authReject_grows | apply tryProof_grows | apply portUpd_grows)
    | simp only [grows_mk_iff] | split | intro _

theorem execAuthHello_grows (p : Nat) (m : Msg) {s : State} (h : Grows a s) : OutGrows a (execAuthHello p m s) := by
  unfold execAuthHello; try dsimp only
  repeat' first
    | with_reducible (first
        | assumption | apply OutGrows.next | apply msgIn_grows | apply takeAuthHello_grows)
    | simp only [grows_mk_iff] | split | intro _

theorem takeProof_grows (p : Nat) (l : List Byte) {s : State} (h : Grows a s) : Grows a (takeProof p l s) := by
  unfold takeProof; try dsimp only
  repeat' first
    | with_reducible (first
        | assumption | apply authReject_grows | apply enterUp_grows | apply incF_grows | apply portUpd_grows)
    | simp only [grows_mk_iff] | split | intro _

theorem execProof_grows (p : Nat) (m : Msg) {s : State} (h : Grows a s) : OutGrows a (execProof p m s) := by
  unfold execProof; try dsimp only
  repeat' first
    | with_reducible (first
        | assumption | apply OutGrows.next | apply msgIn_grows | apply takeProof_grows)
    | simp only [grows_mk_iff] | split | intro _

theorem execAuthFail_grows (p : Nat) (m : Msg) {s : State} (h : Grows a s) : OutGrows a (execAuthFail p m s) := by
  unfold execAuthFail; try dsimp only
  repeat' first
    | with_reducible (first
        | assumption | apply OutGrows.next | apply msgIn_grows | apply authFail_grows)
    | simp only [grows_mk_iff] | split | intro _

theorem execAuthBackoffExpiry_grows (p : Nat) {s : State} (h : Grows a s) :
    OutGrows a (execAuthBackoffExpiry p s) := by
  unfold execAuthBackoffExpiry; try dsimp only
  repeat' first
    | with_reducible (first
        | assumption | apply OutGrows.next | apply portUpd_grows | apply tryProof_grows | apply sendAuthHello_grows)
    | simp only [grows_mk_iff] | split | intro _

theorem sendRekey_grows (p : Nat) {s : State} (h : Grows a s) : Grows a (sendRekey p s) := by
  unfold sendRekey; try dsimp only
  repeat' first
    | with_reducible (first
        | assumption | apply freshBytes_grows | apply sendAuth_grows | apply portUpd_grows
        | refine snd_grows ?_ (by with_reducible assumption))
    | simp only [grows_mk_iff] | split | intro _

theorem startRekey_grows (p : Nat) {s : State} (h : Grows a s) : Grows a (startRekey p s) := by
  unfold startRekey; try dsimp only
  repeat' first
    | with_reducible (first
        | assumption | apply sendRekey_grows)
    | simp only [grows_mk_iff] | split | intro _

theorem rekeyDone_grows (p : Nat) {s : State} (h : Grows a s) : Grows a (rekeyDone p s) := by
  unfold rekeyDone; try dsimp only
  repeat' first
    | with_reducible (first
        | assumption | apply portUpd_grows)
    | simp only [grows_mk_iff] | split | intro _

theorem takeRekey_grows (p : Nat) (l : List Byte) {s : State} (h : Grows a s) : Grows a (takeRekey p l s) := by
  unfold takeRekey; try dsimp only
  repeat' first
    | with_reducible (first
        | assumption | apply linkLost_grows | apply portUpd_grows | apply rekeyDone_grows | apply startRekey_grows)
    | simp only [grows_mk_iff] | split | intro _

theorem execRekey_grows (p : Nat) (m : Msg) {s : State} (h : Grows a s) : OutGrows a (execRekey p m s) := by
  unfold execRekey; try dsimp only
  repeat' first
    | with_reducible (first
        | assumption | apply OutGrows.next | apply msgIn_grows | apply takeRekey_grows)
    | simp only [grows_mk_iff] | split | intro _

theorem execRekeyTimer_grows (p : Nat) {s : State} (h : Grows a s) : OutGrows a (execRekeyTimer p s) := by
  unfold execRekeyTimer; try dsimp only
  repeat' first
    | with_reducible (first
        | assumption | apply OutGrows.next | apply linkLost_grows | apply rekeyDone_grows | apply startRekey_grows)
    | simp only [grows_mk_iff] | split | intro _

theorem linkActive_grows (p : Nat) {s : State} (h : Grows a s) : Grows a (linkActive p s) := by
  unfold linkActive; try dsimp only
  repeat' first
    | with_reducible (first
        | assumption | apply foldl_grows | apply phyLevel_grows | apply linkLevel_grows | apply portUpd_grows
        | apply replayAll_grows | apply enterUp_grows | apply sendHello_grows | apply laneOut_grows)
    | simp only [grows_mk_iff] | split | intro _

theorem helloPeer_grows (p : Nat) (l : List Byte) {s : State} (h : Grows a s) : Grows a (helloPeer p l s) := by
  unfold helloPeer; try dsimp only
  repeat' first
    | with_reducible (first
        | assumption | apply setF_grows | apply portUpd_grows)
    | simp only [grows_mk_iff] | split | intro _

theorem helloNext_grows (p : Nat) (l : List Byte) {s : State} (h : Grows a s) : Grows a (helloNext p l s) := by
  unfold helloNext; try dsimp only
  repeat' first
    | with_reducible (first
        | assumption | apply linkLevel_grows | apply sendAuthHello_grows | apply announceStep_grows
        | apply enterUp_grows)
    | simp only [grows_mk_iff] | split | intro _

theorem takeHello_grows (p : Nat) (l : List Byte) {s : State} (h : Grows a s) : Grows a (takeHello p l s) := by
  unfold takeHello; try dsimp only
  repeat' first
    | with_reducible (first
        | assumption | apply helloNext_grows | apply helloPeer_grows)
    | simp only [grows_mk_iff] | split | intro _

theorem execHello_grows (p : Nat) (l : List Byte) {s : State} (h : Grows a s) : OutGrows a (execHello p l s) := by
  unfold execHello; try dsimp only
  repeat' first
    | with_reducible (first
        | assumption | apply OutGrows.next | apply takeHello_grows)
    | simp only [grows_mk_iff] | split | intro _

theorem tagFailure_grows (p : Nat) {s : State} (h : Grows a s) : Grows a (tagFailure p s) := by
  unfold tagFailure; try dsimp only
  repeat' first
    | with_reducible (first
        | assumption | apply tamperOcc_grows | apply tally_grows | apply linkLost_grows | apply portUpd_grows)
    | simp only [grows_mk_iff] | split | intro _

theorem msgWhole_grows (p : Nat) (vc : Nat) (body : List Byte) (enc : Bool) (kph : Bool) {s : State} (h :
    Grows a s) : Grows a (msgWhole p vc body enc kph s) := by
  unfold msgWhole; try dsimp only
  repeat' first
    | with_reducible (first
        | assumption | apply portUpd_grows | apply proto_grows | apply tagFailure_grows)
    | simp only [grows_mk_iff] | split | intro _

theorem dataFlit_grows (p : Nat) (vc : Nat) (som : Bool) (enc : Bool) (kph : Bool) (payload : List Byte) {s :
    State} (h : Grows a s) : Grows a (dataFlit p vc som enc kph payload s) := by
  unfold dataFlit; try dsimp only
  repeat' first
    | with_reducible (first
        | assumption | apply proto_grows | apply portUpd_grows | apply msgWhole_grows)
    | simp only [grows_mk_iff] | split | intro _

theorem takeFields_grows (p : Nat) (x1 : Nat) {s : State} (h : Grows a s) : Grows a (takeFields p x1 s) := by
  unfold takeFields; try dsimp only
  repeat' first
    | with_reducible (first
        | assumption | apply portUpd_grows | apply pump_grows | apply replayAll_grows)
    | simp only [grows_mk_iff] | split | intro _

theorem acceptFlit_grows (p : Nat) (x1 : Nat) (payload : List Byte) {s : State} (h : Grows a s) :
    Grows a (acceptFlit p x1 payload s) := by
  unfold acceptFlit; try dsimp only
  repeat' first
    | with_reducible (first
        | assumption | apply portUpd_grows | apply setF_grows | apply add48_grows | apply dataFlit_grows)
    | simp only [grows_mk_iff] | split | intro _

theorem goodFlit_grows (p : Nat) (b : List Byte) {s : State} (h : Grows a s) : Grows a (goodFlit p b s) := by
  unfold goodFlit; try dsimp only
  repeat' first
    | with_reducible (first
        | assumption | apply takeFields_grows | apply enterRetry_grows | apply proto_grows | apply acceptFlit_grows
        | apply incF_grows)
    | simp only [grows_mk_iff] | split | intro _

theorem codeword_grows (p : Nat) (l : Nat) (corr : Option Nat) {s : State} (h : Grows a s) :
    Grows a (codeword p l corr s) := by
  unfold codeword; try dsimp only
  repeat' first
    | with_reducible (first
        | assumption | apply add48_grows | apply tally_grows | apply laneUpd_grows)
    | simp only [grows_mk_iff] | split | intro _

theorem flitRx_grows (p : Nat) (l : Nat) (i : Nat) (corr : Option Nat) (b : List Byte) {s : State} (h : Grows a s) :
    Grows a (flitRx p l i corr b s) := by
  unfold flitRx; try dsimp only
  repeat' first
    | with_reducible (first
        | assumption | apply codeword_grows | apply goodFlit_grows | apply enterRetry_grows | apply tally_grows
        | apply laneLost_grows)
    | simp only [grows_mk_iff] | split | intro _

theorem execFlitRx_grows (p : Nat) (l : Nat) (i : Nat) (corr : Option Nat) (b : List Byte) {s : State} (h :
    Grows a s) : OutGrows a (execFlitRx p l i corr b s) := by
  unfold execFlitRx; try dsimp only
  repeat' first
    | with_reducible (first
        | assumption | apply OutGrows.next | apply flitRx_grows)
    | simp only [grows_mk_iff] | split | intro _

theorem execRetryTimeout_grows (p : Nat) {s : State} (h : Grows a s) : OutGrows a (execRetryTimeout p s) := by
  unfold execRetryTimeout; try dsimp only
  repeat' first
    | with_reducible (first
        | assumption | apply OutGrows.next | apply portUpd_grows | apply linkLost_grows | apply toggleRtog_grows)
    | simp only [grows_mk_iff] | split | intro _

theorem execUnackedTimeout_grows (p : Nat) {s : State} (h : Grows a s) : OutGrows a (execUnackedTimeout p s) := by
  unfold execUnackedTimeout; try dsimp only
  repeat' first
    | with_reducible (first
        | assumption | apply OutGrows.next | apply linkLost_grows)
    | simp only [grows_mk_iff] | split | intro _

/-! ### TwillPhy -/

theorem chooseTopo_grows (p : Nat) {s : State} (h : Grows a s) : Grows a (chooseTopo p s) := by
  unfold chooseTopo; try dsimp only
  repeat' first
    | with_reducible (first
        | assumption | apply foldl_grows | apply holdPort_grows | apply linkDown_grows)
    | simp only [grows_mk_iff] | split | intro _

theorem clockLost_grows (p : Nat) {s : State} (h : Grows a s) : Grows a (clockLost p s) := by
  unfold clockLost; try dsimp only
  repeat' first
    | with_reducible (first
        | assumption | apply foldl_grows | apply phyLevel_grows | apply setB_grows | apply occur_grows
        | apply incF_grows | apply startTrain_grows | apply laneLock_grows | apply linkLost_grows)
    | simp only [grows_mk_iff] | split | intro _

theorem execLosAssert_grows (p : Nat) (l : Nat) {s : State} (h : Grows a s) : OutGrows a (execLosAssert p l s) := by
  unfold execLosAssert; try dsimp only
  repeat' first
    | with_reducible (first
        | assumption | apply OutGrows.next | apply occur_grows | apply incF_grows | apply setB_grows
        | apply clockLost_grows | apply phyLevel_grows | apply laneLost_grows | apply laneUpd_grows
        | apply laneLock_grows)
    | simp only [grows_mk_iff] | split | intro _

theorem execLosDeassert_grows (p : Nat) (l : Nat) {s : State} (h : Grows a s) :
    OutGrows a (execLosDeassert p l s) := by
  unfold execLosDeassert; try dsimp only
  repeat' first
    | with_reducible (first
        | assumption | apply OutGrows.next | apply setB_grows | apply phyLevel_grows | apply setF_grows)
    | simp only [grows_mk_iff] | split | intro _

theorem execClockOutOfLock_grows (p : Nat) {s : State} (h : Grows a s) : OutGrows a (execClockOutOfLock p s) := by
  unfold execClockOutOfLock; try dsimp only
  repeat' first
    | with_reducible (first
        | assumption | apply OutGrows.next | apply clockLost_grows)
    | simp only [grows_mk_iff] | split | intro _

theorem execLaneOutOfLock_grows (p : Nat) (l : Nat) {s : State} (h : Grows a s) :
    OutGrows a (execLaneOutOfLock p l s) := by
  unfold execLaneOutOfLock; try dsimp only
  repeat' first
    | with_reducible (first
        | assumption | apply OutGrows.next | apply laneLost_grows)
    | simp only [grows_mk_iff] | split | intro _

theorem frequencyMeasured_grows (p : Nat) (f : Nat) {s : State} (h : Grows a s) :
    Grows a (frequencyMeasured p f s) := by
  unfold frequencyMeasured; try dsimp only
  repeat' first
    | with_reducible (first
        | assumption | apply tally_grows | apply portUpd_grows | apply startTrain_grows | apply phyLevel_grows
        | apply setB_grows)
    | simp only [grows_mk_iff] | split | intro _

theorem execFrequencyMeasured_grows (p : Nat) (f : Nat) {s : State} (h : Grows a s) :
    OutGrows a (execFrequencyMeasured p f s) := by
  unfold execFrequencyMeasured; try dsimp only
  repeat' first
    | with_reducible (first
        | assumption | apply OutGrows.next | apply frequencyMeasured_grows)
    | simp only [grows_mk_iff] | split | intro _

theorem trainStep_grows (p : Nat) {s : State} (h : Grows a s) : Grows a (trainStep p s) := by
  unfold trainStep; try dsimp only
  repeat' first
    | with_reducible (first
        | assumption | apply portUpd_grows | apply phyLevel_grows | apply linkActive_grows | apply chooseTopo_grows
        | apply setF_grows)
    | simp only [grows_mk_iff] | split | intro _

theorem calBegin_grows (p : Nat) (l : Nat) {s : State} (h : Grows a s) : Grows a (calBegin p l s) := by
  unfold calBegin; try dsimp only
  repeat' first
    | with_reducible (first
        | assumption | apply laneUpd_grows)
    | simp only [grows_mk_iff] | split | intro _

theorem miswire_grows (p : Nat) (l : Nat) (bad : Bool) {s : State} (h : Grows a s) : Grows a (miswire p l bad s) := by
  unfold miswire; try dsimp only
  repeat' first
    | with_reducible (first
        | assumption | apply phyBit_grows | apply levelRise_grows | apply levelFall_grows)
    | simp only [grows_mk_iff] | split | intro _

theorem trainingBlock_grows (p : Nat) (l : Nat) (skew : Nat) (inv : Bool) (b : List Byte) {s : State} (h :
    Grows a s) : Grows a (trainingBlock p l skew inv b s) := by
  unfold trainingBlock; try dsimp only
  repeat' first
    | with_reducible (first
        | assumption | apply setF_grows | apply miswire_grows | apply laneUpd_grows | apply laneLock_grows
        | apply setB_grows | apply calBegin_grows | apply portUpd_grows | apply trainStep_grows)
    | simp only [grows_mk_iff] | split | intro _

theorem execTrainingBlock_grows (p : Nat) (l : Nat) (skew : Nat) (inv : Bool) (b : List Byte) {s : State} (h :
    Grows a s) : OutGrows a (execTrainingBlock p l skew inv b s) := by
  unfold execTrainingBlock; try dsimp only
  repeat' first
    | with_reducible (first
        | assumption | apply OutGrows.next | apply trainingBlock_grows)
    | simp only [grows_mk_iff] | split | intro _

theorem execTrainingTimeout_grows (p : Nat) {s : State} (h : Grows a s) : OutGrows a (execTrainingTimeout p s) := by
  unfold execTrainingTimeout; try dsimp only
  repeat' first
    | with_reducible (first
        | assumption | apply OutGrows.next | apply noteStepFail_grows | apply tally_grows | apply portUpd_grows
        | apply startTrain_grows)
    | simp only [grows_mk_iff] | split | intro _

theorem calApply_grows (p : Nat) (l : Nat) (v : CalRun) {s : State} (h : Grows a s) : Grows a (calApply p l v s) := by
  unfold calApply; try dsimp only
  repeat' first
    | with_reducible (first
        | assumption | apply setI_grows | apply setF_grows | apply laneUpd_grows | apply incF_grows)
    | simp only [grows_mk_iff] | split | intro _

theorem calEnd_grows (p : Nat) (l : Nat) (applied : Bool) {s : State} (h : Grows a s) :
    Grows a (calEnd p l applied s) := by
  unfold calEnd; try dsimp only
  repeat' first
    | with_reducible (first
        | assumption | apply laneUpd_grows | apply calOutcome_grows | apply setF_grows | apply laneLock_grows
        | apply laneReady_grows | apply trainStep_grows)
    | simp only [grows_mk_iff] | split | intro _

theorem calRunDone_grows (p : Nat) (l : Nat) (r : Option CalRun) {s : State} (h : Grows a s) :
    Grows a (calRunDone p l r s) := by
  unfold calRunDone; try dsimp only
  repeat' first
    | with_reducible (first
        | assumption | apply laneUpd_grows | apply calEnd_grows | apply calApply_grows | apply tally_grows)
    | simp only [grows_mk_iff] | split | intro _

theorem execCalRunDone_grows (p : Nat) (l : Nat) (r : Option CalRun) {s : State} (h : Grows a s) :
    OutGrows a (execCalRunDone p l r s) := by
  unfold execCalRunDone; try dsimp only
  repeat' first
    | with_reducible (first
        | assumption | apply OutGrows.next | apply calRunDone_grows)
    | simp only [grows_mk_iff] | split | intro _

theorem calDeferLane_grows (p : Nat) (l : Nat) {s : State} (h : Grows a s) : Grows a (calDeferLane p l s) := by
  unfold calDeferLane; try dsimp only
  repeat' first
    | with_reducible (first
        | assumption | apply tally_grows | apply calOutcome_grows | apply portUpd_grows)
    | simp only [grows_mk_iff] | split | intro _

theorem calStart_grows (p : Nat) {s : State} (h : Grows a s) : Grows a (calStart p s) := by
  unfold calStart; try dsimp only
  repeat' first
    | with_reducible (first
        | assumption | apply calDeferLane_grows | apply portUpd_grows | apply laneUpd_grows | apply laneOut_grows
        | apply laneLock_grows | apply setF_grows)
    | simp only [grows_mk_iff] | split | intro _

theorem execCalStart_grows (p : Nat) {s : State} (h : Grows a s) : OutGrows a (execCalStart p s) := by
  unfold execCalStart; try dsimp only
  repeat' first
    | with_reducible (first
        | assumption | apply OutGrows.next | apply calStart_grows)
    | simp only [grows_mk_iff] | split | intro _

theorem calRequest_grows (p : Nat) (mask : Nat) {s : State} (h : Grows a s) : Grows a (calRequest p mask s) := by
  unfold calRequest; try dsimp only
  repeat' first
    | with_reducible (first
        | assumption | apply foldl_grows | apply portUpd_grows | apply calDeferLane_grows)
    | simp only [grows_mk_iff] | split | intro _

theorem execCalibrate_grows (k : Pkt) {s : State} (h : Grows a s) : OutGrows a (execCalibrate k s) := by
  unfold execCalibrate; try dsimp only
  repeat' first
    | with_reducible (first
        | assumption | apply OutGrows.next | apply ResGrows.ok | apply ResGrows.err | apply ResGrows.later
        | apply plain_grows | apply calRequest_grows | apply startBg_grows | apply portUpd_grows)
    | simp only [grows_mk_iff] | split | intro _

theorem calCmdWrite_grows (p : Nat) (v : Word) {s : State} (h : Grows a s) : Grows a (calCmdWrite p v s) := by
  unfold calCmdWrite; try dsimp only
  repeat' first
    | with_reducible (first
        | assumption | apply calRequest_grows)
    | simp only [grows_mk_iff] | split | intro _

theorem execCalCmdWrite_grows (q : Nat) (p : Nat) (v : Word) {s : State} (h : Grows a s) :
    OutGrows a (execCalCmdWrite q p v s) := by
  unfold execCalCmdWrite; try dsimp only
  repeat' first
    | with_reducible (first
        | assumption | apply OutGrows.next | apply access_grows | apply calCmdWrite_grows)
    | simp only [grows_mk_iff] | split | intro _

theorem execCalRetryTimer_grows (p : Nat) (l : Nat) {s : State} (h : Grows a s) :
    OutGrows a (execCalRetryTimer p l s) := by
  unfold execCalRetryTimer; try dsimp only
  repeat' first
    | with_reducible (first
        | assumption | apply OutGrows.next | apply laneUpd_grows | apply calRequest_grows | apply calBegin_grows)
    | simp only [grows_mk_iff] | split | intro _

theorem eqLoad_grows {s : State} (h : Grows a s) : Grows a (eqLoad s) := by
  unfold eqLoad; try dsimp only
  repeat' first
    | with_reducible (first
        | assumption | apply foldl_grows | apply phyLevel_grows | apply levelRise_grows | apply levelFall_grows)
    | simp only [grows_mk_iff] | split | intro _

theorem eqOverrideWrite_grows (q : Nat) (p : Nat) (l : Nat) (v : Word) {s : State} (h : Grows a s) :
    Grows a (eqOverrideWrite q p l v s) := by
  unfold eqOverrideWrite; try dsimp only
  repeat' first
    | with_reducible (first
        | assumption | apply lockViol_grows | apply storeWord_grows)
    | simp only [grows_mk_iff] | split | intro _

theorem execEqOverrideWrite_grows (q : Nat) (p : Nat) (l : Nat) (v : Word) {s : State} (h : Grows a s) :
    OutGrows a (execEqOverrideWrite q p l v s) := by
  unfold execEqOverrideWrite; try dsimp only
  repeat' first
    | with_reducible (first
        | assumption | apply OutGrows.next | apply access_grows | apply eqOverrideWrite_grows)
    | simp only [grows_mk_iff] | split | intro _

theorem parkLane_grows (p : Nat) (l : Nat) {s : State} (h : Grows a s) : Grows a (parkLane p l s) := by
  unfold parkLane; try dsimp only
  repeat' first
    | with_reducible (first
        | assumption | apply setB_grows | apply replayAll_grows | apply setTxMask_grows | apply laneOut_grows
        | apply laneUpd_grows | apply laneLock_grows)
    | simp only [grows_mk_iff] | split | intro _

theorem unparkLane_grows (p : Nat) (l : Nat) {s : State} (h : Grows a s) : Grows a (unparkLane p l s) := by
  unfold unparkLane; try dsimp only
  repeat' first | with_reducible (first | assumption | apply setB_grows) | simp only [grows_mk_iff] | split | intro _

theorem parkReqWrite_grows (q : Nat) (p : Nat) (l : Nat) (v : Word) {s : State} (h : Grows a s) :
    Grows a (parkReqWrite q p l v s) := by
  unfold parkReqWrite; try dsimp only
  repeat' first
    | with_reducible (first
        | assumption | apply lockViol_grows | apply storeWord_grows | apply setB_grows | apply parkLane_grows
        | apply unparkLane_grows)
    | simp only [grows_mk_iff] | split | intro _

theorem execParkReqWrite_grows (q : Nat) (p : Nat) (l : Nat) (v : Word) {s : State} (h : Grows a s) :
    OutGrows a (execParkReqWrite q p l v s) := by
  unfold execParkReqWrite; try dsimp only
  repeat' first
    | with_reducible (first
        | assumption | apply OutGrows.next | apply access_grows | apply parkReqWrite_grows)
    | simp only [grows_mk_iff] | split | intro _

theorem injWrite_grows (q : Nat) (p : Nat) (l : Nat) (v : Word) {s : State} (h : Grows a s) :
    Grows a (injWrite q p l v s) := by
  unfold injWrite; try dsimp only
  repeat' first
    | with_reducible (first
        | assumption | apply lockViol_grows | apply storeWord_grows | apply send_grows | apply addF_grows)
    | simp only [grows_mk_iff] | split | intro _

theorem execInjGo_grows (q : Nat) (p : Nat) (l : Nat) (v : Word) {s : State} (h : Grows a s) :
    OutGrows a (execInjGo q p l v s) := by
  unfold execInjGo; try dsimp only
  repeat' first
    | with_reducible (first
        | assumption | apply OutGrows.next | apply access_grows | apply injWrite_grows)
    | simp only [grows_mk_iff] | split | intro _

theorem loopEnd_grows (p : Nat) {s : State} (h : Grows a s) : Grows a (loopEnd p s) := by
  unfold loopEnd; try dsimp only
  repeat' first
    | with_reducible (first
        | assumption | apply setF_grows | apply holdPort_grows | apply startTrain_grows)
    | simp only [grows_mk_iff] | split | intro _

theorem testCtrlWrite_grows (q : Nat) (p : Nat) (v : Word) {s : State} (h : Grows a s) :
    Grows a (testCtrlWrite q p v s) := by
  unfold testCtrlWrite; try dsimp only
  repeat' first
    | with_reducible (first
        | assumption | apply lockViol_grows | apply storeWord_grows | apply loopEnd_grows | apply send_grows
        | apply setF_grows | apply lanesDown_grows | apply linkDown_grows)
    | simp only [grows_mk_iff] | split | intro _

theorem execTestLoopWrite_grows (q : Nat) (p : Nat) (v : Word) {s : State} (h : Grows a s) :
    OutGrows a (execTestLoopWrite q p v s) := by
  unfold execTestLoopWrite; try dsimp only
  repeat' first
    | with_reducible (first
        | assumption | apply OutGrows.next | apply access_grows | apply testCtrlWrite_grows)
    | simp only [grows_mk_iff] | split | intro _

theorem execLoopTimeout_grows (p : Nat) {s : State} (h : Grows a s) : OutGrows a (execLoopTimeout p s) := by
  unfold execLoopTimeout; try dsimp only
  repeat' first
    | with_reducible (first
        | assumption | apply OutGrows.next | apply loopEnd_grows)
    | simp only [grows_mk_iff] | split | intro _

theorem phyCtrlWrite_grows (p : Nat) (v : Word) {s : State} (h : Grows a s) : Grows a (phyCtrlWrite p v s) := by
  unfold phyCtrlWrite; try dsimp only
  repeat' first
    | with_reducible (first
        | assumption | apply storeWord_grows | apply holdPort_grows | apply linkDown_grows | apply releasePort_grows)
    | simp only [grows_mk_iff] | split | intro _

theorem execTxIdleWrite_grows (q : Nat) (p : Nat) (v : Word) {s : State} (h : Grows a s) :
    OutGrows a (execTxIdleWrite q p v s) := by
  unfold execTxIdleWrite; try dsimp only
  repeat' first
    | with_reducible (first
        | assumption | apply OutGrows.next | apply access_grows | apply phyCtrlWrite_grows)
    | simp only [grows_mk_iff] | split | intro _

theorem execCheckerLock_grows (p : Nat) (l : Nat) {s : State} (h : Grows a s) :
    OutGrows a (execCheckerLock p l s) := by
  unfold execCheckerLock; try dsimp only
  repeat' first
    | with_reducible (first
        | assumption | apply OutGrows.next | apply setB_grows)
    | simp only [grows_mk_iff] | split | intro _

theorem execCheckerLockLoss_grows (p : Nat) (l : Nat) (bits : Nat) (errs : Nat) {s : State} (h : Grows a s) :
    OutGrows a (execCheckerLockLoss p l bits errs s) := by
  unfold execCheckerLockLoss; try dsimp only
  repeat' first
    | with_reducible (first
        | assumption | apply OutGrows.next | apply add48_grows | apply setB_grows)
    | simp only [grows_mk_iff] | split | intro _

theorem twillLeaveService_grows {s : State} (h : Grows a s) : Grows a (twillLeaveService s) := by
  unfold twillLeaveService; try dsimp only
  repeat' first
    | with_reducible (first
        | assumption | apply foldl_grows | apply loopEnd_grows | apply regPut_grows | apply setB_grows
        | apply calRequest_grows)
    | simp only [grows_mk_iff] | split | intro _

/-! ### Discovery -/

theorem admitFound_grows (i : Nat) (r : List Byte) {s : State} (h : Grows a s) : Grows a (admitFound i r s) := by
  unfold admitFound; try dsimp only
  repeat' first
    | with_reducible (first
        | assumption | apply slotUpd_grows | apply setF_grows | apply tally_grows | apply admitSlot_grows)
    | simp only [grows_mk_iff] | split | intro _

theorem numberTile_grows (p : Nat) (x1 : Nat) (r : List Byte) {s : State} (h : Grows a s) :
    Grows a (numberTile p x1 r s) := by
  unfold numberTile; try dsimp only
  repeat' first
    | with_reducible (first
        | assumption | apply admitFound_grows | apply portUpd_grows | apply slotUpd_grows | apply broadcast_grows)
    | simp only [grows_mk_iff] | split | intro _

theorem discoverReply_grows (p : Nat) {s : State} (h : Grows a s) : Grows a (discoverReply p s) := by
  unfold discoverReply; try dsimp only
  repeat' first
    | with_reducible (first
        | assumption | apply finish_grows | apply endBg_grows)
    | simp only [grows_mk_iff] | split | intro _

theorem runUpdate_grows (p : Nat) {s : State} (h : Grows a s) : Grows a (runUpdate p s) := by
  unfold runUpdate; try dsimp only
  repeat' first
    | with_reducible (first
        | assumption | apply setF_grows | apply setB_grows | apply levelRise_grows | apply levelFall_grows
        | apply discoverReply_grows | apply reroute_grows)
    | simp only [grows_mk_iff] | split | intro _

theorem execDiscover_grows (k : Pkt) {s : State} (h : Grows a s) : OutGrows a (execDiscover k s) := by
  unfold execDiscover; try dsimp only
  repeat' first
    | with_reducible (first
        | assumption | apply OutGrows.next | apply ResGrows.ok | apply ResGrows.err | apply ResGrows.later
        | apply plain_grows | apply startRun_grows | apply startBg_grows)
    | simp only [grows_mk_iff] | split | intro _

theorem execGetTopology_grows (k : Pkt) {s : State} (h : Grows a s) : OutGrows a (execGetTopology k s) := by
  unfold execGetTopology; try dsimp only
  repeat' first
    | with_reducible (first
        | assumption | apply OutGrows.next | apply ResGrows.ok | apply ResGrows.err | apply ResGrows.later
        | apply plain_grows)
    | simp only [grows_mk_iff] | split | intro _

theorem discoverTile_grows (p : Nat) (m : Msg) {s0 : State} (h : Grows a s0) : Grows a (discoverTile p m s0) := by
  unfold discoverTile; try dsimp only
  repeat' first
    | with_reducible (first
        | assumption | apply adoptGeometry_grows | apply setF_grows | apply setB_grows | apply sendMsg_grows)
    | simp only [grows_mk_iff] | split | intro _

theorem discoverSender_grows (p : Nat) (m : Msg) {s : State} (h : Grows a s) : Grows a (discoverSender p m s) := by
  unfold discoverSender; try dsimp only
  repeat' first
    | with_reducible (first
        | assumption | apply runUpdate_grows | apply portUpd_grows | apply sendMsg_grows)
    | simp only [grows_mk_iff] | split | intro _

theorem execDiscoverMessage_grows (p : Nat) (m : Msg) {s : State} (h : Grows a s) :
    OutGrows a (execDiscoverMessage p m s) := by
  unfold execDiscoverMessage; try dsimp only
  repeat' first
    | with_reducible (first
        | assumption | apply OutGrows.next | apply msgIn_grows | apply discoverSender_grows
        | apply discoverTile_grows)
    | simp only [grows_mk_iff] | split | intro _

theorem takeDiscoverReply_grows (p : Nat) (m : Msg) {s : State} (h : Grows a s) :
    Grows a (takeDiscoverReply p m s) := by
  unfold takeDiscoverReply; try dsimp only
  repeat' first
    | with_reducible (first
        | assumption | apply portUpd_grows | apply runUpdate_grows | apply numberTile_grows)
    | simp only [grows_mk_iff] | split | intro _

theorem execDiscoverReply_grows (p : Nat) (m : Msg) {s : State} (h : Grows a s) :
    OutGrows a (execDiscoverReply p m s) := by
  unfold execDiscoverReply; try dsimp only
  repeat' first
    | with_reducible (first
        | assumption | apply OutGrows.next | apply msgIn_grows | apply takeDiscoverReply_grows)
    | simp only [grows_mk_iff] | split | intro _

theorem execProbe_grows (p : Nat) (m : Msg) {s : State} (h : Grows a s) : OutGrows a (execProbe p m s) := by
  unfold execProbe; try dsimp only
  repeat' first
    | with_reducible (first
        | assumption | apply OutGrows.next | apply msgIn_grows | apply sendMsg_grows)
    | simp only [grows_mk_iff] | split | intro _

theorem takeProbeReply_grows (m : Msg) {s : State} (h : Grows a s) : Grows a (takeProbeReply m s) := by
  unfold takeProbeReply; try dsimp only
  repeat' first
    | with_reducible (first
        | assumption | apply foldl_grows | apply portUpd_grows | apply occur_grows)
    | simp only [grows_mk_iff] | split | intro _

theorem execProbeReply_grows (p : Nat) (m : Msg) {s : State} (h : Grows a s) : OutGrows a (execProbeReply p m s) := by
  unfold execProbeReply; try dsimp only
  repeat' first
    | with_reducible (first
        | assumption | apply OutGrows.next | apply msgIn_grows | apply takeProbeReply_grows)
    | simp only [grows_mk_iff] | split | intro _

theorem sendAssign_grows (p : Nat) (x1 : Nat) (x : List Byte × Nat × Bool) {s : State} (h : Grows a s) :
    Grows a (sendAssign p x1 x s) := by
  unfold sendAssign; try dsimp only
  repeat' first
    | with_reducible (first
        | assumption | apply portUpd_grows | apply sendMsg_grows)
    | simp only [grows_mk_iff] | split | intro _

theorem execProbeWaitExpiry_grows (p : Nat) (x1 : Nat) {s : State} (h : Grows a s) :
    OutGrows a (execProbeWaitExpiry p x1 s) := by
  unfold execProbeWaitExpiry; try dsimp only
  repeat' first
    | with_reducible (first
        | assumption | apply OutGrows.next | apply portUpd_grows | apply sendAssign_grows)
    | simp only [grows_mk_iff] | split | intro _

theorem takeAssign_grows (p : Nat) (m : Msg) {s : State} (h : Grows a s) : Grows a (takeAssign p m s) := by
  unfold takeAssign; try dsimp only
  repeat' first
    | with_reducible (first
        | assumption | apply sendMsg_grows)
    | simp only [grows_mk_iff] | split | intro _

theorem execAssign_grows (p : Nat) (m : Msg) {s : State} (h : Grows a s) : OutGrows a (execAssign p m s) := by
  unfold execAssign; try dsimp only
  repeat' first
    | with_reducible (first
        | assumption | apply OutGrows.next | apply msgIn_grows | apply takeAssign_grows)
    | simp only [grows_mk_iff] | split | intro _

theorem takeAssignAck_grows (m : Msg) {s : State} (h : Grows a s) : Grows a (takeAssignAck m s) := by
  unfold takeAssignAck; try dsimp only
  repeat' first
    | with_reducible (first
        | assumption | apply foldl_grows | apply admitFound_grows | apply portUpd_grows)
    | simp only [grows_mk_iff] | split | intro _

theorem execAssignAck_grows (p : Nat) (m : Msg) {s : State} (h : Grows a s) : OutGrows a (execAssignAck p m s) := by
  unfold execAssignAck; try dsimp only
  repeat' first
    | with_reducible (first
        | assumption | apply OutGrows.next | apply msgIn_grows | apply takeAssignAck_grows)
    | simp only [grows_mk_iff] | split | intro _

theorem execAssignRetryTimeout_grows (p : Nat) (x1 : Nat) {s : State} (h : Grows a s) :
    OutGrows a (execAssignRetryTimeout p x1 s) := by
  unfold execAssignRetryTimeout; try dsimp only
  repeat' first
    | with_reducible (first
        | assumption | apply OutGrows.next | apply sendAssign_grows | apply portUpd_grows)
    | simp only [grows_mk_iff] | split | intro _

theorem takeLinkEvent_grows (p : Nat) (m : Msg) {s : State} (h : Grows a s) : Grows a (takeLinkEvent p m s) := by
  unfold takeLinkEvent; try dsimp only
  repeat' first
    | with_reducible (first
        | assumption | apply portUpd_grows | apply reachFall_grows)
    | simp only [grows_mk_iff] | split | intro _

theorem execLinkEvent_grows (p : Nat) (m : Msg) {s : State} (h : Grows a s) : OutGrows a (execLinkEvent p m s) := by
  unfold execLinkEvent; try dsimp only
  repeat' first
    | with_reducible (first
        | assumption | apply OutGrows.next | apply msgIn_grows | apply takeLinkEvent_grows)
    | simp only [grows_mk_iff] | split | intro _

theorem execHealHoldExpiry_grows (p : Nat) {s : State} (h : Grows a s) : OutGrows a (execHealHoldExpiry p s) := by
  unfold execHealHoldExpiry; try dsimp only
  repeat' first
    | with_reducible (first
        | assumption | apply OutGrows.next | apply portUpd_grows | apply startRun_grows)
    | simp only [grows_mk_iff] | split | intro _

theorem sendLiveness_grows (frame : Nat) {s : State} (h : Grows a s) : Grows a (sendLiveness frame s) := by
  unfold sendLiveness; try dsimp only
  repeat' first
    | with_reducible (first
        | assumption | apply foldl_grows | apply sendMsg_grows)
    | simp only [grows_mk_iff] | split | intro _

theorem execLivenessIdleTimer_grows {s : State} (h : Grows a s) : OutGrows a (execLivenessIdleTimer s) := by
  unfold execLivenessIdleTimer; try dsimp only
  repeat' first
    | with_reducible (first
        | assumption | apply OutGrows.next | apply sendLiveness_grows)
    | simp only [grows_mk_iff] | split | intro _

theorem livenessFrame_grows (fr : Nat) {s : State} (h : Grows a s) : Grows a (livenessFrame fr s) := by
  unfold livenessFrame; try dsimp only
  repeat' first | with_reducible (first | assumption | apply tally_grows) | simp only [grows_mk_iff] | split | intro _

theorem takeLiveness_grows (p : Nat) (m : Msg) {s : State} (h : Grows a s) : Grows a (takeLiveness p m s) := by
  unfold takeLiveness; try dsimp only
  repeat' first | with_reducible assumption | simp only [grows_mk_iff] | split | intro _

theorem execLiveness_grows (p : Nat) (m : Msg) {s : State} (h : Grows a s) : OutGrows a (execLiveness p m s) := by
  unfold execLiveness; try dsimp only
  repeat' first
    | with_reducible (first
        | assumption | apply OutGrows.next | apply msgIn_grows | apply takeLiveness_grows
        | apply livenessFrame_grows)
    | simp only [grows_mk_iff] | split | intro _

theorem execPrimaryLost_grows {s : State} (h : Grows a s) : OutGrows a (execPrimaryLost s) := by
  unfold execPrimaryLost; try dsimp only
  repeat' first
    | with_reducible (first
        | assumption | apply OutGrows.next | apply sendMsg_grows)
    | simp only [grows_mk_iff] | split | intro _

theorem takeBackupReq_grows (m : Msg) {s : State} (h : Grows a s) : Grows a (takeBackupReq m s) := by
  unfold takeBackupReq; try dsimp only
  repeat' first
    | with_reducible (first
        | assumption | apply admitSlot_grows | apply slotUpd_grows)
    | simp only [grows_mk_iff] | split | intro _

theorem execBackupReq_grows (p : Nat) (m : Msg) {s : State} (h : Grows a s) : OutGrows a (execBackupReq p m s) := by
  unfold execBackupReq; try dsimp only
  repeat' first
    | with_reducible (first
        | assumption | apply OutGrows.next | apply msgIn_grows | apply takeBackupReq_grows)
    | simp only [grows_mk_iff] | split | intro _

theorem takeBackupRelease_grows (m : Msg) {s : State} (h : Grows a s) : Grows a (takeBackupRelease m s) := by
  unfold takeBackupRelease; try dsimp only
  repeat' first
    | with_reducible (first
        | assumption | apply setF_grows | apply slotFull_grows | apply slotEmpty_grows)
    | simp only [grows_mk_iff] | split | intro _

theorem execBackupRelease_grows (p : Nat) (m : Msg) {s : State} (h : Grows a s) :
    OutGrows a (execBackupRelease p m s) := by
  unfold execBackupRelease; try dsimp only
  repeat' first
    | with_reducible (first
        | assumption | apply OutGrows.next | apply msgIn_grows | apply takeBackupRelease_grows)
    | simp only [grows_mk_iff] | split | intro _

theorem execLockdownNotice_grows (p : Nat) (m : Msg) {s : State} (h : Grows a s) :
    OutGrows a (execLockdownNotice p m s) := by
  unfold execLockdownNotice; try dsimp only
  repeat' first
    | with_reducible (first
        | assumption | apply OutGrows.next | apply msgIn_grows | apply linkLost_grows)
    | simp only [grows_mk_iff] | split | intro _

theorem afterMap_grows {s : State} (h : Grows a s) : Grows a (afterMap s) := by
  unfold afterMap; try dsimp only
  repeat' first
    | with_reducible (first
        | assumption | apply foldl_grows | apply reroute_grows | apply numberTile_grows)
    | simp only [grows_mk_iff] | split | intro _

theorem mapTakes_grows (m : List Byte) {s : State} (h : Grows a s) : Grows a (mapTakes m s) := by
  unfold mapTakes; try dsimp only
  repeat' first
    | with_reducible (first
        | assumption | apply afterMap_grows | apply applyMap_grows)
    | simp only [grows_mk_iff] | split | intro _

theorem mapCommit_grows (m : List Byte) {t : State} (h : Grows a t) : OptGrows₂ a (mapCommit m t) := by
  unfold mapCommit; try dsimp only
  repeat' first
    | with_reducible (first
        | assumption | apply OptGrows₂.some | apply OptGrows₂.none | apply mapTakes_grows)
    | simp only [grows_mk_iff] | split | intro _

theorem execCommitMap_grows (k : Pkt) {s : State} (h : Grows a s) : OutGrows a (execCommitMap k s) := by
  unfold execCommitMap; try dsimp only
  repeat' first
    | with_reducible (first
        | assumption | apply OutGrows.next | apply ResGrows.ok | apply ResGrows.err | apply ResGrows.later
        | apply plain_grows | apply mapCommit_grows | refine OptGrows₂.of ?_ (by with_reducible assumption))
    | simp only [grows_mk_iff] | split | intro _

end Sys2Proof.Machine
end

