-- ==== Sys2Proof/Laws/GrowsModule.lean ====
section
/-! SUPPORT. What no effect undoes, for DAMASK and the strands. -/

namespace Sys2Proof.Machine

open State

variable {a : State}

/-! ### Damask -/

theorem userShow_grows {s : State} (h : Grows a s) : Grows a (userShow s) := by
  unfold userShow; try dsimp only
  repeat' first
    | with_reducible (first
        | assumption | apply setF_grows | apply setLevel_grows)
    | simp only [grows_mk_iff] | split | intro _

theorem userTake_grows (b : List Byte) {s : State} (h : Grows a s) : Grows a (userTake b s) := by
  unfold userTake; try dsimp only
  repeat' first
    | with_reducible (first
        | assumption | apply userShow_grows)
    | simp only [grows_mk_iff] | split | intro _

theorem dmkCount_grows (f : Fld) (n : Nat) {s : State} (h : Grows a s) : Grows a (dmkCount f n s) := by
  unfold dmkCount; try dsimp only
  repeat' first | with_reducible (first | assumption | apply tallyN_grows) | simp only [grows_mk_iff] | split | intro _

theorem correctFor_grows (n : Nat) (c : Nat) {s : State} (h : Grows a s) : Grows a (correctFor n c s) := by
  unfold correctFor; try dsimp only
  repeat' first
    | with_reducible (first
        | assumption | apply foldl_grows | apply dmkCount_grows)
    | simp only [grows_mk_iff] | split | intro _

theorem creditCell_grows (c : Nat) {s : State} (h : Grows a s) : Grows a (creditCell c s) := by
  unfold creditCell; try dsimp only
  repeat' first | with_reducible (first | assumption | apply foldl_grows) | simp only [grows_mk_iff] | split | intro _

theorem creditAll_grows {s : State} (h : Grows a s) : Grows a (creditAll s) := by
  unfold creditAll; try dsimp only
  repeat' first
    | with_reducible (first
        | assumption | apply foldl_grows | apply creditCell_grows)
    | simp only [grows_mk_iff] | split | intro _

theorem takeCodes_grows (c : Nat) {s : State} (h : Grows a s) : Grows a (takeCodes c s) := by
  unfold takeCodes; try dsimp only
  repeat' first
    | with_reducible (first
        | assumption | apply foldl_grows | apply creditCell_grows)
    | simp only [grows_mk_iff] | split | intro _

theorem markCells_grows (l : List Nat) {s : State} (h : Grows a s) : Grows a (markCells l s) := by
  unfold markCells; try dsimp only
  repeat' first | with_reducible assumption | simp only [grows_mk_iff] | split | intro _

theorem markEvery_grows {s : State} (h : Grows a s) : Grows a (markEvery s) := by
  unfold markEvery; try dsimp only
  repeat' first | with_reducible assumption | simp only [grows_mk_iff] | split | intro _

theorem sweepCell_grows (n : Nat) (c : Nat) {s : State} (h : Grows a s) : Grows a (sweepCell n c s) := by
  unfold sweepCell; try dsimp only
  repeat' first
    | with_reducible (first
        | assumption | apply creditCell_grows | apply dmkCount_grows | apply markCells_grows)
    | simp only [grows_mk_iff] | split | intro _

theorem sweepStep_grows (n : Nat) {s : State} (h : Grows a s) : Grows a (sweepStep n s) := by
  unfold sweepStep; try dsimp only
  repeat' first
    | with_reducible (first
        | assumption | apply foldl_grows | apply sweepCell_grows)
    | simp only [grows_mk_iff] | split | intro _

theorem tempMarks_grows {s : State} (h : Grows a s) : Grows a (tempMarks s) := by
  unfold tempMarks; try dsimp only
  repeat' first
    | with_reducible (first
        | assumption | apply foldl_grows | apply setI_grows | apply markCells_grows | apply addF_grows
        | apply dmkCount_grows)
    | simp only [grows_mk_iff] | split | intro _

theorem frameFigures_grows {s : State} (h : Grows a s) : Grows a (frameFigures s) := by
  unfold frameFigures; try dsimp only
  repeat' first
    | with_reducible (first
        | assumption | apply foldl_grows | apply setSat_grows | apply setI_grows)
    | simp only [grows_mk_iff] | split | intro _

theorem correctFrame_grows (n : Nat) {s : State} (h : Grows a s) : Grows a (correctFrame n s) := by
  unfold correctFrame; try dsimp only
  repeat' first
    | with_reducible (first
        | assumption | apply foldl_grows | apply userTake_grows | apply correctFor_grows | apply setI_grows
        | apply frameFigures_grows)
    | simp only [grows_mk_iff] | split | intro _

theorem wallFollow_grows {s : State} (h : Grows a s) : Grows a (wallFollow s) := by
  unfold wallFollow; try dsimp only
  repeat' first
    | with_reducible (first
        | assumption | apply setLevel_grows | apply levelRise_grows | apply levelFall_grows | apply markEvery_grows
        | apply setF_grows)
    | simp only [grows_mk_iff] | split | intro _

theorem execWallSettings_grows (p : Nat) (m : Msg) {s : State} (h : Grows a s) :
    OutGrows a (execWallSettings p m s) := by
  unfold execWallSettings; try dsimp only
  repeat' first
    | with_reducible (first
        | assumption | apply OutGrows.next | apply msgIn_grows | apply wallFollow_grows | apply wallStore_grows)
    | simp only [grows_mk_iff] | split | intro _

theorem setAgeLost_grows (on : Bool) {s : State} (h : Grows a s) : Grows a (setAgeLost on s) := by
  unfold setAgeLost; try dsimp only
  repeat' first
    | with_reducible (first
        | assumption | apply setB_grows | apply levelRise_grows | apply levelFall_grows)
    | simp only [grows_mk_iff] | split | intro _

theorem ageFrom_grows (b : List Byte) {s : State} (h : Grows a s) : Grows a (ageFrom b s) := by
  unfold ageFrom; try dsimp only
  repeat' first | with_reducible (first | assumption | apply foldl_grows) | simp only [grows_mk_iff] | split | intro _

theorem loadAges_grows (m : Module) {s : State} (h : Grows a s) : Grows a (loadAges m s) := by
  unfold loadAges; try dsimp only
  repeat' first
    | with_reducible (first
        | assumption | apply foldl_grows | apply setF_grows | apply setAgeLost_grows | apply ageFrom_grows
        | apply setB_grows)
    | simp only [grows_mk_iff] | split | intro _

theorem ckptStart_grows {s : State} (h : Grows a s) : Grows a (ckptStart s) := by
  unfold ckptStart; try dsimp only
  repeat' first
    | with_reducible (first
        | assumption | apply creditAll_grows | apply setLevel_grows)
    | simp only [grows_mk_iff] | simp only [grows_nvx_iff] | split | intro _

theorem execCheckpoint_grows {s : State} (h : Grows a s) : OutGrows a (execCheckpoint s) := by
  unfold execCheckpoint; try dsimp only
  repeat' first
    | with_reducible (first
        | assumption | apply OutGrows.next | apply ckptStart_grows)
    | simp only [grows_mk_iff] | split | intro _

theorem ageCtrlWrite_grows (q : Nat) (v : Word) {s : State} (h : Grows a s) : Grows a (ageCtrlWrite q v s) := by
  unfold ageCtrlWrite; try dsimp only
  repeat' first
    | with_reducible (first
        | assumption | apply access_grows | apply storeWord_grows | apply ckptStart_grows)
    | simp only [grows_mk_iff] | split | intro _

theorem execCkptNow_grows (q : Nat) (v : Word) {s : State} (h : Grows a s) : OutGrows a (execCkptNow q v s) := by
  unfold execCkptNow; try dsimp only
  repeat' first
    | with_reducible (first
        | assumption | apply OutGrows.next | apply ageCtrlWrite_grows)
    | simp only [grows_mk_iff] | split | intro _

theorem ckptAbandon_grows {s : State} (h : Grows a s) : Grows a (ckptAbandon s) := by
  unfold ckptAbandon; try dsimp only
  repeat' first
    | with_reducible (first
        | assumption | apply setLevel_grows)
    | simp only [grows_mk_iff] | split | intro _

theorem execFactoryWrite_grows (k : Pkt) (f : Fetch) {s : State} (h : Grows a s) :
    OutGrows a (execFactoryWrite k f s) := by
  unfold execFactoryWrite; try dsimp only
  repeat' first
    | with_reducible (first
        | assumption | apply OutGrows.next | apply ResGrows.ok | apply ResGrows.err | apply ResGrows.later
        | apply command_grows | apply startBg_grows)
    | simp only [grows_mk_iff] | split | intro _

theorem execLoadUserLayer_grows (k : Pkt) (f : Fetch) {s : State} (h : Grows a s) :
    OutGrows a (execLoadUserLayer k f s) := by
  unfold execLoadUserLayer; try dsimp only
  repeat' first
    | with_reducible (first
        | assumption | apply OutGrows.next | apply ResGrows.ok | apply ResGrows.err | apply ResGrows.later
        | apply command_grows | apply startBg_grows)
    | simp only [grows_mk_iff] | split | intro _

theorem execUserLayerWriteDone_grows (good : Bool) {s : State} (h : Grows a s) :
    OutGrows a (execUserLayerWriteDone good s) := by
  unfold execUserLayerWriteDone; try dsimp only
  repeat' first
    | with_reducible (first
        | assumption | apply OutGrows.next | apply endBg_grows | apply finish_grows)
    | simp only [grows_mk_iff] | simp only [grows_nvx_iff] | split | intro _

theorem execRevertUserLayer_grows (k : Pkt) {s : State} (h : Grows a s) : OutGrows a (execRevertUserLayer k s) := by
  unfold execRevertUserLayer; try dsimp only
  repeat' first
    | with_reducible (first
        | assumption | apply OutGrows.next | apply ResGrows.ok | apply ResGrows.err | apply ResGrows.later
        | apply plain_grows)
    | simp only [grows_mk_iff] | split | intro _

theorem execReadAgeing_grows (k : Pkt) (f : Fetch) {s : State} (h : Grows a s) :
    OutGrows a (execReadAgeing k f s) := by
  unfold execReadAgeing; try dsimp only
  repeat' first
    | with_reducible (first
        | assumption | apply OutGrows.next | apply ResGrows.ok | apply ResGrows.err | apply ResGrows.later
        | apply command_grows | apply creditAll_grows | apply refWrite_grows
        | refine ExGrows.of ?_ (by with_reducible assumption))
    | simp only [grows_mk_iff] | split | intro _

theorem loadLayers_grows (keep : Bool) {s : State} (h : Grows a s) : Grows a (loadLayers keep s) := by
  unfold loadLayers; try dsimp only
  repeat' first
    | with_reducible (first
        | assumption | apply setFl_grows | apply userShow_grows | apply wallFollow_grows | apply setF_grows
        | apply loadAges_grows)
    | simp only [grows_mk_iff] | split | intro _

/-! ### Strand -/

theorem strRefresh_grows {s : State} (h : Grows a s) : Grows a (strRefresh s) := by
  unfold strRefresh; try dsimp only
  repeat' first
    | with_reducible (first
        | assumption | apply setLevel_grows)
    | simp only [grows_mk_iff] | split | intro _

theorem setStrand_grows (st : Nat) (v : Nat) {s : State} (h : Grows a s) : Grows a (setStrand st v s) := by
  unfold setStrand; try dsimp only
  repeat' first
    | with_reducible (first
        | assumption | apply setLevel_grows | apply levelRise_grows | apply levelFall_grows | apply setF_grows)
    | simp only [grows_mk_iff] | split | intro _

theorem strMark_grows (l : List Nat) {s : State} (h : Grows a s) : Grows a (strMark l s) := by
  unfold strMark; try dsimp only
  repeat' first
    | with_reducible (first
        | assumption | apply addF_grows | apply markCells_grows)
    | simp only [grows_mk_iff] | split | intro _

theorem sendConfig_grows (sts : List Nat) (atSwap : Bool) (n : Nat) {s : State} (h : Grows a s) :
    Grows a (sendConfig sts atSwap n s) := by
  unfold sendConfig; try dsimp only
  repeat' first
    | with_reducible (first
        | assumption | apply foldl_grows | apply takeFree_grows | apply strandSend_grows)
    | simp only [grows_mk_iff] | split | intro _

theorem enumBegin_grows (blank : Bool) (st : Nat) {s : State} (h : Grows a s) : Grows a (enumBegin blank st s) := by
  unfold enumBegin; try dsimp only
  repeat' first
    | with_reducible (first
        | assumption | apply tally_grows | apply setStrand_grows | apply setF_grows | apply strandSend_grows
        | apply sendConfig_grows)
    | simp only [grows_mk_iff] | split | intro _

theorem issueRead_grows (r : StrRead) {s : State} (h : Grows a s) : Grows a (issueRead r s) := by
  unfold issueRead; try dsimp only
  repeat' first
    | with_reducible (first
        | assumption | apply strandSend_grows)
    | simp only [grows_mk_iff] | split | intro _

theorem pumpGroup_grows (g : Nat) {s : State} (h : Grows a s) : Grows a (pumpGroup g s) := by
  unfold pumpGroup; try dsimp only
  repeat' first
    | with_reducible (first
        | assumption | apply foldl_grows | apply enumBegin_grows | apply issueRead_grows)
    | simp only [grows_mk_iff] | split | intro _

theorem pumpAll_grows {s : State} (h : Grows a s) : Grows a (pumpAll s) := by
  unfold pumpAll; try dsimp only
  repeat' first
    | with_reducible (first
        | assumption | apply foldl_grows | apply pumpGroup_grows)
    | simp only [grows_mk_iff] | split | intro _

theorem enumEnd_grows (st : Nat) (bad : Option Nat) {s : State} (h : Grows a s) : Grows a (enumEnd st bad s) := by
  unfold enumEnd; try dsimp only
  repeat' first
    | with_reducible (first
        | assumption | apply foldl_grows | apply setStrand_grows | apply setF_grows | apply strMark_grows
        | apply strRefresh_grows | apply finish_grows | apply endBg_grows)
    | simp only [grows_mk_iff] | split | intro _

theorem enumStep_grows (st : Nat) (d : Nat) (answered : Bool) (good : Bool) {s : State} (h : Grows a s) :
    Grows a (enumStep st d answered good s) := by
  unfold enumStep; try dsimp only
  repeat' first
    | with_reducible (first
        | assumption | apply setB_grows | apply addF_grows | apply enumEnd_grows)
    | simp only [grows_mk_iff] | split | intro _

theorem statusReply_grows (st : Nat) (d : Nat) (w0 : Nat) (w1 : Nat) {s : State} (h : Grows a s) :
    Grows a (statusReply st d w0 w1 s) := by
  unfold statusReply; try dsimp only
  repeat' first
    | with_reducible (first
        | assumption | apply setF_grows | apply addF_grows | apply tally_grows | apply strMark_grows)
    | simp only [grows_mk_iff] | split | intro _

theorem readEnd_grows (g : Nat) (r : StrRead) (reply : Option (List Nat)) {s : State} (h : Grows a s) :
    Grows a (readEnd g r reply s) := by
  unfold readEnd; try dsimp only
  repeat' first
    | with_reducible (first
        | assumption | apply finish_grows | apply enumStep_grows | apply statusReply_grows | apply setF_grows
        | apply pumpGroup_grows)
    | simp only [grows_mk_iff] | split | intro _

theorem execReturnReply_grows (g : Nat) (words : List Nat) (crc : Nat) {s : State} (h : Grows a s) :
    OutGrows a (execReturnReply g words crc s) := by
  unfold execReturnReply; try dsimp only
  repeat' first
    | with_reducible (first
        | assumption | apply OutGrows.next | apply readEnd_grows | apply tally_grows)
    | simp only [grows_mk_iff] | split | intro _

theorem execReadTimeout_grows (g : Nat) {s : State} (h : Grows a s) : OutGrows a (execReadTimeout g s) := by
  unfold execReadTimeout; try dsimp only
  repeat' first
    | with_reducible (first
        | assumption | apply OutGrows.next | apply tally_grows | apply readEnd_grows)
    | simp only [grows_mk_iff] | split | intro _

theorem execStatusPoll_grows (g : Nat) {s : State} (h : Grows a s) : OutGrows a (execStatusPoll g s) := by
  unfold execStatusPoll; try dsimp only
  repeat' first
    | with_reducible (first
        | assumption | apply OutGrows.next | apply pumpGroup_grows | apply issueRead_grows)
    | simp only [grows_mk_iff] | split | intro _

theorem execStrandRead_grows (k : Pkt) {s : State} (h : Grows a s) : OutGrows a (execStrandRead k s) := by
  unfold execStrandRead; try dsimp only
  repeat' first
    | with_reducible (first
        | assumption | apply OutGrows.next | apply ResGrows.ok | apply ResGrows.err | apply ResGrows.later
        | apply plain_grows | apply pumpGroup_grows)
    | simp only [grows_mk_iff] | split | intro _

theorem enumStrands_grows (blank : Bool) (sts : List Nat) {s : State} (h : Grows a s) :
    Grows a (enumStrands blank sts s) := by
  unfold enumStrands; try dsimp only
  repeat' first
    | with_reducible (first
        | assumption | apply foldl_grows | apply pumpAll_grows | apply strRefresh_grows | apply enumBegin_grows)
    | simp only [grows_mk_iff] | split | intro _

theorem execEnumerate_grows (k : Pkt) {s : State} (h : Grows a s) : OutGrows a (execEnumerate k s) := by
  unfold execEnumerate; try dsimp only
  repeat' first
    | with_reducible (first
        | assumption | apply OutGrows.next | apply ResGrows.ok | apply ResGrows.err | apply ResGrows.later
        | apply plain_grows | apply enumStrands_grows | apply startBg_grows)
    | simp only [grows_mk_iff] | split | intro _

theorem execDiagDrive_grows (k : Pkt) {s : State} (h : Grows a s) : OutGrows a (execDiagDrive k s) := by
  unfold execDiagDrive; try dsimp only
  repeat' first
    | with_reducible (first
        | assumption | apply OutGrows.next | apply ResGrows.ok | apply ResGrows.err | apply ResGrows.later
        | apply foldl_grows | apply plain_grows | apply strandSend_grows | apply send_grows)
    | simp only [grows_mk_iff] | split | intro _

theorem prepShow_grows {s : State} (h : Grows a s) : Grows a (prepShow s) := by
  unfold prepShow; try dsimp only
  repeat' first
    | with_reducible (first
        | assumption | apply foldl_grows | apply setSat_grows)
    | simp only [grows_mk_iff] | split | intro _

theorem strandsStart_grows (blank : Bool) {s : State} (h : Grows a s) : Grows a (strandsStart blank s) := by
  unfold strandsStart; try dsimp only
  repeat' first
    | with_reducible (first
        | assumption | apply setF_grows | apply enumStrands_grows)
    | simp only [grows_mk_iff] | split | intro _

theorem strandWaitsFail_grows {s : State} (h : Grows a s) : Grows a (strandWaitsFail s) := by
  unfold strandWaitsFail; try dsimp only
  repeat' first
    | with_reducible (first
        | assumption | apply foldl_grows | apply finish_grows | apply endBg_grows)
    | simp only [grows_mk_iff] | split | intro _

theorem strandHalt_grows {s : State} (h : Grows a s) : Grows a (strandHalt s) := by
  unfold strandHalt; try dsimp only
  repeat' first
    | with_reducible (first
        | assumption | apply foldl_grows | apply raise_grows | apply strandsStop_grows | apply strandWaitsFail_grows
        | apply setStrand_grows)
    | simp only [grows_mk_iff] | split | intro _

theorem setGeoState_grows (v : Nat) {s : State} (h : Grows a s) : Grows a (setGeoState v s) := by
  unfold setGeoState; try dsimp only
  repeat' first
    | with_reducible (first
        | assumption | apply setLevel_grows | apply levelRise_grows | apply levelFall_grows)
    | simp only [grows_mk_iff] | split | intro _

theorem loadGeo_grows {s : State} (h : Grows a s) : Grows a (loadGeo s) := by
  unfold loadGeo; try dsimp only
  repeat' first
    | with_reducible (first
        | assumption | apply setGeoState_grows)
    | simp only [grows_mk_iff] | split | intro _

theorem geometrySet_grows (l : List Byte) {t : State} (h : Grows a t) : ExGrows a (geometrySet l t) := by
  unfold geometrySet; try dsimp only
  repeat' first
    | with_reducible (first
        | assumption | apply ExGrows.ok | apply ExGrows.error | apply foldl_grows | apply loadGeo_grows
        | apply strandWaitsFail_grows | apply setStrand_grows | apply setItem_grows | apply strandsStart_grows)
    | simp only [grows_mk_iff] | split | intro _

theorem execSetStrandGeometry_grows (k : Pkt) {s : State} (h : Grows a s) :
    OutGrows a (execSetStrandGeometry k s) := by
  unfold execSetStrandGeometry; try dsimp only
  repeat' first
    | with_reducible (first
        | assumption | apply OutGrows.next | apply ResGrows.ok | apply ResGrows.err | apply ResGrows.later
        | apply plain_grows | apply resOf_grows | apply geometrySet_grows
        | refine ExGrows.of ?_ (by with_reducible assumption))
    | simp only [grows_mk_iff] | split | intro _

theorem sendWrites_grows (go : Nat → Nat → Bool) {s : State} (h : Grows a s) : Grows a (sendWrites go s) := by
  unfold sendWrites; try dsimp only
  repeat' first
    | with_reducible (first
        | assumption | apply foldl_grows | apply strandSend_grows)
    | simp only [grows_mk_iff] | split | intro _

theorem pushBegin_grows (n : Nat) (start : Nat) (closed : Nat) (cells : List Nat) {s : State} (h : Grows a s) :
    Grows a (pushBegin n start closed cells s) := by
  unfold pushBegin; try dsimp only
  repeat' first
    | with_reducible (first
        | assumption | apply foldl_grows | apply setSat_grows)
    | simp only [grows_mk_iff] | split | intro _

theorem pushCut_grows (limit : Nat) {s : State} (h : Grows a s) : Grows a (pushCut limit s) := by
  unfold pushCut; try dsimp only
  repeat' first
    | with_reducible (first
        | assumption | apply foldl_grows | apply sendWrites_grows | apply addF_grows | apply tallyN_grows
        | apply strMark_grows)
    | simp only [grows_mk_iff] | split | intro _

theorem pushAbandon_grows (resync : Bool) {s : State} (h : Grows a s) : Grows a (pushAbandon resync s) := by
  unfold pushAbandon; try dsimp only
  repeat' first
    | with_reducible (first
        | assumption | apply sendWrites_grows | apply strandAll_grows | apply strMark_grows | apply pumpAll_grows)
    | simp only [grows_mk_iff] | split | intro _

theorem clkApply_grows (blank : Bool) {s : State} (h : Grows a s) : Grows a (clkApply blank s) := by
  unfold clkApply; try dsimp only
  repeat' first
    | with_reducible (first
        | assumption | apply prepShow_grows | apply markEvery_grows | apply strandsStart_grows
        | apply strandWaitsFail_grows)
    | simp only [grows_mk_iff] | split | intro _

theorem strCtrlWrite_grows (q : Nat) (v : Word) {s : State} (h : Grows a s) : Grows a (strCtrlWrite q v s) := by
  unfold strCtrlWrite; try dsimp only
  repeat' first
    | with_reducible (first
        | assumption | apply access_grows | apply storeWord_grows | apply sendConfig_grows | apply clkApply_grows)
    | simp only [grows_mk_iff] | split | intro _

theorem execClkSelChange_grows (q : Nat) (v : Word) {s : State} (h : Grows a s) :
    OutGrows a (execClkSelChange q v s) := by
  unfold execClkSelChange; try dsimp only
  repeat' first
    | with_reducible (first
        | assumption | apply OutGrows.next | apply strCtrlWrite_grows)
    | simp only [grows_mk_iff] | split | intro _

theorem execVddStrLoss_grows {s : State} (h : Grows a s) : OutGrows a (execVddStrLoss s) := by
  unfold execVddStrLoss; try dsimp only
  repeat' first
    | with_reducible (first
        | assumption | apply OutGrows.next | apply foldl_grows | apply strandWaitsFail_grows
        | apply strRefresh_grows | apply setStrand_grows)
    | simp only [grows_mk_iff] | split | intro _

theorem execVddStrReturn_grows {s : State} (h : Grows a s) : OutGrows a (execVddStrReturn s) := by
  unfold execVddStrReturn; try dsimp only
  repeat' first
    | with_reducible (first
        | assumption | apply OutGrows.next | apply markEvery_grows | apply enumStrands_grows
        | apply strandsStart_grows)
    | simp only [grows_mk_iff] | split | intro _

theorem execPushWindowEnd_grows {s : State} (h : Grows a s) : OutGrows a (execPushWindowEnd s) := by
  unfold execPushWindowEnd; try dsimp only
  repeat' first
    | with_reducible (first
        | assumption | apply OutGrows.next | apply sendConfig_grows | apply pumpAll_grows)
    | simp only [grows_mk_iff] | split | intro _

end Sys2Proof.Machine
end

