-- ==== Sys2Proof/Laws/GrowsThermal.lean ====
section
/-! SUPPORT. What no effect undoes, for thermal control and budgets. -/

namespace Sys2Proof.Machine

open State

variable {a : State}

/-! ### Thermal -/

theorem loadThermal_grows {s : State} (h : Grows a s) : Grows a (loadThermal s) := by
  unfold loadThermal; try dsimp only
  repeat' first
    | with_reducible (first
        | assumption | apply foldl_grows | apply setF_grows | apply thmLevel_grows)
    | simp only [grows_mk_iff] | split | intro _

theorem caseUpdate_grows {s : State} (h : Grows a s) : Grows a (caseUpdate s) := by
  unfold caseUpdate; try dsimp only
  repeat' first
    | with_reducible (first
        | assumption | apply thmLevel_grows)
    | simp only [grows_mk_iff] | split | intro _

theorem useSensor_grows (x : Nat) {s : State} (h : Grows a s) : Grows a (useSensor x s) := by
  unfold useSensor; try dsimp only
  repeat' first
    | with_reducible (first
        | assumption | apply setSatI_grows)
    | simp only [grows_mk_iff] | split | intro _

theorem showBudget_grows {s : State} (h : Grows a s) : Grows a (showBudget s) := by
  unfold showBudget; try dsimp only
  repeat' first | with_reducible (first | assumption | apply setSat_grows) | simp only [grows_mk_iff] | split | intro _

theorem holdCheck_grows {s : State} (h : Grows a s) : Grows a (holdCheck s) := by
  unfold holdCheck; try dsimp only
  repeat' first | with_reducible assumption | simp only [grows_mk_iff] | split | intro _

theorem restep_grows {s : State} (h : Grows a s) : Grows a (restep s) := by
  unfold restep; try dsimp only
  repeat' first
    | with_reducible (first
        | assumption | apply foldl_grows | apply setF_grows | apply incF_grows | apply setLevel_grows
        | apply levelRise_grows | apply levelFall_grows | apply holdCheck_grows)
    | simp only [grows_mk_iff] | split | intro _

theorem thrEnter_grows (t : Nat) (st : Nat) {s : State} (h : Grows a s) : Grows a (thrEnter t st s) := by
  unfold thrEnter; try dsimp only
  repeat' first
    | with_reducible (first
        | assumption | apply setF_grows | apply incF_grows | apply tally_grows)
    | simp only [grows_mk_iff] | split | intro _

theorem thrJudge_grows (t : Nat) (v : Int) {s : State} (h : Grows a s) : Grows a (thrJudge t v s) := by
  unfold thrJudge; try dsimp only
  repeat' first
    | with_reducible (first
        | assumption | apply thrEnter_grows)
    | simp only [grows_mk_iff] | split | intro _

theorem laneEnter_grows (p : Nat) (l : Nat) (st : Nat) {s : State} (h : Grows a s) : Grows a (laneEnter p l st s) := by
  unfold laneEnter; try dsimp only
  repeat' first
    | with_reducible (first
        | assumption | apply incF_grows | apply calRequest_grows)
    | simp only [grows_mk_iff] | split | intro _

theorem laneJudge_grows (p : Nat) (l : Nat) {s : State} (h : Grows a s) : Grows a (laneJudge p l s) := by
  unfold laneJudge; try dsimp only
  repeat' first
    | with_reducible (first
        | assumption | apply laneEnter_grows)
    | simp only [grows_mk_iff] | split | intro _

theorem execThresholdDwellExpiry_grows (t : Nat) {s : State} (h : Grows a s) :
    OutGrows a (execThresholdDwellExpiry t s) := by
  unfold execThresholdDwellExpiry; try dsimp only
  repeat' first
    | with_reducible (first
        | assumption | apply OutGrows.next | apply restep_grows | apply thrEnter_grows | apply laneEnter_grows)
    | simp only [grows_mk_iff] | split | intro _

theorem countFailed_grows {s : State} (h : Grows a s) : Grows a (countFailed s) := by
  unfold countFailed; try dsimp only
  repeat' first | with_reducible (first | assumption | apply setF_grows) | simp only [grows_mk_iff] | split | intro _

theorem declareFailed_grows (x : Nat) {s : State} (h : Grows a s) : Grows a (declareFailed x s) := by
  unfold declareFailed; try dsimp only
  repeat' first
    | with_reducible (first
        | assumption | apply incF_grows | apply setF_grows | apply useSensor_grows | apply countFailed_grows
        | apply tally_grows)
    | simp only [grows_mk_iff] | split | intro _

theorem restoreSensor_grows (x : Nat) {s : State} (h : Grows a s) : Grows a (restoreSensor x s) := by
  unfold restoreSensor; try dsimp only
  repeat' first
    | with_reducible (first
        | assumption | apply incF_grows | apply setF_grows | apply useSensor_grows | apply countFailed_grows)
    | simp only [grows_mk_iff] | split | intro _

theorem afterSample_grows (x : Nat) {s : State} (h : Grows a s) : Grows a (afterSample x s) := by
  unfold afterSample; try dsimp only
  repeat' first
    | with_reducible (first
        | assumption | apply foldl_grows | apply caseUpdate_grows | apply useSensor_grows | apply restep_grows
        | apply thrJudge_grows | apply setSatI_grows | apply laneJudge_grows)
    | simp only [grows_mk_iff] | split | intro _

theorem hardFault_grows (x : Nat) {s : State} (h : Grows a s) : Grows a (hardFault x s) := by
  unfold hardFault; try dsimp only
  repeat' first
    | with_reducible (first
        | assumption | apply afterSample_grows | apply declareFailed_grows)
    | simp only [grows_mk_iff] | split | intro _

theorem seedDie_grows {s : State} (h : Grows a s) : Grows a (seedDie s) := by
  unfold seedDie; try dsimp only
  repeat' first | with_reducible (first | assumption | apply foldl_grows) | simp only [grows_mk_iff] | split | intro _

theorem crossCheck_grows (x : Nat) (v : Int) (m : Int) {s : State} (h : Grows a s) : Grows a (crossCheck x v m s) := by
  unfold crossCheck; try dsimp only
  repeat' first
    | with_reducible (first
        | assumption | apply restoreSensor_grows | apply declareFailed_grows)
    | simp only [grows_mk_iff] | split | intro _

theorem criticalTrip_grows (x : Nat) (v : Int) {s : State} (h : Grows a s) : Grows a (criticalTrip x v s) := by
  unfold criticalTrip; try dsimp only
  repeat' first | with_reducible (first | assumption | apply occur_grows) | simp only [grows_mk_iff] | split | intro _

theorem goodSample_grows (x : Nat) (v : Int) {s : State} (h : Grows a s) : Grows a (goodSample x v s) := by
  unfold goodSample; try dsimp only
  repeat' first
    | with_reducible (first
        | assumption | apply setSatI_grows | apply setF_grows | apply setI_grows | apply crossCheck_grows
        | apply criticalTrip_grows | apply afterSample_grows | apply seedDie_grows)
    | simp only [grows_mk_iff] | split | intro _

theorem sensorSample_grows (x : Nat) (raw : Option Nat) {s : State} (h : Grows a s) :
    Grows a (sensorSample x raw s) := by
  unfold sensorSample; try dsimp only
  repeat' first
    | with_reducible (first
        | assumption | apply hardFault_grows | apply goodSample_grows | apply setSatI_grows | apply setF_grows
        | apply caseUpdate_grows)
    | simp only [grows_mk_iff] | split | intro _

theorem execSensorSample_grows (x : Nat) (raw : Option Nat) {s : State} (h : Grows a s) :
    OutGrows a (execSensorSample x raw s) := by
  unfold execSensorSample; try dsimp only
  repeat' first
    | with_reducible (first
        | assumption | apply OutGrows.next | apply sensorSample_grows)
    | simp only [grows_mk_iff] | split | intro _

theorem execModIntEdge_grows (raws : List (Option Nat)) {s : State} (h : Grows a s) :
    OutGrows a (execModIntEdge raws s) := by
  unfold execModIntEdge; try dsimp only
  repeat' first
    | with_reducible (first
        | assumption | apply OutGrows.next | apply foldl_grows | apply sensorSample_grows)
    | simp only [grows_mk_iff] | split | intro _

theorem execDieModelUpdate_grows (rails : List Nat) {s : State} (h : Grows a s) :
    OutGrows a (execDieModelUpdate rails s) := by
  unfold execDieModelUpdate; try dsimp only
  repeat' first
    | with_reducible (first
        | assumption | apply OutGrows.next | apply foldl_grows | apply setSat_grows | apply useSensor_grows
        | apply setSatI_grows)
    | simp only [grows_mk_iff] | split | intro _

theorem zoneStep_grows (ns : Nat) (sc : Option Nat) {s : State} (h : Grows a s) : Grows a (zoneStep ns sc s) := by
  unfold zoneStep; try dsimp only
  repeat' first
    | with_reducible (first
        | assumption | apply foldl_grows | apply caseUpdate_grows)
    | simp only [grows_mk_iff] | split | intro _

theorem zoneJudge_grows {s : State} (h : Grows a s) : Grows a (zoneJudge s) := by
  unfold zoneJudge; try dsimp only
  repeat' first
    | with_reducible (first
        | assumption | apply foldl_grows | apply setF_grows | apply restep_grows | apply thrJudge_grows
        | apply setSatI_grows)
    | simp only [grows_mk_iff] | split | intro _

theorem execZoneModelUpdate_grows {s : State} (h : Grows a s) : OutGrows a (execZoneModelUpdate s) := by
  unfold execZoneModelUpdate; try dsimp only
  repeat' first
    | with_reducible (first
        | assumption | apply OutGrows.next | apply zoneJudge_grows | apply zoneStep_grows)
    | simp only [grows_mk_iff] | split | intro _

theorem zonePresent_grows (period : Nat) {s : State} (h : Grows a s) : Grows a (zonePresent period s) := by
  unfold zonePresent; try dsimp only
  repeat' first
    | with_reducible (first
        | assumption | apply zoneJudge_grows | apply zoneStep_grows)
    | simp only [grows_mk_iff] | split | intro _

theorem sendDemand_grows {s : State} (h : Grows a s) : Grows a (sendDemand s) := by
  unfold sendDemand; try dsimp only
  repeat' first
    | with_reducible (first
        | assumption | apply toSender_grows)
    | simp only [grows_mk_iff] | split | intro _

theorem execDemandTimer_grows {s : State} (h : Grows a s) : OutGrows a (execDemandTimer s) := by
  unfold execDemandTimer; try dsimp only
  repeat' first
    | with_reducible (first
        | assumption | apply OutGrows.next | apply sendDemand_grows)
    | simp only [grows_mk_iff] | split | intro _

theorem applyBudget_grows {s : State} (h : Grows a s) : Grows a (applyBudget s) := by
  unfold applyBudget; try dsimp only
  repeat' first
    | with_reducible (first
        | assumption | apply showBudget_grows | apply setF_grows | apply sendDemand_grows)
    | simp only [grows_mk_iff] | split | intro _

theorem execBudget_grows (p : Nat) (m : Msg) {s : State} (h : Grows a s) : OutGrows a (execBudget p m s) := by
  unfold execBudget; try dsimp only
  repeat' first
    | with_reducible (first
        | assumption | apply OutGrows.next | apply msgIn_grows | apply setLevel_grows | apply thmLevel_grows
        | apply holdCheck_grows | apply applyBudget_grows)
    | simp only [grows_mk_iff] | split | intro _

theorem execBudgetHoldExpiry_grows {s : State} (h : Grows a s) : OutGrows a (execBudgetHoldExpiry s) := by
  unfold execBudgetHoldExpiry; try dsimp only
  repeat' first
    | with_reducible (first
        | assumption | apply OutGrows.next | apply setF_grows | apply thmLevel_grows | apply showBudget_grows)
    | simp only [grows_mk_iff] | split | intro _

theorem closePower_grows (n : Nat) (lit : Bool) {s : State} (h : Grows a s) : Grows a (closePower n lit s) := by
  unfold closePower; try dsimp only
  repeat' first
    | with_reducible (first
        | assumption | apply applyBudget_grows)
    | simp only [grows_mk_iff] | split | intro _

theorem armScale_grows (n : Nat) {s : State} (h : Grows a s) : Grows a (armScale n s).2 := by
  unfold armScale; try dsimp only
  repeat' first | with_reducible (first | assumption | apply tally_grows) | simp only [grows_mk_iff] | split | intro _

theorem putRead_grows (f : Fld) (v : Option Nat) (site : Nat) (k : Nat) {s : State} (h : Grows a s) :
    Grows a (putRead f v site k s) := by
  unfold putRead; try dsimp only
  repeat' first | with_reducible (first | assumption | apply setSat_grows) | simp only [grows_mk_iff] | split | intro _

theorem supplyStatus_grows (k : Nat) (r : SupplyRead) {s : State} (h : Grows a s) : Grows a (supplyStatus k r s) := by
  unfold supplyStatus; try dsimp only
  repeat' first
    | with_reducible (first
        | assumption | apply setF_grows | apply incF_grows)
    | simp only [grows_mk_iff] | split | intro _

theorem supplyRound_grows (k : Nat) (r : SupplyRead) {s : State} (h : Grows a s) : Grows a (supplyRound k r s) := by
  unfold supplyRound; try dsimp only
  repeat' first
    | with_reducible (first
        | assumption | apply addF_grows | apply tallyN_grows | apply setF_grows | apply supplyStatus_grows
        | apply putRead_grows | apply setSat_grows | apply setSatI_grows)
    | simp only [grows_mk_iff] | split | intro _

theorem sagCheck_grows {s : State} (h : Grows a s) : Grows a (sagCheck s) := by
  unfold sagCheck; try dsimp only
  repeat' first
    | with_reducible (first
        | assumption | apply setLevel_grows | apply sendDemand_grows | apply showBudget_grows | apply tally_grows)
    | simp only [grows_mk_iff] | split | intro _

theorem learnKp_grows {s : State} (h : Grows a s) : Grows a (learnKp s) := by
  unfold learnKp; try dsimp only
  repeat' first | with_reducible (first | assumption | apply setF_grows) | simp only [grows_mk_iff] | split | intro _

theorem gatherRound_grows {s : State} (h : Grows a s) : Grows a (gatherRound s) := by
  unfold gatherRound; try dsimp only
  repeat' first | with_reducible assumption | simp only [grows_mk_iff] | split | intro _

theorem execTelemetryRound_grows (reads : List SupplyRead) {s : State} (h : Grows a s) :
    OutGrows a (execTelemetryRound reads s) := by
  unfold execTelemetryRound; try dsimp only
  repeat' first
    | with_reducible (first
        | assumption | apply OutGrows.next | apply foldl_grows | apply setLevel_grows | apply setF_grows
        | apply supplyRound_grows | apply learnKp_grows | apply sagCheck_grows | apply gatherRound_grows)
    | simp only [grows_mk_iff] | split | intro _

theorem execPmbAlert_grows (reads : List SupplyRead) {s : State} (h : Grows a s) :
    OutGrows a (execPmbAlert reads s) := by
  unfold execPmbAlert; try dsimp only
  repeat' first
    | with_reducible (first
        | assumption | apply OutGrows.next | apply foldl_grows | apply addF_grows | apply tally_grows
        | apply putRead_grows | apply supplyStatus_grows | apply sagCheck_grows)
    | simp only [grows_mk_iff] | split | intro _

theorem execOverheadMeasurement_grows {s : State} (h : Grows a s) : OutGrows a (execOverheadMeasurement s) := by
  unfold execOverheadMeasurement; try dsimp only
  repeat' first
    | with_reducible (first
        | assumption | apply OutGrows.next | apply setSat_grows)
    | simp only [grows_mk_iff] | split | intro _

theorem execAdcStart_grows (codes : List Nat) {s : State} (h : Grows a s) : OutGrows a (execAdcStart codes s) := by
  unfold execAdcStart; try dsimp only
  repeat' first
    | with_reducible (first
        | assumption | apply OutGrows.next | apply foldl_grows | apply setSatI_grows | apply setF_grows
        | apply thrJudge_grows)
    | simp only [grows_mk_iff] | split | intro _

theorem curveSet_grows (l : List Byte) {s : State} (h : Grows a s) : OptGrows a (curveSet l s) := by
  unfold curveSet; try dsimp only
  repeat' first
    | with_reducible (first
        | assumption | apply OptGrows.some | apply OptGrows.none | apply setItem_grows)
    | simp only [grows_mk_iff] | split | intro _

theorem execSetDeratingCurve_grows (k : Pkt) {s : State} (h : Grows a s) : OutGrows a (execSetDeratingCurve k s) := by
  unfold execSetDeratingCurve; try dsimp only
  repeat' first
    | with_reducible (first
        | assumption | apply OutGrows.next | apply ResGrows.ok | apply ResGrows.err | apply ResGrows.later
        | apply plain_grows | apply curveSet_grows | refine OptGrows.of ?_ (by with_reducible assumption))
    | simp only [grows_mk_iff] | split | intro _

theorem suppliesSet_grows (l : List Byte) {s : State} (h : Grows a s) : OptGrows a (suppliesSet l s) := by
  unfold suppliesSet; try dsimp only
  repeat' first
    | with_reducible (first
        | assumption | apply OptGrows.some | apply OptGrows.none | apply foldl_grows | apply regPut_grows
        | apply setItem_grows | apply setLevel_grows)
    | simp only [grows_mk_iff] | split | intro _

theorem execSetSupplies_grows (k : Pkt) {s : State} (h : Grows a s) : OutGrows a (execSetSupplies k s) := by
  unfold execSetSupplies; try dsimp only
  repeat' first
    | with_reducible (first
        | assumption | apply OutGrows.next | apply ResGrows.ok | apply ResGrows.err | apply ResGrows.later
        | apply plain_grows | apply suppliesSet_grows | refine OptGrows.of ?_ (by with_reducible assumption))
    | simp only [grows_mk_iff] | split | intro _

theorem execClearSupplyFaults_grows (k : Pkt) {s : State} (h : Grows a s) :
    OutGrows a (execClearSupplyFaults k s) := by
  unfold execClearSupplyFaults; try dsimp only
  repeat' first
    | with_reducible (first
        | assumption | apply OutGrows.next | apply ResGrows.ok | apply ResGrows.err | apply ResGrows.later
        | apply foldl_grows | apply plain_grows | apply send_grows)
    | simp only [grows_mk_iff] | split | intro _

theorem diodeSet_grows (l : List Byte) {s : State} (h : Grows a s) : OptGrows a (diodeSet l s) := by
  unfold diodeSet; try dsimp only
  repeat' first
    | with_reducible (first
        | assumption | apply OptGrows.some | apply OptGrows.none | apply setF_grows | apply setItem_grows)
    | simp only [grows_mk_iff] | split | intro _

theorem execSetDiode_grows (k : Pkt) {s : State} (h : Grows a s) : OutGrows a (execSetDiode k s) := by
  unfold execSetDiode; try dsimp only
  repeat' first
    | with_reducible (first
        | assumption | apply OutGrows.next | apply ResGrows.ok | apply ResGrows.err | apply ResGrows.later
        | apply plain_grows | apply diodeSet_grows | refine OptGrows.of ?_ (by with_reducible assumption))
    | simp only [grows_mk_iff] | split | intro _

theorem amonSet_grows (l : List Byte) {s : State} (h : Grows a s) : OptGrows a (amonSet l s) := by
  unfold amonSet; try dsimp only
  repeat' first
    | with_reducible (first
        | assumption | apply OptGrows.some | apply OptGrows.none | apply setItem_grows)
    | simp only [grows_mk_iff] | split | intro _

theorem execSetAmon_grows (k : Pkt) {s : State} (h : Grows a s) : OutGrows a (execSetAmon k s) := by
  unfold execSetAmon; try dsimp only
  repeat' first
    | with_reducible (first
        | assumption | apply OutGrows.next | apply ResGrows.ok | apply ResGrows.err | apply ResGrows.later
        | apply plain_grows | apply amonSet_grows | refine OptGrows.of ?_ (by with_reducible assumption))
    | simp only [grows_mk_iff] | split | intro _

theorem thresholdSet_grows (l : List Byte) {s : State} (h : Grows a s) : OptGrows a (thresholdSet l s) := by
  unfold thresholdSet; try dsimp only
  repeat' first
    | with_reducible (first
        | assumption | apply OptGrows.some | apply OptGrows.none | apply setItem_grows | apply setF_grows)
    | simp only [grows_mk_iff] | split | intro _

theorem execSetThreshold_grows (k : Pkt) {s : State} (h : Grows a s) : OutGrows a (execSetThreshold k s) := by
  unfold execSetThreshold; try dsimp only
  repeat' first
    | with_reducible (first
        | assumption | apply OutGrows.next | apply ResGrows.ok | apply ResGrows.err | apply ResGrows.later
        | apply plain_grows | apply thresholdSet_grows | refine OptGrows.of ?_ (by with_reducible assumption))
    | simp only [grows_mk_iff] | split | intro _

/-! ### Budget -/

theorem entryPut_grows (e : Nat) (l : List Byte) {s : State} (h : Grows a s) : Grows a (entryPut e l s) := by
  unfold entryPut; try dsimp only
  repeat' first | with_reducible (first | assumption | apply setF_grows) | simp only [grows_mk_iff] | split | intro _

theorem feedSet_grows (l : List Byte) {s : State} (h : Grows a s) : ExGrows a (feedSet l s) := by
  unfold feedSet; try dsimp only
  repeat' first
    | with_reducible (first
        | assumption | apply ExGrows.ok | apply ExGrows.error | apply entryPut_grows | apply setItem_grows
        | apply feedCheck_grows)
    | simp only [grows_mk_iff] | split | intro _

theorem execSetFeed_grows (k : Pkt) {s : State} (h : Grows a s) : OutGrows a (execSetFeed k s) := by
  unfold execSetFeed; try dsimp only
  repeat' first
    | with_reducible (first
        | assumption | apply OutGrows.next | apply ResGrows.ok | apply ResGrows.err | apply ResGrows.later
        | apply plain_grows | apply resOf_grows | apply feedSet_grows
        | refine ExGrows.of ?_ (by with_reducible assumption))
    | simp only [grows_mk_iff] | split | intro _

theorem feedSlotUpd_grows (i : Nat) (f : FeedSlot → FeedSlot) {s : State} (h : Grows a s) :
    Grows a (feedSlotUpd i f s) := by
  unfold feedSlotUpd; try dsimp only
  repeat' first | with_reducible assumption | simp only [grows_mk_iff] | split | intro _

theorem updateO_grows (e : Nat) (i : Nat) {s : State} (h : Grows a s) : Grows a (updateO e i s) := by
  unfold updateO; try dsimp only
  repeat' first
    | with_reducible (first
        | assumption | apply setF_grows | apply feedSlotUpd_grows)
    | simp only [grows_mk_iff] | split | intro _

theorem sendBudget_grows (i : Nat) (b : BudgetMsg) {s : State} (h : Grows a s) : Grows a (sendBudget i b s) := by
  unfold sendBudget; try dsimp only
  repeat' first
    | with_reducible (first
        | assumption | apply setF_grows | apply setSat_grows | apply feedSlotUpd_grows | apply sendMsg_grows)
    | simp only [grows_mk_iff] | split | intro _

theorem releaseHeld_grows (feed : Nat) {s : State} (h : Grows a s) : Grows a (releaseHeld feed s) := by
  unfold releaseHeld; try dsimp only
  repeat' first
    | with_reducible (first
        | assumption | apply foldl_grows | apply sendBudget_grows)
    | simp only [grows_mk_iff] | split | intro _

theorem sendPlan_grows (feed : Nat) (msgs : List (Nat × BudgetMsg)) {s : State} (h : Grows a s) :
    Grows a (sendPlan feed msgs s) := by
  unfold sendPlan; try dsimp only
  repeat' first
    | with_reducible (first
        | assumption | apply foldl_grows | apply sendBudget_grows | apply releaseHeld_grows)
    | simp only [grows_mk_iff] | split | intro _

theorem noteShort_grows (feed : Nat) (short : Bool) {s : State} (h : Grows a s) :
    Grows a (noteShort feed short s) := by
  unfold noteShort; try dsimp only
  repeat' first
    | with_reducible (first
        | assumption | apply thmLevel_grows)
    | simp only [grows_mk_iff] | split | intro _

theorem feedRun_grows (feed : Nat) {s : State} (h : Grows a s) : Grows a (feedRun feed s) := by
  unfold feedRun; try dsimp only
  repeat' first
    | with_reducible (first
        | assumption | apply foldl_grows | apply sendPlan_grows | apply noteShort_grows | apply feedCheck_grows
        | apply updateO_grows | apply setF_grows | apply setSat_grows | apply incF_grows)
    | simp only [grows_mk_iff] | split | intro _

theorem execBudgetPeriod_grows (feed : Nat) {s : State} (h : Grows a s) : OutGrows a (execBudgetPeriod feed s) := by
  unfold execBudgetPeriod; try dsimp only
  repeat' first
    | with_reducible (first
        | assumption | apply OutGrows.next | apply feedRun_grows)
    | simp only [grows_mk_iff] | split | intro _

theorem execBudgetEchoTimeout_grows (slot : Nat) {s : State} (h : Grows a s) :
    OutGrows a (execBudgetEchoTimeout slot s) := by
  unfold execBudgetEchoTimeout; try dsimp only
  repeat' first
    | with_reducible (first
        | assumption | apply OutGrows.next | apply feedSlotUpd_grows)
    | simp only [grows_mk_iff] | split | intro _

theorem execDemand_grows (p : Nat) (m : Msg) {s : State} (h : Grows a s) : OutGrows a (execDemand p m s) := by
  unfold execDemand; try dsimp only
  repeat' first
    | with_reducible (first
        | assumption | apply OutGrows.next | apply foldl_grows | apply msgIn_grows | apply setF_grows
        | apply feedSlotUpd_grows | apply releaseHeld_grows)
    | simp only [grows_mk_iff] | split | intro _

theorem execSagGatherExpiry_grows (feed : Nat) {s : State} (h : Grows a s) :
    OutGrows a (execSagGatherExpiry feed s) := by
  unfold execSagGatherExpiry; try dsimp only
  repeat' first
    | with_reducible (first
        | assumption | apply OutGrows.next | apply feedRun_grows)
    | simp only [grows_mk_iff] | split | intro _

theorem execFeedClaimTimer_grows {s : State} (h : Grows a s) : OutGrows a (execFeedClaimTimer s) := by
  unfold execFeedClaimTimer; try dsimp only
  repeat' first
    | with_reducible (first
        | assumption | apply OutGrows.next | apply foldl_grows | apply feedCheck_grows | apply sendTo_grows)
    | simp only [grows_mk_iff] | split | intro _

theorem execFeedClaim_grows (p : Nat) (m : Msg) {s : State} (h : Grows a s) : OutGrows a (execFeedClaim p m s) := by
  unfold execFeedClaim; try dsimp only
  repeat' first
    | with_reducible (first
        | assumption | apply OutGrows.next | apply msgIn_grows | apply feedCheck_grows)
    | simp only [grows_mk_iff] | split | intro _

end Sys2Proof.Machine
end

