-- ==== Sys2Proof/Laws/GrowsVideo.lean ====
section
/-! SUPPORT. What no effect undoes, for ingest, composition, presentation and modes. -/

namespace Sys2Proof.Machine

open State

variable {a : State}

/-! ### Ingest -/

theorem flowUpd_grows (i : Nat) (g : Flow → Flow) {s : State} (h : Grows a s) : Grows a (flowUpd i g s) := by
  unfold flowUpd; try dsimp only
  repeat' first | with_reducible assumption | simp only [grows_mk_iff] | split | intro _

theorem legActive_grows (i : Nat) (l : Nat) (on : Bool) {s : State} (h : Grows a s) :
    Grows a (legActive i l on s) := by
  unfold legActive; try dsimp only
  repeat' first | with_reducible (first | assumption | apply setF_grows) | simp only [grows_mk_iff] | split | intro _

theorem idlePort_grows (p : Nat) {s : State} (h : Grows a s) : Grows a (idlePort p s) := by
  unfold idlePort; try dsimp only
  repeat' first
    | with_reducible (first
        | assumption | apply foldl_grows | apply legActive_grows)
    | simp only [grows_mk_iff] | split | intro _

theorem ethPortSet_grows (l : List Byte) {t : State} (h : Grows a t) : ExGrows a (ethPortSet l t) := by
  unfold ethPortSet; try dsimp only
  repeat' first
    | with_reducible (first
        | assumption | apply ExGrows.ok | apply ExGrows.error | apply setItem_grows | apply idlePort_grows)
    | simp only [grows_mk_iff] | split | intro _

theorem execSetEthPort_grows (k : Pkt) {s : State} (h : Grows a s) : OutGrows a (execSetEthPort k s) := by
  unfold execSetEthPort; try dsimp only
  repeat' first
    | with_reducible (first
        | assumption | apply OutGrows.next | apply ResGrows.ok | apply ResGrows.err | apply ResGrows.later
        | apply plain_grows | apply resOf_grows | apply ethPortSet_grows
        | refine ExGrows.of ?_ (by with_reducible assumption))
    | simp only [grows_mk_iff] | split | intro _

theorem execEthPortRestartDone_grows (p : Nat) {s : State} (h : Grows a s) :
    OutGrows a (execEthPortRestartDone p s) := by
  unfold execEthPortRestartDone; try dsimp only
  repeat' first
    | with_reducible (first
        | assumption | apply OutGrows.next)
    | simp only [grows_mk_iff] | split | intro _

theorem addressSet_grows (l : List Byte) {t : State} (h : Grows a t) : ExGrows a (addressSet l t) := by
  unfold addressSet; try dsimp only
  repeat' first
    | with_reducible (first
        | assumption | apply ExGrows.ok | apply ExGrows.error | apply setItem_grows)
    | simp only [grows_mk_iff] | split | intro _

theorem execSetAddress_grows (k : Pkt) {s : State} (h : Grows a s) : OutGrows a (execSetAddress k s) := by
  unfold execSetAddress; try dsimp only
  repeat' first
    | with_reducible (first
        | assumption | apply OutGrows.next | apply ResGrows.ok | apply ResGrows.err | apply ResGrows.later
        | apply plain_grows | apply resOf_grows | apply addressSet_grows
        | refine ExGrows.of ?_ (by with_reducible assumption))
    | simp only [grows_mk_iff] | split | intro _

theorem execEthLinkChange_grows (p : Nat) (sub : Nat) (up : Bool) {s : State} (h : Grows a s) :
    OutGrows a (execEthLinkChange p sub up s) := by
  unfold execEthLinkChange; try dsimp only
  repeat' first
    | with_reducible (first
        | assumption | apply OutGrows.next | apply levelFall_grows | apply levelRise_grows)
    | simp only [grows_mk_iff] | split | intro _

theorem groupReport_grows (kind : Nat) (d : List Byte) {s : State} (h : Grows a s) :
    Grows a (groupReport kind d s) := by
  unfold groupReport; try dsimp only
  repeat' first
    | with_reducible (first
        | assumption | apply foldl_grows | apply send_grows)
    | simp only [grows_mk_iff] | split | intro _

theorem execAddFlow_grows (k : Pkt) {s : State} (h : Grows a s) : OutGrows a (execAddFlow k s) := by
  unfold execAddFlow; try dsimp only
  repeat' first
    | with_reducible (first
        | assumption | apply OutGrows.next | apply ResGrows.ok | apply ResGrows.err | apply ResGrows.later
        | apply plain_grows | apply groupReport_grows | apply flowState_grows)
    | simp only [grows_mk_iff] | split | intro _

theorem execModifyFlow_grows (k : Pkt) {s : State} (h : Grows a s) : OutGrows a (execModifyFlow k s) := by
  unfold execModifyFlow; try dsimp only
  repeat' first
    | with_reducible (first
        | assumption | apply OutGrows.next | apply ResGrows.ok | apply ResGrows.err | apply ResGrows.later
        | apply plain_grows | apply groupReport_grows | apply flowUpd_grows)
    | simp only [grows_mk_iff] | split | intro _

theorem flowClear_grows (i : Nat) {s : State} (h : Grows a s) : Grows a (flowClear i s) := by
  unfold flowClear; try dsimp only
  repeat' first
    | with_reducible (first
        | assumption | apply foldl_grows | apply regPut_grows)
    | simp only [grows_mk_iff] | split | intro _

theorem execRemoveFlow_grows (k : Pkt) {s : State} (h : Grows a s) : OutGrows a (execRemoveFlow k s) := by
  unfold execRemoveFlow; try dsimp only
  repeat' first
    | with_reducible (first
        | assumption | apply OutGrows.next | apply ResGrows.ok | apply ResGrows.err | apply ResGrows.later
        | apply foldl_grows | apply plain_grows | apply groupReport_grows | apply flowState_grows
        | apply flowClear_grows)
    | simp only [grows_mk_iff] | split | intro _

theorem execGetFlow_grows (k : Pkt) {s : State} (h : Grows a s) : OutGrows a (execGetFlow k s) := by
  unfold execGetFlow; try dsimp only
  repeat' first
    | with_reducible (first
        | assumption | apply OutGrows.next | apply ResGrows.ok | apply ResGrows.err | apply ResGrows.later
        | apply plain_grows)
    | simp only [grows_mk_iff] | split | intro _

theorem surfWrite_grows (sd : List Byte) (x : Nat) (y : Nat) (ws : List Nat) {s : State} (h : Grows a s) :
    Grows a (surfWrite sd x y ws s) := by
  unfold surfWrite; try dsimp only
  repeat' first
    | with_reducible (first
        | assumption | apply planePut_grows)
    | simp only [grows_mk_iff] | split | intro _

theorem flowTally_grows (f : Nat → Fld) (i : Nat) {s : State} (h : Grows a s) : Grows a (flowTally f i s) := by
  unfold flowTally; try dsimp only
  repeat' first | with_reducible (first | assumption | apply tally_grows) | simp only [grows_mk_iff] | split | intro _

theorem writeSrd_grows (d : List Byte) (sd : List Byte) (x : Srd) {s : State} (h : Grows a s) :
    Grows a (writeSrd d sd x s) := by
  unfold writeSrd; try dsimp only
  repeat' first
    | with_reducible (first
        | assumption | apply foldl_grows | apply surfWrite_grows)
    | simp only [grows_mk_iff] | split | intro _

theorem conceal_grows (d : List Byte) (sd : List Byte) (runs : List (Nat × Nat × Nat)) (prev :
    Option (List Byte)) {s : State} (h : Grows a s) : Grows a (conceal d sd runs prev s) := by
  unfold conceal; try dsimp only
  repeat' first
    | with_reducible (first
        | assumption | apply foldl_grows | apply surfWrite_grows)
    | simp only [grows_mk_iff] | split | intro _

theorem flowAttrs_grows (d : List Byte) (i : Nat) {s : State} (h : Grows a s) : Grows a (flowAttrs d i s) := by
  unfold flowAttrs; try dsimp only
  repeat' first
    | with_reducible (first
        | assumption | apply surfUpd_grows)
    | simp only [grows_mk_iff] | split | intro _

theorem publishFrame_grows (i : Nat) (b : Nat) (f : FrameRx) {s : State} (h : Grows a s) :
    Grows a (publishFrame i b f s) := by
  unfold publishFrame; try dsimp only
  repeat' first
    | with_reducible (first
        | assumption | apply publishGen_grows | apply flowAttrs_grows | apply surfUpd_grows | apply flowTally_grows
        | apply setB_grows | apply setI_grows | apply takeFree_grows | apply setF_grows | apply flowUpd_grows)
    | simp only [grows_mk_iff] | split | intro _

theorem endFrame_grows (i : Nat) (f : FrameRx) {s : State} (h : Grows a s) : Grows a (endFrame i f s) := by
  unfold endFrame; try dsimp only
  repeat' first
    | with_reducible (first
        | assumption | apply flowUpd_grows | apply flowTally_grows | apply tallyN_grows | apply conceal_grows
        | apply publishFrame_grows | apply setB_grows)
    | simp only [grows_mk_iff] | split | intro _

theorem endDue_grows (i : Nat) {s : State} (h : Grows a s) : Grows a (endDue i s) := by
  unfold endDue; try dsimp only
  repeat' first
    | with_reducible (first
        | assumption | apply foldl_grows | apply endFrame_grows)
    | simp only [grows_mk_iff] | split | intro _

theorem applyModify_grows (i : Nat) {s : State} (h : Grows a s) : Grows a (applyModify i s) := by
  unfold applyModify; try dsimp only
  repeat' first
    | with_reducible (first
        | assumption | apply foldl_grows | apply endFrame_grows | apply groupReport_grows | apply flowUpd_grows
        | apply flowState_grows)
    | simp only [grows_mk_iff] | split | intro _

theorem beginFrame_grows (i : Nat) (v : Video) {s : State} (h : Grows a s) : Grows a (beginFrame i v s) := by
  unfold beginFrame; try dsimp only
  repeat' first
    | with_reducible (first
        | assumption | apply endDue_grows | apply flowUpd_grows | apply flowState_grows | apply applyModify_grows
        | apply flowTally_grows)
    | simp only [grows_mk_iff] | split | intro _

theorem framePacket_grows (i : Nat) (f : FrameRx) (v : Video) {s : State} (h : Grows a s) :
    Grows a (framePacket i f v s) := by
  unfold framePacket; try dsimp only
  repeat' first
    | with_reducible (first
        | assumption | apply foldl_grows | apply writeSrd_grows | apply flowUpd_grows | apply endDue_grows)
    | simp only [grows_mk_iff] | split | intro _

theorem placePacket_grows (i : Nat) (v : Video) {s : State} (h : Grows a s) : Grows a (placePacket i v s) := by
  unfold placePacket; try dsimp only
  repeat' first
    | with_reducible (first
        | assumption | apply framePacket_grows | apply flowUpd_grows | apply beginFrame_grows)
    | simp only [grows_mk_iff] | split | intro _

theorem mergePacket_grows (i : Nat) (l : Nat) (v : Video) {s : State} (h : Grows a s) :
    Grows a (mergePacket i l v s) := by
  unfold mergePacket; try dsimp only
  repeat' first
    | with_reducible (first
        | assumption | apply flowLocking_grows | apply flowTally_grows | apply flowUpd_grows
        | apply placePacket_grows)
    | simp only [grows_mk_iff] | split | intro _

theorem flowPacket_grows (i : Nat) (l : Nat) (bytes : Nat) (pay : List Byte) {s : State} (h : Grows a s) :
    Grows a (flowPacket i l bytes pay s) := by
  unfold flowPacket; try dsimp only
  repeat' first
    | with_reducible (first
        | assumption | apply legActive_grows | apply flowTally_grows | apply flowState_grows
        | apply mergePacket_grows)
    | simp only [grows_mk_iff] | split | intro _

theorem ingestRestart_grows {s : State} (h : Grows a s) : Grows a (ingestRestart s) := by
  unfold ingestRestart; try dsimp only
  repeat' first | with_reducible assumption | simp only [grows_mk_iff] | split | intro _

theorem execMergeWindowExpiry_grows (i : Nat) {s : State} (h : Grows a s) :
    OutGrows a (execMergeWindowExpiry i s) := by
  unfold execMergeWindowExpiry; try dsimp only
  repeat' first
    | with_reducible (first
        | assumption | apply OutGrows.next | apply endFrame_grows)
    | simp only [grows_mk_iff] | split | intro _

theorem execLegIdle_grows (i : Nat) (l : Nat) {s : State} (h : Grows a s) : OutGrows a (execLegIdle i l s) := by
  unfold execLegIdle; try dsimp only
  repeat' first
    | with_reducible (first
        | assumption | apply OutGrows.next | apply legActive_grows)
    | simp only [grows_mk_iff] | split | intro _

theorem execFlowTimeout_grows (i : Nat) {s : State} (h : Grows a s) : OutGrows a (execFlowTimeout i s) := by
  unfold execFlowTimeout; try dsimp only
  repeat' first
    | with_reducible (first
        | assumption | apply OutGrows.next | apply flowState_grows | apply flowUpd_grows)
    | simp only [grows_mk_iff] | split | intro _

/-! ### Compose -/

theorem cmpShadow_grows (f : Shadow → Shadow) {s : State} (h : Grows a s) : Grows a (cmpShadow f s) := by
  unfold cmpShadow; try dsimp only
  repeat' first | with_reducible (first | assumption | apply setF_grows) | simp only [grows_mk_iff] | split | intro _

theorem execSetLayer_grows (k : Pkt) {s : State} (h : Grows a s) : OutGrows a (execSetLayer k s) := by
  unfold execSetLayer; try dsimp only
  repeat' first
    | with_reducible (first
        | assumption | apply OutGrows.next | apply ResGrows.ok | apply ResGrows.err | apply ResGrows.later
        | apply plain_grows | apply cmpShadow_grows)
    | simp only [grows_mk_iff] | split | intro _

theorem execSetZOrder_grows (k : Pkt) {s : State} (h : Grows a s) : OutGrows a (execSetZOrder k s) := by
  unfold execSetZOrder; try dsimp only
  repeat' first
    | with_reducible (first
        | assumption | apply OutGrows.next | apply ResGrows.ok | apply ResGrows.err | apply ResGrows.later
        | apply plain_grows | apply cmpShadow_grows)
    | simp only [grows_mk_iff] | split | intro _

theorem execSetBackground_grows (k : Pkt) {s : State} (h : Grows a s) : OutGrows a (execSetBackground k s) := by
  unfold execSetBackground; try dsimp only
  repeat' first
    | with_reducible (first
        | assumption | apply OutGrows.next | apply ResGrows.ok | apply ResGrows.err | apply ResGrows.later
        | apply plain_grows | apply cmpShadow_grows)
    | simp only [grows_mk_iff] | split | intro _

theorem execLoadBank_grows (k : Pkt) (f : Fetch) {s : State} (h : Grows a s) : OutGrows a (execLoadBank k f s) := by
  unfold execLoadBank; try dsimp only
  repeat' first
    | with_reducible (first
        | assumption | apply OutGrows.next | apply ResGrows.ok | apply ResGrows.err | apply ResGrows.later
        | apply command_grows | apply cmpShadow_grows)
    | simp only [grows_mk_iff] | split | intro _

theorem execSetWriteback_grows (k : Pkt) {s : State} (h : Grows a s) : OutGrows a (execSetWriteback k s) := by
  unfold execSetWriteback; try dsimp only
  repeat' first
    | with_reducible (first
        | assumption | apply OutGrows.next | apply ResGrows.ok | apply ResGrows.err | apply ResGrows.later
        | apply plain_grows | apply cmpShadow_grows)
    | simp only [grows_mk_iff] | split | intro _

theorem execSetPreview_grows (k : Pkt) {s : State} (h : Grows a s) : OutGrows a (execSetPreview k s) := by
  unfold execSetPreview; try dsimp only
  repeat' first
    | with_reducible (first
        | assumption | apply OutGrows.next | apply ResGrows.ok | apply ResGrows.err | apply ResGrows.later
        | apply plain_grows | apply cmpShadow_grows)
    | simp only [grows_mk_iff] | split | intro _

theorem cmpPending_grows {s : State} (h : Grows a s) : Grows a (cmpPending s) := by
  unfold cmpPending; try dsimp only
  repeat' first | with_reducible (first | assumption | apply setB_grows) | simp only [grows_mk_iff] | split | intro _

theorem execCommit_grows (k : Pkt) {s : State} (h : Grows a s) : OutGrows a (execCommit k s) := by
  unfold execCommit; try dsimp only
  repeat' first
    | with_reducible (first
        | assumption | apply OutGrows.next | apply ResGrows.ok | apply ResGrows.err | apply ResGrows.later
        | apply plain_grows | apply cmpPending_grows)
    | simp only [grows_mk_iff] | split | intro _

theorem execCommitLockIn_grows (n : Nat) {s : State} (h : Grows a s) : OutGrows a (execCommitLockIn n s) := by
  unfold execCommitLockIn; try dsimp only
  repeat' first
    | with_reducible (first
        | assumption | apply OutGrows.next)
    | simp only [grows_mk_iff] | split | intro _

theorem applyCommits_grows (n : Nat) {s : State} (h : Grows a s) : Grows a (applyCommits n s) := by
  unfold applyCommits; try dsimp only
  repeat' first
    | with_reducible (first
        | assumption | apply foldl_grows | apply setF_grows | apply raise_grows | apply cmpPending_grows)
    | simp only [grows_mk_iff] | split | intro _

theorem layerRecord_grows (i : Nat) (st : Nat) (timed : Bool) (l : Option Latch) {s : State} (h : Grows a s) :
    Grows a (layerRecord i st timed l s) := by
  unfold layerRecord; try dsimp only
  repeat' first
    | with_reducible (first
        | assumption | apply setB_grows | apply setF_grows)
    | simp only [grows_mk_iff] | split | intro _

theorem countLate_grows (i : Nat) {s : State} (h : Grows a s) : Grows a (countLate i s) := by
  unfold countLate; try dsimp only
  repeat' first
    | with_reducible (first
        | assumption | apply raise_grows | apply tally_grows)
    | simp only [grows_mk_iff] | split | intro _

theorem setAct_grows (i : Nat) (x1 : LayerAct) {s : State} (h : Grows a s) : Grows a (setAct i x1 s) := by
  unfold setAct; try dsimp only
  repeat' first | with_reducible assumption | simp only [grows_mk_iff] | split | intro _

theorem latchLayer_grows (i : Nat) (d : List Byte) (l : Latch) (timed : Bool) {s : State} (h : Grows a s) :
    Grows a (latchLayer i d l timed s) := by
  unfold latchLayer; try dsimp only
  repeat' first
    | with_reducible (first
        | assumption | apply layerRecord_grows | apply setAct_grows | apply latchGen_grows | apply tally_grows)
    | simp only [grows_mk_iff] | split | intro _

theorem keepLayer_grows (i : Nat) {s : State} (h : Grows a s) : Grows a (keepLayer i s) := by
  unfold keepLayer; try dsimp only
  repeat' first
    | with_reducible (first
        | assumption | apply countLate_grows | apply layerRecord_grows | apply setAct_grows)
    | simp only [grows_mk_iff] | split | intro _

theorem layerBoundary_grows (n : Nat) (i : Nat) {s : State} (h : Grows a s) : Grows a (layerBoundary n i s) := by
  unfold layerBoundary; try dsimp only
  repeat' first
    | with_reducible (first
        | assumption | apply layerRecord_grows | apply tally_grows | apply latchLayer_grows | apply keepLayer_grows)
    | simp only [grows_mk_iff] | split | intro _

theorem skipWb_grows {s : State} (h : Grows a s) : Grows a (skipWb s) := by
  unfold skipWb; try dsimp only
  repeat' first | with_reducible (first | assumption | apply tally_grows) | simp only [grows_mk_iff] | split | intro _

theorem skipPv_grows {s : State} (h : Grows a s) : Grows a (skipPv s) := by
  unfold skipPv; try dsimp only
  repeat' first | with_reducible (first | assumption | apply tally_grows) | simp only [grows_mk_iff] | split | intro _

theorem startPass_grows (n : Nat) {s : State} (h : Grows a s) : Grows a (startPass n s) := by
  unfold startPass; try dsimp only
  repeat' first
    | with_reducible (first
        | assumption | apply foldl_grows | apply countLate_grows | apply setF_grows | apply setAct_grows)
    | simp only [grows_mk_iff] | split | intro _

theorem passTime_grows (p : Pass) {s : State} (h : Grows a s) : Grows a (passTime p s) := by
  unfold passTime; try dsimp only
  repeat' first | with_reducible (first | assumption | apply setSat_grows) | simp only [grows_mk_iff] | split | intro _

theorem passDone_grows (p : Pass) {s : State} (h : Grows a s) : Grows a (passDone p s) := by
  unfold passDone; try dsimp only
  repeat' first
    | with_reducible (first
        | assumption | apply publishGen_grows | apply setF_grows | apply passTime_grows | apply releaseSweep_grows)
    | simp only [grows_mk_iff] | split | intro _

theorem passCut_grows (p : Pass) {s : State} (h : Grows a s) : Grows a (passCut p s) := by
  unfold passCut; try dsimp only
  repeat' first
    | with_reducible (first
        | assumption | apply setF_grows | apply passTime_grows | apply addF_grows | apply skipWb_grows
        | apply skipPv_grows | apply tally_grows)
    | simp only [grows_mk_iff] | split | intro _

theorem endPassAt_grows {s : State} (h : Grows a s) : Grows a (endPassAt s) := by
  unfold endPassAt; try dsimp only
  repeat' first
    | with_reducible (first
        | assumption | apply passDone_grows | apply passCut_grows)
    | simp only [grows_mk_iff] | split | intro _

theorem execPassEnd_grows {s : State} (h : Grows a s) : OutGrows a (execPassEnd s) := by
  unfold execPassEnd; try dsimp only
  repeat' first
    | with_reducible (first
        | assumption | apply OutGrows.next | apply passDone_grows)
    | simp only [grows_mk_iff] | split | intro _

theorem pendingMap_grows (n : Nat) {s : State} (h : Grows a s) : Grows a (pendingMap n s) := by
  unfold pendingMap; try dsimp only
  repeat' first
    | with_reducible (first
        | assumption | apply mapTakes_grows)
    | simp only [grows_mk_iff] | split | intro _

theorem takeStep_grows {s : State} (h : Grows a s) : Grows a (takeStep s) := by
  unfold takeStep; try dsimp only
  repeat' first
    | with_reducible (first
        | assumption | apply foldl_grows | apply holdPort_grows | apply linkDown_grows | apply releasePort_grows)
    | simp only [grows_mk_iff] | split | intro _

theorem boundary_grows (n : Nat) {s : State} (h : Grows a s) : Grows a (boundary n s) := by
  unfold boundary; try dsimp only
  repeat' first
    | with_reducible (first
        | assumption | apply foldl_grows | apply applyCommits_grows | apply takeStep_grows | apply endPassAt_grows
        | apply colourCommits_grows | apply pendingMap_grows | apply kUpdate_grows | apply layerBoundary_grows
        | apply skipWb_grows | apply skipPv_grows | apply releaseSweep_grows | apply startPass_grows
        | apply setF_grows | refine fst_grows ?_ (by with_reducible assumption))
    | simp only [grows_mk_iff] | split | intro _

theorem execFrameBoundary_grows (n : Nat) {s : State} (h : Grows a s) : OutGrows a (execFrameBoundary n s) := by
  unfold execFrameBoundary; try dsimp only
  repeat' first
    | with_reducible (first
        | assumption | apply OutGrows.next | apply boundary_grows)
    | simp only [grows_mk_iff] | split | intro _

theorem guardFail_grows (l : Latch) {s : State} (h : Grows a s) : Grows a (guardFail l s) := by
  unfold guardFail; try dsimp only
  repeat' first
    | with_reducible (first
        | assumption | apply occur_grows | apply raise_grows | apply surfUpd_grows | apply release_grows)
    | simp only [grows_mk_iff] | split | intro _

theorem guardDone_grows (i : Nat) {s : State} (h : Grows a s) : Grows a (guardDone i s) := by
  unfold guardDone; try dsimp only
  repeat' first
    | with_reducible (first
        | assumption | apply setAct_grows | apply guardFail_grows | apply tally_grows | apply releaseSweep_grows
        | apply startPass_grows)
    | simp only [grows_mk_iff] | split | intro _

theorem execGuardCheckDone_grows (layer : Nat) {s : State} (h : Grows a s) :
    OutGrows a (execGuardCheckDone layer s) := by
  unfold execGuardCheckDone; try dsimp only
  repeat' first
    | with_reducible (first
        | assumption | apply OutGrows.next | apply guardDone_grows)
    | simp only [grows_mk_iff] | split | intro _

theorem execGuardWaitExpiry_grows {s : State} (h : Grows a s) : OutGrows a (execGuardWaitExpiry s) := by
  unfold execGuardWaitExpiry; try dsimp only
  repeat' first
    | with_reducible (first
        | assumption | apply OutGrows.next | apply startPass_grows)
    | simp only [grows_mk_iff] | split | intro _

theorem writeback_grows (i : Nat) (r : Rect) {s : State} (h : Grows a s) : Grows a (writeback i r s) := by
  unfold writeback; try dsimp only
  repeat' first
    | with_reducible (first
        | assumption | apply foldl_grows | apply planePut_grows)
    | simp only [grows_mk_iff] | split | intro _

theorem preview_grows (i : Nat) (reg : Nat × Nat) (r : Rect) {s : State} (h : Grows a s) :
    Grows a (preview i reg r s) := by
  unfold preview; try dsimp only
  repeat' first
    | with_reducible (first
        | assumption | apply foldl_grows | apply planePut_grows)
    | simp only [grows_mk_iff] | split | intro _

theorem composeRegion_grows (p : Pass) (reg : Nat × Nat) {s : State} (h : Grows a s) :
    Grows a (composeRegion p reg s) := by
  unfold composeRegion; try dsimp only
  repeat' first
    | with_reducible (first
        | assumption | apply foldl_grows | apply addF_grows | apply writeback_grows | apply preview_grows
        | apply tally_grows | apply hashAfter_grows)
    | simp only [grows_mk_iff] | split | intro _

theorem execRegionComplete_grows (i : Nat) {s : State} (h : Grows a s) : OutGrows a (execRegionComplete i s) := by
  unfold execRegionComplete; try dsimp only
  repeat' first
    | with_reducible (first
        | assumption | apply OutGrows.next | apply composeRegion_grows)
    | simp only [grows_mk_iff] | split | intro _

theorem execPassMaxClear_grows (q : Nat) (v : Word) {s : State} (h : Grows a s) :
    OutGrows a (execPassMaxClear q v s) := by
  unfold execPassMaxClear; try dsimp only
  repeat' first
    | with_reducible (first
        | assumption | apply OutGrows.next | apply access_grows | apply setF_grows)
    | simp only [grows_mk_iff] | split | intro _

theorem compStart_grows (show_ : Bool) {s : State} (h : Grows a s) : Grows a (compStart show_ s) := by
  unfold compStart; try dsimp only
  repeat' first
    | with_reducible (first
        | assumption | apply setF_grows | apply ingestRestart_grows)
    | simp only [grows_mk_iff] | split | intro _

theorem compStop_grows (hold_ : Bool) {s : State} (h : Grows a s) : Grows a (compStop hold_ s) := by
  unfold compStop; try dsimp only
  repeat' first
    | with_reducible (first
        | assumption | apply setF_grows | apply releaseSweep_grows)
    | simp only [grows_mk_iff] | split | intro _

/-! ### Present -/

theorem setFirst_grows (b : Bool) {s : State} (h : Grows a s) : Grows a (setFirst b s) := by
  unfold setFirst; try dsimp only
  repeat' first
    | with_reducible (first
        | assumption | apply setLevel_grows)
    | simp only [grows_mk_iff] | split | intro _

theorem execFrameClose_grows (n : Nat) {s : State} (h : Grows a s) : OutGrows a (execFrameClose n s) := by
  unfold execFrameClose; try dsimp only
  repeat' first
    | with_reducible (first
        | assumption | apply OutGrows.next | apply closeFrame_grows | apply closePower_grows
        | apply correctFrame_grows | apply pushBegin_grows | apply takeFree_grows)
    | simp only [grows_mk_iff] | split | intro _

theorem sendArm_grows (sc : Nat) (unblank : Bool) {s : State} (h : Grows a s) : Grows a (sendArm sc unblank s) := by
  unfold sendArm; try dsimp only
  repeat' first
    | with_reducible (first
        | assumption | apply strandAll_grows)
    | simp only [grows_mk_iff] | split | intro _

theorem execArmSend_grows (n : Nat) {s : State} (h : Grows a s) : OutGrows a (execArmSend n s) := by
  unfold execArmSend; try dsimp only
  repeat' first
    | with_reducible (first
        | assumption | apply OutGrows.next | apply sendArm_grows | apply armScale_grows
        | refine snd_grows ?_ (by with_reducible assumption))
    | simp only [grows_mk_iff] | split | intro _

theorem execPushCutoff_grows {s : State} (h : Grows a s) : OutGrows a (execPushCutoff s) := by
  unfold execPushCutoff; try dsimp only
  repeat' first
    | with_reducible (first
        | assumption | apply OutGrows.next | apply pushCut_grows)
    | simp only [grows_mk_iff] | split | intro _

theorem advanceQ_grows (n : Nat) {s : State} (h : Grows a s) : Grows a (advanceQ n s) := by
  unfold advanceQ; try dsimp only
  repeat' first | with_reducible assumption | simp only [grows_mk_iff] | split | intro _

theorem gatherLamp_grows {s : State} (h : Grows a s) : Grows a (gatherLamp s) := by
  unfold gatherLamp; try dsimp only
  repeat' first | with_reducible assumption | simp only [grows_mk_iff] | split | intro _

theorem swapBanks_grows (n : Nat) {s : State} (h : Grows a s) : Grows a (swapBanks n s) := by
  unfold swapBanks; try dsimp only
  repeat' first
    | with_reducible (first
        | assumption | apply send_grows | apply setF_grows | apply strRefresh_grows)
    | simp only [grows_mk_iff] | split | intro _

theorem takeFrame_grows (n : Nat) {s : State} (h : Grows a s) : Grows a (takeFrame n s) := by
  unfold takeFrame; try dsimp only
  repeat' first
    | with_reducible (first
        | assumption | apply foldl_grows | apply takeCodes_grows)
    | simp only [grows_mk_iff] | split | intro _

theorem takeDmkCtrl_grows {s : State} (h : Grows a s) : Grows a (takeDmkCtrl s) := by
  unfold takeDmkCtrl; try dsimp only
  repeat' first
    | with_reducible (first
        | assumption | apply userShow_grows | apply markEvery_grows)
    | simp only [grows_mk_iff] | split | intro _

theorem followCadence_grows (n : Nat) (lit : Bool) {s : State} (h : Grows a s) : Grows a (followCadence n lit s) := by
  unfold followCadence; try dsimp only
  repeat' first
    | with_reducible (first
        | assumption | apply sendConfig_grows)
    | simp only [grows_mk_iff] | split | intro _

theorem strandPresent_grows (n : Nat) {s : State} (h : Grows a s) : Grows a (strandPresent n s) := by
  unfold strandPresent; try dsimp only
  repeat' first
    | with_reducible (first
        | assumption | apply clkApply_grows | apply swapBanks_grows | apply takeFrame_grows | apply setB_grows
        | apply prepShow_grows | apply followCadence_grows)
    | simp only [grows_mk_iff] | split | intro _

theorem tilePresent_grows (n : Nat) {s : State} (h : Grows a s) : Grows a (tilePresent n s) := by
  unfold tilePresent; try dsimp only
  repeat' first
    | with_reducible (first
        | assumption | apply strandPresent_grows | apply gatherLamp_grows | apply advanceQ_grows
        | apply setFirst_grows | apply takeDmkCtrl_grows | apply foldStore_grows | apply advanceStore_grows
        | apply zonePresent_grows | apply tempMarks_grows | apply sweepStep_grows)
    | simp only [grows_mk_iff] | split | intro _

theorem execPresentInstant_grows (n : Nat) {s : State} (h : Grows a s) : OutGrows a (execPresentInstant n s) := by
  unfold execPresentInstant; try dsimp only
  repeat' first
    | with_reducible (first
        | assumption | apply OutGrows.next | apply promoteParams_grows | apply send_grows | apply sendLiveness_grows
        | apply freeSent_grows | apply tilePresent_grows)
    | simp only [grows_mk_iff] | split | intro _

theorem execPwmCycleStart_grows {s : State} (h : Grows a s) : OutGrows a (execPwmCycleStart s) := by
  unfold execPwmCycleStart; try dsimp only
  repeat' first
    | with_reducible (first
        | assumption | apply OutGrows.next | apply send_grows)
    | simp only [grows_mk_iff] | split | intro _

theorem goDark_grows {s : State} (h : Grows a s) : Grows a (goDark s) := by
  unfold goDark; try dsimp only
  repeat' first
    | with_reducible (first
        | assumption | apply setFirst_grows | apply strandHalt_grows | apply pushAbandon_grows)
    | simp only [grows_mk_iff] | split | intro _

theorem releaseModule_grows (k : Pkt) {s : State} (h : Grows a s) : Grows a (releaseModule k s) := by
  unfold releaseModule; try dsimp only
  repeat' first
    | with_reducible (first
        | assumption | apply setLevel_grows | apply goDark_grows | apply finish_grows)
    | simp only [grows_mk_iff] | split | intro _

theorem execModuleRelease_grows (k : Pkt) {s : State} (h : Grows a s) : OutGrows a (execModuleRelease k s) := by
  unfold execModuleRelease; try dsimp only
  repeat' first
    | with_reducible (first
        | assumption | apply OutGrows.next | apply ResGrows.ok | apply ResGrows.err | apply ResGrows.later
        | apply plain_grows | apply setLevel_grows | apply goDark_grows | apply ckptStart_grows
        | apply startBg_grows)
    | simp only [grows_mk_iff] | split | intro _

theorem execCheckpointDone_grows (good : Bool) {s : State} (h : Grows a s) :
    OutGrows a (execCheckpointDone good s) := by
  unfold execCheckpointDone; try dsimp only
  repeat' first
    | with_reducible (first
        | assumption | apply OutGrows.next | apply setLevel_grows | apply setF_grows | apply incF_grows
        | apply tally_grows | apply ckptStart_grows | apply endBg_grows | apply releaseModule_grows
        | apply finish_grows)
    | simp only [grows_mk_iff] | simp only [grows_nvx_iff] | split | intro _

theorem moduleWaitsFail_grows {s : State} (h : Grows a s) : Grows a (moduleWaitsFail s) := by
  unfold moduleWaitsFail; try dsimp only
  repeat' first
    | with_reducible (first
        | assumption | apply foldl_grows | apply finish_grows | apply endBg_grows)
    | simp only [grows_mk_iff] | split | intro _

theorem execModulePulled_grows {s : State} (h : Grows a s) : OutGrows a (execModulePulled s) := by
  unfold execModulePulled; try dsimp only
  repeat' first
    | with_reducible (first
        | assumption | apply OutGrows.next | apply moduleWaitsFail_grows | apply ckptAbandon_grows
        | apply setLevel_grows | apply setFl_grows | apply goDark_grows | apply tally_grows)
    | simp only [grows_mk_iff] | simp only [grows_nvx_iff] | split | intro _

theorem moduleLoad_grows (keep : Bool) {s : State} (h : Grows a s) : Grows a (moduleLoad keep s) := by
  unfold moduleLoad; try dsimp only
  repeat' first
    | with_reducible (first
        | assumption | apply setLevel_grows | apply strandsStart_grows | apply prepShow_grows
        | apply loadThermal_grows | apply loadGeo_grows | apply loadLayers_grows)
    | simp only [grows_mk_iff] | split | intro _

theorem execModuleInserted_grows (m : Module) {s : State} (h : Grows a s) : OutGrows a (execModuleInserted m s) := by
  unfold execModuleInserted; try dsimp only
  repeat' first
    | with_reducible (first
        | assumption | apply OutGrows.next | apply moduleLoad_grows | apply setLevel_grows)
    | simp only [grows_mk_iff] | simp only [grows_nvx_iff] | split | intro _

theorem execFactoryWriteDone_grows (good : Bool) {s : State} (h : Grows a s) :
    OutGrows a (execFactoryWriteDone good s) := by
  unfold execFactoryWriteDone; try dsimp only
  repeat' first
    | with_reducible (first
        | assumption | apply OutGrows.next | apply endBg_grows | apply finish_grows | apply setF_grows
        | apply ageFrom_grows | apply moduleLoad_grows)
    | simp only [grows_mk_iff] | simp only [grows_nvx_iff] | split | intro _

/-! ### Modes -/

theorem showEnds_grows {s : State} (h : Grows a s) : Grows a (showEnds s) := by
  unfold showEnds; try dsimp only
  repeat' first
    | with_reducible (first
        | assumption | apply setFirst_grows)
    | simp only [grows_mk_iff] | split | intro _

theorem modeLeave_grows (old : Nat) (new : Nat) {s : State} (h : Grows a s) : Grows a (modeLeave old new s) := by
  unfold modeLeave; try dsimp only
  repeat' first
    | with_reducible (first
        | assumption | apply compStop_grows | apply pushAbandon_grows | apply showEnds_grows | apply forceFull_grows
        | apply endDebug_grows | apply twillLeaveService_grows)
    | simp only [grows_mk_iff] | split | intro _

theorem blankDrivers_grows {s : State} (h : Grows a s) : Grows a (blankDrivers s) := by
  unfold blankDrivers; try dsimp only
  repeat' first
    | with_reducible (first
        | assumption | apply strandAll_grows)
    | simp only [grows_mk_iff] | split | intro _

theorem modeEnter_grows (old : Nat) (new : Nat) {s : State} (h : Grows a s) : Grows a (modeEnter old new s) := by
  unfold modeEnter; try dsimp only
  repeat' first
    | with_reducible (first
        | assumption | apply compStart_grows | apply markEvery_grows | apply pushAbandon_grows
        | apply blankDrivers_grows)
    | simp only [grows_mk_iff] | split | intro _

theorem changeMode_grows (new : Nat) (cause : Nat) {s : State} (h : Grows a s) : Grows a (changeMode new cause s) := by
  unfold changeMode; try dsimp only
  repeat' first
    | with_reducible (first
        | assumption | apply modeEnter_grows | apply enterMode_grows | apply modeLeave_grows)
    | simp only [grows_mk_iff] | split | intro _

theorem execSetMode_grows (k : Pkt) {s : State} (h : Grows a s) : OutGrows a (execSetMode k s) := by
  unfold execSetMode; try dsimp only
  repeat' first
    | with_reducible (first
        | assumption | apply OutGrows.next | apply ResGrows.ok | apply ResGrows.err | apply ResGrows.later
        | apply plain_grows | apply changeMode_grows)
    | simp only [grows_mk_iff] | split | intro _

theorem execWarmReset_grows (k : Pkt) {s : State} (h : Grows a s) : OutGrows a (execWarmReset k s) := by
  unfold execWarmReset; try dsimp only
  repeat' first
    | with_reducible (first
        | assumption | apply OutGrows.next | apply ResGrows.ok | apply ResGrows.err | apply ResGrows.later
        | apply plain_grows)
    | simp only [grows_mk_iff] | split | intro _

theorem execWarmResetDelayExpiry_grows {s : State} (h : Grows a s) : OutGrows a (execWarmResetDelayExpiry s) := by
  unfold execWarmResetDelayExpiry; try dsimp only
  repeat' first
    | with_reducible (first
        | assumption | apply OutGrows.next | apply beginInternal_grows)
    | simp only [grows_mk_iff] | split | intro _

theorem endService_grows {s : State} (h : Grows a s) : Grows a (endService s) := by
  unfold endService; try dsimp only
  repeat' first
    | with_reducible (first
        | assumption | apply changeMode_grows)
    | simp only [grows_mk_iff] | split | intro _

end Sys2Proof.Machine
end

