-- ==== Sys2Proof/Laws/GrowsRegs.lean ====
section
/-! SUPPORT. What no effect undoes, for register reads and writes, images and PTP. -/

namespace Sys2Proof.Machine

open State

variable {a : State}

/-! ### RegRead -/

theorem indUpd_grows (q : Nat) (f : IndPair → IndPair) {s : State} (h : Grows a s) : Grows a (indUpd q f s) := by
  unfold indUpd; try dsimp only
  repeat' first | with_reducible assumption | simp only [grows_mk_iff] | split | intro _

theorem pairRead_grows (q : Nat) (i : Nat) (part : Nat) {s : State} (h : Grows a s) :
    Grows a (pairRead q i part s).1 := by
  unfold pairRead; try dsimp only
  repeat' first | with_reducible assumption | simp only [grows_mk_iff] | split | intro _

theorem indAdvance_grows (q : Nat) {s : State} (h : Grows a s) : Grows a (indAdvance q s) := by
  unfold indAdvance; try dsimp only
  repeat' first | with_reducible (first | assumption | apply indUpd_grows) | simp only [grows_mk_iff] | split | intro _

theorem indRead_grows (q : Nat) {s : State} (h : Grows a s) : Grows a (indRead q s).1 := by
  unfold indRead; try dsimp only
  repeat' first
    | with_reducible (first
        | assumption | apply indAdvance_grows | apply tally_grows | apply lockViol_grows | apply indUpd_grows)
    | simp only [grows_mk_iff] | split | intro _

theorem rplRead_grows {s : State} (h : Grows a s) : Grows a (rplRead s).1 := by
  unfold rplRead; try dsimp only
  repeat' first | with_reducible (first | assumption | apply tally_grows) | simp only [grows_mk_iff] | split | intro _

theorem directRead_grows (q : Nat) (b : Nat) (off : Nat) {s : State} (h : Grows a s) :
    Grows a (directRead q b off s).1 := by
  unfold directRead; try dsimp only
  repeat' first
    | with_reducible (first
        | assumption | apply indRead_grows | apply rplRead_grows | apply pairRead_grows
        | refine fst_grows ?_ (by with_reducible assumption))
    | simp only [grows_mk_iff] | split | intro _

theorem regRead_grows (q : Nat) (x1 : Nat) {s : State} (h : Grows a s) : Grows a (regRead q x1 s).1 := by
  unfold regRead; try dsimp only
  repeat' first
    | with_reducible (first
        | assumption | apply tally_grows | apply lockViol_grows | apply directRead_grows
        | refine fst_grows ?_ (by with_reducible assumption))
    | simp only [grows_mk_iff] | split | intro _

theorem readMany_grows (q : Nat) (ind : Bool) (x2 : Nat) (x3 : Nat) {x4 : State} (h : Grows a x4) :
    Grows a (readMany q ind x2 x3 x4).1 := by
  induction x3 generalizing x2 x4 with
  | zero => exact h
  | succ n ih =>
    unfold readMany
    split
    next t w e =>
      have ht : Grows a t := by
        split at e
        · exact fst_grows (indRead_grows _ h) e
        · exact fst_grows (regRead_grows _ _ h) e
      split
      next u ws e2 => exact fst_grows (ih _ ht) e2

theorem hostRead_grows (q : Nat) (b : Nat) (off : Nat) (be : BitVec 4) {act : State → State × Word} {s : State} (h1 :
    ∀ c b, Grows c b → Grows c (act b).1) (h : Grows a s) : Grows a (hostRead q b off be act s) := by
  unfold hostRead; try dsimp only
  repeat' first
    | with_reducible (first
        | assumption | apply h1 | apply send_grows | apply tally_grows | apply lockViol_grows
        | refine fst_grows ?_ (by with_reducible assumption))
    | simp only [grows_mk_iff] | split | intro _

theorem execIndDataRead_grows (q : Nat) (be : BitVec 4) {s : State} (h : Grows a s) :
    OutGrows a (execIndDataRead q be s) := by
  unfold execIndDataRead; try dsimp only
  repeat' first
    | with_reducible (first
        | assumption | apply OutGrows.next | apply hostRead_grows | apply indRead_grows
        | refine fst_grows ?_ (by with_reducible assumption))
    | simp only [grows_mk_iff] | split | intro _

theorem execLatchedPairRead_grows (q : Nat) (pair : Nat) (part : Nat) (be : BitVec 4) {s : State} (h : Grows a s) :
    OutGrows a (execLatchedPairRead q pair part be s) := by
  unfold execLatchedPairRead; try dsimp only
  repeat' first
    | with_reducible (first
        | assumption | apply OutGrows.next | apply hostRead_grows | apply pairRead_grows
        | refine fst_grows ?_ (by with_reducible assumption))
    | simp only [grows_mk_iff] | split | intro _

/-! ### Bundle -/

theorem syncRec_grows {s : State} (h : Grows a s) : Grows a (syncRec s) := by
  unfold syncRec; try dsimp only
  repeat' first
    | with_reducible (first
        | assumption | apply setLevel_grows)
    | simp only [grows_mk_iff] | split | intro _

theorem appendRec_grows (f : BootRec → BootRec) {s : State} (h : Grows a s) : Grows a (appendRec f s) := by
  unfold appendRec; try dsimp only
  repeat' first
    | with_reducible (first
        | assumption | apply foldl_grows | apply syncRec_grows | apply occur_grows)
    | simp only [grows_mk_iff] | simp only [grows_nvx_iff] | split | intro _

theorem rejectSlot_grows (k : Nat) (reason : Nat) {s : State} (h : Grows a s) : Grows a (rejectSlot k reason s) := by
  unfold rejectSlot; try dsimp only
  repeat' first
    | with_reducible (first
        | assumption | apply appendRec_grows)
    | simp only [grows_mk_iff] | split | intro _

theorem mslAttn_grows (on : Bool) {s : State} (h : Grows a s) : Grows a (mslAttn on s) := by
  unfold mslAttn; try dsimp only
  repeat' first
    | with_reducible (first
        | assumption | apply setLevel_grows)
    | simp only [grows_mk_iff] | split | intro _

theorem bootRun_grows (k : Nat) {s : State} (h : Grows a s) : Grows a (bootRun k s) := by
  unfold bootRun; try dsimp only
  repeat' first
    | with_reducible (first
        | assumption | apply mslAttn_grows | apply setF_grows)
    | simp only [grows_mk_iff] | simp only [grows_nvx_iff] | split | intro _

theorem bootFailed_grows {s : State} (h : Grows a s) : Grows a (bootFailed s) := by
  unfold bootFailed; try dsimp only
  repeat' first
    | with_reducible (first
        | assumption | apply mslAttn_grows)
    | simp only [grows_mk_iff] | split | intro _

theorem bootTry_grows (x0 : List Nat) {x1 : State} (h : Grows a x1) : Grows a (bootTry x0 x1) := by
  induction x0 generalizing x1 with
  | nil => exact bootFailed_grows h
  | cons k l ih =>
    unfold bootTry; dsimp only
    repeat' first | with_reducible (first | assumption | apply ih | apply rejectSlot_grows | apply bootRun_grows |
      apply appendRec_grows) | split

theorem bootChoose_grows {s : State} (h : Grows a s) : Grows a (bootChoose s) := by
  unfold bootChoose; try dsimp only
  repeat' first
    | with_reducible (first
        | assumption | apply bootTry_grows)
    | simp only [grows_mk_iff] | split | intro _

theorem bootMemory_grows (b : List Byte) {s : State} (h : Grows a s) : Grows a (bootMemory b s) := by
  unfold bootMemory; try dsimp only
  repeat' first
    | with_reducible (first
        | assumption | apply mslAttn_grows | apply setF_grows)
    | simp only [grows_mk_iff] | simp only [grows_nvx_iff] | split | intro _

theorem recoverSlot_grows (b : List Byte) {s : State} (h : Grows a s) : Grows a (recoverSlot b s) := by
  unfold recoverSlot; try dsimp only
  repeat' first
    | with_reducible (first
        | assumption | apply bootChoose_grows | apply appendRec_grows)
    | simp only [grows_mk_iff] | simp only [grows_nvx_iff] | split | intro _

theorem loadBundle_grows (b : List Byte) (writeSlot : Bool) {s : State} (h : Grows a s) :
    Grows a (loadBundle b writeSlot s).2 := by
  unfold loadBundle; try dsimp only
  repeat' first
    | with_reducible (first
        | assumption | apply recoverSlot_grows | apply bootMemory_grows)
    | simp only [grows_mk_iff] | split | intro _

/-! ### Ptp -/

theorem ptpUpd_grows (i : Nat) (g : PtpInst → PtpInst) {s : State} (h : Grows a s) : Grows a (ptpUpd i g s) := by
  unfold ptpUpd; try dsimp only
  repeat' first | with_reducible assumption | simp only [grows_mk_iff] | split | intro _

theorem ptpUpdate_grows {s : State} (h : Grows a s) : Grows a (ptpUpdate s) := by
  unfold ptpUpdate; try dsimp only
  repeat' first
    | with_reducible (first
        | assumption | apply foldl_grows | apply setF_grows)
    | simp only [grows_mk_iff] | split | intro _

theorem ntCheck_grows {s : State} (h : Grows a s) : Grows a (ntCheck s) := by
  unfold ntCheck; try dsimp only
  repeat' first
    | with_reducible (first
        | assumption | apply timeUpdate_grows | apply wtFromNt_grows | apply servoLost_grows)
    | simp only [grows_mk_iff] | split | intro _

theorem ptpSet_grows (l : List Byte) {t : State} (h : Grows a t) : ExGrows a (ptpSet l t) := by
  unfold ptpSet; try dsimp only
  repeat' first
    | with_reducible (first
        | assumption | apply ExGrows.ok | apply ExGrows.error | apply setF_grows | apply setItem_grows
        | apply ntCheck_grows | apply ptpUpdate_grows | apply ptpUpd_grows)
    | simp only [grows_mk_iff] | split | intro _

theorem execSetPtp_grows (k : Pkt) {s : State} (h : Grows a s) : OutGrows a (execSetPtp k s) := by
  unfold execSetPtp; try dsimp only
  repeat' first
    | with_reducible (first
        | assumption | apply OutGrows.next | apply ResGrows.ok | apply ResGrows.err | apply ResGrows.later
        | apply plain_grows | apply resOf_grows | apply ptpSet_grows
        | refine ExGrows.of ?_ (by with_reducible assumption))
    | simp only [grows_mk_iff] | split | intro _

theorem ptpUnsup_grows {s : State} (h : Grows a s) : Grows a (ptpUnsup s) := by
  unfold ptpUnsup; try dsimp only
  repeat' first | with_reducible (first | assumption | apply tally_grows) | simp only [grows_mk_iff] | split | intro _

theorem ptpAnnounce_grows (i : Nat) (b : List Byte) {s : State} (h : Grows a s) : Grows a (ptpAnnounce i b s) := by
  unfold ptpAnnounce; try dsimp only
  repeat' first
    | with_reducible (first
        | assumption | apply ptpUnsup_grows | apply ptpUpdate_grows | apply ptpUpd_grows)
    | simp only [grows_mk_iff] | split | intro _

theorem ptpSample_grows (i : Nat) (t1 : Int) (t2 : Nat) (ntAt : Int) {s : State} (h : Grows a s) :
    Grows a (ptpSample i t1 t2 ntAt s) := by
  unfold ptpSample; try dsimp only
  repeat' first
    | with_reducible (first
        | assumption | apply ptpUpd_grows | apply setSatI_grows | apply setF_grows | apply servoSample_grows
        | apply timeUpdate_grows | apply wtFromNt_grows)
    | simp only [grows_mk_iff] | split | intro _

theorem ptpSync_grows (i : Nat) (b : List Byte) {s : State} (h : Grows a s) : Grows a (ptpSync i b s) := by
  unfold ptpSync; try dsimp only
  repeat' first
    | with_reducible (first
        | assumption | apply ptpUnsup_grows | apply incF_grows | apply ptpUpd_grows | apply ptpSample_grows)
    | simp only [grows_mk_iff] | split | intro _

theorem ptpFollow_grows (i : Nat) (b : List Byte) {s : State} (h : Grows a s) : Grows a (ptpFollow i b s) := by
  unfold ptpFollow; try dsimp only
  repeat' first
    | with_reducible (first
        | assumption | apply ptpSample_grows)
    | simp only [grows_mk_iff] | split | intro _

theorem ptpDelayResp_grows (i : Nat) (b : List Byte) {s : State} (h : Grows a s) : Grows a (ptpDelayResp i b s) := by
  unfold ptpDelayResp; try dsimp only
  repeat' first
    | with_reducible (first
        | assumption | apply incF_grows | apply ptpUpd_grows | apply setI_grows)
    | simp only [grows_mk_iff] | split | intro _

theorem ptpMessage_grows (i : Nat) (transport : Nat) (b : List Byte) {s : State} (h : Grows a s) :
    Grows a (ptpMessage i transport b s) := by
  unfold ptpMessage; try dsimp only
  repeat' first
    | with_reducible (first
        | assumption | apply ptpUnsup_grows | apply ptpSync_grows | apply ptpFollow_grows | apply ptpDelayResp_grows
        | apply ptpAnnounce_grows)
    | simp only [grows_mk_iff] | split | intro _

theorem ptpRx_grows (p : Nat) (sub : Nat) (transport : Nat) (b : List Byte) {s : State} (h : Grows a s) :
    Grows a (ptpRx p sub transport b s) := by
  unfold ptpRx; try dsimp only
  repeat' first
    | with_reducible (first
        | assumption | apply foldl_grows | apply ptpMessage_grows)
    | simp only [grows_mk_iff] | split | intro _

theorem execDelayReqTimer_grows (i : Nat) {s : State} (h : Grows a s) : OutGrows a (execDelayReqTimer i s) := by
  unfold execDelayReqTimer; try dsimp only
  repeat' first
    | with_reducible (first
        | assumption | apply OutGrows.next | apply send_grows | apply ptpUpd_grows)
    | simp only [grows_mk_iff] | split | intro _

theorem execPtpAnnounceTimeout_grows (i : Nat) {s : State} (h : Grows a s) :
    OutGrows a (execPtpAnnounceTimeout i s) := by
  unfold execPtpAnnounceTimeout; try dsimp only
  repeat' first
    | with_reducible (first
        | assumption | apply OutGrows.next | apply ntCheck_grows | apply ptpUpdate_grows | apply setF_grows
        | apply ptpUpd_grows)
    | simp only [grows_mk_iff] | split | intro _

theorem capture__grows (c : Nat) {s : State} (h : Grows a s) : Grows a (capture_ c s) := by
  unfold capture_; try dsimp only
  repeat' first
    | with_reducible (first
        | assumption | apply incF_grows | apply setF_grows)
    | simp only [grows_mk_iff] | split | intro _

theorem edgesLost_grows (ts : Nat) {s : State} (h : Grows a s) : Grows a (edgesLost ts s) := by
  unfold edgesLost; try dsimp only
  repeat' first
    | with_reducible (first
        | assumption | apply timeUpdate_grows | apply servoLost_grows)
    | simp only [grows_mk_iff] | split | intro _

theorem genlockSample_grows {s : State} (h : Grows a s) : Grows a (genlockSample s) := by
  unfold genlockSample; try dsimp only
  repeat' first
    | with_reducible (first
        | assumption | apply tally_grows | apply edgesLost_grows | apply timeUpdate_grows | apply servoSample_grows)
    | simp only [grows_mk_iff] | split | intro _

theorem execGenlockEdge_grows {s : State} (h : Grows a s) : OutGrows a (execGenlockEdge s) := by
  unfold execGenlockEdge; try dsimp only
  repeat' first
    | with_reducible (first
        | assumption | apply OutGrows.next | apply genlockSample_grows | apply capture__grows)
    | simp only [grows_mk_iff] | split | intro _

theorem execGenlockLoss_grows {s : State} (h : Grows a s) : OutGrows a (execGenlockLoss s) := by
  unfold execGenlockLoss; try dsimp only
  repeat' first
    | with_reducible (first
        | assumption | apply OutGrows.next | apply edgesLost_grows)
    | simp only [grows_mk_iff] | split | intro _

theorem ppsSample_grows {s : State} (h : Grows a s) : Grows a (ppsSample s) := by
  unfold ppsSample; try dsimp only
  repeat' first
    | with_reducible (first
        | assumption | apply triggerStep_grows | apply tally_grows | apply clockPut_grows | apply timeUpdate_grows
        | apply servoSample_grows)
    | simp only [grows_mk_iff] | split | intro _

theorem execPpsEdge_grows {s : State} (h : Grows a s) : OutGrows a (execPpsEdge s) := by
  unfold execPpsEdge; try dsimp only
  repeat' first
    | with_reducible (first
        | assumption | apply OutGrows.next | apply ppsSample_grows | apply capture__grows)
    | simp only [grows_mk_iff] | split | intro _

theorem execSetWtSeconds_grows (k : Pkt) {s : State} (h : Grows a s) : OutGrows a (execSetWtSeconds k s) := by
  unfold execSetWtSeconds; try dsimp only
  repeat' first
    | with_reducible (first
        | assumption | apply OutGrows.next | apply ResGrows.ok | apply ResGrows.err | apply ResGrows.later
        | apply plain_grows)
    | simp only [grows_mk_iff] | split | intro _

theorem execGetTime_grows (k : Pkt) {s : State} (h : Grows a s) : OutGrows a (execGetTime k s) := by
  unfold execGetTime; try dsimp only
  repeat' first
    | with_reducible (first
        | assumption | apply OutGrows.next | apply ResGrows.ok | apply ResGrows.err | apply ResGrows.later
        | apply plain_grows)
    | simp only [grows_mk_iff] | split | intro _

theorem timSnap_grows {s : State} (h : Grows a s) : Grows a (timSnap s) := by
  unfold timSnap; try dsimp only
  repeat' first | with_reducible (first | assumption | apply setF_grows) | simp only [grows_mk_iff] | split | intro _

theorem execTimSnapGo_grows (q : Nat) (v : Word) {s : State} (h : Grows a s) : OutGrows a (execTimSnapGo q v s) := by
  unfold execTimSnapGo; try dsimp only
  repeat' first
    | with_reducible (first
        | assumption | apply OutGrows.next | apply access_grows | apply timSnap_grows)
    | simp only [grows_mk_iff] | split | intro _

theorem cadenceApply_grows (l : List Byte) {t0 : State} (h : Grows a t0) : ExGrows a (cadenceApply l t0) := by
  unfold cadenceApply; try dsimp only
  repeat' first
    | with_reducible (first
        | assumption | apply ExGrows.ok | apply ExGrows.error | apply promoteParams_grows | apply setItem_grows
        | apply holdParams_grows)
    | simp only [grows_mk_iff] | split | intro _

theorem execSetCadence_grows (k : Pkt) {s : State} (h : Grows a s) : OutGrows a (execSetCadence k s) := by
  unfold execSetCadence; try dsimp only
  repeat' first
    | with_reducible (first
        | assumption | apply OutGrows.next | apply ResGrows.ok | apply ResGrows.err | apply ResGrows.later
        | apply plain_grows | apply resOf_grows | apply cadenceApply_grows
        | refine ExGrows.of ?_ (by with_reducible assumption))
    | simp only [grows_mk_iff] | split | intro _

theorem timCtrlChanged_grows (old : State) {s : State} (h : Grows a s) : Grows a (timCtrlChanged old s) := by
  unfold timCtrlChanged; try dsimp only
  repeat' first
    | with_reducible (first
        | assumption | apply masterWt_grows | apply offerChange_grows | apply chooseSource_grows | apply elect_grows)
    | simp only [grows_mk_iff] | split | intro _

theorem unmatched_grows {s : State} (h : Grows a s) : Grows a (unmatched s) := by
  unfold unmatched; try dsimp only
  repeat' first | with_reducible (first | assumption | apply incF_grows) | simp only [grows_mk_iff] | split | intro _

theorem firmwareFrame_grows (key : Nat) {s : State} (h : Grows a s) : Grows a (firmwareFrame key s) := by
  unfold firmwareFrame; try dsimp only
  repeat' first
    | with_reducible (first
        | assumption | apply unmatched_grows)
    | simp only [grows_mk_iff] | split | intro _

theorem t21_grows (i : Nat) (cinst : Bool) (vrx : Bool) {s : State} (h : Grows a s) : Grows a (t21 i cinst vrx s) := by
  unfold t21; try dsimp only
  repeat' first
    | with_reducible (first
        | assumption | apply flowTally_grows)
    | simp only [grows_mk_iff] | split | intro _

theorem classify_grows (p : Nat) (sub_ : Nat) (b : List Byte) (cinst : Bool) (vrx : Bool) {s : State} (h :
    Grows a s) : Grows a (classify p sub_ b cinst vrx s) := by
  unfold classify; try dsimp only
  repeat' first
    | with_reducible (first
        | assumption | apply ptpRx_grows | apply unmatched_grows | apply flowPacket_grows | apply t21_grows
        | apply firmwareFrame_grows)
    | simp only [grows_mk_iff] | split | intro _

theorem execEthFrameRx_grows (p : Nat) (sub_ : Nat) (b : List Byte) (flags : Nat) {s : State} (h : Grows a s) :
    OutGrows a (execEthFrameRx p sub_ b flags s) := by
  unfold execEthFrameRx; try dsimp only
  repeat' first
    | with_reducible (first
        | assumption | apply OutGrows.next | apply tally_grows | apply occur_grows | apply unmatched_grows
        | apply classify_grows)
    | simp only [grows_mk_iff] | split | intro _

/-! ### RegWrite -/

theorem ackWrite_grows (key : Nat) (v : Word) {s : State} (h : Grows a s) : Grows a (ackWrite key v s) := by
  unfold ackWrite; try dsimp only
  repeat' first
    | with_reducible (first
        | assumption | apply storeWord_grows | apply sendVector_grows)
    | simp only [grows_mk_iff] | split | intro _

theorem cfgLockWrite_grows (q : Nat) (v : Word) {s : State} (h : Grows a s) : Grows a (cfgLockWrite q v s) := by
  unfold cfgLockWrite; try dsimp only
  repeat' first
    | with_reducible (first
        | assumption | apply lockViol_grows | apply regPut_grows)
    | simp only [grows_mk_iff] | split | intro _

theorem gpioOutWrite_grows (v : Word) {s : State} (h : Grows a s) : Grows a (gpioOutWrite v s) := by
  unfold gpioOutWrite; try dsimp only
  repeat' first | with_reducible (first | assumption | apply setF_grows) | simp only [grows_mk_iff] | split | intro _

theorem sysLoadWrite_grows (v : Word) {s : State} (h : Grows a s) : Grows a (sysLoadWrite v s) := by
  unfold sysLoadWrite; try dsimp only
  repeat' first
    | with_reducible (first
        | assumption | apply setF_grows | apply loadBundle_grows
        | refine snd_grows ?_ (by with_reducible assumption))
    | simp only [grows_mk_iff] | split | intro _

theorem sevWrite_grows (q : Nat) (off : Nat) (v : Word) {s : State} (h : Grows a s) :
    Grows a (sevWrite q off v s) := by
  unfold sevWrite; try dsimp only
  repeat' first
    | with_reducible (first
        | assumption | apply storeWord_grows | apply lockViol_grows)
    | simp only [grows_mk_iff] | split | intro _

theorem frecClear_grows (b : Nat) {s : State} (h : Grows a s) : Grows a (frecClear b s) := by
  unfold frecClear; try dsimp only
  repeat' first | with_reducible (first | assumption | apply regPut_grows) | simp only [grows_mk_iff] | split | intro _

theorem writeSys_grows (q : Nat) (off : Nat) (v : Word) {s : State} (h : Grows a s) :
    Grows a (writeSys q off v s) := by
  unfold writeSys; try dsimp only
  repeat' first
    | with_reducible (first
        | assumption | apply cfgLockWrite_grows | apply sysLoadWrite_grows | apply lockViol_grows
        | apply gpioOutWrite_grows | apply sevWrite_grows | apply frecClear_grows | apply storeWord_grows)
    | simp only [grows_mk_iff] | split | intro _

theorem indAddrWrite_grows (q : Nat) (v : Word) {s : State} (h : Grows a s) : Grows a (indAddrWrite q v s) := by
  unfold indAddrWrite; try dsimp only
  repeat' first | with_reducible (first | assumption | apply indUpd_grows) | simp only [grows_mk_iff] | split | intro _

theorem routeWrite_grows (q : Nat) (k : Nat) (v : Word) {s : State} (h : Grows a s) :
    Grows a (routeWrite q k v s) := by
  unfold routeWrite; try dsimp only
  repeat' first
    | with_reducible (first
        | assumption | apply lockViol_grows | apply vecEdges_grows | apply storeWord_grows)
    | simp only [grows_mk_iff] | split | intro _

theorem retrain_grows {s : State} (h : Grows a s) : Grows a (retrain s) := by
  unfold retrain; try dsimp only
  repeat' first | with_reducible (first | assumption | apply setF_grows) | simp only [grows_mk_iff] | split | intro _

theorem pciCtrlWrite_grows (q : Nat) (v : Word) {s : State} (h : Grows a s) : Grows a (pciCtrlWrite q v s) := by
  unfold pciCtrlWrite; try dsimp only
  repeat' first
    | with_reducible (first
        | assumption | apply lockViol_grows | apply storeWord_grows | apply retrain_grows)
    | simp only [grows_mk_iff] | split | intro _

theorem vctrlWrite_grows (n : Nat) (v : Word) {s : State} (h : Grows a s) : Grows a (vctrlWrite n v s) := by
  unfold vctrlWrite; try dsimp only
  repeat' first
    | with_reducible (first
        | assumption | apply storeWord_grows | apply send_grows | apply setF_grows)
    | simp only [grows_mk_iff] | split | intro _

theorem writePci_grows (q : Nat) (off : Nat) (v : Word) {s : State} (h : Grows a s) :
    Grows a (writePci q off v s) := by
  unfold writePci; try dsimp only
  repeat' first
    | with_reducible (first
        | assumption | apply pciCtrlWrite_grows | apply vctrlWrite_grows | apply storeWord_grows)
    | simp only [grows_mk_iff] | split | intro _

theorem trigWrite_grows (k : Nat) (v : Word) {s : State} (h : Grows a s) : Grows a (trigWrite k v s) := by
  unfold trigWrite; try dsimp only
  repeat' first
    | with_reducible (first
        | assumption | apply storeWord_grows | apply setF_grows | apply triggerArm_grows
        | refine fst_grows ?_ (by with_reducible assumption))
    | simp only [grows_mk_iff] | split | intro _

theorem writeTim_grows (off : Nat) (v : Word) {s : State} (h : Grows a s) : Grows a (writeTim off v s) := by
  unfold writeTim; try dsimp only
  repeat' first
    | with_reducible (first
        | assumption | apply storeWord_grows | apply timCtrlChanged_grows | apply timSnap_grows
        | apply holdLongUpdate_grows)
    | simp only [grows_mk_iff] | split | intro _

theorem writeTwl_grows (q : Nat) (p : Nat) (off : Nat) (v : Word) {s : State} (h : Grows a s) :
    Grows a (writeTwl q p off v s) := by
  unfold writeTwl; try dsimp only
  repeat' first
    | with_reducible (first
        | assumption | apply phyCtrlWrite_grows | apply calCmdWrite_grows | apply testCtrlWrite_grows
        | apply stepCmdWrite_grows | apply storeWord_grows)
    | simp only [grows_mk_iff] | split | intro _

theorem writeLane_grows (q : Nat) (p : Nat) (off : Nat) (v : Word) {s : State} (h : Grows a s) :
    Grows a (writeLane q p off v s) := by
  unfold writeLane; try dsimp only
  repeat' first
    | with_reducible (first
        | assumption | apply parkReqWrite_grows | apply injWrite_grows | apply eqOverrideWrite_grows
        | apply storeWord_grows)
    | simp only [grows_mk_iff] | split | intro _

theorem indirectWrite_grows (q : Nat) (b : Nat) (off : Nat) (v : Word) {s : State} (h : Grows a s) :
    Grows a (indirectWrite q b off v s) := by
  unfold indirectWrite; try dsimp only
  repeat' first
    | with_reducible (first
        | assumption | apply writeLane_grows | apply trigWrite_grows | apply storeWord_grows)
    | simp only [grows_mk_iff] | split | intro _

theorem indWrite_grows (q : Nat) (v : Word) {s : State} (h : Grows a s) : Grows a (indWrite q v s) := by
  unfold indWrite; try dsimp only
  repeat' first
    | with_reducible (first
        | assumption | apply indAdvance_grows | apply indUpd_grows | apply tally_grows | apply access_grows
        | apply indirectWrite_grows)
    | simp only [grows_mk_iff] | split | intro _

theorem writeCps_grows (q : Nat) (off : Nat) (v : Word) {s : State} (h : Grows a s) :
    Grows a (writeCps q off v s) := by
  have hc := storeWord_grows R.CPS_CP1_CTRL v h
  have hf := cp1Flush_grows hc
  unfold writeCps
  by_cases h0 : off = 0
  · rw [if_pos h0]; exact indAddrWrite_grows _ _ h
  rw [if_neg h0]
  by_cases h4 : off = 4
  · rw [if_pos h4]; exact indWrite_grows _ _ h
  rw [if_neg h4]
  repeat' first
    | with_reducible (first
        | assumption | apply indUpd_grows | apply ringEnable_grows | apply setF_grows | apply cp1Push_grows
        | apply routeWrite_grows | apply storeWord_grows)
    | split

theorem directWrite_grows (q : Nat) (b : Nat) (off : Nat) (v : Word) {s : State} (h : Grows a s) :
    Grows a (directWrite q b off v s) := by
  unfold directWrite; try dsimp only
  repeat' first
    | with_reducible (first
        | assumption | apply ackWrite_grows | apply writeTwl_grows | apply writeSys_grows | apply writeCps_grows
        | apply writePci_grows | apply setF_grows | apply storeWord_grows | apply forceFull_grows
        | apply writeTim_grows | apply ageCtrlWrite_grows | apply strCtrlWrite_grows)
    | simp only [grows_mk_iff] | split | intro _

theorem byteWrite_grows (q : Nat) (b : Nat) (off : Nat) (v : Word) (be : BitVec 4) {s : State} (h : Grows a s) :
    Grows a (byteWrite q b off v be s) := by
  unfold byteWrite; try dsimp only
  repeat' first
    | with_reducible (first
        | assumption | apply directWrite_grows | apply tally_grows)
    | simp only [grows_mk_iff] | split | intro _

theorem regWrite_grows (q : Nat) (x1 : Nat) (v : Word) (be : BitVec 4) {s : State} (h : Grows a s) :
    Grows a (regWrite q x1 v be s) := by
  unfold regWrite; try dsimp only
  repeat' first
    | with_reducible (first
        | assumption | apply tally_grows | apply access_grows | apply byteWrite_grows)
    | simp only [grows_mk_iff] | split | intro _

theorem writeMany_grows (q : Nat) (ind : Bool) (x2 : Nat) (x3 : List Word) {x4 : State} (h : Grows a x4) :
    Grows a (writeMany q ind x2 x3 x4) := by
  induction x3 generalizing x2 x4 with
  | nil => exact h
  | cons v vs ih =>
    unfold writeMany
    refine ih _ ?_
    split
    · exact indWrite_grows _ _ h
    · exact regWrite_grows _ _ _ _ h

theorem execIndAddrWrite_grows (q : Nat) (v : Word) {s : State} (h : Grows a s) :
    OutGrows a (execIndAddrWrite q v s) := by
  unfold execIndAddrWrite; try dsimp only
  repeat' first
    | with_reducible (first
        | assumption | apply OutGrows.next | apply access_grows | apply indAddrWrite_grows)
    | simp only [grows_mk_iff] | split | intro _

theorem execIndDataWrite_grows (q : Nat) (v : Word) {s : State} (h : Grows a s) :
    OutGrows a (execIndDataWrite q v s) := by
  unfold execIndDataWrite; try dsimp only
  repeat' first
    | with_reducible (first
        | assumption | apply OutGrows.next | apply access_grows | apply indWrite_grows)
    | simp only [grows_mk_iff] | split | intro _

theorem execEventAcknowledge_grows (q : Nat) (addr : Nat) (v : Word) {s : State} (h : Grows a s) :
    OutGrows a (execEventAcknowledge q addr v s) := by
  unfold execEventAcknowledge; try dsimp only
  repeat' first
    | with_reducible (first
        | assumption | apply OutGrows.next | apply access_grows | apply ackWrite_grows)
    | simp only [grows_mk_iff] | split | intro _

theorem execCfgLockWrite_grows (q : Nat) (v : Word) {s : State} (h : Grows a s) :
    OutGrows a (execCfgLockWrite q v s) := by
  unfold execCfgLockWrite; try dsimp only
  repeat' first
    | with_reducible (first
        | assumption | apply OutGrows.next | apply access_grows | apply cfgLockWrite_grows)
    | simp only [grows_mk_iff] | split | intro _

theorem execGpioOutWrite_grows (q : Nat) (v : Word) {s : State} (h : Grows a s) :
    OutGrows a (execGpioOutWrite q v s) := by
  unfold execGpioOutWrite; try dsimp only
  repeat' first
    | with_reducible (first
        | assumption | apply OutGrows.next | apply access_grows | apply writeSys_grows)
    | simp only [grows_mk_iff] | split | intro _

theorem execSysLoadWrite_grows (q : Nat) (v : Word) {s : State} (h : Grows a s) :
    OutGrows a (execSysLoadWrite q v s) := by
  unfold execSysLoadWrite; try dsimp only
  repeat' first
    | with_reducible (first
        | assumption | apply OutGrows.next | apply access_grows | apply sysLoadWrite_grows)
    | simp only [grows_mk_iff] | split | intro _

theorem execTriggerArmWrite_grows (q : Nat) (u : Nat) (v : Word) {s : State} (h : Grows a s) :
    OutGrows a (execTriggerArmWrite q u v s) := by
  unfold execTriggerArmWrite; try dsimp only
  repeat' first
    | with_reducible (first
        | assumption | apply OutGrows.next | apply access_grows | apply trigWrite_grows)
    | simp only [grows_mk_iff] | split | intro _

theorem execTriggerDisarmWrite_grows (q : Nat) (u : Nat) (v : Word) {s : State} (h : Grows a s) :
    OutGrows a (execTriggerDisarmWrite q u v s) := by
  unfold execTriggerDisarmWrite; try dsimp only
  repeat' first
    | with_reducible (first
        | assumption | apply OutGrows.next | apply access_grows | apply trigWrite_grows)
    | simp only [grows_mk_iff] | split | intro _

theorem execPciRetrain_grows (q : Nat) (v : Word) {s : State} (h : Grows a s) : OutGrows a (execPciRetrain q v s) := by
  unfold execPciRetrain; try dsimp only
  repeat' first
    | with_reducible (first
        | assumption | apply OutGrows.next | apply access_grows | apply pciCtrlWrite_grows)
    | simp only [grows_mk_iff] | split | intro _

theorem execFaultRecordClear_grows (q : Nat) (b : Nat) (v : Word) {s : State} (h : Grows a s) :
    OutGrows a (execFaultRecordClear q b v s) := by
  unfold execFaultRecordClear; try dsimp only
  repeat' first
    | with_reducible (first
        | assumption | apply OutGrows.next | apply access_grows | apply writeSys_grows)
    | simp only [grows_mk_iff] | split | intro _

theorem execRegisterWrite_grows (q : Nat) (addr : Nat) (v : Word) (be : BitVec 4) {s : State} (h : Grows a s) :
    OutGrows a (execRegisterWrite q addr v be s) := by
  unfold execRegisterWrite; try dsimp only
  repeat' first
    | with_reducible (first
        | assumption | apply OutGrows.next | apply regWrite_grows)
    | simp only [grows_mk_iff] | split | intro _

end Sys2Proof.Machine
end

