-- ==== Sys2Proof/Laws/GrowsUpdate.lean ====
section
/-! SUPPORT. What no effect undoes, for basic commands, configuration, update and Muslin. -/

namespace Sys2Proof.Machine

open State

variable {a : State}

/-! ### Basic -/

theorem execGetInfo_grows (k : Pkt) {s : State} (h : Grows a s) : OutGrows a (execGetInfo k s) := by
  unfold execGetInfo; try dsimp only
  repeat' first
    | with_reducible (first
        | assumption | apply OutGrows.next | apply ResGrows.ok | apply ResGrows.err | apply ResGrows.later
        | apply plain_grows)
    | simp only [grows_mk_iff] | split | intro _

theorem execGetStatus_grows (k : Pkt) {s : State} (h : Grows a s) : OutGrows a (execGetStatus k s) := by
  unfold execGetStatus; try dsimp only
  repeat' first
    | with_reducible (first
        | assumption | apply OutGrows.next | apply ResGrows.ok | apply ResGrows.err | apply ResGrows.later
        | apply plain_grows)
    | simp only [grows_mk_iff] | split | intro _

theorem firmwarePair_grows (ind : Bool) (x1 : Nat) {s : State} (h : Grows a s) : Grows a (firmwarePair ind x1 s) := by
  unfold firmwarePair; try dsimp only
  repeat' first
    | with_reducible (first
        | assumption | apply indUpd_grows | apply indAddrWrite_grows)
    | simp only [grows_mk_iff] | split | intro _

theorem execReadRegs_grows (k : Pkt) {s : State} (h : Grows a s) : OutGrows a (execReadRegs k s) := by
  unfold execReadRegs; try dsimp only
  repeat' first
    | with_reducible (first
        | assumption | apply OutGrows.next | apply ResGrows.ok | apply ResGrows.err | apply ResGrows.later
        | apply plain_grows | apply readMany_grows | apply firmwarePair_grows
        | refine fst_grows ?_ (by with_reducible assumption))
    | simp only [grows_mk_iff] | split | intro _

theorem execWriteRegs_grows (k : Pkt) {s : State} (h : Grows a s) : OutGrows a (execWriteRegs k s) := by
  unfold execWriteRegs; try dsimp only
  repeat' first
    | with_reducible (first
        | assumption | apply OutGrows.next | apply ResGrows.ok | apply ResGrows.err | apply ResGrows.later
        | apply plain_grows | apply writeMany_grows | apply firmwarePair_grows)
    | simp only [grows_mk_iff] | split | intro _

theorem execPing_grows (k : Pkt) {s : State} (h : Grows a s) : OutGrows a (execPing k s) := by
  unfold execPing; try dsimp only
  repeat' first
    | with_reducible (first
        | assumption | apply OutGrows.next | apply ResGrows.ok | apply ResGrows.err | apply ResGrows.later
        | apply plain_grows)
    | simp only [grows_mk_iff] | split | intro _

theorem startWatch_grows (r : Req) (old : State) {s : State} (h : Grows a s) : Grows a (startWatch r old s) := by
  unfold startWatch; try dsimp only
  repeat' first
    | with_reducible (first
        | assumption | apply restartWatchdog_grows)
    | simp only [grows_mk_iff] | split | intro _

theorem stopWatch_grows (r : Req) {s : State} (h : Grows a s) : Grows a (stopWatch r s) := by
  unfold stopWatch; try dsimp only
  repeat' first | with_reducible assumption | simp only [grows_mk_iff] | split | intro _

theorem semGive_grows (n : Nat) (r : Req) {s : State} (h : Grows a s) : Grows a (semGive n r s) := by
  unfold semGive; try dsimp only
  repeat' first
    | with_reducible (first
        | assumption | apply startWatch_grows)
    | simp only [grows_mk_iff] | split | intro _

theorem semServe_grows (n : Nat) {s : State} (h : Grows a s) : Grows a (semServe n s) := by
  unfold semServe; try dsimp only
  repeat' first
    | with_reducible (first
        | assumption | apply foldl_grows | apply semGive_grows | apply finish_grows)
    | simp only [grows_mk_iff] | split | intro _

theorem semFree_grows (n : Nat) {s : State} (h : Grows a s) : Grows a (semFree n s) := by
  unfold semFree; try dsimp only
  repeat' first
    | with_reducible (first
        | assumption | apply semServe_grows | apply endService_grows)
    | simp only [grows_mk_iff] | split | intro _

theorem execSemAcquire_grows (k : Pkt) {s : State} (h : Grows a s) : OutGrows a (execSemAcquire k s) := by
  unfold execSemAcquire; try dsimp only
  repeat' first
    | with_reducible (first
        | assumption | apply OutGrows.next | apply ResGrows.ok | apply ResGrows.err | apply ResGrows.later
        | apply plain_grows | apply semGive_grows | apply startWatch_grows)
    | simp only [grows_mk_iff] | split | intro _

theorem execSemWaitExpiry_grows (k : Pkt) {s : State} (h : Grows a s) : OutGrows a (execSemWaitExpiry k s) := by
  unfold execSemWaitExpiry; try dsimp only
  repeat' first
    | with_reducible (first
        | assumption | apply OutGrows.next | apply finish_grows | apply stopWatch_grows)
    | simp only [grows_mk_iff] | split | intro _

theorem execSemRelease_grows (k : Pkt) {s : State} (h : Grows a s) : OutGrows a (execSemRelease k s) := by
  unfold execSemRelease; try dsimp only
  repeat' first
    | with_reducible (first
        | assumption | apply OutGrows.next | apply ResGrows.ok | apply ResGrows.err | apply ResGrows.later
        | apply plain_grows | apply stopWatch_grows | apply semFree_grows)
    | simp only [grows_mk_iff] | split | intro _

theorem execSemStatus_grows (k : Pkt) {s : State} (h : Grows a s) : OutGrows a (execSemStatus k s) := by
  unfold execSemStatus; try dsimp only
  repeat' first
    | with_reducible (first
        | assumption | apply OutGrows.next | apply ResGrows.ok | apply ResGrows.err | apply ResGrows.later
        | apply plain_grows)
    | simp only [grows_mk_iff] | split | intro _

theorem livenessSet_grows (r : Req) (b : List Byte) {s : State} (h : Grows a s) : ExGrows a (livenessSet r b s) := by
  unfold livenessSet; try dsimp only
  repeat' first
    | with_reducible (first
        | assumption | apply ExGrows.ok | apply ExGrows.error | apply setItem_grows | apply setF_grows)
    | simp only [grows_mk_iff] | split | intro _

theorem execSetLiveness_grows (k : Pkt) {s : State} (h : Grows a s) : OutGrows a (execSetLiveness k s) := by
  unfold execSetLiveness; try dsimp only
  repeat' first
    | with_reducible (first
        | assumption | apply OutGrows.next | apply ResGrows.ok | apply ResGrows.err | apply ResGrows.later
        | apply plain_grows | apply resOf_grows | apply livenessSet_grows
        | refine ExGrows.of ?_ (by with_reducible assumption))
    | simp only [grows_mk_iff] | split | intro _

theorem watchdogEnds_grows (r : Req) {s : State} (h : Grows a s) : Grows a (watchdogEnds r s) := by
  unfold watchdogEnds; try dsimp only
  repeat' first
    | with_reducible (first
        | assumption | apply foldl_grows | apply semFree_grows | apply finish_grows | apply stopWatch_grows
        | apply tally_grows)
    | simp only [grows_mk_iff] | split | intro _

theorem execLivenessExpiry_grows (r : Req) {s : State} (h : Grows a s) : OutGrows a (execLivenessExpiry r s) := by
  unfold execLivenessExpiry; try dsimp only
  repeat' first
    | with_reducible (first
        | assumption | apply OutGrows.next | apply watchdogEnds_grows)
    | simp only [grows_mk_iff] | split | intro _

theorem execReadRemote_grows (k : Pkt) (f : Fetch) {s : State} (h : Grows a s) :
    OutGrows a (execReadRemote k f s) := by
  unfold execReadRemote; try dsimp only
  repeat' first
    | with_reducible (first
        | assumption | apply OutGrows.next | apply ResGrows.ok | apply ResGrows.err | apply ResGrows.later
        | apply plain_grows)
    | simp only [grows_mk_iff] | split | intro _

theorem execWriteRemote_grows (k : Pkt) (f : Fetch) {s : State} (h : Grows a s) :
    OutGrows a (execWriteRemote k f s) := by
  unfold execWriteRemote; try dsimp only
  repeat' first
    | with_reducible (first
        | assumption | apply OutGrows.next | apply ResGrows.ok | apply ResGrows.err | apply ResGrows.later
        | apply plain_grows | apply memWrite_grows | apply send_grows)
    | simp only [grows_mk_iff] | split | intro _

theorem execOpenExport_grows (k : Pkt) {s : State} (h : Grows a s) : OutGrows a (execOpenExport k s) := by
  unfold execOpenExport; try dsimp only
  repeat' first
    | with_reducible (first
        | assumption | apply OutGrows.next | apply ResGrows.ok | apply ResGrows.err | apply ResGrows.later
        | apply plain_grows)
    | simp only [grows_mk_iff] | split | intro _

theorem execExportWindowExpiry_grows (w : Nat) {s : State} (h : Grows a s) :
    OutGrows a (execExportWindowExpiry w s) := by
  unfold execExportWindowExpiry; try dsimp only
  repeat' first
    | with_reducible (first
        | assumption | apply OutGrows.next)
    | simp only [grows_mk_iff] | split | intro _

theorem execCloseExport_grows (k : Pkt) {s : State} (h : Grows a s) : OutGrows a (execCloseExport k s) := by
  unfold execCloseExport; try dsimp only
  repeat' first
    | with_reducible (first
        | assumption | apply OutGrows.next | apply ResGrows.ok | apply ResGrows.err | apply ResGrows.later
        | apply plain_grows)
    | simp only [grows_mk_iff] | split | intro _

theorem groupsSet_grows (b : List Byte) {s : State} (h : Grows a s) : ExGrows a (groupsSet b s) := by
  unfold groupsSet; try dsimp only
  repeat' first
    | with_reducible (first
        | assumption | apply ExGrows.ok | apply ExGrows.error | apply setItem_grows)
    | simp only [grows_mk_iff] | split | intro _

theorem execSetGroups_grows (k : Pkt) {s : State} (h : Grows a s) : OutGrows a (execSetGroups k s) := by
  unfold execSetGroups; try dsimp only
  repeat' first
    | with_reducible (first
        | assumption | apply OutGrows.next | apply ResGrows.ok | apply ResGrows.err | apply ResGrows.later
        | apply plain_grows | apply resOf_grows | apply groupsSet_grows
        | refine ExGrows.of ?_ (by with_reducible assumption))
    | simp only [grows_mk_iff] | split | intro _

theorem execReadFaults_grows (k : Pkt) {s : State} (h : Grows a s) : OutGrows a (execReadFaults k s) := by
  unfold execReadFaults; try dsimp only
  repeat' first
    | with_reducible (first
        | assumption | apply OutGrows.next | apply ResGrows.ok | apply ResGrows.err | apply ResGrows.later
        | apply plain_grows)
    | simp only [grows_mk_iff] | split | intro _

/-! ### Items -/

theorem presetPair_grows (x0 : Nat) (v : Nat) {s : State} (h : Grows a s) : Grows a (presetPair x0 v s) := by
  unfold presetPair; try dsimp only
  repeat' first
    | with_reducible (first
        | assumption | apply regWrite_grows | apply tally_grows)
    | simp only [grows_mk_iff] | split | intro _

theorem presetApply_grows (d : List Byte) {s : State} (h : Grows a s) : Grows a (presetApply d s) := by
  unfold presetApply; try dsimp only
  repeat' first
    | with_reducible (first
        | assumption | apply foldl_grows | apply presetPair_grows)
    | simp only [grows_mk_iff] | split | intro _

theorem orBad_grows {o : Option State} (h1 : OptGrows a o) : ExGrows a (orBad o) := by
  cases o with
  | none => exact .error
  | some t => exact .ok (h1 _ rfl)

theorem itemSet_grows (x : Item) {s : State} (h : Grows a s) : ExGrows a (itemSet x s) := by
  unfold itemSet; dsimp only
  repeat' first
    | with_reducible (first
        | assumption | apply ExGrows.ok | apply ExGrows.error | apply setItem_grows | apply groupsSet_grows
        | apply livenessSet_grows | apply ethPortSet_grows | apply addressSet_grows | apply ptpSet_grows
        | apply wallSet_grows | apply feedSet_grows | apply cadenceApply_grows | apply ambientSet_grows
        | apply geometrySet_grows | apply presetApply_grows)
    | (refine orBad_grows ?_
       with_reducible (first
        | apply curveSet_grows | apply suppliesSet_grows | apply diodeSet_grows | apply amonSet_grows
        | apply thresholdSet_grows | (refine OptGrows₂.map_snd ?_; apply mapCommit_grows)))
    | split

theorem itemApply_grows (m : Nat) (x : Item) {s : State} (h : Grows a s) : Grows a (itemApply m x s) := by
  unfold itemApply; dsimp only
  have hs := tally_grows R.UPD_CFG_SKIP_N 15 4 0 h
  repeat' first | with_reducible (first | assumption | refine ExGrows.of (itemSet_grows _ h) (by with_reducible
      assumption)) | split

theorem itemsApply_grows (m : Nat) (l : List Item) {s : State} (h : Grows a s) : Grows a (itemsApply m l s) := by
  unfold itemsApply; try dsimp only
  repeat' first
    | with_reducible (first
        | assumption | apply foldl_grows | apply itemApply_grows)
    | simp only [grows_mk_iff] | split | intro _

theorem syncGens_grows {s : State} (h : Grows a s) : Grows a (syncGens s) := by
  unfold syncGens; try dsimp only
  repeat' first | with_reducible (first | assumption | apply setF_grows) | simp only [grows_mk_iff] | split | intro _

theorem configLoad_grows {s0 : State} (h : Grows a s0) : Grows a (configLoad s0) := by
  unfold configLoad; try dsimp only
  repeat' first
    | with_reducible (first
        | assumption | apply syncGens_grows | apply setLevel_grows | apply itemsApply_grows | apply occur_grows)
    | simp only [grows_mk_iff] | split | intro _

theorem configGeometry_grows {s : State} (h : Grows a s) : Grows a (configGeometry s) := by
  unfold configGeometry; try dsimp only
  repeat' first
    | with_reducible (first
        | assumption | apply itemsApply_grows)
    | simp only [grows_mk_iff] | split | intro _

theorem bootNumber_grows {s : State} (h : Grows a s) : Grows a (bootNumber s) := by
  unfold bootNumber; try dsimp only
  repeat' first | with_reducible assumption | simp only [grows_mk_iff] | split | intro _

theorem execConfigSet_grows (k : Pkt) {s : State} (h : Grows a s) : OutGrows a (execConfigSet k s) := by
  unfold execConfigSet; try dsimp only
  repeat' first
    | with_reducible (first
        | assumption | apply OutGrows.next | apply ResGrows.ok | apply ResGrows.err | apply ResGrows.later
        | apply plain_grows | apply setItem_grows)
    | simp only [grows_mk_iff] | split | intro _

theorem execConfigGet_grows (k : Pkt) (f : Fetch) {s : State} (h : Grows a s) : OutGrows a (execConfigGet k f s) := by
  unfold execConfigGet; try dsimp only
  repeat' first
    | with_reducible (first
        | assumption | apply OutGrows.next | apply ResGrows.ok | apply ResGrows.err | apply ResGrows.later
        | apply command_grows | apply refWrite_grows | refine ExGrows.of ?_ (by with_reducible assumption))
    | simp only [grows_mk_iff] | split | intro _

theorem genWrite_grows (k : Pkt) (cfs : Nat) (revertOf : Nat) (items : List Item) {s : State} (h : Grows a s) :
    Grows a (genWrite k cfs revertOf items s) := by
  unfold genWrite; try dsimp only
  repeat' first
    | with_reducible (first
        | assumption | apply takeFree_grows | apply startBg_grows | apply setLevel_grows)
    | simp only [grows_mk_iff] | simp only [grows_nvx_iff] | split | intro _

theorem execConfigCommit_grows (k : Pkt) {s : State} (h : Grows a s) : OutGrows a (execConfigCommit k s) := by
  unfold execConfigCommit; try dsimp only
  repeat' first
    | with_reducible (first
        | assumption | apply OutGrows.next | apply ResGrows.ok | apply ResGrows.err | apply ResGrows.later
        | apply plain_grows | apply genWrite_grows)
    | simp only [grows_mk_iff] | split | intro _

theorem execConfigRevert_grows (k : Pkt) {s : State} (h : Grows a s) : OutGrows a (execConfigRevert k s) := by
  unfold execConfigRevert; try dsimp only
  repeat' first
    | with_reducible (first
        | assumption | apply OutGrows.next | apply ResGrows.ok | apply ResGrows.err | apply ResGrows.later
        | apply plain_grows | apply genWrite_grows)
    | simp only [grows_mk_iff] | split | intro _

theorem execConfigWriteDone_grows (good : Bool) {s : State} (h : Grows a s) :
    OutGrows a (execConfigWriteDone good s) := by
  unfold execConfigWriteDone; try dsimp only
  repeat' first
    | with_reducible (first
        | assumption | apply OutGrows.next | apply setLevel_grows | apply endBg_grows | apply syncGens_grows
        | apply finish_grows | apply itemsApply_grows | apply tally_grows)
    | simp only [grows_mk_iff] | simp only [grows_nvx_iff] | split | intro _

/-! ### Update -/

theorem stageBegin_grows (k : Pkt) (b : List Byte) {s : State} (h : Grows a s) : Grows a (stageBegin k b s) := by
  unfold stageBegin; try dsimp only
  repeat' first
    | with_reducible (first
        | assumption | apply appendRec_grows | apply setF_grows | apply takeFree_grows | apply startBg_grows
        | apply setLevel_grows)
    | simp only [grows_mk_iff] | simp only [grows_nvx_iff] | split | intro _

theorem stageImage_grows (k : Pkt) (f : Fetch) {s : State} (h : Grows a s) : Grows a (stageImage k f s) := by
  unfold stageImage; try dsimp only
  repeat' first
    | with_reducible (first
        | assumption | apply ResGrows.ok | apply ResGrows.err | apply ResGrows.later | apply command_grows
        | apply stageBegin_grows)
    | simp only [grows_mk_iff] | split | intro _

theorem execStageImage_grows (k : Pkt) (f : Fetch) {s : State} (h : Grows a s) :
    OutGrows a (execStageImage k f s) := by
  unfold execStageImage; try dsimp only
  repeat' first
    | with_reducible (first
        | assumption | apply OutGrows.next | apply stageImage_grows)
    | simp only [grows_mk_iff] | split | intro _

theorem execStageDone_grows (good : Bool) {s : State} (h : Grows a s) : OutGrows a (execStageDone good s) := by
  unfold execStageDone; try dsimp only
  repeat' first
    | with_reducible (first
        | assumption | apply OutGrows.next | apply setF_grows | apply setLevel_grows | apply endBg_grows
        | apply finish_grows | apply appendRec_grows | apply tally_grows)
    | simp only [grows_mk_iff] | simp only [grows_nvx_iff] | split | intro _

theorem activateHold_grows (x0 : Activation) {s : State} (h : Grows a s) : Grows a (activateHold x0 s) := by
  unfold activateHold; try dsimp only
  repeat' first
    | with_reducible (first
        | assumption | apply finish_grows | apply changeMode_grows)
    | simp only [grows_mk_iff] | split | intro _

theorem activateBegin_grows (k : Pkt) (st : Nat) {t : State} (h : Grows a t) : ResGrows a (activateBegin k st t) := by
  unfold activateBegin; try dsimp only
  repeat' first
    | with_reducible (first
        | assumption | apply ResGrows.ok | apply ResGrows.err | apply ResGrows.later | apply activateHold_grows
        | apply startBg_grows)
    | simp only [grows_mk_iff] | split | intro _

theorem execActivate_grows (k : Pkt) {s : State} (h : Grows a s) : OutGrows a (execActivate k s) := by
  unfold execActivate; try dsimp only
  repeat' first
    | with_reducible (first
        | assumption | apply OutGrows.next | apply ResGrows.ok | apply ResGrows.err | apply ResGrows.later
        | apply plain_grows | apply activateBegin_grows)
    | simp only [grows_mk_iff] | split | intro _

theorem execRevertImage_grows (k : Pkt) {s : State} (h : Grows a s) : OutGrows a (execRevertImage k s) := by
  unfold execRevertImage; try dsimp only
  repeat' first
    | with_reducible (first
        | assumption | apply OutGrows.next | apply ResGrows.ok | apply ResGrows.err | apply ResGrows.later
        | apply plain_grows | apply activateBegin_grows)
    | simp only [grows_mk_iff] | split | intro _

theorem execActivateVerifyDone_grows (good : Bool) {s : State} (h : Grows a s) :
    OutGrows a (execActivateVerifyDone good s) := by
  unfold execActivateVerifyDone; try dsimp only
  repeat' first
    | with_reducible (first
        | assumption | apply OutGrows.next | apply endBg_grows | apply finish_grows | apply activateHold_grows)
    | simp only [grows_mk_iff] | split | intro _

theorem runNew_grows (k : Nat) {s : State} (h : Grows a s) : Grows a (runNew k s) := by
  unfold runNew; try dsimp only
  repeat' first | with_reducible assumption | simp only [grows_mk_iff] | split | intro _

theorem execActivationReady_grows {s : State} (h : Grows a s) : OutGrows a (execActivationReady s) := by
  unfold execActivationReady; try dsimp only
  repeat' first
    | with_reducible (first
        | assumption | apply OutGrows.next | apply foldl_grows | apply runNew_grows | apply beginInternal_grows
        | apply appendRec_grows | apply sendHello_grows | apply changeMode_grows)
    | simp only [grows_mk_iff] | split | intro _

theorem execActivationTimeout_grows {s : State} (h : Grows a s) : OutGrows a (execActivationTimeout s) := by
  unfold execActivationTimeout; try dsimp only
  repeat' first
    | with_reducible (first
        | assumption | apply OutGrows.next | apply beginInternal_grows)
    | simp only [grows_mk_iff] | split | intro _

theorem execCommitSvn_grows (k : Pkt) {s : State} (h : Grows a s) : OutGrows a (execCommitSvn k s) := by
  refine .next (plain_grows _ (fun c t ht => ?_) h)
  repeat' first | exact .err | split
  refine .ok (grows_nv ht ?_ ?_ ?_ ?_ (Nat.le_max_left _ _) ?_ ?_ ?_ ?_) <;>
    first | rfl | exact Nat.le_refl _ | exact id | exact fun _ => id

theorem execGetUpdateStatus_grows (k : Pkt) {s : State} (h : Grows a s) : OutGrows a (execGetUpdateStatus k s) := by
  unfold execGetUpdateStatus; try dsimp only
  repeat' first
    | with_reducible (first
        | assumption | apply OutGrows.next | apply ResGrows.ok | apply ResGrows.err | apply ResGrows.later
        | apply plain_grows)
    | simp only [grows_mk_iff] | split | intro _

/-! ### Muslin -/

theorem loadBegin_grows (p : List Byte) {s : State} (h : Grows a s) : Grows a (loadBegin p s) := by
  unfold loadBegin; dsimp only
  split
  · exact mslReply_grows _ _ h
  · exact mslReply_grows _ _ (grows_mem h (cellsFilter_wf _ _))

theorem loadData_grows (p : List Byte) {s : State} (h : Grows a s) : Grows a (loadData p s) := by
  unfold loadData; try dsimp only
  repeat' first
    | with_reducible (first
        | assumption | apply mslReply_grows | apply memWrite_grows)
    | simp only [grows_mk_iff] | split | intro _

theorem loadEnd_grows (p : List Byte) {s : State} (h : Grows a s) : Grows a (loadEnd p s) := by
  unfold loadEnd; try dsimp only
  repeat' first
    | with_reducible (first
        | assumption | apply mslReply_grows | apply loadBundle_grows
        | refine snd_grows ?_ (by with_reducible assumption))
    | simp only [grows_mk_iff] | split | intro _

theorem mslRun_grows (mop : Nat) (p : List Byte) {s : State} (h : Grows a s) : Grows a (mslRun mop p s) := by
  unfold mslRun; try dsimp only
  repeat' first
    | with_reducible (first
        | assumption | apply ResGrows.ok | apply ResGrows.err | apply ResGrows.later | apply mslReply_grows
        | apply loadBegin_grows | apply loadData_grows | apply loadEnd_grows | apply stageImage_grows
        | apply plain_grows | apply activateBegin_grows)
    | simp only [grows_mk_iff] | split | intro _

theorem mslExec_grows (via : Option Nat) (b : List Byte) {s : State} (h : Grows a s) : Grows a (mslExec via b s) := by
  unfold mslExec; try dsimp only
  repeat' first
    | with_reducible (first
        | assumption | apply mslRun_grows | apply mslReply_grows)
    | simp only [grows_mk_iff] | split | intro _

theorem mslTake_grows (via : Option Nat) (b : List Byte) {s : State} (h : Grows a s) : Grows a (mslTake via b s) := by
  unfold mslTake; try dsimp only
  repeat' first
    | with_reducible (first
        | assumption | apply mslAnswer_grows | apply tally_grows | apply mslExec_grows | apply sendTunnel_grows)
    | simp only [grows_mk_iff] | split | intro _

theorem mslFrame_grows (f : List Byte) {s : State} (h : Grows a s) : Grows a (mslFrame f s) := by
  unfold mslFrame; try dsimp only
  repeat' first
    | with_reducible (first
        | assumption | apply tally_grows | apply mslTake_grows | apply incF_grows)
    | simp only [grows_mk_iff] | split | intro _

theorem execMslFrame_grows (frame : List Byte) {s : State} (h : Grows a s) : OutGrows a (execMslFrame frame s) := by
  unfold execMslFrame; try dsimp only
  repeat' first
    | with_reducible (first
        | assumption | apply OutGrows.next | apply mslFrame_grows)
    | simp only [grows_mk_iff] | split | intro _

theorem mslOp_grows (mop : Nat) (seq : Nat) (p : List Byte) {s : State} (h : Grows a s) :
    Grows a (mslOp mop seq p s) := by
  unfold mslOp; try dsimp only
  repeat' first
    | with_reducible (first
        | assumption | apply mslTake_grows | apply incF_grows)
    | simp only [grows_mk_iff] | split | intro _

theorem execIdent_grows (seq : Nat) (payload : List Byte) {s : State} (h : Grows a s) :
    OutGrows a (execIdent seq payload s) := by
  unfold execIdent; try dsimp only
  repeat' first
    | with_reducible (first
        | assumption | apply OutGrows.next | apply mslOp_grows)
    | simp only [grows_mk_iff] | split | intro _

theorem execFaults_grows (seq : Nat) (payload : List Byte) {s : State} (h : Grows a s) :
    OutGrows a (execFaults seq payload s) := by
  unfold execFaults; try dsimp only
  repeat' first
    | with_reducible (first
        | assumption | apply OutGrows.next | apply mslOp_grows)
    | simp only [grows_mk_iff] | split | intro _

theorem execUpdStatus_grows (seq : Nat) (payload : List Byte) {s : State} (h : Grows a s) :
    OutGrows a (execUpdStatus seq payload s) := by
  unfold execUpdStatus; try dsimp only
  repeat' first
    | with_reducible (first
        | assumption | apply OutGrows.next | apply mslOp_grows)
    | simp only [grows_mk_iff] | split | intro _

theorem execLoadBegin_grows (seq : Nat) (payload : List Byte) {s : State} (h : Grows a s) :
    OutGrows a (execLoadBegin seq payload s) := by
  unfold execLoadBegin; try dsimp only
  repeat' first
    | with_reducible (first
        | assumption | apply OutGrows.next | apply mslOp_grows)
    | simp only [grows_mk_iff] | split | intro _

theorem execLoadData_grows (seq : Nat) (payload : List Byte) {s : State} (h : Grows a s) :
    OutGrows a (execLoadData seq payload s) := by
  unfold execLoadData; try dsimp only
  repeat' first
    | with_reducible (first
        | assumption | apply OutGrows.next | apply mslOp_grows)
    | simp only [grows_mk_iff] | split | intro _

theorem execLoadEnd_grows (seq : Nat) (payload : List Byte) {s : State} (h : Grows a s) :
    OutGrows a (execLoadEnd seq payload s) := by
  unfold execLoadEnd; try dsimp only
  repeat' first
    | with_reducible (first
        | assumption | apply OutGrows.next | apply mslOp_grows)
    | simp only [grows_mk_iff] | split | intro _

theorem execMslStage_grows (seq : Nat) (payload : List Byte) {s : State} (h : Grows a s) :
    OutGrows a (execMslStage seq payload s) := by
  unfold execMslStage; try dsimp only
  repeat' first
    | with_reducible (first
        | assumption | apply OutGrows.next | apply mslOp_grows)
    | simp only [grows_mk_iff] | split | intro _

theorem execMslActivate_grows (seq : Nat) (payload : List Byte) {s : State} (h : Grows a s) :
    OutGrows a (execMslActivate seq payload s) := by
  unfold execMslActivate; try dsimp only
  repeat' first
    | with_reducible (first
        | assumption | apply OutGrows.next | apply mslOp_grows)
    | simp only [grows_mk_iff] | split | intro _

theorem execMslRevert_grows (seq : Nat) (payload : List Byte) {s : State} (h : Grows a s) :
    OutGrows a (execMslRevert seq payload s) := by
  unfold execMslRevert; try dsimp only
  repeat' first
    | with_reducible (first
        | assumption | apply OutGrows.next | apply mslOp_grows)
    | simp only [grows_mk_iff] | split | intro _

theorem takeTunnel_grows (m : Msg) {s : State} (h : Grows a s) : Grows a (takeTunnel m s) := by
  unfold takeTunnel; try dsimp only
  repeat' first
    | with_reducible (first
        | assumption | apply send_grows | apply mslTake_grows)
    | simp only [grows_mk_iff] | split | intro _

theorem execTunnel_grows (p : Nat) (m : Msg) {s : State} (h : Grows a s) : OutGrows a (execTunnel p m s) := by
  unfold execTunnel; try dsimp only
  repeat' first
    | with_reducible (first
        | assumption | apply OutGrows.next | apply msgIn_grows | apply takeTunnel_grows)
    | simp only [grows_mk_iff] | split | intro _

end Sys2Proof.Machine
end

