-- ==== Sys2Proof/Laws/GrowsBoot.lean ====
section
/-! SUPPORT. What no effect undoes, for boot, events and security. -/

namespace Sys2Proof.Machine

open State

variable {a : State}

/-! ### Boot -/

theorem execPowerOnReset_grows {s : State} (h : Grows a s) : OutGrows a (execPowerOnReset s) := by
  unfold execPowerOnReset; try dsimp only
  repeat' first
    | with_reducible (first
        | assumption | apply OutGrows.next | apply resetBegins_grows)
    | simp only [grows_mk_iff] | split | intro _

theorem execBrownOut_grows {s : State} (h : Grows a s) : OutGrows a (execBrownOut s) := by
  unfold execBrownOut; try dsimp only
  repeat' first
    | with_reducible (first
        | assumption | apply OutGrows.next | apply resetBegins_grows)
    | simp only [grows_mk_iff] | split | intro _

theorem execWrstAssert_grows {s : State} (h : Grows a s) : OutGrows a (execWrstAssert s) := by
  unfold execWrstAssert; try dsimp only
  repeat' first
    | with_reducible (first
        | assumption | apply OutGrows.next | apply incF_grows | apply resetBegins_grows)
    | simp only [grows_mk_iff] | split | intro _

theorem execWatchdogExpiry_grows {s : State} (h : Grows a s) : OutGrows a (execWatchdogExpiry s) := by
  unfold execWatchdogExpiry; try dsimp only
  repeat' first
    | with_reducible (first
        | assumption | apply OutGrows.next | apply beginInternal_grows)
    | simp only [grows_mk_iff] | split | intro _

theorem recordsSnap_grows (old : State) {s : State} (h : Grows a s) : Grows a (recordsSnap old s) := by
  unfold recordsSnap; try dsimp only
  repeat' first
    | with_reducible (first
        | assumption | apply foldl_grows | apply regPut_grows)
    | simp only [grows_mk_iff] | split | intro _

theorem outsideRegs_grows (old : State) {s : State} (h : Grows a s) : Grows a (outsideRegs old s) := by
  unfold outsideRegs; try dsimp only
  repeat' first | with_reducible (first | assumption | apply regPut_grows) | simp only [grows_mk_iff] | split | intro _

theorem freshState_grows {s : State} (h : Grows a s) : Grows a (freshState s) := ⟨h.1, h.2, h.3, fun _ => rfl, fun _ => rfl, h.6⟩

theorem sampleStraps_grows (role : Bool) (board : Nat) (src : Nat) {s : State} (h : Grows a s) :
    Grows a (sampleStraps role board src s) := by
  unfold sampleStraps; try dsimp only
  repeat' first
    | with_reducible (first
        | assumption | apply setF_grows | apply setB_grows)
    | simp only [grows_mk_iff] | split | intro _

theorem afterPower_grows (role : Bool) (board : Nat) (src : Nat) {s : State} (h : Grows a s) :
    Grows a (afterPower role board src s) := by
  unfold afterPower; try dsimp only
  repeat' first
    | with_reducible (first
        | assumption | apply setB_grows | apply sampleStraps_grows | apply outsideRegs_grows
        | apply freshState_grows)
    | simp only [grows_mk_iff] | split | intro _

theorem warmCause_grows (lost : List Nat) (old : State) {s : State} (h : Grows a s) :
    Grows a (warmCause lost old s) := by
  unfold warmCause; try dsimp only
  repeat' first
    | with_reducible (first
        | assumption | apply setF_grows | apply setB_grows)
    | simp only [grows_mk_iff] | split | intro _

theorem afterWarm_grows (lost0 : List Nat) {s : State} (h : Grows a s) : Grows a (afterWarm lost0 s) := by
  unfold afterWarm; dsimp only
  refine setB_grows _ _ (warmCause_grows _ _ (recordsSnap_grows _ (outsideRegs_grows _ ?_)))
  exact ⟨h.1, h.2, h.3, fun x => cellsFilter_wf _ _ (h.4 x), fun x => regs_filter_wf _ _ (h.5 x), h.6⟩

theorem romStarts_grows {s : State} (h : Grows a s) : Grows a (romStarts s) := by
  unfold romStarts; try dsimp only
  repeat' first
    | with_reducible (first
        | assumption | apply setF_grows | apply bootChoose_grows)
    | simp only [grows_mk_iff] | split | intro _

theorem execResetEnd_grows (role : Bool) (board : Nat) (src : Nat) (lost : List Nat) {s : State} (h : Grows a s) :
    OutGrows a (execResetEnd role board src lost s) := by
  unfold execResetEnd; try dsimp only
  repeat' first
    | with_reducible (first
        | assumption | apply OutGrows.next | apply romStarts_grows | apply afterPower_grows | apply afterWarm_grows)
    | simp only [grows_mk_iff] | split | intro _

theorem settleActivation_grows {s : State} (h : Grows a s) : Grows a (settleActivation s) := by
  unfold settleActivation; try dsimp only
  repeat' first
    | with_reducible (first
        | assumption | apply appendRec_grows)
    | simp only [grows_mk_iff] | simp only [grows_nvx_iff] | split | intro _

theorem confirmTrial_grows {s : State} (h : Grows a s) : Grows a (confirmTrial s) := by
  unfold confirmTrial; try dsimp only
  repeat' first
    | with_reducible (first
        | assumption | apply appendRec_grows)
    | simp only [grows_mk_iff] | split | intro _

theorem ethernetUp_grows {s : State} (h : Grows a s) : Grows a (ethernetUp s) := by
  unfold ethernetUp; try dsimp only
  repeat' first | with_reducible assumption | simp only [grows_mk_iff] | split | intro _

theorem bootRest_grows {s : State} (h : Grows a s) : Grows a (bootRest s) := by
  unfold bootRest; try dsimp only
  repeat' first
    | with_reducible (first
        | assumption | apply eqLoad_grows | apply bootNumber_grows | apply configLoad_grows | apply ethernetUp_grows
        | apply configGeometry_grows | apply moduleLoad_grows | apply twillBringUp_grows | apply elect_grows
        | apply changeMode_grows | apply confirmTrial_grows)
    | simp only [grows_mk_iff] | split | intro _

theorem execBootComplete_grows {s : State} (h : Grows a s) : OutGrows a (execBootComplete s) := by
  unfold execBootComplete; try dsimp only
  repeat' first
    | with_reducible (first
        | assumption | apply OutGrows.next | apply settleActivation_grows | apply beginInternal_grows
        | apply appendRec_grows | apply bootRest_grows)
    | simp only [grows_mk_iff] | split | intro _

/-! ### Events -/

theorem gpioCaptures_grows (pin : Nat) {s : State} (h : Grows a s) : Grows a (gpioCaptures pin s) := by
  unfold gpioCaptures; try dsimp only
  repeat' first
    | with_reducible (first
        | assumption | apply capture__grows)
    | simp only [grows_mk_iff] | split | intro _

theorem execGpioEdge_grows (pin : Nat) (rise : Bool) {s : State} (h : Grows a s) :
    OutGrows a (execGpioEdge pin rise s) := by
  unfold execGpioEdge; try dsimp only
  repeat' first
    | with_reducible (first
        | assumption | apply OutGrows.next | apply setF_grows | apply raise_grows | apply gpioCaptures_grows)
    | simp only [grows_mk_iff] | split | intro _

theorem execClockLoss_grows (bit : Nat) {s : State} (h : Grows a s) : OutGrows a (execClockLoss bit s) := by
  unfold execClockLoss; try dsimp only
  repeat' first
    | with_reducible (first
        | assumption | apply OutGrows.next | apply setF_grows | apply levelRise_grows | apply resetBegins_grows)
    | simp only [grows_mk_iff] | split | intro _

theorem execClockRestored_grows (bit : Nat) {s : State} (h : Grows a s) : OutGrows a (execClockRestored bit s) := by
  unfold execClockRestored; try dsimp only
  repeat' first
    | with_reducible (first
        | assumption | apply OutGrows.next | apply setF_grows | apply levelFall_grows)
    | simp only [grows_mk_iff] | split | intro _

theorem sendPending_grows (old : State) {s : State} (h : Grows a s) : Grows a (sendPending old s) := by
  unfold sendPending; try dsimp only
  repeat' first
    | with_reducible (first
        | assumption | apply foldl_grows | apply send_grows | apply setF_grows)
    | simp only [grows_mk_iff] | split | intro _

theorem execPcieLinkUp_grows (speed : Nat) (width : Nat) {s : State} (h : Grows a s) :
    OutGrows a (execPcieLinkUp speed width s) := by
  unfold execPcieLinkUp; try dsimp only
  repeat' first
    | with_reducible (first
        | assumption | apply OutGrows.next | apply setLevel_grows | apply setF_grows)
    | simp only [grows_mk_iff] | split | intro _

theorem execPcieLinkDown_grows {s : State} (h : Grows a s) : OutGrows a (execPcieLinkDown s) := by
  unfold execPcieLinkDown; try dsimp only
  repeat' first
    | with_reducible (first
        | assumption | apply OutGrows.next | apply pcieOff_grows | apply watchdogEnds_grows)
    | simp only [grows_mk_iff] | split | intro _

theorem execPcieConfigWrite_grows (bme : Bool) (msixEn : Bool) (d3 : Bool) {s : State} (h : Grows a s) :
    OutGrows a (execPcieConfigWrite bme msixEn d3 s) := by
  unfold execPcieConfigWrite; try dsimp only
  repeat' first
    | with_reducible (first
        | assumption | apply OutGrows.next | apply setLevel_grows | apply sendPending_grows | apply setF_grows)
    | simp only [grows_mk_iff] | split | intro _

theorem reloadCell_grows (c : Nat) {s : State} (h : Grows a s) : Grows a (reloadCell c s) := by
  unfold reloadCell; try dsimp only
  repeat' first
    | with_reducible (first
        | assumption | apply foldl_grows | apply markCells_grows)
    | simp only [grows_mk_iff] | split | intro _

theorem queueDrop_grows (q : Nat) {s : State} (h : Grows a s) : Grows a (queueDrop q s) := by
  unfold queueDrop; try dsimp only
  repeat' first
    | with_reducible (first
        | assumption | apply poolCount_grows)
    | simp only [grows_mk_iff] | split | intro _

theorem versionDrop_grows (c : Nat) (place : Nat) {s : State} (h : Grows a s) : Grows a (versionDrop c place s) := by
  unfold versionDrop; try dsimp only
  repeat' first | with_reducible (first | assumption | apply tally_grows) | simp only [grows_mk_iff] | split | intro _

theorem poisoned_grows (region : Nat) (index : Nat) {s : State} (h : Grows a s) :
    Grows a (poisoned region index s) := by
  unfold poisoned; try dsimp only
  repeat' first
    | with_reducible (first
        | assumption | apply memWrite_grows | apply queueDrop_grows | apply versionDrop_grows
        | apply markCells_grows | apply reloadCell_grows)
    | simp only [grows_mk_iff] | split | intro _

theorem execPatrolScrub_grows (unit : Nat) (region : Nat) (index : Nat) (kind : Nat) {s : State} (h : Grows a s) :
    OutGrows a (execPatrolScrub unit region index kind s) := by
  unfold execPatrolScrub; try dsimp only
  repeat' first
    | with_reducible (first
        | assumption | apply OutGrows.next | apply occur_grows | apply poisoned_grows)
    | simp only [grows_mk_iff] | split | intro _

theorem execContainmentEnd_grows (b : Nat) {s : State} (h : Grows a s) : OutGrows a (execContainmentEnd b s) := by
  unfold execContainmentEnd; try dsimp only
  repeat' first
    | with_reducible (first
        | assumption | apply OutGrows.next | apply setB_grows)
    | simp only [grows_mk_iff] | split | intro _

theorem execDegradedExpiry_grows {s : State} (h : Grows a s) : OutGrows a (execDegradedExpiry s) := by
  unfold execDegradedExpiry; try dsimp only
  repeat' first
    | with_reducible (first
        | assumption | apply OutGrows.next | apply setB_grows)
    | simp only [grows_mk_iff] | split | intro _

/-! ### Secure -/

theorem storeUpd_grows (f : Store → Store) {s : State} (h : Grows a s) : Grows a (storeUpd f s) := by
  unfold storeUpd; try dsimp only
  repeat' first | with_reducible assumption | simp only [grows_mk_iff] | simp only [grows_nvx_iff] | split | intro _

theorem rekeyAll_grows {s : State} (h : Grows a s) : Grows a (rekeyAll s) := by
  unfold rekeyAll; try dsimp only
  repeat' first
    | with_reducible (first
        | assumption | apply foldl_grows | apply rekeyDone_grows | apply startRekey_grows)
    | simp only [grows_mk_iff] | split | intro _

theorem dropLinks_grows {s : State} (h : Grows a s) : Grows a (dropLinks s) := by
  unfold dropLinks; try dsimp only
  repeat' first
    | with_reducible (first
        | assumption | apply foldl_grows | apply linkLost_grows)
    | simp only [grows_mk_iff] | split | intro _

theorem execEnrolOwner_grows (k : Pkt) {s : State} (h : Grows a s) : OutGrows a (execEnrolOwner k s) := by
  unfold execEnrolOwner; try dsimp only
  repeat' first
    | with_reducible (first
        | assumption | apply OutGrows.next | apply ResGrows.ok | apply ResGrows.err | apply ResGrows.later
        | apply plain_grows | apply rekeyAll_grows | apply levelFall_grows)
    | simp only [grows_mk_iff] | simp only [grows_nvx_iff] | split | intro _

theorem execRotateOwner_grows (k : Pkt) {s : State} (h : Grows a s) : OutGrows a (execRotateOwner k s) := by
  unfold execRotateOwner; try dsimp only
  repeat' first
    | with_reducible (first
        | assumption | apply OutGrows.next | apply ResGrows.ok | apply ResGrows.err | apply ResGrows.later
        | apply plain_grows | apply rekeyAll_grows | apply storeUpd_grows)
    | simp only [grows_mk_iff] | split | intro _

theorem execReleaseOwner_grows (k : Pkt) {s : State} (h : Grows a s) : OutGrows a (execReleaseOwner k s) := by
  unfold execReleaseOwner; try dsimp only
  repeat' first
    | with_reducible (first
        | assumption | apply OutGrows.next | apply ResGrows.ok | apply ResGrows.err | apply ResGrows.later
        | apply plain_grows | apply dropLinks_grows | apply zero2_grows | apply finish_grows)
    | simp only [grows_mk_iff] | split | intro _

theorem execSetDelegate_grows (k : Pkt) {s : State} (h : Grows a s) : OutGrows a (execSetDelegate k s) := by
  unfold execSetDelegate; try dsimp only
  repeat' first
    | with_reducible (first
        | assumption | apply OutGrows.next | apply ResGrows.ok | apply ResGrows.err | apply ResGrows.later
        | apply plain_grows | apply storeUpd_grows)
    | simp only [grows_mk_iff] | split | intro _

theorem execSetDenyList_grows (k : Pkt) {s : State} (h : Grows a s) : OutGrows a (execSetDenyList k s) := by
  unfold execSetDenyList; try dsimp only
  repeat' first
    | with_reducible (first
        | assumption | apply OutGrows.next | apply ResGrows.ok | apply ResGrows.err | apply ResGrows.later
        | apply foldl_grows | apply plain_grows | apply storeUpd_grows | apply linkLost_grows | apply finish_grows)
    | simp only [grows_mk_iff] | split | intro _

theorem execLoadModuleSigner_grows (k : Pkt) {s : State} (h : Grows a s) : OutGrows a (execLoadModuleSigner k s) := by
  unfold execLoadModuleSigner; try dsimp only
  repeat' first
    | with_reducible (first
        | assumption | apply OutGrows.next | apply ResGrows.ok | apply ResGrows.err | apply ResGrows.later
        | apply plain_grows | apply storeUpd_grows)
    | simp only [grows_mk_iff] | split | intro _

theorem execRevokeRoot_grows (k : Pkt) {s : State} (h : Grows a s) : OutGrows a (execRevokeRoot k s) := by
  refine .next (plain_grows _ (fun c t ht => ?_) h)
  dsimp only
  repeat' first | exact .err | split
  refine .ok (grows_nv ht ?_ ?_ ?_ ?_ ?_ (fun i e => by simp [Nat.testBit_or, e]) ?_ ?_ ?_) <;>
    first | rfl | exact Nat.le_refl _ | exact id

theorem execSetPolicy_grows (k : Pkt) {s : State} (h : Grows a s) : OutGrows a (execSetPolicy k s) := by
  unfold execSetPolicy; try dsimp only
  repeat' first
    | with_reducible (first
        | assumption | apply OutGrows.next | apply ResGrows.ok | apply ResGrows.err | apply ResGrows.later
        | apply plain_grows | apply storeUpd_grows | apply rekeyAll_grows)
    | simp only [grows_mk_iff] | split | intro _

theorem execTamperClear_grows (k : Pkt) {s : State} (h : Grows a s) : OutGrows a (execTamperClear k s) := by
  unfold execTamperClear; try dsimp only
  repeat' first
    | with_reducible (first
        | assumption | apply OutGrows.next | apply ResGrows.ok | apply ResGrows.err | apply ResGrows.later
        | apply plain_grows | apply storeUpd_grows)
    | simp only [grows_mk_iff] | split | intro _

theorem execZeroise_grows (k : Pkt) {s : State} (h : Grows a s) : OutGrows a (execZeroise k s) := by
  unfold execZeroise; try dsimp only
  repeat' first
    | with_reducible (first
        | assumption | apply OutGrows.next | apply ResGrows.ok | apply ResGrows.err | apply ResGrows.later
        | apply plain_grows | apply zeroise_grows | apply enterLockdown_grows | apply finish_grows)
    | simp only [grows_mk_iff] | split | intro _

theorem execLockdown_grows (k : Pkt) {s : State} (h : Grows a s) : OutGrows a (execLockdown k s) := by
  unfold execLockdown; try dsimp only
  repeat' first
    | with_reducible (first
        | assumption | apply OutGrows.next | apply ResGrows.ok | apply ResGrows.err | apply ResGrows.later
        | apply plain_grows | apply enterLockdown_grows | apply finish_grows)
    | simp only [grows_mk_iff] | split | intro _

theorem execGetNonce_grows (k : Pkt) {s : State} (h : Grows a s) : OutGrows a (execGetNonce k s) := by
  unfold execGetNonce; try dsimp only
  repeat' first
    | with_reducible (first
        | assumption | apply OutGrows.next | apply ResGrows.ok | apply ResGrows.err | apply ResGrows.later
        | apply plain_grows | apply freshBytes_grows | refine snd_grows ?_ (by with_reducible assumption))
    | simp only [grows_mk_iff] | split | intro _

theorem grantDebug_grows (lvl : Nat) (min_ : Nat) {s : State} (h : Grows a s) : Grows a (grantDebug lvl min_ s) := by
  unfold grantDebug; try dsimp only
  repeat' first
    | with_reducible (first
        | assumption | apply foldl_grows | apply setF_grows | apply holdPort_grows | apply linkDown_grows
        | apply zero1_grows)
    | simp only [grows_mk_iff] | split | intro _

theorem execDebugUnlock_grows (k : Pkt) {s : State} (h : Grows a s) : OutGrows a (execDebugUnlock k s) := by
  unfold execDebugUnlock; try dsimp only
  repeat' first
    | with_reducible (first
        | assumption | apply OutGrows.next | apply ResGrows.ok | apply ResGrows.err | apply ResGrows.later
        | apply plain_grows | apply finish_grows | apply grantDebug_grows)
    | simp only [grows_mk_iff] | split | intro _

theorem execDebugLock_grows (k : Pkt) {s : State} (h : Grows a s) : OutGrows a (execDebugLock k s) := by
  unfold execDebugLock; try dsimp only
  repeat' first
    | with_reducible (first
        | assumption | apply OutGrows.next | apply ResGrows.ok | apply ResGrows.err | apply ResGrows.later
        | apply plain_grows | apply endDebug_grows)
    | simp only [grows_mk_iff] | split | intro _

theorem execDebugUnlockExpiry_grows {s : State} (h : Grows a s) : OutGrows a (execDebugUnlockExpiry s) := by
  unfold execDebugUnlockExpiry; try dsimp only
  repeat' first
    | with_reducible (first
        | assumption | apply OutGrows.next | apply endDebug_grows)
    | simp only [grows_mk_iff] | split | intro _

theorem execJtagInstruction_grows (i : JtagInstr) {s : State} (h : Grows a s) :
    OutGrows a (execJtagInstruction i s) := by
  unfold execJtagInstruction; try dsimp only
  repeat' first
    | with_reducible (first
        | assumption | apply OutGrows.next | apply tamperEvent_grows)
    | simp only [grows_mk_iff] | split | intro _

theorem execTamperEvent_grows (src : Nat) (detail : Nat) (holds : Bool) {s : State} (h : Grows a s) :
    OutGrows a (execTamperEvent src detail holds s) := by
  unfold execTamperEvent; try dsimp only
  repeat' first
    | with_reducible (first
        | assumption | apply OutGrows.next | apply tamperEvent_grows)
    | simp only [grows_mk_iff] | split | intro _

theorem execTamperArm_grows {s : State} (h : Grows a s) : OutGrows a (execTamperArm s) := by
  unfold execTamperArm; try dsimp only
  repeat' first
    | with_reducible (first
        | assumption | apply OutGrows.next | apply foldl_grows | apply handleTamper_grows | apply levelRise_grows)
    | simp only [grows_mk_iff] | split | intro _

theorem execGetAttestation_grows (k : Pkt) {s : State} (h : Grows a s) : OutGrows a (execGetAttestation k s) := by
  unfold execGetAttestation; try dsimp only
  repeat' first
    | with_reducible (first
        | assumption | apply OutGrows.next | apply ResGrows.ok | apply ResGrows.err | apply ResGrows.later
        | apply plain_grows)
    | simp only [grows_mk_iff] | split | intro _

theorem execReadTamperLog_grows (k : Pkt) {s : State} (h : Grows a s) : OutGrows a (execReadTamperLog k s) := by
  unfold execReadTamperLog; try dsimp only
  repeat' first
    | with_reducible (first
        | assumption | apply OutGrows.next | apply ResGrows.ok | apply ResGrows.err | apply ResGrows.later
        | apply plain_grows)
    | simp only [grows_mk_iff] | split | intro _

end Sys2Proof.Machine
end

