-- ==== Sys2Proof/Machine/LineCode.lean ====
section
/-!
DEFINITION. What a Twill lane carries: the scrambler, Gray code, precoder and levels (R208 to R211), the test patterns
(R236), the training block (R216), the RS codeword of a slot (R247) and the layout of a flit (R249). The commands of the
table stand above this coding: a received flit or block comes to them decoded (log 28).
-/

namespace Sys2Proof.Machine

/-! ### From bits to levels -/

/-- The bits of bytes in transmission order, least significant bit first. -/
def lineBits (l : List Byte) : List Bool := (l.map (fun b => (List.range 8).map (fun i => b.getLsbD i))).flatten

/-- The next output of a lane's scrambler: state bit 27 XOR state bit 30, the most recent output in bit 0 (R208). -/
def scrOut (st : BitVec 31) : Bool := st.getLsbD 27 != st.getLsbD 30

/-- The scrambler's state after one output. -/
def scrNext (st : BitVec 31) : BitVec 31 := (st <<< 1) ||| BitVec.ofNat 31 (scrOut st).toNat

/-- The bits of a lane scrambled, or descrambled, from a state (R208). -/
def scramble : BitVec 31 → List Bool → List Bool
  | _, [] => []
  | st, d :: ds => (d != scrOut st) :: scramble (scrNext st) ds

/-- The Gray code of a bit pair, the earlier bit first (R209). -/
def grayOf : Bool → Bool → Nat
  | false, false => 0
  | false, true => 1
  | true, true => 2
  | true, false => 3

/-- The bit pair of a Gray code. -/
def grayBits (g : Nat) : List Bool :=
  match g with
  | 0 => [false, false]
  | 1 => [false, true]
  | 2 => [true, true]
  | _ => [true, false]

/-- The Gray codes of a bit stream, two bits to a symbol. -/
def grayCodes : List Bool → List Nat
  | a :: b :: r => grayOf a b :: grayCodes r
  | _ => []

/-- The precoder from p_{k-1} on: p_k = (g_k - p_{k-1}) mod 4 (R210). -/
def precode : Nat → List Nat → List Nat
  | _, [] => []
  | prev, g :: gs => (g + 4 - prev) % 4 :: precode ((g + 4 - prev) % 4) gs

/-- The receiver's Gray codes from p_{k-1} on: g_k = (p_k + p_{k-1}) mod 4 (R210). -/
def unprecode : Nat → List Nat → List Nat
  | _, [] => []
  | prev, p :: ps => (p + prev) % 4 :: unprecode p ps

/-- The level of a symbol (R210). -/
def lineLevel (p : Nat) : Int := 2 * p - 3

/-- Levels of a data lane for scrambled or pattern bits, with the precoder on or off. (DESIGN CHOICE log 28) -/
def lineLevels (precoded : Bool) (bits : List Bool) : List Int :=
  (if precoded then precode 0 (grayCodes bits) else grayCodes bits).map lineLevel

/-- The clock lane at symbol index k (R211). -/
def clockLevel (k : Nat) : Int := if k % 4 < 2 then 3 else -3

/-! ### Patterns (R236) -/

/-- The taps of a PRBS by GEN_PAT code: the exponents of its polynomial but 0. -/
def prbsTaps (code : Nat) : List Nat :=
  match code with
  | 1 => [7, 6]
  | 2 => [9, 5]
  | 3 => [13, 12, 2, 1]
  | 4 => [15, 14]
  | 5 => [23, 18]
  | 6 => [31, 28]
  | _ => []

/-- n bits of a PRBS after the outputs `past`, the most recent first. -/
def prbsFrom (taps : List Nat) : Nat → List Bool → List Bool
  | 0, _ => []
  | n + 1, past =>
    let b := taps.foldl (fun a t => a != past.getD (t - 1) false) false
    b :: prbsFrom taps n (b :: past.take 30)

/-- n bits of a pattern from its selection, with the 80 user bits (R236). -/
def patternBits (code n : Nat) (user : List Bool) : List Bool :=
  if code = 7 then (List.range n).map (fun i => user.getD (i % 80) false)
  else prbsFrom (prbsTaps code) n (List.replicate 31 true)

/-! ### Training blocks (R216) -/

/-- Bytes 0 to 19 of a training block (Table 8.2). -/
def trainingHead (lane port rate rateMax ack countdown slot scr : Nat) : List Byte :=
  let b := leBytes 1 (lane % 8 + 8 * (port % 8)) ++ leBytes 1 (rate % 4 + 4 * (rateMax % 4) + 16 * (ack % 2)) ++
    leBytes 1 (countdown % 16) ++ leBytes 1 0 ++ leBytes 2 slot ++ leBytes 4 (scr % 2147483648)
  [0xE7, 0x3A, 0x1C, 0x5B, 0xE7, 0x3A, 0x1C, 0x5B] ++ b ++ leBytes 2 (crc16 b)

/-! ### The codeword of a slot (R247) -/

/-- Times α in GF(2^10) with x^10 + x^3 + 1. -/
def gfDouble (a : Nat) : Nat := if 512 ≤ a then (2 * a) ^^^ 0x409 else 2 * a

/-- The product in GF(2^10). -/
def gfMul (a b : Nat) : Nat :=
  (List.range 10).foldl (fun r i => (if r = 0 then 0 else gfDouble r) ^^^ (if b.testBit (9 - i) then a else 0)) 0

/-- α to a power. -/
def gfPow (n : Nat) : Nat := (List.range n).foldl (fun a _ => gfDouble a) 1

/-- A polynomial, highest coefficient first, times (x - c). -/
def gfTimes (p : List Nat) (c : Nat) : List Nat :=
  ((p ++ [0]).zip (0 :: p)).map (fun (e : Nat × Nat) => e.1 ^^^ gfMul c e.2)

/-- The generator g(x), highest coefficient first (R247). -/
def rsGenerator : List Nat := (List.range 16).foldl (fun p i => gfTimes p (gfPow i)) [1]

/-- The remainder of m(x) x^16 by g(x), highest coefficient first: the 16 check symbols. -/
def rsCheck (m : List Nat) : List Nat :=
  m.foldl (fun r s =>
    let q := (r.headD 0) ^^^ s
    ((r.drop 1 ++ [0]).zip (rsGenerator.drop 1)).map (fun (e : Nat × Nat) => e.1 ^^^ gfMul q e.2)) (List.replicate 16 0)

/-- The ten-bit symbols of bits, the least significant first. -/
def symbolsOf : Nat → List Bool → List Nat
  | 0, _ => []
  | n + 1, l => ((l.take 10).zipIdx.map (fun e => e.1.toNat * 2 ^ e.2)).sum :: symbolsOf n (l.drop 10)

/-- The codeword of five flits, 320 bytes: 272 symbols. (DESIGN CHOICE log 28) -/
def rsCodeword (flits : List Byte) : List Nat :=
  let m := symbolsOf 256 (lineBits flits)
  m ++ rsCheck m

/-- A polynomial's value at α^i: a codeword gives zero for i from 0 to 15. -/
def rsSyndrome (c : List Nat) (i : Nat) : Nat := c.foldl (fun a s => gfMul a (gfPow i) ^^^ s) 0

/-- The word r decodes to the codeword c with n symbols corrected (R248): within 8 symbols there is at most one. (DESIGN CHOICE log 28) -/
def rsDecodes (r c : List Nat) (n : Nat) : Bool :=
  decide (r.length = 272) && decide (c.length = 272) && (List.range 16).all (fun i => rsSyndrome c i == 0) &&
    ((r.zip c).filter (fun e => e.1 != e.2)).length == n && decide (n ≤ 8)

/-! ### Flits (R249) -/

/-- A DATA flit of the replay buffer with the fields a transmitter fills afresh (R250). -/
def dataFlitBytes (f : TxFlit) (rtog : Bool) (ack cvc cred : Nat) : List Byte :=
  let h := 1 + 16 * (f.vc % 4) + 64 * f.som.toNat + 128 * rtog.toNat + 256 * (f.seq % 4096) + 1048576 * (ack % 4096) +
    4294967296 * (cvc % 4) + 17179869184 * (cred % 4096) + 70368744177664 * f.enc.toNat + 140737488355328 * f.kph.toNat
  let b := leBytes 6 h ++ f.payload.take 56
  b ++ leBytes 2 (crc16 b)

/-- A LINK flit with its 56-byte payload, or an IDLE flit with none (R249, R250, R259). -/
def linkFlitBytes (payload : Option (List Byte)) (rtog : Bool) (ack cvc cred : Nat) : List Byte :=
  let h := (if payload.isSome then 2 else 0) + 128 * rtog.toNat + 1048576 * (ack % 4096) + 4294967296 * (cvc % 4) +
    17179869184 * (cred % 4096)
  let p := payload.getD []
  let b := leBytes 6 h ++ p.take 56 ++ List.replicate (56 - p.length) 0
  b ++ leBytes 2 (crc16 b)

end Sys2Proof.Machine
end

