-- ==== Sys2Proof/Laws/LineCode.lean ====
section
/-!
SUPPORT. The line coding of Twill undoes itself: descrambling, Gray decoding and the receiver's decoding give back what was
sent (R208 to R210).
-/

namespace Sys2Proof.Machine

@[simp] theorem scramble_length (st : BitVec 31) (l : List Bool) : (scramble st l).length = l.length := by
  induction l generalizing st with
  | nil => rfl
  | cons d ds ih => simp [scramble, ih]

/-- The descrambler runs the same sequence from the same state (R208). -/
theorem scramble_scramble (st : BitVec 31) (l : List Bool) : scramble st (scramble st l) = l := by
  induction l generalizing st with
  | nil => rfl
  | cons d ds ih => simp [scramble, ih]

theorem grayBits_grayOf (a b : Bool) : grayBits (grayOf a b) = [a, b] := by
  cases a <;> cases b <;> rfl

theorem grayOf_lt (a b : Bool) : grayOf a b < 4 := by cases a <;> cases b <;> decide

/-- The receiver's decoding gives back the Gray codes, from the same symbol before (R210). -/
theorem unprecode_precode (prev : Nat) (gs : List Nat) (hp : prev < 4) (hg : ∀ g ∈ gs, g < 4) :
    unprecode prev (precode prev gs) = gs := by
  induction gs generalizing prev with
  | nil => rfl
  | cons g gs ih =>
    have h := hg g (by simp)
    have h4 : (g + 4 - prev) % 4 < 4 := Nat.mod_lt _ (by decide)
    simp only [precode, unprecode, ih _ h4 (fun x hx => hg x (by simp [hx]))]
    congr 1
    omega

theorem grayCodes_lt (l : List Bool) : ∀ g ∈ grayCodes l, g < 4 := by
  induction l using grayCodes.induct with
  | case1 a b r ih => simpa [grayCodes, grayOf_lt] using ih
  | case2 l h => cases l with
    | nil => simp [grayCodes]
    | cons a r => cases r with
      | nil => simp [grayCodes]
      | cons b r => exact absurd rfl (h a b r)

end Sys2Proof.Machine
end

