-- ==== Sys2Proof/Laws/Registers.lean ====
section
/-! SUPPORT. Laws of registers and fields: what a register and a field hold after a write. -/

namespace Sys2Proof.Machine

/-- What a register holds after a write of that register. -/
@[simp] theorem regGet_regPut_same (s : State) (k : Nat) (v : Word) : regGet (regPut s k v) k = v := by
  unfold regGet regPut
  by_cases h : v = regReset k
  · simp [h]
  · simp [h]

/-- A write of one register leaves the others. -/
theorem regGet_regPut_ne (s : State) {a b : Nat} (v : Word) (h : b ≠ a) : regGet (regPut s a v) b = regGet s b := by
  unfold regGet regPut
  by_cases hv : v = regReset a
  · simp [hv, Tab.get_del_ne _ h]
  · simp [hv, Tab.get_put_ne _ _ h]

/-- Both together. -/
theorem regGet_regPut (s : State) (a b : Nat) (v : Word) : regGet (regPut s a v) b = if b = a then v else regGet s b := by
  split
  · next h => subst h; simp
  · next h => exact regGet_regPut_ne s v h

/-- A word with a field replaced: the bits below, the new field, the bits above. -/
theorem Fld.toNat_ins (f : Fld) (w : Word) (v : Nat) (h1 : f.lo ≤ f.hi) (h2 : f.hi < 32) :
    (f.ins w v).toNat = w.toNat % 2 ^ f.lo + 2 ^ f.lo * (v % 2 ^ f.width + 2 ^ f.width * (w.toNat / 2 ^ f.lo / 2 ^ f.width)) := by
  have hxl : w.toNat < 2 ^ 32 := w.isLt
  have hs : f.lo + f.width ≤ 32 := by unfold Fld.width; omega
  have h32 : (2 : Nat) ^ 32 = 2 ^ f.lo * (2 ^ f.width * 2 ^ (32 - f.lo - f.width)) := by
    rw [← Nat.pow_add, ← Nat.pow_add]; congr 1; omega
  have hL : 0 < 2 ^ f.lo := Nat.two_pow_pos _
  have hD : 0 < 2 ^ f.width := Nat.two_pow_pos _
  unfold Fld.ins Fld.of
  generalize w.toNat = x at *
  generalize (2 : Nat) ^ f.lo = L at *
  generalize (2 : Nat) ^ f.width = D at *
  generalize (2 : Nat) ^ (32 - f.lo - f.width) = R at *
  have e1 : x = x % L + L * (x / L % D + D * (x / L / D)) := by
    rw [Nat.mod_add_div (x / L) D, Nat.mod_add_div]
  have hq : x / L / D < R := by
    apply Nat.div_lt_of_lt_mul
    apply Nat.div_lt_of_lt_mul
    rw [← h32]; exact hxl
  have e2 : x - x / L % D * L + v % D * L = x % L + L * (v % D + D * (x / L / D)) := by
    have : x - x / L % D * L = x % L + L * (D * (x / L / D)) := by
      rw [Nat.mul_add] at e1
      rw [Nat.mul_comm (x / L % D) L]
      omega
    rw [this, Nat.mul_add, Nat.mul_comm (v % D) L]; omega
  have hlt : x % L + L * (v % D + D * (x / L / D)) < 2 ^ 32 := by
    rw [h32]
    have a1 : x % L < L := Nat.mod_lt _ hL
    have a2 : v % D < D := Nat.mod_lt _ hD
    have a3 : v % D + D * (x / L / D) < D * R := by
      have b1 : D * (x / L / D + 1) ≤ D * R := Nat.mul_le_mul_left _ hq
      rw [Nat.mul_add, Nat.mul_one] at b1
      omega
    have b2 : L * (v % D + D * (x / L / D) + 1) ≤ L * (D * R) := Nat.mul_le_mul_left _ a3
    rw [Nat.mul_add L (v % D + D * (x / L / D)) 1, Nat.mul_one] at b2
    omega
  rw [e2, BitVec.toNat_ofNat, Nat.mod_eq_of_lt hlt]

/-- Reading a field of a word in which it was replaced. -/
theorem Fld.of_ins (f : Fld) (w : Word) (v : Nat) (h1 : f.lo ≤ f.hi) (h2 : f.hi < 32) : f.of (f.ins w v) = v % 2 ^ f.width := by
  have hL : 0 < 2 ^ f.lo := Nat.two_pow_pos _
  unfold Fld.of
  rw [Fld.toNat_ins f w v h1 h2, Nat.add_mul_div_left _ _ hL, Nat.div_eq_of_lt (Nat.mod_lt _ hL), Nat.zero_add,
    Nat.add_mul_mod_self_left, Nat.mod_mod]

/-- Reading a field that lies apart from the one replaced. -/
theorem Fld.of_ins_apart (f g : Fld) (w : Word) (v : Nat) (h1 : f.lo ≤ f.hi) (h2 : f.hi < 32)
    (h : g.hi < f.lo ∧ g.lo ≤ g.hi ∨ f.hi < g.lo) : g.of (f.ins w v) = g.of w := by
  have hL : 0 < 2 ^ f.lo := Nat.two_pow_pos _
  have hD : 0 < 2 ^ f.width := Nat.two_pow_pos _
  unfold Fld.of
  rw [Fld.toNat_ins f w v h1 h2]
  rcases h with h | h
  · have hw : g.lo + g.width ≤ f.lo := by unfold Fld.width; omega
    have hd : 2 ^ g.lo * 2 ^ g.width ∣ 2 ^ f.lo := by
      rw [← Nat.pow_add]; exact Nat.pow_dvd_pow 2 hw
    rw [← Nat.mod_mul_right_div_self, ← Nat.mod_mul_right_div_self, ← Nat.mod_mod_of_dvd _ hd, Nat.add_mul_mod_self_left,
      Nat.mod_mod, Nat.mod_mod_of_dvd _ hd]
  · have he : f.lo + (f.width + (g.lo - f.lo - f.width)) = g.lo := by unfold Fld.width; omega
    have key : ∀ y : Nat, y / 2 ^ g.lo = y / 2 ^ f.lo / 2 ^ f.width / 2 ^ (g.lo - f.lo - f.width) := by
      intro y
      rw [Nat.div_div_eq_div_mul, Nat.div_div_eq_div_mul, ← Nat.pow_add, ← Nat.pow_add, he]
    rw [key, key, Nat.add_mul_div_left _ _ hL, Nat.div_eq_of_lt (Nat.mod_lt _ hL), Nat.zero_add, Nat.add_mul_div_left _ _ hD,
      Nat.div_eq_of_lt (Nat.mod_lt _ hD), Nat.zero_add]

/-- A field written is read back modulo its width. -/
theorem getF_setF_same (s : State) (f : Fld) (v : Nat) (h1 : f.lo ≤ f.hi) (h2 : f.hi < 32) :
    getF (setF s f v) f = v % 2 ^ f.width := by
  unfold getF setF
  rw [regGet_regPut_same, Fld.of_ins f _ v h1 h2]

/-- A field of another register keeps its value. -/
theorem getF_setF_reg (s : State) {f g : Fld} (v : Nat) (h : g.reg ≠ f.reg) : getF (setF s f v) g = getF s g := by
  unfold getF setF
  rw [regGet_regPut_ne _ _ h]

/-- A field apart from the one written, in the same register, keeps its value. -/
theorem getF_setF_apart (s : State) {f g : Fld} (v : Nat) (h1 : f.lo ≤ f.hi) (h2 : f.hi < 32) (hr : g.reg = f.reg)
    (h : g.hi < f.lo ∧ g.lo ≤ g.hi ∨ f.hi < g.lo) : getF (setF s f v) g = getF s g := by
  unfold getF setF
  rw [hr, regGet_regPut_same, Fld.of_ins_apart f g _ v h1 h2 h]

end Sys2Proof.Machine
end

