-- ==== Sys2Proof/WellFormed.lean ====
section
/-!
DEFINITION. What makes a command well formed: the operands its row of the table can have. A packet row carries its own
opcode; ports, lanes and other indexes lie in their ranges. The machine is total on ill-formed commands all the same.
-/

namespace Sys2Proof

/-- A message that an envelope can carry (Table 9.3). -/
def Msg.wf (m : Msg) : Bool :=
  decide (m.vc < 4) && decide (m.mtype < 256) && decide (m.dest < 4096) && decide (m.src < 4096) && decide (m.hops < 128) &&
    decide (m.payload.length ≤ 4096)

/-- A command with operands in the ranges of its row. -/
def Instr.wf (i : Instr) : Bool :=
  match i with
  | .getInfo k => k.opcode == 0x0000
  | .getStatus k => k.opcode == 0x0001
  | .setMode k => k.opcode == 0x0002
  | .warmReset k => k.opcode == 0x0003
  | .warmResetDelayExpiry => true
  | .readRegs k => k.opcode == 0x0004
  | .writeRegs k => k.opcode == 0x0005
  | .ping k => k.opcode == 0x0100
  | .semAcquire k => k.opcode == 0x0101
  | .semWaitExpiry k => k.opcode == 0x0101
  | .semRelease k => k.opcode == 0x0102
  | .semStatus k => k.opcode == 0x0103
  | .setLiveness k => k.opcode == 0x0104
  | .livenessExpiry _ => true
  | .readRemote k _ => k.opcode == 0x0105
  | .writeRemote k _ => k.opcode == 0x0106
  | .openExport k => k.opcode == 0x0107
  | .exportWindowExpiry w => decide (w < 16)
  | .closeExport k => k.opcode == 0x0108
  | .setGroups k => k.opcode == 0x0109
  | .setEthPort k => k.opcode == 0x0200
  | .ethPortRestartDone p => decide (p < 2)
  | .setAddress k => k.opcode == 0x0201
  | .addFlow k => k.opcode == 0x0202
  | .modifyFlow k => k.opcode == 0x0203
  | .removeFlow k => k.opcode == 0x0204
  | .getFlow k => k.opcode == 0x0205
  | .createSurface k => k.opcode == 0x0300
  | .destroySurface k => k.opcode == 0x0301
  | .getSurface k => k.opcode == 0x0302
  | .setSurface k => k.opcode == 0x0303
  | .publish k => k.opcode == 0x0304
  | .upload k => k.opcode == 0x0305
  | .uploadComplete _ => true
  | .uploadDmaError _ => true
  | .setLayer k => k.opcode == 0x0400
  | .setZOrder k => k.opcode == 0x0401
  | .setBackground k => k.opcode == 0x0402
  | .loadBank k _ => k.opcode == 0x0403
  | .setWriteback k => k.opcode == 0x0404
  | .setPreview k => k.opcode == 0x0405
  | .commit k => k.opcode == 0x0406
  | .commitLockIn n => decide (n < 4294967296)
  | .setWall k => k.opcode == 0x0500
  | .setProfile k => k.opcode == 0x0501
  | .setTone k => k.opcode == 0x0502
  | .setAmbientCurve k => k.opcode == 0x0503
  | .commitColour k => k.opcode == 0x0504
  | .setAmbientSensors k => k.opcode == 0x0505
  | .loadMap k _ => k.opcode == 0x0600
  | .commitMap k => k.opcode == 0x0601
  | .getMap k _ => k.opcode == 0x0602
  | .calibrate k => k.opcode == 0x0700
  | .discover k => k.opcode == 0x0701
  | .step k => k.opcode == 0x0702
  | .getTopology k => k.opcode == 0x0703
  | .setPtp k => k.opcode == 0x0800
  | .setCadence k => k.opcode == 0x0801
  | .armTrigger k => k.opcode == 0x0802
  | .disarmTrigger k => k.opcode == 0x0803
  | .setWtSeconds k => k.opcode == 0x0804
  | .getTime k => k.opcode == 0x0805
  | .factoryWrite k _ => k.opcode == 0x0900
  | .loadUserLayer k _ => k.opcode == 0x0901
  | .userLayerWriteDone _ => true
  | .revertUserLayer k => k.opcode == 0x0902
  | .readAgeing k _ => k.opcode == 0x0903
  | .moduleRelease k => k.opcode == 0x0904
  | .setStrandGeometry k => k.opcode == 0x0A00
  | .strandRead k => k.opcode == 0x0A01
  | .enumerate k => k.opcode == 0x0A02
  | .diagDrive k => k.opcode == 0x0A03
  | .setFeed k => k.opcode == 0x0B00
  | .setDeratingCurve k => k.opcode == 0x0B01
  | .setSupplies k => k.opcode == 0x0B02
  | .clearSupplyFaults k => k.opcode == 0x0B03
  | .setDiode k => k.opcode == 0x0B04
  | .setAmon k => k.opcode == 0x0B05
  | .setThreshold k => k.opcode == 0x0B06
  | .enrolOwner k => k.opcode == 0x0C00
  | .rotateOwner k => k.opcode == 0x0C01
  | .releaseOwner k => k.opcode == 0x0C02
  | .setDelegate k => k.opcode == 0x0C03
  | .setDenyList k => k.opcode == 0x0C04
  | .loadModuleSigner k => k.opcode == 0x0C05
  | .revokeRoot k => k.opcode == 0x0C06
  | .setPolicy k => k.opcode == 0x0C07
  | .tamperClear k => k.opcode == 0x0C08
  | .zeroise k => k.opcode == 0x0C09
  | .lockdown k => k.opcode == 0x0C0A
  | .getNonce k => k.opcode == 0x0C0B
  | .debugUnlock k => k.opcode == 0x0C0C
  | .debugLock k => k.opcode == 0x0C0D
  | .debugUnlockExpiry => true
  | .getAttestation k => k.opcode == 0x0C0E
  | .readTamperLog k => k.opcode == 0x0C0F
  | .configSet k => k.opcode == 0x0D00
  | .configGet k _ => k.opcode == 0x0D01
  | .configCommit k => k.opcode == 0x0D02
  | .configWriteDone _ => true
  | .configRevert k => k.opcode == 0x0D03
  | .stageImage k _ => k.opcode == 0x0D04
  | .stageDone _ => true
  | .activate k => k.opcode == 0x0D05
  | .activationReady => true
  | .activationTimeout => true
  | .revertImage k => k.opcode == 0x0D06
  | .commitSvn k => k.opcode == 0x0D07
  | .getUpdateStatus k => k.opcode == 0x0D08
  | .readQueue k => k.opcode == 0x0E00
  | .readFaults k => k.opcode == 0x0E01
  | .readCell k => k.opcode == 0x0E02
  | .envelopeVerified k _ => k.signed
  | .envelopeThrottleExpiry _ => true
  | .interimReplyTimer _ => true
  | .forwardResendTimeout _ => true
  | .quietForget _ => true
  | .aggregateCollectionEnd _ => true
  | .commandRingDoorbell _ => true
  | .commandEntryFetch _ => true
  | .replyRingHeadWrite _ => true
  | .ringEnableWrite _ _ => true
  | .cp1CmdWrite _ => true
  | .cp1RplRead => true
  | .cp1Flush => true
  | .cp1PartialTimeout => true
  | .qspiStatus => true
  | .indAddrWrite q _ => decide (q < 3)
  | .indDataRead q _ => decide (q < 3)
  | .indDataWrite q _ => decide (q < 3)
  | .latchedPairRead q pair part _ => decide (q < 3) && decide (pair < 4) && decide (part < 3)
  | .eventAcknowledge q addr _ => decide (q < 3) && decide (addr < 0x180000)
  | .cfgLockWrite q _ => decide (q < 3)
  | .gpioOutWrite q _ => decide (q < 3)
  | .sysLoadWrite q _ => decide (q < 3)
  | .forceFull => true
  | .passMaxClear q _ => decide (q < 3)
  | .calCmdWrite q p _ => decide (q < 3) && decide (p < 8)
  | .injGo q p l _ => decide (q < 3) && decide (p < 8) && decide (l < 4)
  | .timSnapGo q _ => decide (q < 3)
  | .triggerArmWrite q u _ => decide (q < 3) && decide (u < 16)
  | .triggerDisarmWrite q u _ => decide (q < 3) && decide (u < 16)
  | .ckptNow q _ => decide (q < 3)
  | .stepCmdGo q p _ => decide (q < 3) && decide (p < 8)
  | .pciRetrain q _ => decide (q < 3)
  | .faultRecordClear q b _ => decide (q < 3) && decide (b < 24)
  | .clkSelChange q _ => decide (q < 3)
  | .testLoopWrite q p _ => decide (q < 3) && decide (p < 8)
  | .parkReqWrite q p l _ => decide (q < 3) && decide (p < 8) && decide (l < 4)
  | .eqOverrideWrite q p l _ => decide (q < 3) && decide (p < 8) && decide (l < 4)
  | .txIdleWrite q p _ => decide (q < 3) && decide (p < 8)
  | .registerWrite q _ _ _ => decide (q < 3)
  | .powerOnReset => true
  | .brownOut => true
  | .wrstAssert => true
  | .watchdogExpiry => true
  | .resetEnd _ board src lost => decide (board < 16) && decide (src < 4) && lost.all (fun r => decide (r < 3))
  | .bootComplete => true
  | .tamperArm => true
  | .tamperEvent src _ _ => decide (src < 7 ∨ src = 8)
  | .modulePulled => true
  | .moduleInserted _ => true
  | .modIntEdge _ => true
  | .pmbAlert _ => true
  | .gpioEdge pin _ => decide (pin < 24)
  | .genlockEdge => true
  | .ppsEdge => true
  | .genlockLoss => true
  | .vddStrLoss => true
  | .vddStrReturn => true
  | .pcieLinkDown => true
  | .pcieLinkUp speed width => decide (1 ≤ speed) && decide (speed ≤ 4) && (width == 1 || width == 2 || width == 4)
  | .ethLinkChange p sub _ => decide (p < 2) && decide (sub < 4)
  | .ethFrameRx p sub _ _ => decide (p < 2) && decide (sub < 4)
  | .ptpAnnounceTimeout j => decide (j < 2)
  | .delayReqTimer j => decide (j < 2)
  | .mergeWindowExpiry j => decide (j < 64)
  | .legIdle j l => decide (j < 64) && decide (l < 2)
  | .flowTimeout j => decide (j < 64)
  | .frameBoundary n => decide (n < 4294967296)
  | .guardCheckDone layer => decide (layer < 24)
  | .guardWaitExpiry => true
  | .regionComplete _ => true
  | .passEnd => true
  | .cellLaunch p => decide (p < 8)
  | .presentInstant n => decide (n < 4294967296)
  | .frameClose n => decide (n < 4294967296)
  | .armSend n => decide (n < 4294967296)
  | .pushCutoff => true
  | .pushWindowEnd => true
  | .pwmCycleStart => true
  | .adcStart _ => true
  | .statusPoll g => decide (g < 8)
  | .returnReply g _ _ => decide (g < 8)
  | .readTimeout g => decide (g < 8)
  | .triggerFire k => decide (k < 16)
  | .pulseEnd g => decide (g < 24)
  | .syncInterval => true
  | .tSync p m => decide (p < 8) && m.wf
  | .tFollow p m => decide (p < 8) && m.wf
  | .tDreq p m => decide (p < 8) && m.wf
  | .tDresp p m => decide (p < 8) && m.wf
  | .tAnnounce p m => decide (p < 8) && m.wf
  | .tParams p m => decide (p < 8) && m.wf
  | .announceTimer => true
  | .announceExpiry dev => decide (dev < 4096)
  | .masterChangeDwell => true
  | .offerExpiry p => decide (p < 8)
  | .oscLearn => true
  | .deliveryReportTimer => true
  | .ambientSample _ => true
  | .ambientReportTimer => true
  | .toneStateTimer => true
  | .feedClaimTimer => true
  | .budgetPeriod feed => decide (feed < 256)
  | .demandTimer => true
  | .budgetEchoTimeout slot => decide (slot < 256)
  | .sagGatherExpiry feed => decide (feed < 256)
  | .budgetHoldExpiry => true
  | .telemetryRound _ => true
  | .overheadMeasurement => true
  | .sensorSample x _ => decide (x < 56)
  | .thresholdDwellExpiry t => decide (t < 24) || (decide (32 ≤ t) && decide (t < 64))
  | .dieModelUpdate _ => true
  | .zoneModelUpdate => true
  | .checkpoint => true
  | .checkpointDone _ => true
  | .patrolScrub _ region _ kind => decide (1 ≤ region) && decide (region ≤ 9) && decide (kind ≤ 2)
  | .containmentEnd b => decide (b < 24)
  | .losAssert p l => decide (p < 8) && decide (l < 5)
  | .losDeassert p l => decide (p < 8) && decide (l < 5)
  | .clockOutOfLock p => decide (p < 8)
  | .laneOutOfLock p l => decide (p < 8) && decide (l < 4)
  | .frequencyMeasured p _ => decide (p < 8)
  | .trainingBlock p l _ _ _ => decide (p < 8) && decide (l < 4)
  | .trainingTimeout p => decide (p < 8)
  | .calRunDone p l _ => decide (p < 8) && decide (l < 4)
  | .calStart p => decide (p < 8)
  | .calRetryTimer p l => decide (p < 8) && decide (l < 4)
  | .loopTimeout p => decide (p < 8)
  | .flitRx p l _ _ _ => decide (p < 8) && decide (l < 4)
  | .retryTimeout p => decide (p < 8)
  | .unackedTimeout p => decide (p < 8)
  | .hello p _ => decide (p < 8)
  | .laneReq p _ => decide (p < 8)
  | .laneset p _ => decide (p < 8)
  | .stepFlit p _ => decide (p < 8)
  | .retrainTimeout p => decide (p < 8)
  | .autoStepDown p _ => decide (p < 8)
  | .stepUpTimer p => decide (p < 8)
  | .authHello p m => decide (p < 8) && m.wf
  | .proof p m => decide (p < 8) && m.wf
  | .authFail p m => decide (p < 8) && m.wf
  | .authBackoffExpiry p => decide (p < 8)
  | .rekey p m => decide (p < 8) && m.wf
  | .rekeyTimer p => decide (p < 8)
  | .command p m => decide (p < 8) && m.wf
  | .reply p m => decide (p < 8) && m.wf
  | .cellMessage p m => decide (p < 8) && m.wf
  | .discoverMessage p m => decide (p < 8) && m.wf
  | .discoverReply p m => decide (p < 8) && m.wf
  | .probe p m => decide (p < 8) && m.wf
  | .probeReply p m => decide (p < 8) && m.wf
  | .probeWaitExpiry p h => decide (p < 8) && decide (h < 66)
  | .assign p m => decide (p < 8) && m.wf
  | .assignAck p m => decide (p < 8) && m.wf
  | .assignRetryTimeout p h => decide (p < 8) && decide (h < 66)
  | .linkEvent p m => decide (p < 8) && m.wf
  | .healHoldExpiry p => decide (p < 8)
  | .liveness p m => decide (p < 8) && m.wf
  | .livenessIdleTimer => true
  | .primaryLost => true
  | .backupReq p m => decide (p < 8) && m.wf
  | .backupRelease p m => decide (p < 8) && m.wf
  | .lockdownNotice p m => decide (p < 8) && m.wf
  | .slotNotice p m => decide (p < 8) && m.wf
  | .slotReply p m => decide (p < 8) && m.wf
  | .slotNoticeRetry j => decide (j < 256)
  | .deliveryReport p m => decide (p < 8) && m.wf
  | .wallSettings p m => decide (p < 8) && m.wf
  | .ambientReport p m => decide (p < 8) && m.wf
  | .toneState p m => decide (p < 8) && m.wf
  | .budget p m => decide (p < 8) && m.wf
  | .demand p m => decide (p < 8) && m.wf
  | .feedClaim p m => decide (p < 8) && m.wf
  | .tunnel p m => decide (p < 8) && m.wf
  | .mslFrame frame => decide (frame.length ≤ 2052)
  | .ident seq payload => decide (seq < 65536) && decide (payload.length ≤ 2040)
  | .faults seq payload => decide (seq < 65536) && decide (payload.length ≤ 2040)
  | .updStatus seq payload => decide (seq < 65536) && decide (payload.length ≤ 2040)
  | .loadBegin seq payload => decide (seq < 65536) && decide (payload.length ≤ 2040)
  | .loadData seq payload => decide (seq < 65536) && decide (payload.length ≤ 2040)
  | .loadEnd seq payload => decide (seq < 65536) && decide (payload.length ≤ 2040)
  | .mslStage seq payload => decide (seq < 65536) && decide (payload.length ≤ 2040)
  | .mslActivate seq payload => decide (seq < 65536) && decide (payload.length ≤ 2040)
  | .mslRevert seq payload => decide (seq < 65536) && decide (payload.length ≤ 2040)
  | .tParamsTimer => true
  | .laneReqTimer p => decide (p < 8)
  | .checkerLock p l => decide (p < 8) && decide (l < 4)
  | .checkerLockLoss p l _ _ => decide (p < 8) && decide (l < 4)
  | .clockLoss bit => decide (bit < 8)
  | .clockRestored bit => decide (bit < 8)
  | .jtagInstruction _ => true
  | .apertureAccess _ _ _ => true
  | .pcieConfigWrite _ _ _ => true
  | .activateVerifyDone _ => true
  | .factoryWriteDone _ => true
  | .degradedExpiry => true

end Sys2Proof
end

