-- ==== Sys2Proof/Tests/Slice0.lean ====
section
/-!
SUPPORT. The model's own tests: ill-formed commands that the checks of WellFormed refuse, values the spec works out, and for
every statement with hypotheses a concrete state and operands that meet them.
-/

namespace Sys2Proof.Machine

set_option Elab.async false

/-! ### Small states and packets -/

/-- Reset, then a role and a mode; a tile is numbered 5, a sender 0. -/
def small (snd : Bool) (m : Nat) : State :=
  let t := setF (setB State.reset R.SYS_MODE_ROLE_EFF snd) R.SYS_MODE_MODE m
  { t with cps := { t.cps with devnum := if snd then 0 else 5 } }

/-- A signed command for the device at the port (SCOPE 3), from CP0. -/
def sealed (op : Nat) (par : List Byte) : Pkt :=
  { req := .cp0, port := 0, w0 := BitVec.ofNat 32 (0x2010000 + op), w1 := 7, w2 := 0x3000, w3 := BitVec.ofNat 32 (208 + par.length)
    body := zeros 6 ++ leBytes 2 par.length ++ zeros 0x68 ++ par ++ zeros 96 }

/-- The same command unsigned. -/
def plainPkt (op : Nat) (par : List Byte) : Pkt :=
  { req := .cp0, port := 0, w0 := BitVec.ofNat 32 (0x2000000 + op), w1 := 7, w2 := 0x3000, w3 := BitVec.ofNat 32 par.length, body := par }

/-- SEC has released the packet, with the copy it took. -/
def released (k : Pkt) (copy : Option (List Byte)) (s : State) : State := { s with sec := { s.sec with released := [⟨k, copy⟩] } }

/-- The state in which the command's own part begins. -/
def begun (k : Pkt) (copy : Option (List Byte)) (s : State) : State :=
  let t := arrive k (released k copy s)
  { t with sec := { t.sec with released := t.sec.released.erase ⟨k, copy⟩ } }

/-- Every check of R468 passes. -/
def passes (s : State) (k : Pkt) (n : Nat) (copy : Option (List Byte)) : Bool :=
  let r := released k copy s
  !inReset r && mode r != mBoot && !waitsOut r k && (precheck (arrive k r) k).isNone && parLenOk k.opcode k.par &&
    replyFits r k n && k.signed && releasedOf (arrive k r) k == some ⟨k, copy⟩

theorem ready_of {s : State} {k : Pkt} {n : Nat} {copy : Option (List Byte)} (h : passes s k n copy = true) :
    ready (released k copy s) k n copy (begun k copy s) := by
  simp only [passes, Bool.and_eq_true, Bool.not_eq_true', bne_iff_ne, ne_eq, Option.isNone_iff_eq_none] at h
  obtain ⟨⟨⟨⟨⟨⟨⟨h1, h2⟩, h3⟩, h4⟩, h5⟩, h6⟩, h7⟩, h8⟩ := h
  exact ⟨⟨h1, h2, h3⟩, h4, h5, h6, .inr ⟨h7, _, eq_of_beq h8, rfl, rfl⟩⟩

/-- The packet begins in a state, and with it that state has property g. -/
abbrev Can (s : State) (k : Pkt) (n : Nat) (copy : Option (List Byte)) (g : Pkt → State → Prop) : Prop :=
  ready (released k copy s) k n copy (begun k copy s) ∧ g k (begun k copy s)

theorem takes_of {s : State} {k : Pkt} (h : (!inReset s && mode s != mBoot && !waitsOut s k) = true) : takesNow s k := by
  simp only [Bool.and_eq_true, Bool.not_eq_true', bne_iff_ne, ne_eq] at h
  exact ⟨h.1.1, h.1.2, h.2⟩

/-- A packet's command, taken by the state, whose other checks are those of g. -/
abbrev Comes (s : State) (i : Instr) (k : Pkt) (g : Pkt → State → Prop) : Prop :=
  packetIn i = some k ∧ takesNow s k ∧ replyFits s k 0 = true ∧ g k (arrive k s)

/-- A message that the device takes on a port, with the checks that `arrives` names. -/
def arrivesB (s : State) (p : Nat) (m : Msg) : Bool :=
  alive s && trafficPort s p && carries s p m && msgOk m && (fate s m).1 &&
    (m.vc != 1 || !unnumbered s || unnumberedTakes m.mtype)

theorem arrives_of {s : State} {p : Nat} {m : Msg} (h : arrivesB s p m = true) : arrives s p m := by
  simp only [arrivesB, Bool.and_eq_true, Bool.or_eq_true, bne_iff_ne, ne_eq, Bool.not_eq_true'] at h
  obtain ⟨⟨⟨⟨⟨h1, h2⟩, h3⟩, h4⟩, h5⟩, h6⟩ := h
  refine ⟨⟨h1, h2, h3, h4⟩, h5, fun e u => ?_⟩
  rcases h6 with (h6 | h6) | h6
  · exact absurd e h6
  · exact absurd u (by simp [h6])
  · exact h6

theorem may_of {s : State} {q b : Nat} (h : (reaches s q b && mode s != mLockdown && blockPowered (sender s) b) = true) :
    mayAct s q b := by
  simp only [Bool.and_eq_true, bne_iff_ne, ne_eq] at h
  exact ⟨h.1.1, h.1.2, h.2⟩

/-! ### Witnesses: steps, reset, packets -/

theorem witness_StepRunsFront : ({ State.reset with pending := [.powerOnReset, .brownOut] } : State).pending =
    Instr.powerOnReset :: [.brownOut] := rfl

theorem witness_EmptyQueueTicks : State.reset.pending = [] := rfl

theorem witness_StepKeepsInvariant : State.reset.Inv ∧ ∃ t, step { State.reset with pending := [.powerOnReset] } = .next t :=
  ⟨⟨by decide +kernel, by decide +kernel⟩, _, rfl⟩

theorem witness_NothingIsUndone : (∃ t, exec .powerOnReset State.reset = .next t) ∧
    ∃ s t, s.nv.killed = true ∧ step s = .next t :=
  ⟨⟨_, rfl⟩, { State.reset with nv := { State.reset.nv with killed := true }, pending := [.powerOnReset] }, _, rfl, rfl⟩

theorem witness_PacketLostBeforeBoot : packetIn (.ping (plainPkt 0x0100 [])) = some (plainPkt 0x0100 []) ∧ mode State.reset = mBoot :=
  ⟨rfl, by decide +kernel⟩

theorem witness_PacketChecks_version : Comes (small true 1) (.ping { plainPkt 0x0100 [] with w0 := 0x3000100 }) { plainPkt 0x0100 [] with w0 := 0x3000100 }
    (fun k _ => k.version ≠ 2) := ⟨rfl, takes_of (by decide +kernel), by decide +kernel, by decide +kernel⟩

theorem witness_PacketChecks_length : Comes (small true 1) (.ping { plainPkt 0x0100 [] with w3 := 4 }) { plainPkt 0x0100 [] with w3 := 4 }
    (fun k _ => k.version = 2 ∧ k.lengthOk = false) := ⟨rfl, takes_of (by decide +kernel), by decide +kernel, by decide +kernel⟩

theorem witness_PacketChecks_lockdown : Comes (small true 7) (.ping (plainPkt 0x0100 [])) (plainPkt 0x0100 [])
    (fun k t => k.version = 2 ∧ k.lengthOk = true ∧ mode t = mLockdown) :=
  ⟨rfl, takes_of (by decide +kernel), by decide +kernel, by decide +kernel⟩

theorem witness_PacketChecks_reserved : Comes (small true 1) (.ping { plainPkt 0x0100 [] with w2 := 0x7000 }) { plainPkt 0x0100 [] with w2 := 0x7000 }
    (fun k t => k.version = 2 ∧ k.lengthOk = true ∧ mode t ≠ mLockdown ∧ k.clean = false) :=
  ⟨rfl, takes_of (by decide +kernel), by decide +kernel, by decide +kernel⟩

theorem witness_PacketChecks_opcode : Comes (small true 1) (.ping (plainPkt 0x0F00 [])) (plainPkt 0x0F00 [])
    (fun k t => k.version = 2 ∧ k.lengthOk = true ∧ mode t ≠ mLockdown ∧ k.clean = true ∧ opInfo k.opcode = none) :=
  ⟨rfl, takes_of (by decide +kernel), by decide +kernel, by decide +kernel⟩

theorem witness_PacketChecks_role : Comes (small false 1) (.setFeed (plainPkt 0x0B00 [])) (plainPkt 0x0B00 [])
    (fun k t => k.version = 2 ∧ k.lengthOk = true ∧ mode t ≠ mLockdown ∧ k.clean = true ∧
      (opInfo k.opcode).any (fun o => o.role == 1 && !sender t) = true) :=
  ⟨rfl, takes_of (by decide +kernel), by decide +kernel, by decide +kernel⟩

theorem witness_PacketChecks_target : Comes (small true 1) (.ping { plainPkt 0x0100 [] with w2 := 0xFFF }) { plainPkt 0x0100 [] with w2 := 0xFFF }
    (fun k t => (opInfo k.opcode).isSome = true ∧ mode t ≠ mLockdown ∧ k.clean = true ∧ k.targetFits = false) :=
  ⟨rfl, takes_of (by decide +kernel), by decide +kernel, by decide +kernel⟩

theorem witness_PacketChecks_route : Comes (small true 1) (.ping { plainPkt 0x0100 [] with w2 := 0x009 }) { plainPkt 0x0100 [] with w2 := 0x009 }
    (fun k t => (opInfo k.opcode).isSome = true ∧ k.clean = true ∧ k.targetFits = true ∧ isMine t k = false) :=
  ⟨rfl, takes_of (by decide +kernel), by decide +kernel, by decide +kernel⟩

theorem witness_PacketChecks_unnumbered : Comes { small false 1 with cps := { (small false 1).cps with devnum := 0xFFF } }
    (.ping (plainPkt 0x0100 [])) (plainPkt 0x0100 []) (fun k t => k.targetFits = true ∧ isMine t k = true ∧ k.req ≠ .muslin ∧
      unnumbered t = true ∧ k.opcode ≠ 0 ∧ k.opcode ≠ 1 ∧ k.opcode ≠ 4) :=
  ⟨rfl, takes_of (by decide +kernel), by decide +kernel, by decide +kernel⟩

theorem witness_PacketChecks_mode : Comes (small false 1) (.diagDrive (plainPkt 0x0A03 [])) (plainPkt 0x0A03 [])
    (fun k t => k.targetFits = true ∧ isMine t k = true ∧ (opInfo k.opcode).any (fun o => !modeAccepts (mode t) o) = true) :=
  ⟨rfl, takes_of (by decide +kernel), by decide +kernel, by decide +kernel⟩

theorem witness_PacketChecks_busy : Comes { small true 1 with cps := { (small true 1).cps with bg := [(7, plainPkt 0x0700 [])] } }
    (.step (plainPkt 0x0702 [])) (plainPkt 0x0702 []) (fun k t => isMine t k = true ∧
      (opInfo k.opcode).any (fun o => modeAccepts (mode t) o && !o.read) = true ∧ (Tab.get t.cps.bg (opArea k.opcode)).isSome = true) :=
  ⟨rfl, takes_of (by decide +kernel), by decide +kernel, by decide +kernel⟩

theorem witness_SignatureGate_unsigned : Comes (small true 1) (.tamperClear (plainPkt 0x0C08 [])) (plainPkt 0x0C08 [])
    (fun k t => precheck t k = none ∧ k.signed = false ∧ opClass t k.opcode k.par ≠ 0) :=
  ⟨rfl, takes_of (by decide +kernel), by decide +kernel, by decide +kernel⟩

/-- An envelope without MAGIC fails step 1 of R438 whatever its data. -/
theorem witness_SignatureGate_envelope : Comes (small true 1) (.tamperClear (sealed 0x0C08 [])) (sealed 0x0C08 [])
    (fun k t => precheck t k = none ∧ k.signed = true ∧ releasedOf t k = none ∧ ∀ f, (envVerdict t k f).1 ≠ 0) :=
  ⟨rfl, takes_of (by decide +kernel), by decide +kernel, by decide +kernel, by decide +kernel, by decide +kernel, fun f => by
    have h : (envVerdict (arrive (sealed 0x0C08 []) (small true 1)) (sealed 0x0C08 []) f).1 = St.badParam := rfl
    exact h ▸ (by decide)⟩

/-! ### Witnesses: areas 0x00 and 0x01, transport -/

/-- A state with a semaphore held. -/
def semHeld (m : Nat) (r : Req) (s : State) : State := { s with cps := { s.cps with sems := [(m, r)] } }

theorem witness_InformationCommands : Can (small true 1) (sealed 0x0100 [1, 2, 3]) 3 none (fun k _ => 3 = k.par.length) ∧
    Can (small false 2) (sealed 0 []) (infoBytes (begun (sealed 0 []) none (small false 2))).length none (fun _ _ => True) ∧
    Can (small true 1) (sealed 1 []) 24 none (fun _ _ => True) ∧ Can (small true 1) (sealed 0x0103 []) 64 none (fun _ _ => True) :=
  ⟨⟨ready_of (by decide +kernel), by decide +kernel⟩, ⟨ready_of (by decide +kernel), trivial⟩, ⟨ready_of (by decide +kernel), trivial⟩,
    ready_of (by decide +kernel), trivial⟩

theorem witness_ReadFaultsReturnsRecords : Can (small true 1) (sealed 0x0E01 [23, 1, 0, 0]) 32 none (fun k _ => u8 k.par 0 = 23 ∧
      u8 k.par 1 ≤ 1 ∧ zeroAt k.par 2 2 = true) ∧
    Can (small false 1) (sealed 0x0E01 [0xFF, 0, 0, 0]) 768 none (fun k t => u8 k.par 0 = 0xFF ∧ u8 k.par 1 ≤ 1 ∧
      zeroAt k.par 2 2 = true ∧ blockPowered (sender t) 4 = false) ∧
    inReset (small true 7) = false ∧ (small true 7).upd.mslBusy = none ∧ mslModeOk (incF (small true 7) R.MSL_FRAMES_N) 2 = true :=
  ⟨⟨ready_of (by decide +kernel), by decide +kernel⟩, ⟨ready_of (by decide +kernel), by decide +kernel⟩, by decide +kernel⟩

theorem witness_SetMode_param : Can (small true 1) (sealed 2 [5, 0, 0, 0]) 0 none (fun k _ => 4 < k.p8 0) ∧
    Can (small true 1) (sealed 2 [0, 0, 0, 0]) 0 none (fun k _ => k.p8 0 = 0) :=
  ⟨⟨ready_of (by decide +kernel), by decide +kernel⟩, ready_of (by decide +kernel), by decide +kernel⟩

theorem witness_SetMode_allowed : Can (small true 1) (sealed 2 [4, 0, 0, 0]) 0 none (fun k t => 1 ≤ k.p8 0 ∧ k.p8 0 ≤ 4 ∧
    zeroAt k.par 1 3 = true ∧ transitioning t = false ∧ k.p8 0 ≠ mode t ∧ (mode t, k.p8 0) ∈ [(1, 2), (1, 4), (2, 1), (2, 3), (3, 2), (3, 1), (4, 1)]) :=
  ⟨ready_of (by decide +kernel), by decide +kernel⟩

theorem witness_SetMode_refused : Can (small true 1) (sealed 2 [3, 0, 0, 0]) 0 none (fun k t => 1 ≤ k.p8 0 ∧ k.p8 0 ≤ 4 ∧
    transitioning t = false ∧ k.p8 0 ≠ mode t ∧ (mode t, k.p8 0) ∉ [(1, 2), (1, 4), (2, 1), (2, 3), (3, 2), (3, 1), (4, 1)]) ∧
    Can (small true 1) (sealed 2 [1, 0, 0, 0]) 0 none (fun k t => transitioning t = false ∧ k.p8 0 = mode t) ∧
    Can { small true 1 with sys := { (small true 1).sys with warmWait := true } } (sealed 2 [1, 0, 0, 0]) 0 none
      (fun _ t => transitioning t = true) :=
  ⟨⟨ready_of (by decide +kernel), by decide +kernel⟩, ⟨ready_of (by decide +kernel), by decide +kernel⟩,
    ready_of (by decide +kernel), by decide +kernel⟩

theorem witness_RegisterCommands : Can (small true 1) (sealed 4 (leBytes 4 0x14 ++ [1, 0, 0, 0])) 4 none (fun k t => k.p8 6 ≤ 1 ∧
      zeroAt k.par 7 1 = true ∧ 1 ≤ k.p16 4 ∧ k.p16 4 ≤ 1020 ∧
      4 = (wordBytes (readMany 2 (k.p8 6 == 1) (k.p32 0) (k.p16 4) (firmwarePair (k.p8 6 == 1) (k.p32 0) t)).2).length) ∧
    Can (small true 1) (sealed 5 (leBytes 4 4 ++ [1, 0, 1, 0] ++ leBytes 4 9)) 0 none (fun k _ => k.p8 6 ≤ 1 ∧
      zeroAt k.par 7 1 = true ∧ 1 ≤ k.p16 4 ∧ k.p16 4 ≤ 1018) :=
  ⟨⟨ready_of (by decide +kernel), by decide +kernel⟩, ready_of (by decide +kernel), by decide +kernel⟩

theorem witness_Semaphores_free : Can (small true 1) (sealed 0x0101 [15, 0, 0, 0]) 0 none (fun k t => k.p8 0 < 16 ∧
    zeroAt k.par 1 1 = true ∧ k.p16 2 ≤ 1000 ∧ Tab.get t.cps.sems (k.p8 0) = none) :=
  ⟨ready_of (by decide +kernel), by decide +kernel⟩

theorem witness_Semaphores_held : Can (semHeld 0 .cp0 (small true 1)) (sealed 0x0101 [0, 0, 0, 0]) 0 none (fun k t => k.p8 0 < 16 ∧
      Tab.get t.cps.sems (k.p8 0) = some k.req) ∧
    Can (semHeld 0 .cp1 (small true 1)) (sealed 0x0101 [0, 0, 0, 0]) 0 none (fun k t => k.p16 2 = 0 ∧ Req.cp1 ≠ k.req ∧
      Tab.get t.cps.sems (k.p8 0) = some .cp1) ∧
    Can (semHeld 0 .cp1 (small true 1)) (sealed 0x0101 ([0, 0] ++ leBytes 2 1000)) 0 none (fun k t => k.p16 2 ≠ 0 ∧ k.p16 2 ≤ 1000 ∧
      Req.cp1 ≠ k.req ∧ Tab.get t.cps.sems (k.p8 0) = some .cp1) :=
  ⟨⟨ready_of (by decide +kernel), by decide +kernel⟩, ⟨ready_of (by decide +kernel), by decide +kernel⟩,
    ready_of (by decide +kernel), by decide +kernel⟩

theorem witness_Semaphores_release : Can (semHeld 1 .cp0 (small true 1)) (sealed 0x0102 [1, 0, 0, 0]) 0 none (fun k t => k.p8 0 < 16 ∧
      zeroAt k.par 1 3 = true ∧ Tab.get t.cps.sems (k.p8 0) = some k.req ∧ k.p8 0 ≠ 3 ∧ ∀ w ∈ t.cps.semWaits, w.sem ≠ k.p8 0) ∧
    Can (small true 1) (sealed 0x0102 [1, 0, 0, 0]) 0 none (fun k t => Tab.get t.cps.sems (k.p8 0) ≠ some k.req) :=
  ⟨⟨ready_of (by decide +kernel), by decide +kernel⟩, ready_of (by decide +kernel), by decide +kernel⟩

theorem witness_WaitsEnd : ∃ (s : State) (k : Pkt), running s = true ∧ (∃ w ∈ s.cps.semWaits, w.pkt = k) ∧ watchdogRuns s .cp0 = true :=
  ⟨{ semHeld 1 .cp0 (small true 1) with cps := { (semHeld 1 .cp0 (small true 1)).cps with
      semWaits := [⟨0, sealed 0x0101 [0, 0, 1, 0]⟩], liveStart := [(.cp0, 0)] } }, sealed 0x0101 [0, 0, 1, 0],
    by decide +kernel, by decide +kernel, by decide +kernel⟩

theorem witness_LivenessGroupsAndExports_liveness : Can (small true 1) (sealed 0x0109 [1, 0, 0, 0]) 0 none (fun _ _ => True) ∧
    Can (small true 1) (sealed 0x0104 (leBytes 2 100 ++ [0, 0])) 0 none (fun k _ => 100 ≤ u16 k.par 0 ∧ u16 k.par 0 ≤ 60000 ∧
      zeroAt k.par 2 2 = true ∧ k.req = .cp0) ∧
    Can (small false 1) { sealed 0x0104 (leBytes 2 60000 ++ [0, 0]) with req := .vc1 3 false, w2 := 5 } 0 none (fun k t => u16 k.par 0 ≤ 60000 ∧
      k.req = .vc1 3 false ∧ sender t = false) ∧
    Can (small true 1) (sealed 0x0104 (leBytes 2 99 ++ [0, 0])) 0 none (fun k _ => u16 k.par 0 < 100) :=
  ⟨⟨ready_of (by decide +kernel), trivial⟩, ⟨ready_of (by decide +kernel), by decide +kernel⟩,
    ⟨ready_of (by decide +kernel), by decide +kernel⟩, ready_of (by decide +kernel), by decide +kernel⟩

theorem witness_LivenessGroupsAndExports_windows : Can (small true 1) (sealed 0x0107 ([15, 1, 3, 1] ++ leBytes 2 0xFFF ++ leBytes 2 1 ++ leBytes 8 0 ++ leBytes 8 134217728)) 0 none
      (fun k t => k.p8 0 < 16 ∧ k.p8 1 ≤ 1 ∧ k.p8 2 ≤ 3 ∧ k.p16 4 ≤ 0xFFF ∧ 1 ≤ k.p16 6 ∧
        (k.p8 1 = 1 → k.p8 3 ≤ 1 ∧ (sender t = true ∨ k.p8 3 = 1) ∧ k.p64 8 + k.p64 16 ≤ 134217728)) ∧
    Can (small true 1) (sealed 0x0108 [15, 0, 0, 0]) 0 none (fun k _ => k.p8 0 < 16 ∧ zeroAt k.par 1 3 = true) ∧
    running (small true 1) = true :=
  ⟨⟨ready_of (by decide +kernel), by decide +kernel⟩, ⟨ready_of (by decide +kernel), by decide +kernel⟩, by decide +kernel⟩

/-- A sender with export window 2 over stage buffer 1, for any device. -/
def exporting : State := { small true 1 with cps := { (small true 1).cps with exports := [(2, ⟨1, 1, 3, 0xFFF, 0, 64⟩)] } }

/-- The parameters of a remote access to that window, with data to write. -/
def remotePar (data : List Byte) (n : Nat) : List Byte := [2, 0, 0, 0] ++ leBytes 8 4 ++ leBytes 4 n ++ data

theorem witness_RemoteAccess_read : Can exporting { sealed 0x0105 (remotePar [] 8) with req := .vc1 3 false, w2 := 0 } 8 none (fun k t => remoteOk k = true ∧
    (exportFor t k 0).any (fun w => w.space == 1) = true ∧ 8 = k.p32 12) :=
  ⟨ready_of (by decide +kernel), by decide +kernel⟩

theorem witness_RemoteAccess_write : Can exporting { sealed 0x0106 (remotePar [1, 2] 2) with req := .vc1 3 false, w2 := 0 } 0 none (fun k t =>
      remoteOk k = true ∧ (exportFor t k 1).any (fun w => w.space == 1) = true) ∧
    Can (small true 1) { sealed 0x0106 (remotePar [1, 2] 2) with req := .vc1 3 false, w2 := 0 } 0 none (fun k t => remoteOk k = true ∧
      exportFor t k 1 = none) ∧
    Can (small true 1) { sealed 0x0105 (remotePar [] 2) with req := .vc1 3 false, w2 := 0 } 0 none (fun k t => remoteOk k = true ∧
      exportFor t k 0 = none) :=
  ⟨⟨ready_of (by decide +kernel), by decide +kernel⟩, ⟨ready_of (by decide +kernel), by decide +kernel⟩,
    ready_of (by decide +kernel), by decide +kernel⟩

/-- A port whose link is UP, trained at full rate. -/
def upPort (p : Nat) (s : State) : State :=
  setF (setF s (R.TWL_LL_STATUS_LSTATE p) 3) (R.TWL_PHY_STATUS_PSTATE p) 3

/-- A tile with topology ports 0 and 1, port 0 being UP. -/
def tileUp (m : Nat) : State :=
  let t := upPort 0 (small false m)
  { t with twl := { t.twl with topo := [0, 1] } }

/-- A message to device 5 or, as a sender, to device 0. -/
def msgTo (dest mt vc : Nat) (payload : List Byte) : Msg :=
  { vc := vc, mtype := mt, dest := dest, src := 3, hopaddr := false, hops := 0, payload := payload }

/-- A CP1 packet for device 9 that a sender has forwarded under tag 7, resent n times. -/
def keeping (n : Nat) : State := { small true 1 with cps := { (small true 1).cps with
  fwd := [(7, ⟨{ plainPkt 0x0100 [] with req := .cp1, w2 := 9 }, n, false⟩)] } }

/-- The bytes of a final reply under tag 7 from device 9 without results. -/
def replyTag7 : List Byte := leBytes 4 0x2000100 ++ leBytes 4 7 ++ leBytes 4 9 ++ leBytes 4 0

theorem witness_RingRegisters : alive (small true 1) = true ∧ sender (small true 1) = true ∧ (2#32).toNat % 2 = 0 ∧ (0xFF01#32).toNat % 2 = 1 := by
  decide +kernel

/-- A sender whose rings are on, with one entry waiting. -/
def ringed : State :=
  let t := setF (setF (setF (setF (setF (small true 1) R.PCI_STATUS_LINK_UP 1) R.PCI_STATUS_BME 1) R.CPS_CQ_CTRL_ENABLE 1)
    R.CPS_RQ_CTRL_ENABLE 1) R.CPS_CQ_TAIL_TAIL 1
  { t with cps := { t.cps with cqLog := 2, rqLog := 2 } }

theorem witness_CommandEntryTaken : canFetch (small true 1) = false ∧ canFetch ringed = true := by decide +kernel

theorem witness_Cp1Fifos : ∃ s : State, inReset s = false ∧ mode s ≠ mBoot ∧ mode s ≠ mLockdown ∧ cp1Level s < 2048 ∧
    s.cps.cp1Cmd.length < 3 ∧ s.cps.cp1Cmd ≠ [] ∧ s.cps.cp1Rpl = [7#32] :=
  ⟨{ small true 1 with cps := { (small true 1).cps with cp1Cmd := [1], cp1Rpl := [7] } }, by decide +kernel⟩

theorem witness_Cp1Fifos_full : ∃ s : State, inReset s = false ∧ mode s ≠ mBoot ∧ mode s ≠ mLockdown ∧ 2048 ≤ cp1Level s ∧ s.cps.cp1Rpl = [] :=
  ⟨{ small true 1 with cps := { (small true 1).cps with cp1Cmd := List.replicate 2048 0 } }, by decide +kernel⟩

theorem witness_MessagesOfCommands : arrives (tileUp 1) 0 (msgTo 5 1 1 (zeros 32)) ∧ messageIn (.command 0 (msgTo 5 1 1 [])) = some (0, msgTo 5 1 1 []) ∧
    alive (tileUp 1) = true ∧ trafficPort (tileUp 1) 1 = true ∧ carries (tileUp 1) 1 (msgTo 5 1 1 []) = false ∧
    msgOk (msgTo 5 0 1 []) = false :=
  ⟨arrives_of (by decide +kernel), rfl, by decide +kernel⟩

theorem witness_OutstandingPackets_reply : ∃ (s : State) (e : Fwd), Tab.get s.cps.fwd (u32 replyTag7 4) = some e ∧ e.pkt.req = .cp1 ∧
    (u32 replyTag7 0).testBit 16 = false ∧ s.cps.mute.contains e.pkt = false ∧ s.cps.cp1Rpl.length +
      (wordsOf 2048 (replyBytes { s with cps := { s.cps with devnum := u32 replyTag7 8 % 4096 } } e.pkt 0
        (u32 replyTag7 8 / 65536) (sub replyTag7 16 (u32 replyTag7 12 % 8192)))).length ≤ 2048 :=
  ⟨keeping 0, ⟨{ plainPkt 0x0100 [] with req := .cp1, w2 := 9 }, 0, false⟩, by decide +kernel⟩

theorem witness_OutstandingPackets_timers : running (keeping 1) = true ∧
    Tab.get (keeping 1).cps.fwd 7 = some ⟨{ plainPkt 0x0100 [] with req := .cp1, w2 := 9 }, 1, false⟩ ∧
    Tab.get (keeping 2).cps.fwd 7 = some ⟨{ plainPkt 0x0100 [] with req := .cp1, w2 := 9 }, 2, false⟩ ∧
    ({ plainPkt 0x0100 [] with req := .cp1, w2 := 9 } : Pkt).quiet = false ∧ aggOf (keeping 1) (plainPkt 0x0100 []) = none ∧
    ({ plainPkt 0x0100 [] with w0 := 0x2020100 } : Pkt).quiet = true := by decide +kernel

theorem witness_OutstandingPackets_aggregate : ∃ (s : State) (a : Agg), running s = true ∧ Tab.get s.cps.aggs 7 = some a ∧
    s.cps.mute.contains a.pkt = false ∧ a.interim = [] :=
  ⟨{ small true 1 with cps := { (small true 1).cps with aggs := [(7, ⟨plainPkt 0x0100 [], [], []⟩)] } }, ⟨plainPkt 0x0100 [], [], []⟩,
    by decide +kernel⟩

/-- Envelopes are judged by opaque functions, so that only a refusal has a concrete witness: here MAGIC is missing. -/
theorem witness_EnvelopeVerification : ∃ (s : State) (k : Pkt), running s = true ∧ k.signed = true ∧ s.cps.held.contains k = true ∧
    releasedOf s k = none ∧ precheck s k = none ∧ replyFits s k 0 = true ∧ (envVerdict s k .dmaError).1 ≠ 0 :=
  ⟨{ small true 1 with cps := { (small true 1).cps with held := [sealed 0x0C08 []] } }, sealed 0x0C08 [], by decide +kernel⟩

/-! ### Witnesses: registers -/

theorem witness_RegisterWriteGate : regAddr 0x4 = some (0, 4) ∧ reaches (small true 7) 1 0 = true ∧ mode (small true 7) = mLockdown ∧
    mayAct (small true 1) 1 0 ∧ regAddr 0xFFFFFF = none :=
  ⟨by decide +kernel, by decide +kernel, by decide +kernel, may_of (by decide +kernel), by decide +kernel⟩

theorem witness_RegisterWriteGate_unreached : regAddr 0x4 = some (0, 4) ∧ reaches State.reset 1 0 = false ∨
    regAddr 0x4 = some (0, 4) ∧ reaches { State.reset with sys := { State.reset.sys with rst := { State.reset.sys.rst with porst := true } } } 0 0 = false := by
  decide +kernel

/-- A sender with its PCIe link up. -/
def linked : State := setF (small true 1) R.PCI_STATUS_LINK_UP 1

theorem witness_NarrowWrites : regAddr 4 = some (0, 4) ∧ regAddr 0x1C = some (0, 0x1C) ∧ mayAct linked 0 0 ∧
    sideEffect 0 0x1C = true ∧ (7#4) ≠ 15 ∧ sideEffect 0 4 = false :=
  ⟨by decide +kernel, by decide +kernel, may_of (by decide +kernel), by decide +kernel, by decide +kernel, by decide +kernel⟩

theorem witness_NarrowWrites_other : ∃ a b off, regAddr a = some (b, off) ∧ b ≠ 0 ∧ b ≠ 1 ∧ sideEffect b off = false ∧ mayAct linked 0 b :=
  ⟨11 * 0x10000 + 8, 11, 8, by decide +kernel, by decide +kernel, by decide +kernel, by decide +kernel, may_of (by decide +kernel)⟩

theorem witness_StoreTakesWritableBits : ∃ d, regDef R.SYS_SCRATCH = some d ∧ clampsOf R.SYS_SCRATCH = [] ∧ R.SYS_SCRATCH ≠ R.TNM_CTRL ∧
    ∀ f ∈ d.fields, f.lo ≤ f.hi ∧ f.hi < 32 := ⟨(regDef R.SYS_SCRATCH).get (by decide +kernel), by decide +kernel⟩

theorem witness_PairsAndAcknowledges_indirect : mayAct (small true 1) 1 1 ∧ indirectSize (indOf (small true 1) 1).block = 0 :=
  ⟨may_of (by decide +kernel), by decide +kernel⟩

/-- The pair of CP1 on block 11. -/
def indirect11 : State := indUpd 1 (fun x => { x with block := 11 }) (small true 1)

theorem witness_PairsAndAcknowledges_space : mayAct indirect11 1 1 ∧ mayAct indirect11 1 (indOf indirect11 1).block ∧
    indirectSize (indOf indirect11 1).block ≠ 0 := ⟨may_of (by decide +kernel), may_of (by decide +kernel), by decide +kernel⟩

theorem witness_PairsAndAcknowledges_latched : mayAct (small true 1) 2 10 ∧ (3 : Nat) < 4 := ⟨may_of (by decide +kernel), by decide⟩

theorem witness_PairsAndAcknowledges_ack : regAddr 0x24 = some (0, 0x24) ∧ hasKind (dirKey 0 0x24) (· == .ea) = true ∧ mayAct (small true 1) 1 0 ∧
    (ackSource (dirKey 0 0x24)).isSome = true :=
  ⟨by decide +kernel, by decide +kernel, may_of (by decide +kernel), by decide +kernel⟩

theorem witness_SystemRegisterWrites_locks : mayAct (small true 1) 1 0 ∧ (small true 1).sys.cfgLocked = 0 ∧ isSet (small true 1) R.SYS_CFG_LOCK_GPIO = false ∧
    mayAct (setF (small true 1) R.SYS_CFG_LOCK_GPIO 1) 1 0 ∧ isSet (setF (small true 1) R.SYS_CFG_LOCK_GPIO 1) R.SYS_CFG_LOCK_GPIO = true :=
  ⟨may_of (by decide +kernel), by decide +kernel, by decide +kernel, may_of (by decide +kernel), by decide +kernel⟩

theorem witness_SystemRegisterWrites_load : ∃ s, mayAct s 1 0 ∧ mode s = mBoot ∧ sender s = true ∧ getF s R.SYS_MODE_BOOT_SRC = 2 ∧
    s.upd.chosen = none ∧ 50331648 < R.SYS_LOAD_LEN.of 50331649 ∧ R.SYS_LOAD_LEN.of 50331648 ≤ 50331648 :=
  ⟨setF (small true 0) R.SYS_MODE_BOOT_SRC 2, may_of (by decide +kernel), by decide +kernel⟩

theorem witness_RegisterActions : mayAct (small true 1) 1 0 ∧ mayAct (small true 1) 1 2 ∧ mayAct (small true 1) 1 7 ∧ mayAct (small true 1) 1 10 ∧
    mayAct (small false 1) 1 12 ∧ isSet (small true 1) R.SYS_CFG_LOCK_PCI = false ∧ R.PCI_CTRL_RETRAIN.of (0xFFFFFFFF : Word) = 1 ∧
    R.CMP_PASS_MAX_CLEAR.of (0xFFFFFFFF : Word) = 1 ∧ R.DMK_AGE_CTRL_CKPT_NOW.of (0xFFFFFFFF : Word) = 1 ∧
    (R.TRIG_CTL_DISARM 15).of (0xFFFFFFFF : Word) = 1 ∧ running (small true 1) = true ∧ sender (small true 1) = true :=
  ⟨may_of (by decide +kernel), may_of (by decide +kernel), may_of (by decide +kernel), may_of (by decide +kernel),
    may_of (by decide +kernel), by decide +kernel⟩

theorem witness_RegisterActions_locked : ∃ s, mayAct s 1 2 ∧ isSet s R.SYS_CFG_LOCK_PCI = true :=
  ⟨setF (small true 1) R.SYS_CFG_LOCK_PCI 1, may_of (by decide +kernel), by decide +kernel⟩

theorem witness_TwillRegisterWrites : mayAct (small true 1) 1 23 ∧ mode (small true 1) ≠ mBoot ∧ mode (small true 1) ≠ mService ∧
    isSet (small true 1) (R.TWL_PHY_CTRL_TX_IDLE 7) = false ∧
    isSet (storeWord (R.TWL_PHY_CTRL 7) 0xFFFFFFFF (small true 1)) (R.TWL_PHY_CTRL_TX_IDLE 7) = true ∧
    (R.TWL_STEP_CMD_GO 7).of (0xFFFFFFFF : Word) = 1 ∧ getF (storeWord (R.TWL_STEP_CMD 7) 0 (small true 1)) (R.TWL_STEP_CMD_TARGET 7) ≤ 2 ∧
    (R.LANE_OVR_OVR_EN 7 3).of (0xFFFFFFFF : Word) = 1 ∧ (R.LANE_OVR_OVR_EN 7 3).of (0 : Word) = 0 ∧
    (R.LANE_INJ_INJ_MODE 7 3).of (0xFFFFFFFF : Word) ≠ 0 ∧ injAllowed (small true 1) 7 3 = false ∧
    (R.LANE_TEST_PARK_REQ 7 3).of (0xFFFFFFFF : Word) = 1 ∧ testAllowed (small true 1) 7 3 = false :=
  ⟨may_of (by decide +kernel), by decide +kernel⟩

theorem witness_TwillRegisterWrites_service : mayAct (small true 4) 1 16 ∧ mode (small true 4) = mService ∧
    getF (small true 4) (R.TWL_TEST_CTRL_LOOP 0) = 0 ∧
    getF (storeWord (R.TWL_TEST_CTRL 0) 0xFFFFFFFF (small true 4)) (R.TWL_TEST_CTRL_LOOP 0) ≠ 0 ∧
    getF (storeWord (R.TWL_TEST_CTRL 0) 0 (small true 4)) (R.TWL_TEST_CTRL_LOOP 0) = getF (small true 4) (R.TWL_TEST_CTRL_LOOP 0) :=
  ⟨may_of (by decide +kernel), by decide +kernel⟩

/-- A port in SERVICE whose test loop runs. -/
def looping : State := setF (setF (small true 4) (R.TWL_TEST_CTRL_LOOP 0) 1) (R.TWL_PHY_STATUS_PSTATE 0) 4

theorem witness_TwillRegisterWrites_tests : ∃ (s : State) (v w : Word), mayAct s 1 16 ∧ (R.LANE_INJ_INJ_MODE 0 0).of v = 1 ∧
    injAllowed s 0 0 = true ∧ (R.LANE_INJ_INJ_GO 0 0).of v = 1 ∧ (R.LANE_TEST_PARK_REQ 0 0).of w = 1 ∧ testAllowed s 0 0 = true ∧
    (R.LANE_TEST_CHK_PAT 0 0).of w = getF s (R.LANE_TEST_CHK_PAT 0 0) :=
  ⟨looping, 0x1000001, 0x100, may_of (by decide +kernel), by decide +kernel⟩

theorem witness_StrandControlWrite : mayAct (small false 1) 1 13 ∧ clkRuns (storeWord R.STR_CTRL 0 (small false 1)) = false :=
  ⟨may_of (by decide +kernel), by decide +kernel⟩

/-! ### Witnesses: ingest and surfaces -/

/-- A 64 by 64 surface of format T10 at a heap offset. -/
def surface64 (base : Nat) (latched : List Nat) : Surface :=
  { desc := zeros 4 ++ [2, 0, 0, 0] ++ leBytes 2 64 ++ leBytes 2 64 ++ [0, 0] ++ leBytes 2 2 ++ leBytes 8 base ++ zeros 40
    instanceNo := 1, alive := true, generation := 0, releasedGen := 0, tCap := 0, ntMapped := false, pub := [0, 0, 0]
    latched := latched, guardRefs := [], failed := [], unlatched := [] }

/-- A sender with two such surfaces, handles 0x1001 and 0x1002, and uploads and aperture enabled. -/
def withSurfaces : State :=
  let t := setF (setF (setF (small true 1) R.PCI_STATUS_LINK_UP 1) R.SRF_CTRL_UPLOAD_EN 1) R.SRF_CTRL_APERTURE_EN 1
  { t with srf := { t.srf with table := [(1, surface64 0 []), (2, surface64 16384 [])], heap := [(0, 4), (4, 4)] } }

/-- A flow of one leg into them: 64 by 64, 4:4:4 in 10 bits at 60 Hz, to 239.0.0.1 port 5000. -/
def flow64 : List Byte :=
  [63, 1, 96, 0] ++ leBytes 2 64 ++ leBytes 2 64 ++ [1, 10, 0, 1, 0, 0, 0, 0] ++ leBytes 4 60 ++ leBytes 4 1 ++ leBytes 2 100 ++ [2] ++ zeros 5 ++
    leBytes 4 0x1001 ++ leBytes 4 0x1002 ++ zeros 8 ++ ([0, 0, 0, 0, 0, 0] ++ leBytes 2 5000 ++ zeros 16 ++ [239, 0, 0, 1] ++ zeros 12) ++ zeros 40

/-- The sender receiving that flow. -/
def withFlow : State :=
  let t := setF withSurfaces (R.ING_F_STATE_STATE 63) 3
  { t with ing := { t.ing with flows := [(63, flowNew withSurfaces flow64)] }, eth := { t.eth with up := [0, 4], restarting := [1] } }

theorem witness_EthernetPorts : Can (small true 1) (sealed 0x0200 [1, 2, 15, 1]) 0 none (fun k t => k.p8 0 < 2 ∧ k.p8 1 < 3 ∧ k.p8 2 < 16 ∧
      k.p8 3 < 2 ∧ (8 ≤ k.p8 2 → k.p8 1 = 2) ∧ ∀ g ∈ allLegs t, u8 g 0 = k.p8 0 → u8 g 1 < cfgSubs (k.p8 1)) ∧
    Can (small true 1) (sealed 0x0201 ([1, 0, 0, 32] ++ [10, 0, 0, 1] ++ zeros 12)) 0 none (fun k t => k.p8 0 < 2 ∧ k.p8 1 < portSubs t (k.p8 0) ∧
      k.p8 2 = 0 ∧ k.p8 3 ≤ 32 ∧ zeroAt k.par 8 12 = true) ∧
    Can (small true 1) (sealed 0x0201 ([1, 0, 1, 128] ++ zeros 16)) 0 none (fun k _ => k.p8 2 = 1 ∧ k.p8 3 ≤ 128) ∧
    running withFlow = true ∧ withFlow.eth.restarting.contains 1 = true ∧ sender withFlow = true ∧ 0 < portSubs withFlow 1 ∧
    withFlow.eth.up.contains (1 * 4 + 0) = true ∧ withFlow.eth.up.contains (1 * 4 + 1) = false :=
  ⟨⟨ready_of (by decide +kernel), by decide +kernel⟩, ⟨ready_of (by decide +kernel), by decide +kernel⟩,
    ⟨ready_of (by decide +kernel), by decide +kernel⟩, by decide +kernel⟩

theorem witness_FlowsAndFrames_add : Can withSurfaces (sealed 0x0202 flow64) 0 none (fun k t => t.ing.flows.length < 64 ∧ flowCheck t k.par = 0 ∧
      Tab.get t.ing.flows (k.p8 0) = none) ∧
    Can withSurfaces (sealed 0x0203 (zeros 128)) 0 none (fun k t => flowCheck t k.par ≠ 0) :=
  ⟨⟨ready_of (by decide +kernel), by decide +kernel⟩, ready_of (by decide +kernel), by decide +kernel⟩

theorem witness_FlowsAndFrames_full : Can { withSurfaces with ing := { withSurfaces.ing with
      flows := (List.range 64).map (fun i => (i, flowNew withSurfaces flow64)) } } (sealed 0x0202 flow64) 0 none
    (fun _ t => 64 ≤ t.ing.flows.length) := ⟨ready_of (by decide +kernel), by decide +kernel⟩

theorem witness_FlowsAndFrames_held : Can withFlow (sealed 0x0203 flow64) 0 none (fun k t => flowCheck t k.par = 0 ∧
      (Tab.get t.ing.flows (k.p8 0)).isSome = true) ∧
    Can withFlow (sealed 0x0204 [63, 0, 0, 0]) 0 none (fun k t => k.p8 0 < 64 ∧ zeroAt k.par 1 3 = true ∧
      (Tab.get t.ing.flows (k.p8 0)).isSome = true) ∧
    Can withFlow (sealed 0x0205 [63, 0, 0, 0]) 128 none (fun k t => k.p8 0 < 64 ∧ zeroAt k.par 1 3 = true ∧
      (Tab.get t.ing.flows (k.p8 0)).any (fun f => f.desc.length == 128) = true) :=
  ⟨⟨ready_of (by decide +kernel), by decide +kernel⟩, ⟨ready_of (by decide +kernel), by decide +kernel⟩,
    ready_of (by decide +kernel), by decide +kernel⟩

theorem witness_FlowsAndFrames_timers : running withFlow = true ∧ (Tab.get withFlow.ing.flows 63).isSome = true ∧
    getF withFlow (R.ING_F_STATE_STATE 63) = 3 := by decide +kernel

/-- A frame of two legs whose end has been received. -/
def endedFrame : FrameRx := { desc := [0, 2], rtp := 0, rtp2 := none, buf := none, firstEsn := 0, lastEsn := 0, ends := 1, overOn := true, arrival := 0, runs := [] }

theorem witness_FlowsAndFrames_merge : ∃ (s : State) (fl : Flow), running s = true ∧ Tab.get s.ing.flows 0 = some fl ∧
    fl.frames.find? (fun f => f.overOn && u8 f.desc 1 == 2) = some endedFrame :=
  ⟨{ withSurfaces with ing := { withSurfaces.ing with flows := [(0, { flowNew withSurfaces flow64 with frames := [endedFrame] })] } },
    { flowNew withSurfaces flow64 with frames := [endedFrame] }, by decide +kernel⟩

theorem witness_FlowsAndFrames_frames : running withFlow = true ∧ sender withFlow = true ∧ withFlow.eth.up.contains (0 * 4 + 0) = true ∧
    (4 : Nat).testBit 2 = true ∧ (2 : Nat).testBit 2 = false ∧ (2 : Nat).testBit 1 = true ∧ (1 : Nat).testBit 0 = true ∧
    ethHead (zeros 12 ++ [0x88, 0xF7] ++ zeros 46) = (0, 0, 0x88F7, 14) ∧ (ethHead (zeros 9014)).1 ≤ 1 ∧ (zeros 9014).length + 4 ≤ 9018 ∧
    9022 < (zeros 9019).length + 4 := by decide +kernel

theorem witness_SurfaceCommands : Can withSurfaces (sealed 0x0302 (leBytes 4 0x1001)) 64 none (fun k t =>
      (surfOf t (k.p32 0)).any (fun x => (surfDesc t x.1 x.2).length == 64) = true) ∧
    Can withSurfaces (sealed 0x0303 (leBytes 4 0x1001 ++ [15, 4, 3, 0])) 0 none (fun k t => (surfOf t (k.p32 0)).isSome = true ∧
      k.p8 4 < 16 ∧ k.p8 5 < 5 ∧ k.p8 6 < 4 ∧ k.p8 7 = 0) ∧
    Can withSurfaces (sealed 0x0304 (leBytes 4 0x1001 ++ leBytes 4 1 ++ zeros 8)) 4 none (fun k t => k.p32 4 < 2 ∧
      (surfOf t (k.p32 0)).any (fun x => !publishBlocked t (k.p32 0) x.2) = true) ∧
    Can withSurfaces (sealed 0x0301 (leBytes 4 0x1001)) 0 none (fun k t => (surfOf t (k.p32 0)).any (fun x => x.2.latched.isEmpty) = true ∧
      ingestOwned t (k.p32 0) = false ∧ layerRefers t (k.p32 0) = false ∧ uploadPending t (k.p32 0) = false) :=
  ⟨⟨ready_of (by decide +kernel), by decide +kernel⟩, ⟨ready_of (by decide +kernel), by decide +kernel⟩,
    ⟨ready_of (by decide +kernel), by decide +kernel⟩, ready_of (by decide +kernel), by decide +kernel⟩

theorem witness_SurfaceCommands_used : Can withFlow (sealed 0x0301 (leBytes 4 0x1001)) 0 none (fun k t => ingestOwned t (k.p32 0) = true) ∧
    Can withFlow (sealed 0x0304 (leBytes 4 0x1002 ++ zeros 12)) 0 none (fun k t => k.p32 4 < 2 ∧
      (surfOf t (k.p32 0)).any (fun x => publishBlocked t (k.p32 0) x.2) = true) ∧
    Can { withSurfaces with srf := { withSurfaces.srf with table := [(1, surface64 0 [0])] } } (sealed 0x0301 (leBytes 4 0x1001)) 0 none
      (fun k t => (surfOf t (k.p32 0)).any (fun x => !x.2.latched.isEmpty) = true ∧ ingestOwned t (k.p32 0) = false ∧
        layerRefers t (k.p32 0) = false ∧ uploadPending t (k.p32 0) = false) :=
  ⟨⟨ready_of (by decide +kernel), by decide +kernel⟩, ⟨ready_of (by decide +kernel), by decide +kernel⟩,
    ready_of (by decide +kernel), by decide +kernel⟩

/-- The parameters of create-surface for a 16,384 by 1 surface of format T10. -/
def wideSurface : List Byte := zeros 4 ++ [2, 0, 4, 3] ++ leBytes 2 16384 ++ leBytes 2 1 ++ zeros 52

theorem witness_SurfaceCommands_create : Can (small true 1) (sealed 0x0300 wideSurface) 0 none
    (fun k t => surfCheck k.par = 0 ∧ (freeEntry t).isSome = true) := by
  refine ⟨ready_of (by decide +kernel), by decide +kernel, ?_⟩
  rw [freeEntry, List.find?_isSome]
  exact ⟨_, List.mem_map_of_mem (List.mem_range.2 (by decide : 0 < 4095)), rfl⟩

/-- The parameters of an upload of the whole surface 0x1001, published at its end. -/
def upload64 : List Byte := leBytes 4 0x1001 ++ [0, 1, 0, 0] ++ zeros 4 ++ leBytes 2 64 ++ leBytes 2 64 ++ zeros 8 ++ leBytes 4 256 ++ zeros 20

theorem witness_UploadsAndAperture : Can (setF (small true 1) R.SRF_CTRL_UPLOAD_EN 0) (sealed 0x0305 upload64) 0 none (fun _ t => isSet t R.SRF_CTRL_UPLOAD_EN = false) ∧
    Can withSurfaces (sealed 0x0305 upload64) 0 none (fun k t => isSet t R.SRF_CTRL_UPLOAD_EN = true ∧
      (surfOf t (k.p32 0)).any (fun x => uploadOk k.par x.2.desc) = true ∧ ingestOwned t (k.p32 0) = false ∧ t.srf.uploads.length ≤ 63 ∧
      t.srf.uploads = [] ∧ t.srf.running = false) :=
  ⟨⟨ready_of (by decide +kernel), by decide +kernel⟩, ready_of (by decide +kernel), by decide +kernel⟩

theorem witness_UploadsAndAperture_end : ∃ s x, running s = true ∧ s.srf.running = true ∧ s.srf.uploads = [x] ∧ u8 x.par 5 % 2 = 1 ∧
    (surfOf (uploadWrite x [] s) (u32 x.par 0)).isSome = true :=
  ⟨{ withSurfaces with srf := { withSurfaces.srf with running := true, uploads := [⟨sealed 0x0305 upload64, upload64⟩] } },
    ⟨sealed 0x0305 upload64, upload64⟩, by decide +kernel⟩

theorem witness_UploadsAndAperture_window : running withSurfaces = true ∧ sender withSurfaces = true ∧ isSet withSurfaces R.PCI_STATUS_LINK_UP = true ∧
    isSet withSurfaces R.SRF_CTRL_APERTURE_EN = true ∧ (1073741823 : Nat) < 1073741824 ∧ getF withSurfaces R.SRF_CTRL_BASE * 268435456 + 4 = 4 ∧
    heapUsed withSurfaces 4 = true ∧ inLatched withSurfaces 4 = false ∧ heapUsed withSurfaces 1073741823 = false ∧
    isSet linked R.SRF_CTRL_APERTURE_EN = false ∧ isSet linked R.PCI_STATUS_LINK_UP = true := by decide +kernel

theorem witness_SampleWidening : fSampling (zeros 64) = 0 ∧ (12, 16) ∈ [(8, 10), (8, 16), (10, 16), (12, 16)] ∧ 4095 < 2 ^ 12 ∧
    (8, 10) ∈ [(8, 10), (8, 16), (10, 16), (12, 16)] ∧ 255 < 2 ^ 8 := by decide +kernel

/-- A surface whose generation 5 is latched and not yet released. -/
def latchedSurface : State :=
  { withSurfaces with srf := { withSurfaces.srf with table := [(1, { surface64 0 [5] with generation := 5, releasedGen := 4 })] } }

theorem witness_PublishInUse : Can withFlow (sealed 0x0304 (leBytes 4 0x1002 ++ zeros 12)) 0 none (fun k t => k.p32 4 < 2 ∧
      (surfOf t (k.p32 0)).isSome = true ∧ ingestOwned t (k.p32 0) = true) ∧
    Can latchedSurface (sealed 0x0304 (leBytes 4 0x1001 ++ leBytes 4 1 ++ zeros 8)) 0 none (fun k t => k.p32 4 < 2 ∧
      (surfOf t (k.p32 0)).any (fun x => x.2.releasedGen != x.2.generation && !x.2.latched.isEmpty && x.2.desc.length == 64) = true) ∧
    Can latchedSurface (sealed 0x0305 upload64) 0 none (fun k t => isSet t R.SRF_CTRL_UPLOAD_EN = true ∧
      (surfOf t (k.p32 0)).any (fun x => uploadOk k.par x.2.desc) = true ∧ u8 k.par 5 % 2 = 1 ∧ t.srf.uploads = [] ∧
      t.srf.running = false) ∧
    Can { latchedSurface with srf := { latchedSurface.srf with uploads := [⟨sealed 0x0305 upload64, upload64⟩] } }
      (sealed 0x0305 upload64) 0 none (fun k t => t.srf.uploads = [⟨k, k.par⟩] ∧ t.srf.running = false) :=
  ⟨⟨ready_of (by decide +kernel), by decide +kernel⟩, ⟨ready_of (by decide +kernel), by decide +kernel⟩,
    ⟨ready_of (by decide +kernel), by decide +kernel⟩, ready_of (by decide +kernel), by decide +kernel⟩
/-! ### Witnesses: composition, colour and cells -/

theorem bulk_of {k : Pkt} {f : Fetch} {d : List Byte} {off n : Nat} {s : State} (h : decide (d.length < n) = false) :
    bulk k f (some d) off n s = .ok d := if_neg (of_decide_eq_false h)

theorem ok_of {α : Type} {e : Except Nat α} (h : e.toBool = true) : ∃ u, e = .ok u := by
  cases e with
  | ok u => exact ⟨u, rfl⟩
  | error n => cases h

/-- The parameters of set-layer for layer 23: one pixel of surface 0x1001, at the widest placement to the lower right. -/
def layer23 (w h : Nat) (x : Nat) : List Byte :=
  [23, 0, 2, 0] ++ leBytes 4 0x1001 ++ zeros 4 ++ leBytes 2 w ++ leBytes 2 h ++ leBytes 4 x ++ leBytes 4 0 ++ leBytes 4 w ++ leBytes 4 h ++
    [0, 0, 31, 0] ++ zeros 28

/-- One row of 64 phases: a single tap of weight 1. -/
def bank1024 : List Byte := (List.replicate 64 (leBytes 2 1024 ++ zeros 14)).flatten ++ (List.replicate 64 (leBytes 2 1024 ++ zeros 10)).flatten

theorem drop_rows (x t : List Byte) : ∀ n k : Nat, k ≤ n →
    ((List.replicate n x).flatten ++ t).drop (k * x.length) = (List.replicate (n - k) x).flatten ++ t
  | n, 0, _ => by simp
  | n + 1, k + 1, h => by
    rw [List.replicate_succ, List.flatten_cons, List.append_assoc, Nat.add_mul, Nat.one_mul, Nat.add_comm (k * _), ← List.drop_drop,
      List.drop_left, drop_rows x t n k (by omega), Nat.add_sub_add_right]

/-- The fields of a row of equal rows are those of the row. -/
theorem row_field (x t : List Byte) {n p k : Nat} (hp : p < n) (hk : k + 2 ≤ x.length) :
    u16 ((List.replicate n x).flatten ++ t) (p * x.length + k) = u16 x k := by
  have h : n - p = (n - p - 1) + 1 := by omega
  simp only [leAt, sub]
  rw [← List.drop_drop, drop_rows x t n p (by omega), h, List.replicate_succ, List.flatten_cons, List.append_assoc,
    List.drop_append_of_le_length (by omega), List.take_append_of_le_length (by simp; omega)]

theorem bank1024_ok : bankOk bank1024 = true := by
  have hh : ∀ p k, p < 64 → k < 8 → bankCoef bank1024 false p k = if k = 0 then 1024 else 0 := by
    intro p k hp hk
    have e : 2 * (8 * p + k) = p * (leBytes 2 1024 ++ zeros 14).length + 2 * k := by
      rw [show (leBytes 2 1024 ++ zeros 14).length = 16 from rfl]; omega
    rw [bankCoef, if_neg Bool.false_ne_true, e, bank1024,
      row_field _ _ hp (by rw [show (leBytes 2 1024 ++ zeros 14).length = 16 from rfl]; omega)]
    exact (by decide +kernel : ∀ k, k < 8 → signed 16 (u16 (leBytes 2 1024 ++ zeros 14) (2 * k)) = if k = 0 then 1024 else 0) k hk
  have hv : ∀ p k, p < 64 → k < 6 → bankCoef bank1024 true p k = if k = 0 then 1024 else 0 := by
    intro p k hp hk
    have e : p * 12 + 2 * k = p * (leBytes 2 1024 ++ zeros 10).length + 2 * k := rfl
    have d : bank1024.drop 1024 = (List.replicate 64 (leBytes 2 1024 ++ zeros 10)).flatten ++ [] := by
      rw [bank1024, List.append_nil]
      exact List.drop_left' (by decide +kernel)
    rw [bankCoef, if_pos rfl]
    simp only [leAt, sub]
    rw [show 1024 + 2 * (6 * p + k) = 1024 + (p * 12 + 2 * k) by omega, ← List.drop_drop, d, e]
    refine (congrArg (signed 16) (row_field (leBytes 2 1024 ++ zeros 10) [] hp (k := 2 * k) ?_)).trans ?_
    · rw [show (leBytes 2 1024 ++ zeros 10).length = 12 from rfl]; omega
    · exact (by decide +kernel : ∀ k, k < 6 → signed 16 (u16 (leBytes 2 1024 ++ zeros 10) (2 * k)) = if k = 0 then 1024 else 0) k hk
  have a : ∀ p, p < 64 → (List.range 8).map (fun k => bankCoef bank1024 false p k) = [1024, 0, 0, 0, 0, 0, 0, 0] := by
    intro p hp
    rw [List.map_congr_left (g := fun k => if k = 0 then 1024 else 0) (fun k hk => hh p k hp (List.mem_range.1 hk))]
    rfl
  have b : ∀ p, p < 64 → (List.range 6).map (fun k => bankCoef bank1024 true p k) = [1024, 0, 0, 0, 0, 0] := by
    intro p hp
    rw [List.map_congr_left (g := fun k => if k = 0 then 1024 else 0) (fun k hk => hv p k hp (List.mem_range.1 hk))]
    rfl
  simp only [bankOk, Bool.and_eq_true, List.all_eq_true, List.mem_range]
  constructor
  · intro p hp; rw [a p hp]; decide
  · intro p hp; rw [b p hp]; decide

/-- A colour profile of Table 6.3 at its lower limits: 1 nit, 100, 1 and unspecified peaks. -/
def profile31 : List Byte := [31, 2, 0xFF, 0xFF, 2, 1, 1, 0] ++ leBytes 4 0x3F800000 ++ leBytes 4 0x42C80000 ++ leBytes 4 0x3F800000 ++ zeros 44

theorem witness_ShadowWrites : Can withSurfaces (sealed 0x0400 (layer23 64 64 65535)) 0 none (fun k t => layerStatic k.par = true ∧
      ∀ q, layerSource t k.par = some q → layerFits k.par q = true) ∧
    Can (small true 1) (sealed 0x0401 (zeros 28)) 0 none (fun k _ => zeroAt k.par 1 3 = true ∧ k.p8 0 = 0) ∧
    Can (small true 1) (sealed 0x0401 ([1, 0, 0, 0] ++ (List.range 24).reverse.map (BitVec.ofNat 8))) 0 none (fun k _ => zeroAt k.par 1 3 = true ∧
      k.p8 0 = 1 ∧ ∀ i, i < 24 → ∃ b ∈ sub k.par 4 24, b.toNat = i) ∧
    Can (small true 1) (sealed 0x0402 (leBytes 8 0xFBFF)) 0 none (fun k _ => ∀ i, i < 4 → k.p16 (2 * i) / 1024 % 32 ≠ 31) ∧
    Can (small true 1) (sealed 0x0402 (leBytes 8 0x7C00)) 0 none (fun k _ => ∃ i, i < 4 ∧ k.p16 (2 * i) / 1024 % 32 = 31) := by
  refine ⟨⟨ready_of (by decide +kernel), by decide +kernel, ?_⟩, ⟨ready_of (by decide +kernel), by decide +kernel⟩,
    ⟨ready_of (by decide +kernel), by decide +kernel⟩, ⟨ready_of (by decide +kernel), by decide +kernel⟩, ready_of (by decide +kernel), 0, by decide +kernel⟩
  have h : (layerSource (begun (sealed 0x0400 (layer23 64 64 65535)) none withSurfaces) (sealed 0x0400 (layer23 64 64 65535)).par).all
      (layerFits (sealed 0x0400 (layer23 64 64 65535)).par) = true := by decide +kernel
  intro q hq
  simpa [hq] using h

theorem bank1024_len : decide (bank1024.length < 1792) = false := by decide +kernel

theorem witness_ShadowWrites_bank : Can (small true 1) (sealed 0x0403 (([3, 0, 0, 0] : List Byte) ++ zeros 16)) 0 (some bank1024)
    (fun k t => k.p8 0 < 4 ∧ zeroAt k.par 1 3 = true ∧ bankOk (bank1024.take 1792) = true ∧
      bulk k (.data []) (some bank1024) 4 1792 t = .ok bank1024) :=
  ⟨ready_of (by decide +kernel), by decide +kernel, by decide +kernel,
    by rw [List.take_of_length_le (by decide +kernel)]; exact bank1024_ok, bulk_of bank1024_len⟩

theorem witness_ShadowWrites_data : Can (small true 1) (sealed 0x0404 (zeros 20)) 0 none (fun k _ => k.p8 0 < 2 ∧ zeroAt k.par 1 3 = true) ∧
    Can (small true 1) (sealed 0x0405 ([1, 0, 0, 0] ++ zeros 12)) 0 none (fun k _ => k.p8 0 < 2 ∧ zeroAt k.par 3 1 = true ∧ zeroAt k.par 6 2 = true) ∧
    Can (small true 1) (sealed 0x0501 profile31) 0 none (fun k _ => profileOk k.par = true) ∧
    Can (small true 1) (sealed 0x0502 (leBytes 2 0 ++ leBytes 2 0x20)) 0 none (fun k _ => 0x20 ≤ k.p16 2 ∧ k.p16 2 ≤ 0x8000) ∧
    Can (small true 1) (sealed 0x0502 (leBytes 2 0 ++ leBytes 2 0x8001)) 0 none (fun k _ => 0x8000 < k.p16 2) ∧
    Can (small true 1) (sealed 0x0503 ([2, 0, 0, 0] ++ (leBytes 4 1 ++ leBytes 2 0 ++ [0, 0]) ++ (leBytes 4 0xFFFFFFFF ++ leBytes 2 0x8000 ++ [0, 0]))) 0 none
      (fun k _ => 2 ≤ k.p8 0 ∧ k.p8 0 ≤ 16 ∧ zeroAt k.par 1 3 = true ∧ (∀ i, i < k.p8 0 → k.p16 (10 + 8 * i) = 0) ∧
        curveRises ((List.range (k.p8 0)).map (fun i => (k.p32 (4 + 8 * i), k.p16 (8 + 8 * i)))) = true ∧
        ∀ e ∈ (List.range (k.p8 0)).map (fun i => (k.p32 (4 + 8 * i), k.p16 (8 + 8 * i))), e.2 ≤ 0x8000) :=
  ⟨⟨ready_of (by decide +kernel), by decide +kernel⟩,
    ⟨ready_of (by decide +kernel), by decide +kernel⟩, ⟨ready_of (by decide +kernel), by decide +kernel⟩,
    ⟨ready_of (by decide +kernel), by decide +kernel⟩, ⟨ready_of (by decide +kernel), by decide +kernel⟩,
    ready_of (by decide +kernel), by decide +kernel⟩

theorem witness_Commits : Can (small true 1) (sealed 0x0406 (leBytes 4 5 ++ zeros 8)) 0 none (fun k t => k.p32 0 ≠ 0 ∧
      k.p32 0 ≠ getF t R.CMP_SHADOW_SEQ_SEQ) ∧
    Can (small true 1) (sealed 0x0504 (leBytes 4 5 ++ zeros 8)) 0 none (fun k t => k.p32 0 ≠ 0 ∧ k.p32 0 ≠ getF t R.TNM_SHADOW_SEQ_SEQ) ∧
    Can (small true 1) (sealed 0x0406 (zeros 12)) 8 none (fun k t => k.p32 0 = 0 ∧ k.p32 4 = 0 ∧
      commitCheck t { t.cmp.shadow with seq := getF t R.CMP_SHADOW_SEQ_SEQ } = 0 ∧
      placeCommit t none (t.cmp.pendings.map (fun p => (p.due, p.locked))) = .ok (none, none)) ∧
    Can (small true 1) (sealed 0x0504 (zeros 12)) 8 none (fun k t => k.p32 0 = 0 ∧ k.p32 4 = 0 ∧
      dstPeaksOk t { t.tnm.shadow with seq := getF t R.TNM_SHADOW_SEQ_SEQ } = true ∧
      placeCommit t none (t.tnm.pendings.map (fun p => (p.due, p.locked))) = .ok (none, none)) :=
  ⟨⟨ready_of (by decide +kernel), by decide +kernel⟩, ⟨ready_of (by decide +kernel), by decide +kernel⟩,
    ⟨ready_of (by decide +kernel), by decide +kernel, by decide +kernel, by decide +kernel, rfl⟩,
    ready_of (by decide +kernel), by decide +kernel, by decide +kernel, by decide +kernel, rfl⟩

theorem witness_Commits_wrong : ∃ s, Can s (sealed 0x0406 (zeros 12)) 0 none (fun k t => k.p32 0 = 0 ∧ k.p32 4 = 0 ∧
    commitCheck t { t.cmp.shadow with seq := getF t R.CMP_SHADOW_SEQ_SEQ } ≠ 0) :=
  ⟨{ small true 1 with cmp := { (small true 1).cmp with shadow := { (small true 1).cmp.shadow with layers := [(23, (layer23 64 64 0).set 1 1)] } } },
    ready_of (by decide +kernel), by decide +kernel⟩

/-- A sender in a mode, with WT locked and frames of 60 Hz from frame 7 at WT 0. -/
def timed (m : Nat) : State :=
  let t := setF withSurfaces R.TIM_STATUS_WT_STATE 2
  let u := setF t R.SYS_MODE_MODE m
  { u with tim := { u.tim with params := some ⟨1, 60, 1, 7, 0, 16, 0, 0, 0⟩ } }

theorem witness_Commits_boundary : hasBoundaries (timed 2) = true := by decide +kernel

theorem witness_PassEvents : ∃ (s : State) (a : LayerAct) (l : Latch) (p : Pass), hasBoundaries s = true ∧ running s = true ∧
    Tab.get s.cmp.acts 23 = some a ∧ a.checking = some l ∧ s.cmp.guardLeft.contains 23 = false ∧ guardHolds s l = true ∧
    isSet s R.CMP_STATUS_GUARD_WAIT = true ∧ s.cmp.pass = some p ∧ p.todo[3]? = some (1, 1) :=
  ⟨{ setF (timed 2) R.CMP_STATUS_GUARD_WAIT 1 with cmp := { (timed 2).cmp with
      acts := [(23, ⟨layer23 64 64 0, none, none, some ⟨1, 0x1001, 0, 0, []⟩, false, false⟩)]
      pass := some ⟨7, [(0, 0), (1, 0), (0, 1), (1, 1)], 0, [], none, none⟩ } },
    ⟨layer23 64 64 0, none, none, some ⟨1, 0x1001, 0, 0, []⟩, false, false⟩, ⟨1, 0x1001, 0, 0, []⟩,
    ⟨7, [(0, 0), (1, 0), (0, 1), (1, 1)], 0, [], none, none⟩, by decide +kernel⟩

theorem witness_PassEvents_end : ∃ (s : State) (p : Pass), running s = true ∧ s.cmp.pass = some p ∧ p.todo = [] :=
  ⟨{ timed 2 with cmp := { (timed 2).cmp with pass := some ⟨7, [], 0, [], none, none⟩ } }, ⟨7, [], 0, [], none, none⟩, by decide +kernel⟩

/-- Wall settings of 100 nits (the least) and 20,000 (the most) in a standard gamut. -/
def wall (n g : Nat) : List Byte := leBytes 2 n ++ [BitVec.ofNat 8 g, 0] ++ zeros 12

theorem witness_WallAndAmbient : Can (small true 1) (sealed 0x0500 (wall 20000 2)) 0 none (fun k t => wallOk k.par = true ∧ t.cel.slots = []) ∧
    Can (small true 1) (sealed 0x0500 (wall 99 0)) 0 none (fun k _ => wallOk k.par = false) ∧
    Can (small false 1) (sealed 0x0505 (zeros 4)) 0 none (fun k _ => k.p8 0 = 0 ∧ zeroAt k.par 1 3 = true) ∧
    Can (small false 1) (sealed 0x0505 ([1, 0, 0, 0] ++ [127, 1, 1, 0] ++ leBytes 4 65536)) 0 none (fun k _ => k.p8 0 = 1 ∧
      zeroAt k.par 1 3 = true ∧ k.p8 4 < 128 ∧ k.p8 6 < 2 ∧ k.p8 7 = 0) :=
  ⟨⟨ready_of (by decide +kernel), by decide +kernel, rfl⟩, ⟨ready_of (by decide +kernel), by decide +kernel⟩,
    ⟨ready_of (by decide +kernel), by decide +kernel⟩, ready_of (by decide +kernel), by decide +kernel⟩

theorem witness_WallAndAmbient_samples : ∃ (s u : State) (e : List Byte), running s = true ∧ sender s = false ∧ s.tnm.sensors = [e] ∧
    luxOf e none = none ∧ luxOf e (some [0xFF, 0xFF]) = none ∧ luxOf e (some [0, 1]) = some 65536 ∧ s.tnm.level = none ∧ upstreamUp s = none ∧
    running u = true ∧ sender u = true ∧ ctrlBits u 3 1 ≠ 0 ∧ ctrlBits (timed 2) 3 1 = 0 :=
  ⟨{ small false 1 with tnm := { (small false 1).tnm with sensors := [[127, 1, 1, 0] ++ leBytes 4 65536] } },
    { timed 2 with tnm := { (timed 2).tnm with ctrl := 8 } }, [127, 1, 1, 0] ++ leBytes 4 65536, by decide +kernel⟩

/-- A map of one slot: device 0xFFE at position 1 of port 7, 16 by 16 pixels of the wall's corner, on feed 255. -/
def map1 : List Byte :=
  leBytes 4 0x4D474E47 ++ leBytes 2 1 ++ leBytes 2 1 ++ zeros 4 ++ leBytes 4 16 ++ leBytes 4 16 ++ zeros 44 ++
    (List.replicate 7 ([0, 0xFF, 0, 0, 0, 0, 0, 0] : List Byte)).flatten ++ [1, 0xFF, 1, 0, 0, 0, 0, 0] ++
    (leBytes 2 0xFFE ++ [7, 1, 255, 3, 0, 0] ++ leBytes 2 0 ++ leBytes 2 0 ++ leBytes 2 16 ++ leBytes 2 16 ++ zeros 16)

/-- A state that has loaded that map. -/
def mapLoaded (m : List Byte) (s : State) : State := { s with cel := { s.cel with loaded := some m } }

theorem witness_MapsAndCells : Can (small true 1) (sealed 0x0600 (zeros 16)) 0 (some map1) (fun k t => bulk k (.data []) (some map1) 0 1 t = .ok map1) ∧
    Can (small true 1) (sealed 0x0601 []) 0 none (fun _ t => t.cel.loaded = none) ∧
    Can (mapLoaded [1] (small true 1)) (sealed 0x0601 []) 0 none (fun _ t => t.cel.loaded = some [1] ∧ mapOk t [1] = false) ∧
    Can (mapLoaded map1 (small true 1)) (sealed 0x0601 []) 4 none (fun _ t => t.cel.loaded = some map1 ∧ mapOk t map1 = true ∧ mode t ≠ mShow) ∧
    Can (mapLoaded map1 (timed 2)) (sealed 0x0601 []) 4 none (fun _ t => mapOk t map1 = true ∧ mode t = mShow ∧ hasBoundaries t = true) ∧
    Can (small true 1) (sealed 0x0602 (zeros 16)) 0 none (fun _ t => mapValid t = false) :=
  ⟨⟨ready_of (by decide +kernel), bulk_of (by decide +kernel)⟩, ⟨ready_of (by decide +kernel), by decide +kernel⟩, ⟨ready_of (by decide +kernel), by decide +kernel⟩,
    ⟨ready_of (by decide +kernel), by decide +kernel⟩, ⟨ready_of (by decide +kernel), by decide +kernel⟩,
    ready_of (by decide +kernel), by decide +kernel⟩

/-- The sender with that map in force and its slot in a state. -/
def mapped (m st n : Nat) : State :=
  let t := setF (setF (setF (timed m) R.CEL_STATUS_MAP_VALID 1) (R.CEL_S_W0_STATE 0) st) (R.CEL_S_W0_ROUTE 0) 7
  { t with cel := { t.cel with header := map1.take 128, slots := [(0, ⟨map1.drop 128, n, false, false, false, none⟩)] } }

theorem witness_MapsAndCells_get : ∃ u, Can (mapped 1 2 0) (sealed 0x0602 (leBytes 2 0x1FFF ++ [1, 0] ++ leBytes 4 160 ++ leBytes 8 0)) 4 none
    (fun k t => mapValid t = true ∧ refWrite t (refAt k.par 0) (mapBytes t) (.data []) = .ok u) :=
  have ⟨u, h⟩ := ok_of (by decide +kernel)
  ⟨u, ready_of (by decide +kernel), by decide +kernel, h⟩

theorem witness_MapsAndCells_queue : Can (small true 1) (sealed 0x0E00 (leBytes 2 255 ++ leBytes 2 4095)) 
      (qBytes (qDesc (small true 1) 255 4095)).length none (fun k t => k.p16 0 < 256 ∧ k.p16 2 < 4096 ∧
        (qBytes (qDesc (small true 1) 255 4095)).length = (qBytes (qDesc t (k.p16 0) (k.p16 2))).length) :=
  ⟨ready_of (by decide +kernel), by decide +kernel⟩

/-- The first of the descriptors of two queued cells of a served slot. -/
def queued (m : Nat) : State :=
  let t := setF (setF (mapped m 2 0) R.CEL_CTRL_LAUNCH_EN 1) (R.TWL_LL_STATUS_LSTATE 7) 3
  { t with cel := { t.cel with queues := [(0, ⟨0, 0, true, [⟨1, false, false, 0, 8, 0, [1]⟩]⟩)] } }

theorem witness_MapsAndCells_launch : ∃ e, sender (queued 2) = true ∧ mode (queued 2) ≠ mHold ∧ isSet (queued 2) R.CEL_CTRL_LAUNCH_EN = true ∧
    linkUp (queued 2) 7 = true ∧ nextLaunch (queued 2) 7 = some e :=
  ⟨(0, 0, 0, ⟨1, false, false, 0, 8, 0, [1]⟩), by decide +kernel⟩

theorem witness_MapsAndCells_notices : ∀ n ∈ [1, 3, 4], running (mapped 1 1 n) = true ∧ slotState (mapped 1 1 n) 0 = 1 ∧
    Tab.get (mapped 1 1 n).cel.slots 0 = some ⟨map1.drop 128, n, false, false, false, none⟩ := by decide +kernel

/-- A tile served and with a 16 by 16 module, whose one cell shows a version. -/
def showing : State :=
  let t := setF (small false 1) R.CEL_T_STATUS_SERVED 1
  { t with dmk := { t.dmk with oldGeom := some (16, 16) }, celT := { t.celT with shown := [(0, ⟨1, 2, [3], 4⟩)] } }

theorem witness_MapsAndCells_cell : Can showing (sealed 0x0E02 (leBytes 2 0 ++ [0, 0])) 17 none (fun k t => k.p16 0 < tileCells t ∧ k.p8 2 = 0 ∧
      k.p8 3 = 0 ∧ Tab.get t.celT.shown (k.p16 0) = some ⟨1, 2, [3], 4⟩) ∧
    running showing = true ∧ isSet showing R.CEL_T_STATUS_SERVED = true ∧ isSet (small false 1) R.CEL_T_STATUS_SERVED = false :=
  ⟨⟨ready_of (by decide +kernel), by decide +kernel⟩, by decide +kernel⟩

/-! ### Witnesses: Twill -/

/-- Port 7 of a sender in a physical and a link state. -/
def portIn (ps ls : Nat) : State := setF (setF (small true 1) (R.TWL_PHY_STATUS_PSTATE 7) ps) (R.TWL_LL_STATUS_LSTATE 7) ls

/-- The same with the port's own state changed. -/
def portWith (ps ls : Nat) (f : Port → Port) : State := portUpd 7 f (portIn ps ls)

/-- The first 20 bytes of a training block from port 7 for lane 3, at full rate. -/
def block : List Byte :=
  let h : List Byte := [63, 0, 15, 0] ++ leBytes 2 0 ++ leBytes 4 1
  [0xE7, 0x3A, 0x1C, 0x5B, 0xE7, 0x3A, 0x1C, 0x5B] ++ h ++ leBytes 2 (crc16 h)

theorem witness_TwillPhysicalLayer_lanes : alive (portIn 3 3) = true ∧ pstate (portIn 3 3) 7 = 3 ∧ isSet (portIn 3 3) (R.LANE_W0_LOS 7 3) = false ∧
    pstate (portIn 2 0) 7 ≠ 3 ∧ pstate (portIn 2 0) 7 ≠ 0 ∧ blockGood block = true ∧
    isSet (portIn 2 0) (R.TWL_PHY_STATUS_CLK_LOL 7) = false ∧ isSet (portIn 2 0) (R.LANE_W0_PARKED 7 3) = false ∧
    getF (setF (portIn 3 3) (R.LANE_TEST_CHK_PAT 7 3) 1) (R.LANE_TEST_CHK_PAT 7 3) ≠ 0 ∧
    isSet (setF (portIn 3 3) (R.LANE_W0_CHK_LOCK 7 3) 1) (R.LANE_W0_CHK_LOCK 7 3) = true := by decide +kernel

theorem witness_TwillPhysicalLayer_calibration : ∃ (s u v : State) (a : Nat × Int × Int × Int), (laneOf s 7 3).calibrating = true ∧
    (laneOf s 7 3).runs = [] ∧ (laneOf u 7 3).calibrating = true ∧ (laneOf u 7 3).runs = [some a] ∧ runsAgree u 7 (some a) (some a) = true ∧
    (laneOf v 7 3).retry = true ∧ (laneOf v 7 3).calibrated = false :=
  ⟨laneUpd 7 3 (fun x => { x with calibrating := true }) (portIn 3 1),
    laneUpd 7 3 (fun x => { x with calibrating := true, runs := [some (31, -5, 0, 5)] }) (portIn 3 1),
    laneUpd 7 3 (fun x => { x with retry := true }) (portIn 3 1), (31, -5, 0, 5), by decide +kernel⟩

theorem witness_TwillPhysicalLayer_port : pstate (portIn 2 0) 7 = 2 ∧ pstate (portIn 1 0) 7 = 1 ∧ pstate (portIn 4 0) 7 = 4 ∧
    isSet (setF (portIn 1 0) (R.LANE_W0_LOS 7 4) 1) (R.LANE_W0_LOS 7 4) = true ∧ stepOfHz 6647265625 = some 0 ∧ stepOfHz 6647265626 = none ∧
    getF (portIn 2 0) (R.TWL_PHY_STATUS_RATE 7) = 0 := by decide +kernel

theorem witness_TwillPhysicalLayer_commands : Can (portIn 3 3) (sealed 0x0700 [7, 0, 0, 0]) 4 none (fun k _ => zeroAt k.par 2 2 = true ∧ k.p8 0 < 8 ∧ k.p8 1 = 0) ∧
    Can (portIn 3 3) (sealed 0x0700 [8, 0, 0, 0]) 0 none (fun k _ => zeroAt k.par 2 2 = true ∧ 8 ≤ k.p8 0) ∧
    Can (portIn 3 3) (sealed 0x0700 [7, 15, 0, 0]) 0 none (fun k _ => zeroAt k.par 2 2 = true ∧ k.p8 0 < 8 ∧ 1 ≤ k.p8 1 ∧ k.p8 1 < 16) ∧
    Can (portIn 3 3) (sealed 0x0702 [7, 2, 0, 0]) 0 none (fun k t => zeroAt k.par 2 2 = true ∧ k.p8 0 < 8 ∧ k.p8 1 < 3 ∧ lstate t (k.p8 0) = 3) ∧
    Can (portIn 1 0) (sealed 0x0702 [7, 2, 0, 0]) 0 none (fun k t => k.p8 0 < 8 ∧ k.p8 1 < 3 ∧ lstate t (k.p8 0) ≠ 3) :=
  ⟨⟨ready_of (by decide +kernel), by decide +kernel⟩, ⟨ready_of (by decide +kernel), by decide +kernel⟩,
    ⟨ready_of (by decide +kernel), by decide +kernel⟩, ⟨ready_of (by decide +kernel), by decide +kernel⟩,
    ready_of (by decide +kernel), by decide +kernel⟩

theorem witness_TwillLinkLayer_flits : alive (portIn 3 1) = true ∧ lstate (portIn 3 1) 7 = 1 ∧ lstate (portIn 3 4) 7 = 4 ∧
    u8 ([0, 15, 15, 15] : List Byte) 1 % 16 ≠ 0 ∧ u8 ([0, 2] : List Byte) 1 ≤ 2 ∧ 2 < u8 ([0, 3] : List Byte) 1 ∧
    (portOf (portWith 3 3 (fun q => { q with out := 15 })) 7).out ≠ 0 ∧ pstate (portIn 3 3) 7 = 3 ∧ (zeros 64).length = 64 := by decide +kernel

theorem witness_TwillLinkLayer_timers : (∀ n ∈ [6, 7], alive (portWith 3 3 (fun q => { q with timeouts := n })) = true ∧
      isSet (setF (portWith 3 3 (fun q => { q with timeouts := n })) (R.TWL_LL_STATUS_RETRYING 7) 1) (R.TWL_LL_STATUS_RETRYING 7) = true ∧
      (portOf (setF (portWith 3 3 (fun q => { q with timeouts := n })) (R.TWL_LL_STATUS_RETRYING 7) 1) 7).timeouts = n) ∧
    (portOf (portWith 3 3 (fun q => { q with replay := [⟨0, 1, true, false, false, []⟩] })) 7).replay ≠ [] ∧
    lstate (portIn 3 3) 7 ≠ 5 ∧ lstate (portIn 3 5) 7 = 5 ∧ isSet (setF (portIn 3 3) (R.TWL_LL_CTRL_AUTO_STEP 7) 1) (R.TWL_LL_CTRL_AUTO_STEP 7) = true ∧
    getF (portIn 3 3) (R.TWL_PHY_STATUS_RATE 7) < 2 := by decide +kernel

theorem witness_TwillLinkLayer_stepUp : ∃ s, alive s = true ∧ lstate s 7 = 3 ∧ getF s (R.TWL_LL_CTRL_STEP_UP_S 7) ≠ 0 ∧
    fastest s 7 < getF s (R.TWL_PHY_STATUS_RATE 7) :=
  ⟨setF (setF (portIn 3 3) (R.TWL_LL_CTRL_STEP_UP_S 7) 60) (R.TWL_PHY_STATUS_RATE 7) 2, by decide +kernel⟩

theorem witness_TwillLinkLayer_keys : ∀ n ∈ [4294967295, 4294967296], ∃ ss : Session,
    (portOf (portWith 3 3 (fun q => { q with session := some ⟨⟨0, [], [], true⟩, false, [(1, n)], [], none, []⟩ })) 7).session = some ss ∧
      maxCount ss = n := by
  intro n _
  exact ⟨⟨⟨0, [], [], true⟩, false, [(1, n)], [], none, []⟩, rfl, Nat.zero_max n⟩

theorem witness_DiscoveryAndLiveness_commands : Can (portIn 3 3) (sealed 0x0701 [7, 0, 0, 0]) 0 none (fun k t => k.p8 0 < 8 ∧ zeroAt k.par 1 3 = true ∧
      lstate t (k.p8 0) = 3) ∧
    Can (portIn 3 2) (sealed 0x0701 [7, 0, 0, 0]) 0 none (fun k t => k.p8 0 < 8 ∧ lstate t (k.p8 0) ≠ 3) ∧
    Can (portWith 3 3 (fun q => { q with replies := [(1, zeros 8), (2, zeros 8)] })) (sealed 0x0703 [7, 0, 0, 0]) 16 none
      (fun k t => k.p8 0 < 8 ∧ zeroAt k.par 1 3 = true ∧ 16 = 8 * foundTiles (portOf t (k.p8 0))) :=
  ⟨⟨ready_of (by decide +kernel), by decide +kernel⟩, ⟨ready_of (by decide +kernel), by decide +kernel⟩,
    ready_of (by decide +kernel), by decide +kernel⟩

/-- A sender numbering the position at hop 64 of port 7. -/
def numbered (x : Nat × Bool) : State := portWith 3 3 (fun q => { q with numbering := [(64, (zeros 16, x))] })

theorem witness_DiscoveryAndLiveness_numbering : ∀ x ∈ [(0, false), (0, true), (1, false), (3, false), (4, false)], running (numbered x) = true ∧
    sender (numbered x) = true ∧ Tab.get (portOf (numbered x) 7).numbering 64 = some (zeros 16, x) := by decide +kernel

theorem witness_DiscoveryAndLiveness_timers : (portOf (portWith 3 3 (fun q => { q with heal := true })) 7).heal = true ∧
    lstate (portWith 3 3 (fun q => { q with heal := true })) 7 = 3 ∧ hasInstants (portIn 3 3) = false ∧
    (∃ s, running s = true ∧ sender s = false ∧ s.twl.primary = some 3 ∧ s.twl.backup = some (4, 0) ∧ servedBy s = some 3 ∧ linkUp s 0 = true) :=
  ⟨by decide +kernel, by decide +kernel, by decide +kernel,
    let t := setF (setF (tileUp 1) R.CEL_T_STATUS_SERVED 1) R.CEL_T_STATUS_SENDER 3
    ⟨{ t with twl := { t.twl with primary := some 3, backup := some (4, 0) } }, by decide +kernel⟩⟩

theorem witness_MessagesTakeEffect_tile : (∀ e ∈ [(0x30, 3), (0x31, 3), (0x32, 3), (0x33, 3), (0x34, 3), (0x35, 3), (0x1C, 1), (0x18, 1), (0x14, 1), (0x05, 1),
      (0x0A, 1), (0x10, 1), (0x13, 1), (0x07, 1), (0x20, 2), (0, 0)], arrives (tileUp 1) 0 (msgTo 5 e.1 e.2 (zeros 32))) ∧
    arrives (tileUp 1) 0 { msgTo 0xFFF 3 1 (zeros 8) with hops := 63 } ∧ sender (received (tileUp 1) 0 (msgTo 5 0x10 1 (zeros 32))) = false := by
  refine ⟨?_, arrives_of (by decide +kernel), by decide +kernel⟩
  have h : ∀ e ∈ [(0x30, 3), (0x31, 3), (0x32, 3), (0x33, 3), (0x34, 3), (0x35, 3), (0x1C, 1), (0x18, 1), (0x14, 1), (0x05, 1),
      (0x0A, 1), (0x10, 1), (0x13, 1), (0x07, 1), (0x20, 2), (0, 0)], arrivesB (tileUp 1) 0 (msgTo 5 e.1 e.2 (zeros 32)) = true := by
    decide +kernel
  exact fun e m => arrives_of (h e m)

theorem witness_MessagesTakeEffect_sender : (∀ t ∈ [0x04, 0x06, 0x08, 0x09, 0x0B, 0x0C, 0x11, 0x12, 0x15, 0x19, 0x1A],
      arrives (upPort 0 (small true 1)) 0 (msgTo 0 t 1 (zeros 32))) ∧ sender (received (upPort 0 (small true 1)) 0 (msgTo 0 4 1 (zeros 32))) = true := by
  refine ⟨?_, by decide +kernel⟩
  have h : ∀ t ∈ [0x04, 0x06, 0x08, 0x09, 0x0B, 0x0C, 0x11, 0x12, 0x15, 0x19, 0x1A], arrivesB (upPort 0 (small true 1)) 0 (msgTo 0 t 1 (zeros 32)) = true := by
    decide +kernel
  exact fun e m => arrives_of (h e m)

theorem witness_MessagesTakeEffect_slot : slotOf (mapped 1 2 0) 0xFFE = none ∧ (∃ s, slotOf s 3 = some 0) ∧
    u16 (leBytes 2 5 ++ zeros 2) 0 = (tileUp 1).cps.devnum ∧ (tileUp 1).cps.devnum ≠ 0xFFF :=
  ⟨by decide +kernel, ⟨setF (mapped 1 2 0) (R.CEL_S_W0_DEVNUM 0) 3, by decide +kernel⟩, by decide +kernel⟩

/-! ### Witnesses: time -/

/-- A master that holds WT with frames of 60 Hz. -/
def mastering : State := setF (timed 1) R.TIM_STATUS_MASTER 1

/-- The parameters of set-cadence: 60 Hz from a frame, free. -/
def cadencePar (num n : Nat) : List Byte := leBytes 4 num ++ leBytes 4 1 ++ leBytes 8 n ++ [0, 1, 16, 0] ++ zeros 12

theorem witness_TimeCommands_ptp : ∃ s, Can s (sealed 0x0800 ([1, 1, 2, 2, 127, 3, 10, 0] ++ leBytes 4 0xFFFFFFFF)) 0 none (fun k t => k.p8 0 < 2 ∧
    k.p8 1 < 2 ∧ k.p8 2 < portSubs t (k.p8 1) ∧ k.p8 3 < 3 ∧ k.p8 4 < 128 ∧ k.p8 5 < 4 ∧ 2 ≤ k.p8 6 ∧ k.p8 6 ≤ 10 ∧ zeroAt k.par 7 1 = true) :=
  ⟨{ small true 1 with eth := { (small true 1).eth with cfg := [(1, 2)] } }, ready_of (by decide +kernel), by decide +kernel⟩

theorem witness_TimeCommands_cadence : Can (small true 1) (sealed 0x0801 (cadencePar 60 0)) 0 none (fun _ t => isMaster (promoteParams t) = false) ∧
    Can mastering (sealed 0x0801 (cadencePar 23 107)) 0 none (fun k t => isMaster (promoteParams t) = true ∧ wtHeld (promoteParams t) = true ∧
      k.p8 0x10 = 0 ∧ cadenceOk k.par = false) ∧
    Can mastering (sealed 0x0801 (cadencePar 240 8)) 0 none (fun k t => isMaster (promoteParams t) = true ∧ wtHeld (promoteParams t) = true ∧
      k.p8 0x10 = 0 ∧ cadenceOk k.par = true ∧ cadenceSet (promoteParams t) k.par = none) ∧
    Can mastering (sealed 0x0801 (cadencePar 24 107)) 0 none (fun k t => isMaster (promoteParams t) = true ∧ wtHeld (promoteParams t) = true ∧
      k.p8 0x10 = 0 ∧ cadenceOk k.par = true ∧ (cadenceSet (promoteParams t) k.par).isSome = true) :=
  ⟨⟨ready_of (by decide +kernel), by decide +kernel⟩, ⟨ready_of (by decide +kernel), by decide +kernel⟩,
    ⟨ready_of (by decide +kernel), by decide +kernel⟩, ready_of (by decide +kernel), by decide +kernel⟩

/-- The parameters of arm-trigger: unit 15 pulses GPIO 23 at a compare value. -/
def trigger (cmp : Nat) : List Byte := [15, 3, 23, 0] ++ leBytes 4 cmp ++ zeros 4

theorem witness_TimeCommands_trigger : Can (small true 1) (sealed 0x0802 (trigger 1)) 0 none (fun k t => k.p8 0 < 16 ∧ k.p8 1 < 4 ∧ k.p8 2 < 24 ∧
      zeroAt k.par 3 1 = true ∧ zeroAt k.par 10 2 = true ∧ wtValid t = false) ∧
    Can (timed 1) (sealed 0x0802 (trigger 0x7FFFFFFF)) 8 none (fun k t => k.p8 0 < 16 ∧ k.p8 1 < 4 ∧ k.p8 2 < 24 ∧ zeroAt k.par 3 1 = true ∧
      zeroAt k.par 10 2 = true ∧ wtValid t = true ∧ 0 < signed 32 (unsigned 32 ((k.p32 4 : Int) - wtTick t))) ∧
    Can (timed 1) (sealed 0x0803 [15, 0, 0, 0]) 0 none (fun k _ => k.p8 0 < 16 ∧ zeroAt k.par 1 3 = true) ∧
    Can (small true 1) (sealed 0x0804 (zeros 8)) 0 none (fun _ _ => True) ∧
    ∃ n, Can (small true 1) (sealed 0x0805 []) n none (fun _ t => n = (stampBytes t.tim.lt ++ stampBytes (if wtValid t then t.tim.wt.t16 else 0) ++
        stampBytes (if ntValid t then t.tim.nt.t16 else 0) ++ zeros 2 ++ leBytes 8 (frameNow0 t)).length) :=
  ⟨⟨ready_of (by decide +kernel), by decide +kernel⟩, ⟨ready_of (by decide +kernel), by decide +kernel⟩,
    ⟨ready_of (by decide +kernel), by decide +kernel⟩, ⟨ready_of (by decide +kernel), trivial⟩,
    40, ready_of (by decide +kernel), by decide +kernel⟩

theorem witness_TimeEvents_triggers : alive (timed 1) = true ∧ isSet (setF (timed 1) (R.TRIG_CTL_ARMED 15) 1) (R.TRIG_CTL_ARMED 15) = true ∧
    isSet (timed 1) (R.TRIG_CTL_ARMED 15) = false ∧ isMaster (timed 1) = false ∧ isMaster (setF mastering R.TIM_CTRL_WT_SRC 1) = true ∧
    getF (setF mastering R.TIM_CTRL_WT_SRC 1) R.TIM_CTRL_WT_SRC = 1 := by decide +kernel

theorem witness_TimeEvents_learn : tempSteady [(0, 16), (1, 0)] = true ∧ tempSteady [(0, 17), (1, 0)] = false ∧
    servoState (small true 1) (learnsFromWt (small true 1)) ≠ 2 ∧ (∃ s, running s = true ∧ servoState s (learnsFromWt s) = 2 ∧
      (clockOf s (learnsFromWt s)).lockedAt + 60000000000 * 65536 ≤ s.tim.lt) :=
  ⟨by decide +kernel, by decide +kernel, by decide +kernel, { timed 1 with tim := { (timed 1).tim with lt := 60000000000 * 65536 } }, by decide +kernel⟩

theorem witness_TimeEvents_election : ∃ s, running s = true ∧ (timPort s 7).offered = true ∧ s.tim.dwell = some 9 ∧ bestMaster s ≠ some 9 ∧
    isSet s R.TIM_CTRL_MASTER_EN = false :=
  let t := timPortUpd 7 (fun q => { q with offered := true }) (setF (small true 1) R.TIM_CTRL_MASTER_EN 0)
  ⟨{ t with tim := { t.tim with dwell := some 9 } }, by decide +kernel⟩

theorem witness_TimeEvents_master : ∃ s : State, running s = true ∧ sender s = true ∧ isSet s R.TIM_CTRL_MASTER_EN = true ∧ s.tim.dwell = some 9 ∧ bestMaster s = some 9 :=
  ⟨{ setF (small true 1) R.TIM_CTRL_MASTER_EN 1 with
      tim := { (small true 1).tim with dwell := some 9, anns := [⟨9, 0, 0, true, 0⟩] } }, by decide +kernel⟩

theorem witness_TimeEvents_ptp : ∃ s, running s = true ∧ sender s = true ∧ (ptpInst s 1).enabled = true ∧ (ptpInst s 1).last = some (5, 6) ∧
    (ptpBest (ptpInst s 1)).isSome = true :=
  ⟨ptpUpd 1 (fun _ => { PtpInst.off with enabled := true, last := some (5, 6), masters := [⟨[1], [2], 3, 0⟩] }) (small true 1), by decide +kernel⟩

/-! ### Witnesses: module, strands and presentation -/

/-- A module with blank flash. -/
def plainModule : Module := ⟨true, [], [], [], [], [], none, none, none⟩

/-- A 16 by 16 factory layer in memory, as far as its header says its size. -/
def layer16 : List Byte := zeros 12 ++ leBytes 2 16 ++ leBytes 2 16 ++ [1, 1] ++ zeros 238

/-- A geometry record of 8 strands of 64 drivers for 16 by 16 pixels, blocks of 16 by 32. -/
def geometry : List Byte :=
  let h : List Byte := leBytes 4 0x4D475453 ++ [1, 8, 64, 16, 32, 0, 0, 0] ++ leBytes 2 1 ++ leBytes 2 16 ++ leBytes 2 16 ++ zeros 12
  h ++ leBytes 2 (crc16 h)

/-- A tile in a mode with a module, its layer loaded, its geometry valid and the strand clock running. -/
def driving (m : Nat) : State :=
  let t := setF (setF (setF (setF (small false m) R.DMK_STATUS_FL_STATE 2) R.STR_STATUS_CLK_RUN 1) R.STR_CTRL_POLL_EN 1) R.STR_STATUS_GEO_STATE 1
  { t with nv := { t.nv with module := some plainModule }, dmk := { t.dmk with factory := some layer16 }, str := { t.str with geo := some geometry } }

theorem witness_ModuleCommands_refused : Can (small false 4) (sealed 0x0900 (([1, 0, 0, 0] : List Byte) ++ zeros 16)) 0 (some [1]) (fun k t => t.nv.module = none ∧
      k.p8 0 < 2 ∧ zeroAt k.par 1 3 = true) ∧
    Can (small false 1) (sealed 0x0901 (zeros 16)) 0 (some [1]) (fun _ t => getF t R.DMK_STATUS_FL_STATE ≠ 2) ∧
    Can (driving 4) (sealed 0x0900 (zeros 20)) 0 (some [1]) (fun k t => t.nv.module = some plainModule ∧ isSet t R.DMK_STATUS_RELEASED = false ∧
      k.p8 0 = 0 ∧ zeroAt k.par 1 3 = true) ∧
    geoOk (driving 1) (sub (geometry ++ zeros 16) 0 32) = true :=
  ⟨⟨ready_of (by decide +kernel), by decide +kernel⟩, ⟨ready_of (by decide +kernel), by decide +kernel⟩,
    ⟨ready_of (by decide +kernel), by decide +kernel⟩, by decide +kernel⟩

theorem witness_ModuleCommands_bulk (t : State) : bulk (sealed 0x0900 (zeros 20)) (.data []) (some [1]) 4 1 t = .ok [1] := bulk_of (by decide)

theorem witness_ModuleCommands_release : Can (driving 1) (sealed 0x0904 []) 0 none (fun _ t => t.nv.module.isSome = true ∧
      isSet t R.DMK_STATUS_RELEASED = false ∧ ckptMay t = true) ∧
    (∃ s, Can s (sealed 0x0904 []) 0 none (fun _ t => t.nv.module.isSome = true ∧ isSet t R.DMK_STATUS_RELEASED = false ∧ ckptMay t = false)) :=
  ⟨⟨ready_of (by decide +kernel), by decide +kernel⟩, setF (driving 1) R.DMK_STATUS_FL_STATE 3, ready_of (by decide +kernel), by decide +kernel⟩

/-- The parameters of set-strand-geometry bound to a factory layer. -/
def bound (x : Byte) : List Byte := geometry ++ List.replicate 16 x

/-- Whichever 16 bytes the layer's number is, one of two bindings is not to it. -/
theorem witness_ModuleCommands_binding : ∃ x, Can (driving 1) (sealed 0x0A00 (bound x)) 0 none (fun k t => getF t R.DMK_STATUS_FL_STATE = 2 ∧
    sub k.par 32 16 ≠ factoryIdOf (flOf t)) := by
  by_cases h : List.replicate 16 (0 : Byte) = factoryIdOf (flOf (begun (sealed 0x0A00 (bound 1)) none (driving 1)))
  · refine ⟨1, ready_of (by decide +kernel), by decide +kernel, ?_⟩
    rw [← h]
    decide +kernel
  · refine ⟨0, ready_of (by decide +kernel), by decide +kernel, ?_⟩
    have e : sub (sealed 0x0A00 (bound 0)).par 32 16 = List.replicate 16 (0 : Byte) := by decide +kernel
    rw [e]
    exact h

theorem witness_ModuleCommands_writes : ∃ s : State, running s = true ∧ s.nv.module = some plainModule ∧ s.dmk.user = none ∧ s.dmk.ckptAgain = false ∧
    s.dmk.release = none ∧ s.dmk.userWrite = some (sealed 0x0901 (zeros 16), [1]) ∧ s.dmk.factoryWrite = some (sealed 0x0900 (zeros 20), [2]) ∧
    (sealed 0x0900 (zeros 20)).p8 0 = 0 ∧ s.dmk.ckptWrite = some (1, [3]) ∧ ckptMay (small false 1) = false :=
  let d := (driving 1).dmk
  ⟨{ driving 1 with
      dmk := { d with userWrite := some (sealed 0x0901 (zeros 16), [1]), factoryWrite := some (sealed 0x0900 (zeros 20), [2]), ckptWrite := some (1, [3]) } },
    by decide +kernel⟩

theorem witness_ModuleCommands_ageing : Can (driving 1) (sealed 0x0903 (leBytes 2 0x1FFF ++ [1, 0] ++ leBytes 4 16384 ++ leBytes 8 0)) 4 none
    (fun _ t => getF t R.DMK_STATUS_FL_STATE = 2) := ⟨ready_of (by decide +kernel), by decide +kernel⟩

theorem witness_Strands_commands : Can (small false 1) (sealed 0x0A01 (zeros 8)) 0 none (fun _ t => clkRuns t = false) ∧
    Can (driving 1) (sealed 0x0A01 [7, 63, 3, 0, 31, 32, 47, 48]) 0 none (fun k t => clkRuns t = true ∧ k.p8 0 < gNstr (geoOf t) ∧
      k.p8 1 < gNdrv (geoOf t) ∧ k.p8 2 < 4 ∧ k.p8 3 = 0 ∧ k.p8 4 < 32 ∧ k.p8 5 ≤ 32 ∧ k.p8 6 < 48 ∧ k.p8 7 ≤ 48) ∧
    Can (driving 1) (sealed 0x0A02 [7, 0, 0, 0]) 0 none (fun k t => zeroAt k.par 1 3 = true ∧ clkRuns t = true ∧ k.p8 0 ≠ 0xFF ∧ k.p8 0 < gNstr (geoOf t)) ∧
    Can (small false 1) (sealed 0x0A02 [7, 0, 0, 0]) 0 none (fun k t => zeroAt k.par 1 3 = true ∧ clkRuns t = false) ∧
    Can (small false 4) (sealed 0x0A03 (zeros 8)) 0 none (fun _ t => clkRuns t = false) ∧
    Can (driving 4) (sealed 0x0A03 [7, 63, 255, 255, 0, 32, 0, 48]) 0 none (fun k t => clkRuns t = true ∧ k.p8 0 ≠ 0xFF ∧ k.p8 0 < gNstr (geoOf t) ∧
      k.p8 1 ≠ 0xFF ∧ k.p8 1 < gNdrv (geoOf t) ∧ 1 ≤ k.p8 5 ∧ 1 ≤ k.p8 7 ∧ k.p8 4 + k.p8 5 ≤ 32 ∧ k.p8 6 + k.p8 7 ≤ 48) :=
  ⟨⟨ready_of (by decide +kernel), by decide +kernel⟩, ⟨ready_of (by decide +kernel), by decide +kernel⟩,
    ⟨ready_of (by decide +kernel), by decide +kernel⟩, ⟨ready_of (by decide +kernel), by decide +kernel⟩,
    ⟨ready_of (by decide +kernel), by decide +kernel⟩, ready_of (by decide +kernel), by decide +kernel⟩

theorem witness_Strands_reads : ∃ (s : State) (r : StrRead), running s = true ∧ Tab.get s.str.reading 7 = some r ∧ r.pkt.isSome = true ∧
    ([1, 2] : List Nat).length = readWords r ∧ 0 ≠ crc16 (([1, 2].map (leBytes 2)).flatten) :=
  ⟨{ driving 1 with str := { (driving 1).str with reading := [(7, ⟨56, 63, 0, 0, 1, 0, 1, some (sealed 0x0A01 (zeros 8))⟩)] } },
    ⟨56, 63, 0, 0, 1, 0, 1, some (sealed 0x0A01 (zeros 8))⟩, by decide +kernel⟩

theorem witness_Strands_poll : ∃ (s : State) (k : Nat), running s = true ∧ sender s = false ∧ isSet s R.STR_CTRL_POLL_EN = true ∧ clkRuns s = true ∧
    s.str.inWindow = false ∧ mode s ≠ mService ∧ getF s R.THM_STATUS_STEP < 3 ∧ Tab.get s.str.reading 7 = none ∧ s.str.enums = [] ∧
    Tab.getD s.str.waiting 7 [] = [] ∧ nextPoll s 7 = some k ∧ s.str.vddLost = false ∧ s.nv.module = some plainModule :=
  ⟨setF (driving 1) (R.STR_D_CNT_PRESENT 3584) 1, 0, by decide +kernel⟩

theorem witness_Strands_window : ∃ s : State, running s = true ∧ sender s = false ∧ s.str.vddLost = true ∧ s.str.inWindow = true ∧ s.str.cfgDue = false ∧
    s.nv.module = none :=
  ⟨{ small false 1 with str := { (small false 1).str with vddLost := true, inWindow := true } }, by decide +kernel⟩

/-- That tile holding WT, with present parameters. -/
def paced (m : Nat) : State :=
  let t := setF (driving m) R.TIM_STATUS_WT_STATE 2
  { t with tim := { t.tim with params := some ⟨1, 60, 1, 7, 0, 16, 0, 0, 0⟩ } }

theorem witness_Presentation : hasInstants (timed 2) = true ∧ sender (timed 2) = true ∧ getF (timed 2) R.TIM_CTRL_PPS_OUT ≠ 2 ∧
    hasInstants (paced 1) = true ∧ sender (paced 1) = false ∧ mode (paced 1) ≠ mShow ∧ mode (paced 2) = mShow ∧ canPush (paced 2) = true ∧
    mode (paced 3) = mHold ∧ clkRuns (paced 3) = true := by decide +kernel

theorem witness_Presentation_arm : ∃ s : State, hasInstants s = true ∧ sender s = false ∧ clkRuns s = true ∧ mode s ≠ mHold ∧ willPresent 9 s = true ∧
    s.str.pushFrame = some 9 ∧ (tOf s 9).isSome = true :=
  let t := setF (paced 2) R.THM_STATUS_BUDGET_VALID 1
  ⟨{ t with celT := { t.celT with shown := [(0, ⟨1, 2, [3], 4⟩)] }, str := { t.str with pushFrame := some 9 } }, by decide +kernel⟩

theorem witness_Presentation_hold : ∃ s : State, hasInstants s = true ∧ sender s = false ∧ clkRuns s = true ∧ mode s = mHold ∧ s.thm.rescale = some 0x8000 ∧
    pwmNone (paced 1) 8 = false ∧ pwmNone s (frameNow0 s) = true :=
  ⟨{ paced 3 with thm := { (paced 3).thm with rescale := some 0x8000 }, str := { (paced 3).str with geo := some (geometry.take 12 ++ [255, 255]) } },
    by decide +kernel⟩


theorem witness_StrandControlWrite_running : ∃ v w x : Word, mayAct (driving 1) 1 13 ∧ mayAct (driving 2) 1 13 ∧
    clkRuns (storeWord R.STR_CTRL v (driving 1)) = true ∧
    getF (storeWord R.STR_CTRL v (driving 1)) R.STR_CTRL_RET_EXP = getF (driving 1) R.STR_CTRL_RET_EXP ∧
    clkCode (storeWord R.STR_CTRL v (driving 1)) = getF (storeWord R.STR_CTRL v (driving 1)) R.STR_STATUS_CLK_EFF ∧
    clkCode (storeWord R.STR_CTRL w (driving 2)) ≠ getF (storeWord R.STR_CTRL w (driving 2)) R.STR_STATUS_CLK_EFF ∧
    getF (storeWord R.STR_CTRL x (driving 1)) R.STR_CTRL_RET_EXP ≠ getF (driving 1) R.STR_CTRL_RET_EXP ∧
    (storeWord R.STR_CTRL x (driving 1)).str.inWindow = false :=
  ⟨regGet (driving 1) R.STR_CTRL, regGet (driving 1) R.STR_CTRL ^^^ 2, regGet (driving 1) R.STR_CTRL ^^^ 0x20,
    may_of (by decide +kernel), may_of (by decide +kernel), by decide +kernel⟩
/-! ### Witnesses: heat and power -/

/-- The parameters of set-feed at the limits: feed 255, 1,000,000 W. -/
def feed255 (on : Byte) : List Byte := [255, on] ++ leBytes 2 0x4000 ++ leBytes 4 1000000 ++ leBytes 2 0x8000 ++ leBytes 2 2000 ++ leBytes 2 50 ++ zeros 2

/-- A sender with that feed in entry e. -/
def feeding (e : Nat) : State := entryPut e (feed255 1) (small true 1)

/-- A derating curve of two points for a feed number, 0xFF naming the own. -/
def curve2 (f : Byte) : List Byte := [f, 2, 0, 0] ++ leBytes 2 0 ++ leBytes 2 0 ++ leBytes 2 0x8000 ++ leBytes 2 0x8000

theorem witness_ThermalCommands_feeds : Can (small true 1) (sealed 0x0B00 (feed255 2)) 0 none (fun k _ => feedOk k.par = false) ∧
    Can (feeding 31) (sealed 0x0B00 (feed255 1)) 0 none (fun k t => feedOk k.par = true ∧ k.p8 1 = 1 ∧ feedEntry t (k.p8 0) = some 31) ∧
    Can (feeding 0) (sealed 0x0B00 ([254] ++ (feed255 1).drop 1)) 0 none (fun k t => feedOk k.par = true ∧ k.p8 1 = 1 ∧ feedEntry t (k.p8 0) = none ∧
      entryOn t 1 = false ∧ ∀ i, i < 1 → entryOn t i = true) ∧
    Can ((List.range 32).foldl (fun a e => entryPut e ([BitVec.ofNat 8 e] ++ (feed255 1).drop 1) a) (small true 1)) (sealed 0x0B00 (feed255 1)) 0 none
      (fun k t => feedOk k.par = true ∧ k.p8 1 = 1 ∧ feedEntry t (k.p8 0) = none ∧ ∀ i, i < 32 → entryOn t i = true) :=
  ⟨⟨ready_of (by decide +kernel), by decide +kernel⟩, ⟨ready_of (by decide +kernel), by decide +kernel⟩,
    ⟨ready_of (by decide +kernel), by decide +kernel⟩, ready_of (by decide +kernel), by decide +kernel⟩

theorem witness_ThermalCommands_curves : Can (small true 1) (sealed 0x0B01 ([255, 1, 0, 0] ++ zeros 4)) 0 none (fun k _ => curveOk k.par = false) ∧
    Can (small true 1) (sealed 0x0B01 (curve2 0xFF)) 0 none (fun k _ => curveOk k.par = true ∧ k.p8 0 = 0xFF) ∧
    Can (small true 1) (sealed 0x0B01 (curve2 7)) 0 none (fun k t => curveOk k.par = true ∧ k.p8 0 ≠ 0xFF ∧ sender t = true ∧ feedEntry t (k.p8 0) = none) ∧
    Can (entryPut 31 ([7] ++ (feed255 1).drop 1) (small true 1)) (sealed 0x0B01 (curve2 7)) 0 none (fun k t => curveOk k.par = true ∧ k.p8 0 ≠ 0xFF ∧
      feedEntry t (k.p8 0) = some 31) :=
  ⟨⟨ready_of (by decide +kernel), by decide +kernel⟩, ⟨ready_of (by decide +kernel), by decide +kernel⟩,
    ⟨ready_of (by decide +kernel), by decide +kernel⟩, ready_of (by decide +kernel), by decide +kernel⟩

theorem witness_ThermalCommands_others : Can (small false 1) (sealed 0x0B02 ([1, 1, 0, 0] ++ [127, 1, 0, 0])) 0 none (fun k _ => k.p8 0 ≤ 4 ∧ k.p8 1 ≤ 1 ∧
      zeroAt k.par 2 2 = true ∧ ∀ i, i < k.p8 0 → k.p8 (4 + 4 * i) < 128 ∧ k.p8 (5 + 4 * i) ≤ 1 ∧ zeroAt k.par (6 + 4 * i) 2 = true) ∧
    Can (small false 1) (sealed 0x0B02 ([5, 0, 0, 0] ++ zeros 20)) 0 none (fun k _ => 4 < k.p8 0) ∧
    Can { small false 1 with thm := { (small false 1).thm with nsup := 4 } } (sealed 0x0B03 [3, 0, 0, 0]) 0 none (fun k t => k.p8 0 < t.thm.nsup ∧
      t.thm.nsup ≤ 4 ∧ zeroAt k.par 1 3 = true) ∧
    Can (small false 1) (sealed 0x0B04 [3, 0, 1, 2, 3, 4, 255, 55]) 0 none (fun k _ => k.p8 0 < 4 ∧ k.p8 1 = 0 ∧ (k.p8 6 < 56 ∨ k.p8 6 = 0xFF) ∧
      (k.p8 7 < 56 ∨ k.p8 7 = 0xFF)) ∧
    Can (small false 1) (sealed 0x0B05 ([7, 0, 0, 0] ++ zeros 8)) 0 none (fun k _ => k.p8 0 < 8 ∧ zeroAt k.par 1 3 = true) ∧
    Can (small false 1) (sealed 0x0B06 ([24, 0] ++ zeros 6)) 0 none (fun k _ => k.p8 0 ≤ 24 ∧ k.p8 1 = 0) ∧
    Can (small false 1) (sealed 0x0B06 ([25, 0] ++ zeros 6)) 0 none (fun k _ => 24 < k.p8 0) :=
  ⟨⟨ready_of (by decide +kernel), by decide +kernel⟩, ⟨ready_of (by decide +kernel), by decide +kernel⟩,
    ⟨ready_of (by decide +kernel), by decide +kernel⟩, ⟨ready_of (by decide +kernel), by decide +kernel⟩,
    ⟨ready_of (by decide +kernel), by decide +kernel⟩, ⟨ready_of (by decide +kernel), by decide +kernel⟩,
    ready_of (by decide +kernel), by decide +kernel⟩

/-- A tile whose module carries one sensor. -/
def sensing : State := { small false 1 with thm := { (small false 1).thm with mrec := some (zeros 5 ++ [1] ++ zeros 58) } }

theorem witness_ThermalEvents_samples : alive (small true 1) = true ∧ sensorExists (small true 1) 23 = true ∧ sensorExists (small true 1) 24 = false ∧
    readingOf (small true 1) 23 0xFC90 = -880 ∧ readingOf (small true 1) 23 2400 = 2400 ∧ readingOf (small true 1) 23 2401 = 2401 ∧
    (small true 1).thm.seeded = false ∧ ([1, 2] : List Nat).sum < 65536 ∧ sender sensing = false ∧ nsens sensing = 1 ∧ sensorExists sensing 24 = true ∧
    (∃ s, alive s = true ∧ thrOff s 8 = true ∧ thrOff s 9 = true) := by
  refine ⟨by decide +kernel, by decide +kernel, by decide +kernel, by decide +kernel, by decide +kernel, by decide +kernel, by decide +kernel,
    by decide, by decide +kernel, by decide +kernel, by decide +kernel,
    setF (setF (small true 1) (R.THM_THR_LEVEL 8) (if thrLow 8 then 0x8000 else 0x7FFF)) (R.THM_THR_LEVEL 9) (if thrLow 9 then 0x8000 else 0x7FFF),
    by decide +kernel⟩

theorem witness_ThermalEvents_dwell : ∀ st ∈ [0, 1, 3], getF (setF (small true 1) (R.THM_THRD_STATE 23) st) (R.THM_THRD_STATE 23) = st := by decide +kernel

theorem witness_ThermalEvents_supplies : ∃ s u, alive s = true ∧ isSet s R.THM_CTRL_PMB_EN = true ∧ s.thm.nsup = 1 ∧ sender s = true ∧
    isSet u R.THM_CTRL_PMB_EN = false :=
  ⟨{ setF (small true 1) R.THM_CTRL_PMB_EN 1 with thm := { (small true 1).thm with nsup := 1 } }, setF (small true 1) R.THM_CTRL_PMB_EN 0,
    by decide +kernel⟩

theorem witness_ThermalEvents_sender : ∃ s : State, running s = true ∧ sender s = true ∧ feedSlots s 9 = [] ∧ s.thm.gather.contains 255 = true ∧
    s.thm.gather.contains 9 = false ∧ (∃ e, Tab.get s.cel.slots 0 = some e) ∧ (feedSlot s 0).lowered.isSome = true :=
  ⟨{ small true 1 with thm := { (small true 1).thm with gather := [255], slots := [(0, { FeedSlot.empty with lowered := some 3 })] }
                       cel := { (small true 1).cel with slots := [(0, ⟨zeros 32, 0, false, false, false, none⟩)] } },
    by decide +kernel, by decide +kernel, by decide +kernel, by decide +kernel, by decide +kernel, ⟨_, rfl⟩, by decide +kernel⟩

theorem witness_ThermalEvents_tile : ∃ s u : State, running s = true ∧ sender s = false ∧ unnumbered s = false ∧ s.thm.ot ≠ [] ∧
    isSet s R.THM_STATUS_SAFE = false ∧ s.thm.budgetNext = none ∧ s.thm.budget = some ⟨1, 0, 255, 5, 3, 0, 100⟩ ∧ mode s = mStandby ∧
    unnumbered u = true ∧ u.thm.ot = [] ∧ isSet u R.THM_STATUS_SAFE = true ∧ mode u = mShow :=
  ⟨{ setF (small false 1) R.THM_STATUS_SAFE 0 with thm := { (small false 1).thm with ot := [7], budget := some ⟨1, 0, 255, 5, 3, 0, 100⟩ } },
    { setF (small false 2) R.THM_STATUS_SAFE 1 with cps := { (small false 2).cps with devnum := 0xFFF } }, by decide +kernel⟩

/-! ### Witnesses: security -/

/-- A device with a store of owner key 0, its policies by default. -/
def owned (s : State) : State :=
  { s with nv := { s.nv with store := some (newStore (zeros 96) 0), storeGood := true }, sec := { s.sec with loaded := true } }

/-- Parameters of set-policy: policy 3 for each source, PFLAGS, REKEY_H. -/
def policies (pf rh : Byte) : List Byte := List.replicate 11 3 ++ [pf, rh] ++ zeros 3

theorem witness_OwnershipCommands_enrol : Can (small true 1) (sealed 0x0C00 (zeros 96)) 0 none (fun _ t => ostate t = 0 ∧ t.nv.storeGood = true) ∧
    Can (owned (small true 1)) (sealed 0x0C00 (zeros 96)) 0 none (fun k t => ostate t = 1 ∧ storeOf t = some (newStore (zeros 96) 0) ∧
      (newStore (zeros 96) 0).owner = sub k.par 0 96) ∧
    Can (owned (small true 1)) (sealed 0x0C00 (1 :: zeros 95)) 0 none (fun k t => ostate t = 1 ∧ storeOf t = some (newStore (zeros 96) 0) ∧
      (newStore (zeros 96) 0).owner ≠ sub k.par 0 96) :=
  ⟨⟨ready_of (by decide +kernel), by decide +kernel⟩, ⟨ready_of (by decide +kernel), by decide +kernel⟩,
    ready_of (by decide +kernel), by decide +kernel⟩

theorem witness_OwnershipCommands_owned : Can (owned (small true 1)) (sealed 0x0C01 (zeros 192)) 0 none (fun _ t => ostate t = 1) ∧
    Can (owned (small true 1)) (sealed 0x0C03 ([8, 14, 0, 0] ++ zeros 96)) 0 none (fun k t => ostate t = 1 ∧ 1 ≤ k.p8 0 ∧ k.p8 0 ≤ 8 ∧ k.p8 1 < 16 ∧
      k.p8 1 % 2 = 0 ∧ zeroAt k.par 2 2 = true ∧ (sub k.par 4 96).all (· == 0) = true) ∧
    Can (owned (small true 1)) (sealed 0x0C03 ([1, 14, 0, 0] ++ (1 :: zeros 95))) 0 none (fun k t => ostate t = 1 ∧ 1 ≤ k.p8 0 ∧
      (sub k.par 4 96).all (· == 0) = false) ∧
    Can (owned (small true 1)) (sealed 0x0C03 ([9, 14, 0, 0] ++ zeros 96)) 0 none (fun k _ => 8 < k.p8 0) ∧
    Can (owned (small true 1)) (sealed 0x0C04 (zeros 4)) 0 none (fun k t => k.p8 0 = 0 ∧ zeroAt k.par 1 3 = true ∧ t.twl.ports = []) ∧
    Can (owned (small true 1)) (sealed 0x0C05 ([15, 0, 0, 0] ++ zeros 608)) 0 none (fun k _ => k.p8 0 < 16 ∧ zeroAt k.par 1 3 = true ∧
      (k.par.drop 4).all (· == 0) = true) :=
  ⟨⟨ready_of (by decide +kernel), by decide +kernel⟩, ⟨ready_of (by decide +kernel), by decide +kernel⟩,
    ⟨ready_of (by decide +kernel), by decide +kernel⟩, ⟨ready_of (by decide +kernel), by decide +kernel⟩,
    ⟨ready_of (by decide +kernel), by decide +kernel⟩, ready_of (by decide +kernel), by decide +kernel⟩

theorem witness_OwnershipCommands_policies : Can (owned (small true 1)) (sealed 0x0C07 (policies 12 1)) 0 none (fun k t => policyOk k.par = true ∧
      (∀ i, i < 2 → (k.p8 11).testBit i = (newStore (zeros 96) 0).pflags.testBit i) ∧ storeOf t = some (newStore (zeros 96) 0)) ∧
    Can (owned (small true 1)) (sealed 0x0C07 (policies 1 255)) 0 none (fun k _ => policyOk k.par = true ∧
      (k.p8 11).testBit 0 ≠ (newStore (zeros 96) 0).pflags.testBit 0) ∧
    Can (owned (small true 1)) (sealed 0x0C07 (policies 0 0)) 0 none (fun k _ => policyOk k.par = false) ∧
    Can (owned (small true 1)) (sealed 0x0C08 []) 0 none (fun _ t => ostate t = 1) ∧
    Can (owned (small true 1)) (sealed 0x0C02 []) 0 none (fun _ _ => True) :=
  ⟨⟨ready_of (by decide +kernel), by decide +kernel⟩, ⟨ready_of (by decide +kernel), by decide +kernel⟩,
    ⟨ready_of (by decide +kernel), by decide +kernel⟩, ⟨ready_of (by decide +kernel), by decide +kernel⟩,
    ready_of (by decide +kernel), trivial⟩

theorem witness_OwnershipCommands_roots : Can { small true 1 with nv := { (small true 1).nv with roots := [(0, [1])], revoked := 2 } }
    (sealed 0x0C06 ([0, 1, 0, 0] ++ zeros 192)) 0 none (fun k t => k.p8 0 < 4 ∧
      ∀ i, i < 4 → i ≠ k.p8 0 → Tab.get t.nv.roots i = none ∨ t.nv.revoked.testBit i = true) :=
  ⟨ready_of (by decide +kernel), by decide +kernel⟩

/-- CP0 holds SEM 3 and a nonce. -/
def nonced : State :=
  let t := { small true 1 with cps := { (small true 1).cps with sems := [(3, .cp0)] } }
  { t with sec := { t.sec with nonce := some (zeros 32, 1, .cp0) } }

theorem witness_Zeroisation_commands : Can (owned (small true 1)) (sealed 0x0C09 [3, 0, 0, 0]) 0 none (fun k _ => 1 ≤ k.p8 0 ∧ k.p8 0 ≤ 3 ∧ zeroAt k.par 1 3 = true) ∧
    Can (owned (small true 1)) (sealed 0x0C09 [4, 0, 0, 0]) 0 none (fun k _ => 4 ≤ k.p8 0) ∧
    Can (owned (small true 1)) (sealed 0x0C0A []) 0 none (fun _ _ => True) ∧
    (∃ s, Can s (sealed 0x0C0B []) 0 none (fun k t => holds t k.req 3 = false)) ∧
    Can nonced (sealed 0x0C0D []) 0 none (fun _ _ => True) :=
  ⟨⟨ready_of (by decide +kernel), by decide +kernel⟩, ⟨ready_of (by decide +kernel), by decide +kernel⟩,
    ⟨ready_of (by decide +kernel), trivial⟩, ⟨small true 4, ready_of (by decide +kernel), by decide +kernel⟩, ready_of (by decide +kernel), trivial⟩

/-- The parameters of debug-unlock to level 1. -/
def unlock1 (mins : Nat) : List Byte := [1, 0, 0, 0] ++ zeros 32 ++ leBytes 2 mins ++ zeros 2

theorem witness_Zeroisation_debug : Can (setF nonced R.SYS_MODE_MODE 4) (sealed 0x0C0B []) 32 none (fun k t => holds t k.req 3 = true) ∧
    Can (setF nonced R.SYS_MODE_MODE 4) (sealed 0x0C0C (unlock1 480)) 0 none (fun k t => k.p8 0 = 1 ∧ zeroAt k.par 1 3 = true ∧ 1 ≤ k.p16 36 ∧
      k.p16 36 ≤ 480 ∧ zeroAt k.par 38 2 = true ∧ t.sec.nonce = some (sub k.par 4 32, 1, k.req) ∧ ltNs t < 1) ∧
    Can (small true 4) (sealed 0x0C0C (unlock1 1)) 0 none (fun k t => k.p8 0 = 1 ∧ 1 ≤ k.p16 36 ∧ t.sec.nonce = none) ∧
    Can (small true 1) (sealed 0x0C0F ([0, 0, 0, 0, 31, 0, 0, 0])) 0 none (fun k t => 1 ≤ k.p8 4 ∧ k.p8 4 ≤ 31 ∧ zeroAt k.par 5 3 = true ∧
      0 = ((((t.nv.log.reverse.filter (fun e => decide (k.p32 0 ≤ e.seq))).take (k.p8 4)).map logEntry).flatten).length) :=
  ⟨⟨ready_of (by decide +kernel), by decide +kernel⟩, ⟨ready_of (by decide +kernel), by decide +kernel⟩,
    ⟨ready_of (by decide +kernel), by decide +kernel⟩, ready_of (by decide +kernel), by decide +kernel⟩

theorem witness_Zeroisation_events : ∃ s u : State, alive s = true ∧ 1 ≤ getF s R.SEC_STATUS_DEBUG ∧ ostate s ≠ 1 ∧ mode s = mStandby ∧
    getF u R.SEC_STATUS_DEBUG = 0 ∧ ostate u = 1 ∧ inReset s = false ∧ s.sys.tamperArmed = false ∧ s.sec.latched = [] ∧ s.sec.active = [] ∧
    s.nv.store = none ∧ u.sys.tamperArmed = true ∧ ∃ x, inReset x = true ∧ x.sys.rst.porst = true :=
  ⟨{ setF (small true 1) R.SEC_STATUS_DEBUG 2 with sys := { (small true 1).sys with tamperArmed := false } },
    { owned (small true 1) with sys := { (small true 1).sys with tamperArmed := true } }, by decide +kernel, by decide +kernel, by decide +kernel,
    by decide +kernel, by decide +kernel, by decide +kernel, by decide +kernel, by decide +kernel, by decide +kernel, by decide +kernel,
    by decide +kernel, by decide +kernel, { State.reset with sys := { State.reset.sys with rst := { State.reset.sys.rst with porst := true } } },
    by decide +kernel⟩

theorem witness_JtagByState : (∃ s : State, ostate s ≠ 1 ∧ getF s R.SEC_STATUS_DEBUG = 0 ∧ mode s = mStandby) ∧
    (∃ s : State, ostate s ≠ 1 ∧ mode s = mShow) ∧ (∃ s : State, ostate s = 1 ∧ getF s R.SEC_STATUS_DEBUG = 0) ∧
    (∃ s : State, ostate s = 1 ∧ getF s R.SEC_STATUS_DEBUG = 1) ∧ ∃ s : State, ostate s = 1 ∧ getF s R.SEC_STATUS_DEBUG = 2 :=
  ⟨⟨small true 1, by decide +kernel⟩, ⟨small true 2, by decide +kernel⟩, ⟨owned (small true 1), by decide +kernel⟩,
    ⟨setF (owned (small true 4)) R.SEC_STATUS_DEBUG 1, by decide +kernel⟩,
    setF (owned (small true 4)) R.SEC_STATUS_DEBUG 2, by decide +kernel⟩
/-! ### Witnesses: configuration, update and the Muslin port -/

/-- A slot record in a state, of schema 1 and read minimum 1. -/
def slotIn (st : Nat) : SlotRec := { SlotRec.empty with state := st, cfs := 1, cfsMin := 1, svn := 5, tpl := 2 }

/-- A sender running slot 0, slot 1 being in a state, with the other slot verified in memory or not. -/
def running0 (m st : Nat) (copy : Option Nat) : State :=
  let t := small true m
  { t with nv := { t.nv with bootRec := some ⟨1, 0, 0, slotIn 4, slotIn st⟩ }
           upd := { t.upd with chosen := some 0, slot := some 0, running := some ⟨slotIn 4, [], [], 0⟩, copyOf := copy } }

/-- Two generations of the store of a sender. -/
def generations : State :=
  let t := small true 1
  { t with nv := { t.nv with gens := [(0, ⟨1, 1, 1, 0, 0, 0, []⟩), (7, ⟨1, 2, 1, 0, 0, 0, []⟩)] } }

theorem witness_ConfigurationCommands_set : Can (small true 1) (sealed 0x0D00 ([1, 0, 0, 0, 4, 0, 0, 0] ++ leBytes 4 4094)) 0 none (fun k t => k.p16 0 = 1 ∧
      k.p8 2 = 0 ∧ zeroAt k.par 3 1 = true ∧ zeroAt k.par 6 2 = true ∧ (k.par.drop 8).length = 4 ∧ sender t = true ∧ u32 (k.par.drop 8) 0 < 4095) ∧
    Can (small true 1) (sealed 0x0D00 ([1, 0, 0, 0, 4, 0, 0, 0] ++ leBytes 4 4095)) 0 none (fun k t => k.p16 0 = 1 ∧ sender t = true ∧ 4095 ≤ u32 (k.par.drop 8) 0) ∧
    Can (small false 1) (sealed 0x0D00 ([1, 0, 0, 0, 4, 0, 0, 0] ++ leBytes 4 5)) 0 none (fun k t => k.p16 0 = 1 ∧ sender t = false ∧
      (k.par.drop 8).length = 4) ∧
    Can (small true 1) (sealed 0x0D00 ([2, 0, 0, 0, 4, 0, 0, 0] ++ leBytes 4 5)) 0 none (fun k _ => k.p16 0 ≠ 1 ∧ k.p16 0 ≠ 0x40) :=
  ⟨⟨ready_of (by decide +kernel), by decide +kernel⟩, ⟨ready_of (by decide +kernel), by decide +kernel⟩,
    ⟨ready_of (by decide +kernel), by decide +kernel⟩, ready_of (by decide +kernel), by decide +kernel⟩

theorem witness_ConfigurationCommands_get : Can (small true 1) (sealed 0x0D01 [1, 0, 0, 0]) 8 none (fun k t => itemKnown (k.p16 0) (k.p8 2) = true ∧
      k.p8 3 ≤ 2 ∧ itemWhich t (k.p8 3) (k.p16 0) (k.p8 2) = (ownCfs (small true 1), []) ∧ k.par.length = 4) ∧
    (∃ u, Can generations (sealed 0x0D01 ([1, 0, 0, 1] ++ (leBytes 2 0x1FFF ++ [1, 0] ++ leBytes 4 1 ++ leBytes 8 0))) 8 none (fun k t =>
      itemKnown (k.p16 0) (k.p8 2) = true ∧ itemWhich t (k.p8 3) (k.p16 0) (k.p8 2) = (1, []) ∧ k.par.length ≠ 4 ∧
      refWrite t (refAt k.par 4) [] (.data []) = .ok u)) ∧
    Can (small true 1) (sealed 0x0D01 [0xFF, 0, 0, 0]) 0 none (fun k _ => itemKnown (k.p16 0) (k.p8 2) = false) :=
  have ⟨u, h⟩ := ok_of (by decide +kernel)
  ⟨⟨ready_of (by decide +kernel), by decide +kernel⟩, ⟨u, ready_of (by decide +kernel), by decide +kernel, by decide +kernel, by decide +kernel, h⟩,
    ready_of (by decide +kernel), by decide +kernel⟩

theorem witness_ConfigurationCommands_commit : Can (small true 1) (sealed 0x0D02 []) 0 none (fun _ _ => True) ∧
    Can (small true 1) (sealed 0x0D03 []) 0 none (fun _ t => previousGen t = none) ∧
    Can generations (sealed 0x0D03 []) 0 none (fun _ t => previousGen t = some (0, ⟨1, 1, 1, 0, 0, 0, []⟩)) ∧
    currentGen generations = some (7, ⟨1, 2, 1, 0, 0, 0, []⟩) :=
  ⟨⟨ready_of (by decide +kernel), trivial⟩, ⟨ready_of (by decide +kernel), by decide +kernel⟩,
    ⟨ready_of (by decide +kernel), by decide +kernel⟩, by decide +kernel⟩

theorem witness_ConfigurationCommands_end : ∀ op ∈ [0x0D02, 0x0D03], ∃ s : State, s.upd.cfgWrite = some (sealed op [], 3, ⟨1, 3, 1, 0, 0, 0, []⟩) ∧
    (sealed op []).opcode = op := by
  intro op h
  refine ⟨{ small true 1 with upd := { (small true 1).upd with cfgWrite := some (sealed op [], 3, ⟨1, 3, 1, 0, 0, 0, []⟩) } }, rfl, ?_⟩
  simp only [List.mem_cons, List.not_mem_nil, or_false] at h
  rcases h with rfl | rfl <;> decide +kernel

theorem witness_FirmwareUpdate_stage : Can (small true 1) (sealed 0x0D04 (zeros 20)) 0 (some [1]) (fun k t => zeroAt k.par 0 4 = true ∧ activating t = false ∧
      bulk k (.data []) (some [1]) 4 0 t = .ok [1] ∧ stageVerdict t [1] ≠ 0) ∧ u32 ([1] : List Byte) 0 ≠ 0x4D42524D :=
  ⟨⟨ready_of (by decide +kernel), by decide +kernel, by decide +kernel, bulk_of (by decide), by decide +kernel⟩, by decide⟩

theorem witness_FirmwareUpdate_activate : Can (running0 1 2 (some 1)) (sealed 0x0D05 []) 0 none (fun _ t => transitioning t = false ∧
      activateVerdict t 2 = 0 ∧ t.upd.copyOf = some (otherSlot t)) ∧
    Can (running0 2 2 none) (sealed 0x0D05 []) 0 none (fun _ t => transitioning t = false ∧ activateVerdict t 2 = 0 ∧
      t.upd.copyOf ≠ some (otherSlot t)) ∧
    Can (running0 1 5 (some 1)) (sealed 0x0D06 []) 0 none (fun _ t => transitioning t = false ∧ activateVerdict t 2 ≠ 0 ∧ activateVerdict t 4 ≠ 0) ∧
    Can (running0 1 4 (some 1)) (sealed 0x0D06 []) 0 none (fun _ t => activateVerdict t 4 = 0 ∧ t.upd.copyOf = some (otherSlot t)) ∧
    Can (running0 1 4 none) (sealed 0x0D06 []) 0 none (fun _ t => activateVerdict t 4 = 0 ∧ t.upd.copyOf ≠ some (otherSlot t)) ∧
    Can (running0 3 2 none) (sealed 0x0D05 []) 0 none (fun _ t => mode t = mHold ∧ activateVerdict t 2 ≠ 0) :=
  ⟨⟨ready_of (by decide +kernel), by decide +kernel⟩, ⟨ready_of (by decide +kernel), by decide +kernel⟩,
    ⟨ready_of (by decide +kernel), by decide +kernel⟩, ⟨ready_of (by decide +kernel), by decide +kernel⟩,
    ⟨ready_of (by decide +kernel), by decide +kernel⟩, ready_of (by decide +kernel), by decide +kernel⟩

theorem witness_FirmwareUpdate_svn : Can (running0 1 2 none) (sealed 0x0D07 []) 4 none (fun _ t => t.upd.running = some ⟨slotIn 4, [], [], 0⟩ ∧
      t.upd.activated = false ∧ t.nv.bootRec.isSome = true ∧ t.upd.chosen = some (currentSlot t)) ∧
    Can (small true 1) (sealed 0x0D07 []) 0 none (fun _ t => t.upd.running = none) ∧
    Can (running0 1 2 none) (sealed 0x0D08 []) (updateStatus (running0 1 2 none)).length none (fun _ t =>
      (updateStatus (running0 1 2 none)).length = (updateStatus t).length) :=
  ⟨⟨ready_of (by decide +kernel), by decide +kernel⟩, ⟨ready_of (by decide +kernel), by decide +kernel⟩,
    ready_of (by decide +kernel), by decide +kernel⟩

/-- An activation of slot 1 from SHOW, at its verification or in its hold. -/
def activation (v : Bool) : Activation := { pkt := sealed 0x0D05 [], slot := 1, fromMode := 2, verifying := v }

/-- The sender with that activation under way. -/
def inActivation (m : Nat) (v : Bool) : State := { running0 m 2 none with upd := { (running0 m 2 none).upd with activation := some (activation v) } }

theorem witness_FirmwareUpdate_events : (inActivation 3 false).upd.activation = some (activation false) ∧ (activation false).verifying = false ∧
    settingsLost (runNew 1 (inActivation 3 false)) = false ∧ (inActivation 1 true).upd.activation = some (activation true) ∧
    (activation true).verifying = true ∧ mainVerifies (inActivation 1 true) (slotBytes (inActivation 1 true) 1) = false ∧
    (∃ s : State, s.upd.staging = some (sealed 0x0D04 (zeros 20), [1])) ∧ (∃ s, settingsLost (runNew 1 s) = true) :=
  ⟨by decide +kernel, by decide +kernel, by decide +kernel, by decide +kernel, by decide +kernel, by decide +kernel,
    ⟨{ small true 1 with upd := { (small true 1).upd with staging := some (sealed 0x0D04 (zeros 20), [1]) } }, rfl⟩,
    { running0 1 2 none with nv := { (running0 1 2 none).nv with gens := [(0, ⟨1, 1, 9, 0, 0, 0, []⟩)] } }, by decide +kernel⟩

/-- A Muslin frame for the device with operation 1, its CRC-32C as given. -/
def muslin (crc : Nat) : List Byte := [0x4D, 0x01, 1, 0] ++ leBytes 2 0 ++ leBytes 2 0xFFF ++ leBytes 4 crc

theorem witness_MuslinOperations_frames : inReset (small true 1) = false ∧ (small true 1).upd.mslBusy = none ∧ mslModeOk (small true 1) 1 = true ∧
    mslModeOk (small true 7) 7 = false ∧ u8 (muslin 0) 0 = 0x4D ∧ u16 (muslin 0) 4 ≤ 2040 ∧ (muslin 0).length = 12 + u16 (muslin 0) 4 ∧
    crc32c ((muslin 0).take 8) ≠ u32 (muslin 0) 8 ∧
    crc32c ((muslin (crc32c ((muslin 0).take 8))).take 8) = u32 (muslin (crc32c ((muslin 0).take 8))) 8 := by decide +kernel

/-- The parameters of LOAD_BEGIN for the largest bundle. -/
def largest : List Byte := leBytes 4 50331648 ++ zeros 4

/-- Parameters of LOAD_DATA for one byte at an offset. -/
def loadAt (o : Nat) : List Byte := leBytes 4 o ++ [9]

theorem witness_MuslinOperations_loads : largest.length = 8 ∧ u32 largest 0 ≤ 50331648 ∧ u8 largest 4 = 0 ∧ zeroAt largest 5 3 = true ∧
    (small true 1).upd.loadLen = none ∧ u32 (loadAt 63) 0 + ((loadAt 63).length - 4) ≤ 64 ∧ 64 < u32 (loadAt 64) 0 + ((loadAt 64).length - 4) ∧
    (∃ d, faultBytes (small true 1) [23, 1, 0, 0] = .ok d) :=
  ⟨by decide, by decide +kernel, by decide +kernel, by decide +kernel, by decide +kernel, by decide +kernel, by decide +kernel, ok_of (by decide +kernel)⟩

/-- Whatever the hash of the loaded bytes is, one of two hashes offered is not it. -/
theorem witness_MuslinOperations_hash (t : State) : ∃ p : List Byte, p.length = 48 ∧ Config.sha384 (memRead t loadMem 1) ≠ p := by
  by_cases h : Config.sha384 (memRead t loadMem 1) = zeros 48
  · exact ⟨1 :: zeros 47, by decide, by rw [h]; decide⟩
  · exact ⟨zeros 48, by decide, h⟩

/-! ### Witnesses: resets, boot and the device as a whole -/

theorem witness_ResetCauses_command : Can (small true 1) (sealed 0x0003 (leBytes 2 1000 ++ zeros 2)) 0 none (fun k t => k.p16 0 ≤ 1000 ∧ zeroAt k.par 2 2 = true ∧
      transitioning t = false) ∧
    Can { small true 1 with sys := { (small true 1).sys with warmWait := true } } (sealed 0x0003 (leBytes 2 0 ++ zeros 2)) 0 none (fun _ t =>
      transitioning t = true) :=
  ⟨⟨ready_of (by decide +kernel), by decide +kernel⟩, ready_of (by decide +kernel), by decide +kernel⟩

/-- A device held in reset by a cause that began with power or not. -/
def held (power : Bool) : State :=
  { small true 1 with sys := { (small true 1).sys with rst := { (small true 1).sys.rst with porst := true, sawPower := power } } }

theorem witness_ResetCauses : mode (small true 1) ≠ mLockdown ∧ mode (small true 7) = mLockdown ∧ inReset (small true 7) = false ∧
    (running0 1 2 none).upd.chosen.isSome = true ∧ mode (running0 1 2 none) ≠ mLockdown ∧ inReset (held true) = true ∧
    (held true).sys.rst.sawPower = true ∧ inReset (held false) = true ∧ (held false).sys.rst.sawPower = false := by decide +kernel

theorem witness_BootAndDeviceEvents_boot : ∃ s u : State, inReset s = false ∧ mode s = mBoot ∧ s.upd.chosen = none ∧ inReset u = false ∧ mode u = mBoot ∧
    u.upd.chosen.isSome = true ∧ u.sys.tamperArmed = true ∧
    settingsLost (settleActivation { u with sys := { u.sys with fwRunning := true } }) = false :=
  ⟨small true 0, { running0 0 2 none with sys := { (running0 0 2 none).sys with tamperArmed := true } }, by decide +kernel⟩

theorem witness_BootAndDeviceEvents_trial : ∃ (s u : State) (k : Nat), u = settleActivation { s with sys := { s.sys with fwRunning := true } } ∧
    inReset s = false ∧ mode s = mBoot ∧ s.upd.chosen.isSome = true ∧ s.sys.tamperArmed = true ∧ u.upd.slot = some k ∧
    (slotEntry u k).state = 3 ∧ settingsLost u = true :=
  let t := running0 0 2 none
  let s : State := { t with sys := { t.sys with tamperArmed := true }
                            nv := { t.nv with bootRec := some ⟨1, 0, 0, slotIn 3, slotIn 4⟩, gens := [(0, ⟨1, 1, 9, 0, 0, 0, []⟩)] } }
  ⟨s, settleActivation { s with sys := { s.sys with fwRunning := true } }, 0, rfl, by decide +kernel⟩

theorem witness_BootAndDeviceEvents_inputs : (getF (small true 1) R.SYS_GPIO_IN_IN).testBit 23 = false ∧
    (getF (setF (small true 1) R.SYS_GPIO_IN_IN 8388608) R.SYS_GPIO_IN_IN).testBit 23 = true ∧ inReset (small true 1) = false ∧ inReset (held true) = true ∧
    isSet (setF (small true 1) (clkBit 7) 1) (clkBit 7) = true ∧ isSet (setF (small true 1) (clkBit 0) 1) (clkBit 0) = true ∧
    isSet (setF (small true 1) (clkBit 7) 0) (clkBit 7) = false := by decide +kernel

theorem witness_BootAndDeviceEvents_device : alive linked = true ∧ isSet linked R.PCI_STATUS_LINK_UP = true ∧
    isSet (small true 1) R.PCI_STATUS_LINK_UP = false ∧ watchdogRuns (pcieOff 0 linked) .cp0 = false ∧
    ∃ s : State, alive s = true ∧ isSet s R.PCI_STATUS_LINK_UP = true ∧ running (pcieOff 0 s) = true ∧ watchdogRuns (pcieOff 0 s) .cp0 = true :=
  ⟨by decide +kernel, by decide +kernel, by decide +kernel, by decide +kernel,
    { linked with cps := { linked.cps with sems := [(1, .cp0)] } }, by decide +kernel⟩

/-! ### Ill-formed commands: each check of WellFormed refuses a command that it alone turns away -/

/-- A packet with an opcode, a message of Twill, and one on a channel that there is not. -/
def op (n : Nat) : Pkt := plainPkt n []
def m0 : Msg := msgTo 5 1 1 []
def m4 : Msg := msgTo 5 1 4 []

theorem test_messages_refused : ∀ m ∈ [m4, msgTo 5 256 1 [], msgTo 4096 1 1 [], { m0 with src := 4096 }, { m0 with hops := 128 }, msgTo 5 1 1 (zeros 4097)],
    m.wf = false := by decide +kernel

theorem test_refused_1 : ∀ i ∈ (
  [.getInfo (op 0x1), .getStatus (op 0x2), .setMode (op 0x3), .warmReset (op 0x4), .readRegs (op 0x5), .writeRegs (op 0x6),
   .ping (op 0x101), .semAcquire (op 0x102), .semWaitExpiry (op 0x102), .semRelease (op 0x103), .semStatus (op 0x104),
   .setLiveness (op 0x105), .readRemote (op 0x106) .dmaError, .writeRemote (op 0x107) .dmaError, .openExport (op 0x108),
   .exportWindowExpiry 16, .closeExport (op 0x109), .setGroups (op 0x10a), .setEthPort (op 0x201), .ethPortRestartDone 2,
   .setAddress (op 0x202), .addFlow (op 0x203), .modifyFlow (op 0x204), .removeFlow (op 0x205), .getFlow (op 0x206),
   .createSurface (op 0x301), .destroySurface (op 0x302), .getSurface (op 0x303), .setSurface (op 0x304),
   .publish (op 0x305), .upload (op 0x306), .setLayer (op 0x401), .setZOrder (op 0x402), .setBackground (op 0x403),
   .loadBank (op 0x404) .dmaError, .setWriteback (op 0x405)] : List Instr), i.wf = false := by decide +kernel

theorem test_refused_2 : ∀ i ∈ (
  [.setPreview (op 0x406), .commit (op 0x407), .commitLockIn 4294967296, .setWall (op 0x501), .setProfile (op 0x502),
   .setTone (op 0x503), .setAmbientCurve (op 0x504), .commitColour (op 0x505), .setAmbientSensors (op 0x506),
   .loadMap (op 0x601) .dmaError, .commitMap (op 0x602), .getMap (op 0x603) .dmaError, .calibrate (op 0x701),
   .discover (op 0x702), .step (op 0x703), .getTopology (op 0x704), .setPtp (op 0x801), .setCadence (op 0x802),
   .armTrigger (op 0x803), .disarmTrigger (op 0x804), .setWtSeconds (op 0x805), .getTime (op 0x806),
   .factoryWrite (op 0x901) .dmaError, .loadUserLayer (op 0x902) .dmaError, .revertUserLayer (op 0x903),
   .readAgeing (op 0x904) .dmaError, .moduleRelease (op 0x905), .setStrandGeometry (op 0xa01), .strandRead (op 0xa02),
   .enumerate (op 0xa03), .diagDrive (op 0xa04), .setFeed (op 0xb01), .setDeratingCurve (op 0xb02), .setSupplies (op 0xb03),
   .clearSupplyFaults (op 0xb04), .setDiode (op 0xb05)] : List Instr), i.wf = false := by decide +kernel

theorem test_refused_3 : ∀ i ∈ (
  [.setAmon (op 0xb06), .setThreshold (op 0xb07), .enrolOwner (op 0xc01), .rotateOwner (op 0xc02), .releaseOwner (op 0xc03),
   .setDelegate (op 0xc04), .setDenyList (op 0xc05), .loadModuleSigner (op 0xc06), .revokeRoot (op 0xc07),
   .setPolicy (op 0xc08), .tamperClear (op 0xc09), .zeroise (op 0xc0a), .lockdown (op 0xc0b), .getNonce (op 0xc0c),
   .debugUnlock (op 0xc0d), .debugLock (op 0xc0e), .getAttestation (op 0xc0f), .readTamperLog (op 0xc10),
   .configSet (op 0xd01), .configGet (op 0xd02) .dmaError, .configCommit (op 0xd03), .configRevert (op 0xd04),
   .stageImage (op 0xd05) .dmaError, .activate (op 0xd06), .revertImage (op 0xd07), .commitSvn (op 0xd08),
   .getUpdateStatus (op 0xd09), .readQueue (op 0xe01), .readFaults (op 0xe02), .readCell (op 0xe03),
   .envelopeVerified (op 0) .dmaError, .indAddrWrite 3 0, .indDataRead 3 0, .indDataWrite 3 0, .latchedPairRead 3 3 2 0,
   .latchedPairRead 2 4 2 0] : List Instr), i.wf = false := by decide +kernel

theorem test_refused_4 : ∀ i ∈ (
  [.latchedPairRead 2 3 3 0, .eventAcknowledge 3 1572863 0, .eventAcknowledge 2 1572864 0, .cfgLockWrite 3 0,
   .gpioOutWrite 3 0, .sysLoadWrite 3 0, .passMaxClear 3 0, .calCmdWrite 3 7 0, .calCmdWrite 2 8 0, .injGo 3 7 3 0,
   .injGo 2 8 3 0, .injGo 2 7 4 0, .timSnapGo 3 0, .triggerArmWrite 3 15 0, .triggerArmWrite 2 16 0,
   .triggerDisarmWrite 3 15 0, .triggerDisarmWrite 2 16 0, .ckptNow 3 0, .stepCmdGo 3 7 0, .stepCmdGo 2 8 0,
   .pciRetrain 3 0, .faultRecordClear 3 23 0, .faultRecordClear 2 24 0, .clkSelChange 3 0, .testLoopWrite 3 7 0,
   .testLoopWrite 2 8 0, .parkReqWrite 3 7 3 0, .parkReqWrite 2 8 3 0, .parkReqWrite 2 7 4 0, .eqOverrideWrite 3 7 3 0,
   .eqOverrideWrite 2 8 3 0, .eqOverrideWrite 2 7 4 0, .txIdleWrite 3 7 0, .txIdleWrite 2 8 0, .registerWrite 3 0 0 0,
   .resetEnd true 16 3 []] : List Instr), i.wf = false := by decide +kernel

theorem test_refused_5 : ∀ i ∈ (
  [.resetEnd true 15 4 [], .resetEnd true 15 3 [3], .tamperEvent 7 0 false, .tamperEvent 9 0 false, .gpioEdge 24 false,
   .pcieLinkUp 0 1, .pcieLinkUp 5 1, .pcieLinkUp 1 3, .ethLinkChange 2 3 false, .ethLinkChange 1 4 false,
   .ethFrameRx 2 3 [] 0, .ethFrameRx 1 4 [] 0, .ptpAnnounceTimeout 2, .delayReqTimer 2, .mergeWindowExpiry 64,
   .legIdle 64 1, .legIdle 63 2, .flowTimeout 64, .frameBoundary 4294967296, .guardCheckDone 24, .cellLaunch 8,
   .presentInstant 4294967296, .frameClose 4294967296, .armSend 4294967296, .statusPoll 8, .returnReply 8 [] 0,
   .readTimeout 8, .triggerFire 16, .pulseEnd 24, .tSync 8 m0, .tSync 7 m4, .tFollow 8 m0, .tFollow 7 m4, .tDreq 8 m0,
   .tDreq 7 m4, .tDresp 8 m0] : List Instr), i.wf = false := by decide +kernel

theorem test_refused_6 : ∀ i ∈ (
  [.tDresp 7 m4, .tAnnounce 8 m0, .tAnnounce 7 m4, .tParams 8 m0, .tParams 7 m4, .announceExpiry 4096, .offerExpiry 8,
   .budgetPeriod 256, .budgetEchoTimeout 256, .sagGatherExpiry 256, .sensorSample 56 none, .thresholdDwellExpiry 24,
   .thresholdDwellExpiry 31, .thresholdDwellExpiry 64, .patrolScrub 0 0 0 2, .patrolScrub 0 10 0 2, .patrolScrub 0 9 0 3,
   .containmentEnd 24, .losAssert 8 4, .losAssert 7 5, .losDeassert 8 4, .losDeassert 7 5, .clockOutOfLock 8,
   .laneOutOfLock 8 3, .laneOutOfLock 7 4, .frequencyMeasured 8 0, .trainingBlock 8 3 0 false [],
   .trainingBlock 7 4 0 false [], .trainingTimeout 8, .calRunDone 8 3 none, .calRunDone 7 4 none, .calStart 8,
   .calRetryTimer 8 3, .calRetryTimer 7 4, .loopTimeout 8, .flitRx 8 3 0 none []] : List Instr), i.wf = false := by decide +kernel

theorem test_refused_7 : ∀ i ∈ (
  [.flitRx 7 4 0 none [], .retryTimeout 8, .unackedTimeout 8, .hello 8 [], .laneReq 8 [], .laneset 8 [], .stepFlit 8 [],
   .retrainTimeout 8, .autoStepDown 8 0, .stepUpTimer 8, .authHello 8 m0, .authHello 7 m4, .proof 8 m0, .proof 7 m4,
   .authFail 8 m0, .authFail 7 m4, .authBackoffExpiry 8, .rekey 8 m0, .rekey 7 m4, .rekeyTimer 8, .command 8 m0,
   .command 7 m4, .reply 8 m0, .reply 7 m4, .cellMessage 8 m0, .cellMessage 7 m4, .discoverMessage 8 m0,
   .discoverMessage 7 m4, .discoverReply 8 m0, .discoverReply 7 m4, .probe 8 m0, .probe 7 m4, .probeReply 8 m0,
   .probeReply 7 m4, .probeWaitExpiry 8 65, .probeWaitExpiry 7 66] : List Instr), i.wf = false := by decide +kernel

theorem test_refused_8 : ∀ i ∈ (
  [.assign 8 m0, .assign 7 m4, .assignAck 8 m0, .assignAck 7 m4, .assignRetryTimeout 8 65, .assignRetryTimeout 7 66,
   .linkEvent 8 m0, .linkEvent 7 m4, .healHoldExpiry 8, .liveness 8 m0, .liveness 7 m4, .backupReq 8 m0, .backupReq 7 m4,
   .backupRelease 8 m0, .backupRelease 7 m4, .lockdownNotice 8 m0, .lockdownNotice 7 m4, .slotNotice 8 m0, .slotNotice 7 m4,
   .slotReply 8 m0, .slotReply 7 m4, .slotNoticeRetry 256, .deliveryReport 8 m0, .deliveryReport 7 m4, .wallSettings 8 m0,
   .wallSettings 7 m4, .ambientReport 8 m0, .ambientReport 7 m4, .toneState 8 m0, .toneState 7 m4, .budget 8 m0,
   .budget 7 m4, .demand 8 m0, .demand 7 m4, .feedClaim 8 m0, .feedClaim 7 m4] : List Instr), i.wf = false := by decide +kernel

theorem test_refused_9 : ∀ i ∈ (
  [.tunnel 8 m0, .tunnel 7 m4, .mslFrame (zeros 2053), .ident 65536 [], .ident 65535 (zeros 2041), .faults 65536 [],
   .faults 65535 (zeros 2041), .updStatus 65536 [], .updStatus 65535 (zeros 2041), .loadBegin 65536 [],
   .loadBegin 65535 (zeros 2041), .loadData 65536 [], .loadData 65535 (zeros 2041), .loadEnd 65536 [],
   .loadEnd 65535 (zeros 2041), .mslStage 65536 [], .mslStage 65535 (zeros 2041), .mslActivate 65536 [],
   .mslActivate 65535 (zeros 2041), .mslRevert 65536 [], .mslRevert 65535 (zeros 2041), .laneReqTimer 8, .checkerLock 8 3,
   .checkerLock 7 4, .checkerLockLoss 8 3 0 0, .checkerLockLoss 7 4 0 0, .clockLoss 8, .clockRestored 8] : List Instr), i.wf = false := by decide +kernel

/-! ### Values that the spec works out -/

/-- R181: the check value of CRC-64/XZ over "123456789". -/
theorem test_crc64 : crc64 [0x31, 0x32, 0x33, 0x34, 0x35, 0x36, 0x37, 0x38, 0x39] = 0x995DC9BBDF1939FA := by decide +kernel

/-- R74: 940 of 10 bits in 16. -/
theorem test_replication : replicateBits 10 16 940 = 0xEB3A ∧ replicateBits 10 16 0 = 0 ∧ replicateBits 8 10 255 = 1023 := by decide +kernel

/-- R91: pixel (1,000, 555) of a plane 120 macro-tiles wide. -/
theorem test_tiledPixel : tileOff 120 1000 555 = 0x817330 := by decide +kernel

/-- Table 5.4: positions at the seam of a split picture. -/
theorem test_seamPositions : scalerPos 0 3840 8640 10 20 = (4, 11) ∧ scalerPos 0 3840 8640 8639 20 = (3839, 18) ∧
    scalerPos 3840 3840 8640 0 20 = (3839, 46) := by decide +kernel

/-- R133: red of the logo pixel over the canvas. -/
theorem test_logoPixel : (blendPx false 0x8000 ⟨Flt.ofRat 1 10, .zero, .zero, .one⟩ ⟨Flt.ofRat 1 4, .zero, .zero, Flt.ofRat 1 2⟩).r.toCanvas = 0x3266 := by
  decide +kernel

/-- Table 6.4: canvas to L16 at two wall gains. -/
theorem test_wallEncoder : (wallEncode 32768 0xC000 0x2E10 0x2E10 0x2E10).1 = 6208 ∧ (wallEncode 32768 0xC000 0x3800 0x3800 0x3800).1 = 32768 ∧
    (wallEncode 4096 0xC000 0x2E10 0x2E10 0x2E10).1 = 776 ∧ (wallEncode 4096 0xC000 0x3800 0x3800 0x3800).1 = 4096 := by decide +kernel

/-- A layer that holds two decay points of class 0. -/
def decayLayer : List Byte := zeros (0x100 + 74) ++ leBytes 2 30802 ++ leBytes 2 30638 ++ zeros 512

/-- Table 11.9: gain, matrix, user layer, temperature and ageing of the R, G and B lamps. -/
theorem test_correction : gainOf 32440 16384 = 16220 ∧ stageGain 40000 16220 = 39600 ∧
    stageMatrix [7455, 344, 41, 2] [39600, 29700, 19800] = 37400 ∧ stageMatrix [-120, 6820, 205, 0] [39600, 29700, 19800] = 24641 ∧
    stageMatrix [18, -96, 7702, 1] [39600, 29700, 19800] = 18363 ∧ stageUser 24641 33096 (-12) = 24876 ∧
    stageTemp [8730, 0, 0] [37400, 24876, 18363] = 39856 ∧ stageTemp [0, 8375, 18] [37400, 24876, 18363] = 25472 ∧
    decayV decayLayer 0 45097156608 0x80 = 30761 ∧ ageGain 0x6000 30761 = 17453 ∧ ageGain 0x6000 32276 = 16634 ∧
    stageAge 39856 17453 = 679303 ∧ stageAge 25472 16634 = 413771 ∧ stageAge 18589 16891 = 306628 := by decide +kernel

/-- Table 11.9: the thresholds of pixel (465, 250), and the codes. -/
theorem test_dither : dither true 465 250 0 = 11 ∧ dither true 465 250 1 = 5 ∧ dither true 465 250 2 = 2 ∧ (679303 + 11) / 16 = 42457 ∧
    (413771 + 5) / 16 = 25861 ∧ (306628 + 2) / 16 = 19164 := by decide +kernel

/-- The Quay tile of 480 by 270 pixels on 45 strands of 6 drivers. -/
def quay : State := { small false 1 with str := { (small false 1).str with
  geo := some (leBytes 4 0x4D475453 ++ [1, 45, 6, 16, 32, 0, 0, 0] ++ leBytes 2 1 ++ leBytes 2 480 ++ leBytes 2 270 ++ zeros 14) } }

/-- R372: cell 479 goes to block (29, 7), driver 5 of strand 39, in a WRITE that starts with these words. -/
theorem test_strandPacket : blockPlace (geoOf quay) 29 7 = (39, 5) ∧
    (writePacket quay 479 239).take 8 = leBytes 2 0xB4C3 ++ leBytes 2 0x0051 ++ leBytes 2 0x01F0 ++ leBytes 2 0x0BC0 := by decide +kernel

/-- R420: READ_VIN of 0xF3A8 is 234.0 V. -/
theorem test_linear11 : linear11 0xF3A8 10 = (9360, 4) := by decide +kernel

/-- R414: 24 tiles of 700 W and 48 of 250 W, in mW rounded down, before and after the mains falls to 190 V. -/
theorem test_feedShares :
    let tiles := (List.range 72).map (fun i => (i, if i < 24 then 700000 else 250000, none))
    ((shareOut 31979200 298488 1 tiles).map Prod.snd).take 25 = List.replicate 24 711830 ++ [310318] ∧
    ((shareOut 24113200 298488 1 tiles).map Prod.snd).take 25 = List.replicate 24 407740 ++ [298488] := by decide +kernel

/-- R28, Table 2.2: from SHOW a device goes to STANDBY and HOLD, from HOLD to SHOW and STANDBY; SERVICE returns to STANDBY. -/
theorem test_modeTable : (List.range 8).map (fun a => (List.range 8).filter (modeAllowed a)) = [[], [2, 4], [1, 3], [1, 2], [1], [], [], []] := by
  decide +kernel

/-- A step with set-mode at the front of the queue enters STANDBY's neighbour SERVICE, and the queue moves on. -/
theorem test_stepRuns : ∃ t, step { released (sealed 2 [4, 0, 0, 0]) none (small true 1) with
      pending := [.setMode (sealed 2 [4, 0, 0, 0]), .cp1Flush] } = .next t ∧ mode t = 4 ∧ t.pending = [.cp1Flush] :=
  ⟨_, rfl, by decide +kernel⟩

/-- An unsigned ping from a host is answered with what it carried. -/
theorem test_ping : ∃ t, exec (.ping (plainPkt 0x0100 [7])) { small true 1 with
      cps := { (small true 1).cps with cp1Cmd := [] } } = .next t ∧ t.cps.held = [] := ⟨_, rfl, by decide +kernel⟩


/-! ### Line coding -/

/-- Table 8.3: two bytes through Gray coding and the precoder. -/
theorem test_precoder_worked_example :
    lineLevels true (lineBits [0x1B, 0x9F]) = [1, 3, -3, -3, 1, -3, 3, 1] := by decide

/-- The text after Table 8.3: symbol 3 decided as -1 spoils two Gray codes. -/
theorem test_precoder_one_symbol_error :
    unprecode 0 [2, 3, 0, 1, 2, 0, 3, 2] = [2, 1, 3, 1, 3, 2, 3, 1] := by decide

/-- A codeword is a multiple of the generator (R247). -/
theorem test_rs_syndromes :
    ((List.range 16).all fun i => rsSyndrome (0x2A5 :: rsCheck [0x2A5]) i == 0) = true := by decide +kernel

end Sys2Proof.Machine
end

section
/-!
The widening of samples by bit replication (R74), for every depth d and field width w with d < w ≤ 2 * d:
the sample stands above, and the bits repeated below it never reach it. The widths of R74 are instances.
-/

namespace Sys2Proof.Machine

@[simp] theorem replicateBits_self (d v : Nat) : replicateBits d d v = v := if_pos le_rfl

@[simp] theorem replicateBits_zero (d w : Nat) : replicateBits d w 0 = 0 := by
  unfold replicateBits
  split <;> simp

section Wider
variable {d w v : Nat}

theorem replicateBits_of_lt (hdw : d < w) : replicateBits d w v = v * 2 ^ (w - d) + v / 2 ^ (2 * d - w) :=
  if_neg (Nat.not_le.mpr hdw)

/-- The top w - d bits of a sample are those above its lower 2 * d - w. -/
theorem two_pow_depth (hdw : d < w) (hw : w ≤ 2 * d) : 2 ^ d = 2 ^ (2 * d - w) * 2 ^ (w - d) := by
  rw [← Nat.pow_add]
  congr 1
  omega

/-- The repeated bits fit below the sample. -/
theorem repeatedBits_lt (hdw : d < w) (hw : w ≤ 2 * d) (hv : v < 2 ^ d) : v / 2 ^ (2 * d - w) < 2 ^ (w - d) :=
  Nat.div_lt_of_lt_mul (two_pow_depth hdw hw ▸ hv)

/-- R74's way to write it: the sample shifted up, and its top bits below. -/
theorem replicateBits_eq_or (hdw : d < w) (hw : w ≤ 2 * d) (hv : v < 2 ^ d) :
    replicateBits d w v = (v <<< (w - d)) ||| (v >>> (2 * d - w)) := by
  have low : v >>> (2 * d - w) < 2 ^ (w - d) := Nat.shiftRight_eq_div_pow v _ ▸ repeatedBits_lt hdw hw hv
  rw [replicateBits_of_lt hdw, ← Nat.shiftLeft_add_eq_or_of_lt low, Nat.shiftLeft_eq, Nat.shiftRight_eq_div_pow]

theorem replicateBits_div (hdw : d < w) (hw : w ≤ 2 * d) (hv : v < 2 ^ d) : replicateBits d w v / 2 ^ (w - d) = v := by
  rw [replicateBits_of_lt hdw, Nat.mul_comm, Nat.mul_add_div (Nat.two_pow_pos _), Nat.div_eq_of_lt (repeatedBits_lt hdw hw hv),
    Nat.add_zero]

theorem replicateBits_lt (hdw : d < w) (hw : w ≤ 2 * d) (hv : v < 2 ^ d) : replicateBits d w v < 2 ^ w := by
  rw [← pow_mul_pow_sub 2 hdw.le, ← Nat.div_lt_iff_lt_mul (Nat.two_pow_pos _), replicateBits_div hdw hw hv]
  exact hv

/-- Bits counted from the top: those of the filled part are those of the sample. -/
theorem testBit_replicateBits_low (hdw : d < w) (hw : w ≤ 2 * d) (hv : v < 2 ^ d) {i : Nat} (hi : i < w - d) :
    (replicateBits d w v).testBit (w - d - 1 - i) = v.testBit (d - 1 - i) := by
  have below : ¬ w - d ≤ w - d - 1 - i := by omega
  have place : 2 * d - w + (w - d - 1 - i) = d - 1 - i := by omega
  simp [replicateBits_eq_or hdw hw hv, below, place]

/-- Full scale is all ones: above stand the d ones of the sample, below w - d of them. -/
theorem replicateBits_fullScale (hdw : d < w) (hw : w ≤ 2 * d) : replicateBits d w (2 ^ d - 1) = 2 ^ w - 1 := by
  have low : (2 ^ d - 1) / 2 ^ (2 * d - w) = 2 ^ (w - d) - 1 := by
    rw [two_pow_depth hdw hw]
    simpa using Nat.mul_sub_div 0 (2 ^ (2 * d - w)) (2 ^ (w - d)) (by simp)
  have fits : 2 ^ (w - d) ≤ 2 ^ d * 2 ^ (w - d) := Nat.le_mul_of_pos_left _ (Nat.two_pow_pos d)
  have pos := Nat.two_pow_pos (w - d)
  rw [replicateBits_of_lt hdw, low, ← pow_mul_pow_sub 2 hdw.le, Nat.sub_mul]
  omega

end Wider

/-- A pixel of a 4:2:2 flow is one word: Y below, and the chroma sample of its column's parity above. -/
theorem segPixel_422 (x data : List Byte) (x0 n : Nat) (h : fSampling x = 0) :
    segPixel x data x0 n = [
      replicateBits (sampleBits x) 16 (beBits data ((4 * (n / 2) + 1 + 2 * (n % 2)) * sampleBits x) (sampleBits x)) +
      65536 * replicateBits (sampleBits x) 16
        (beBits data ((4 * (n / 2) + (if (x0 + n) % 2 = 0 then 0 else 2)) * sampleBits x) (sampleBits x))] := by
  rw [Nat.mul_comm 65536]
  exact if_pos h

/-- The pairs of depth and width of R74 are ones that a sample fills with at most one repetition of its bits. -/
theorem widenings_fit {d w : Nat} (h : (d, w) ∈ [(8, 10), (8, 16), (10, 16), (12, 16)]) : d < w ∧ w ≤ 2 * d := by
  have all : ∀ p ∈ [(8, 10), (8, 16), (10, 16), (12, 16)], p.1 < p.2 ∧ p.2 ≤ 2 * p.1 := by decide
  exact all _ h

/-- Settles O36: R74's four widenings, and what they keep, are instances of the facts about every d < w ≤ 2 * d. -/
theorem sampleWidening : Obligations.SampleWidening := by
  unfold Obligations.SampleWidening
  refine ⟨?_, ?_, ?_, ?_, replicateBits_self, ?_, segPixel_422⟩
  · exact fun v hv => replicateBits_eq_or (d := 8) (w := 10) (by decide) (by decide) hv
  · exact fun v hv => replicateBits_eq_or (d := 8) (w := 16) (by decide) (by decide) hv
  · exact fun v hv => replicateBits_eq_or (d := 10) (w := 16) (by decide) (by decide) hv
  · exact fun v hv => replicateBits_eq_or (d := 12) (w := 16) (by decide) (by decide) hv
  · intro d w v hdw hv
    obtain ⟨wider, fits⟩ := widenings_fit hdw
    exact ⟨replicateBits_lt wider fits hv, replicateBits_div wider fits hv, replicateBits_zero d w,
      replicateBits_fullScale wider fits, fun _ hi => testBit_replicateBits_low wider fits hv hi⟩

end Sys2Proof.Machine
end


section
/-!
The refusal of a host publication (R99). A reply leaves the surfaces and the queue of uploads alone, so an upload that R99
refuses as it starts ends with its reply alone.
-/

namespace Sys2Proof.Machine

/-! ### A reply leaves the surfaces alone -/

@[simp] theorem sendVector_srf (v : Nat) (s : State) : (sendVector v s).srf = s.srf := by
  unfold sendVector
  split <;> simp

@[simp] theorem raise_srf (src : Nat) (s : State) : (raise src s).srf = s.srf := by
  unfold raise
  split
  · rfl
  · dsimp only
    split <;> simp

@[simp] theorem portUpd_srf (p : Nat) (f : Port → Port) (s : State) : (portUpd p f s).srf = s.srf := rfl

@[simp] theorem transmit_srf (p : Nat) (m : Msg) (s : State) : (transmit p m s).srf = s.srf := by
  unfold transmit
  rw [send_srf, incF_srf, add48_srf, portUpd_srf]

@[simp] theorem pumpN_srf (p n : Nat) (s : State) : (pumpN p n s).srf = s.srf := by
  induction n generalizing s with
  | zero => rfl
  | succ n ih =>
    unfold pumpN
    split
    · rfl
    · simp [ih]

@[simp] theorem sendMsg_srf (p : Nat) (m : Msg) (s : State) : (sendMsg p m s).srf = s.srf := by
  unfold sendMsg
  split
  · simp [pump]
  · rfl

@[simp] theorem sendTo_srf (dev : Nat) (m : Msg) (s : State) : (sendTo dev m s).srf = s.srf := by
  unfold sendTo
  split
  · simp
  · rfl

theorem foldl_srf {α : Type} {f : State → α → State} (hf : ∀ s x, (f s x).srf = s.srf) (l : List α) (s : State) :
    (l.foldl f s).srf = s.srf := by
  induction l generalizing s with
  | nil => rfl
  | cons x l ih => exact (ih (f s x)).trans (hf s x)

/-- A tile sends out of both topology ports, a sender out of one port at most. -/
@[simp] theorem sendTunnel_srf (dest : Nat) (frame : List Byte) (s : State) : (sendTunnel dest frame s).srf = s.srf := by
  unfold sendTunnel
  dsimp only
  split
  · split
    · simp
    · rfl
  · refine foldl_srf (fun a p => ?_) _ _
    split
    · simp
    · rfl

@[simp] theorem mslReply_srf (status : Nat) (data : List Byte) (s : State) : (mslReply status data s).srf = s.srf := by
  unfold mslReply mslAnswer
  split
  · rfl
  · dsimp only
    split <;> simp

@[simp] theorem ringPut_srf (k : Pkt) (rflags status : Nat) (data : List Byte) (s : State) :
    (ringPut k rflags status data s).srf = s.srf := by
  simp [ringPut]

@[simp] theorem fifoPut_srf (k : Pkt) (rflags status : Nat) (data : List Byte) (s : State) :
    (fifoPut k rflags status data s).srf = s.srf := by
  unfold fifoPut
  dsimp only
  split <;> rfl

@[simp] theorem vc1Put_srf (k : Pkt) (src rflags status : Nat) (data : List Byte) (s : State) :
    (vc1Put k src rflags status data s).srf = s.srf := by
  unfold vc1Put
  dsimp only
  split
  · simp
  · split
    · simp
    · rfl

@[simp] theorem putReply_srf (k : Pkt) (rflags status : Nat) (data : List Byte) (s : State) :
    (putReply k rflags status data s).srf = s.srf := by
  unfold putReply
  cases k.req with
  | cp0 =>
    dsimp only
    split
    · simp
    · rfl
  | cp1 => simp
  | vc1 src o => simp
  | muslin => simp

@[simp] theorem unreserve_srf (k : Pkt) (s : State) : (unreserve k s).srf = s.srf := by
  unfold unreserve
  split <;> rfl

@[simp] theorem keepReply_srf (k : Pkt) (status : Nat) (data : List Byte) (s : State) :
    (keepReply k status data s).srf = s.srf := by
  unfold keepReply
  split <;> rfl

/-- The end of a command changes no surface and no upload, whichever way its reply goes. -/
@[simp] theorem finish_srf (k : Pkt) (status : Nat) (data : List Byte) (s : State) :
    (finish k status data s).srf = s.srf := by
  unfold finish sendFinal
  split
  · split <;> rfl
  · dsimp only
    split
    · simp
    · split <;> simp

/-! ### GFLAGS in a surface descriptor (Table 4.1) -/

@[simp] theorem leBytes_length (n v : Nat) : (leBytes n v).length = n := by
  induction n generalizing v with
  | zero => rfl
  | succ n ih => simp [leBytes, ih]

theorem sub_length {l : List Byte} {off n : Nat} (h : off + n ≤ l.length) : (sub l off n).length = n := by
  simp only [sub, List.length_take, List.length_drop]
  omega

/-- A field that begins where a first part ends is a field of the rest. -/
theorem leAt_append {l : List Byte} {off : Nat} (h : l.length = off) (r : List Byte) (n : Nat) :
    leAt (l ++ r) off n = leAt r 0 n := by
  simp [leAt, sub, List.drop_left' h]

theorem leAt_leBytes_one (v : Nat) (r : List Byte) : leAt (leBytes 1 v ++ r) 0 1 = v % 256 := by
  simp [leAt, sub, leBytes, leVal]

/-- GFLAGS, at offset 0x38: T_CAP valid, latched, an upload pending. -/
theorem surfDesc_gflags {f : Surface} (h : f.desc.length = 64) (s : State) (i : Nat) :
    u8 (surfDesc s i f) 0x38 = (if f.ntMapped then 1 else 0) + (if f.latched.isEmpty then 0 else 2) +
      (if uploadPending s (handleOf i f) then 4 else 0) := by
  have early : (sub f.desc 4 8).length = 8 := sub_length (by omega)
  have late : (sub f.desc 0x10 24).length = 24 := sub_length (by omega)
  unfold surfDesc
  dsimp only
  rw [List.append_assoc, u8, leAt_append (by simp [early, late]), leAt_leBytes_one]
  refine Nat.mod_eq_of_lt ?_
  split <;> split <;> split <;> decide

/-- GFLAGS[1] says that a generation of the surface is latched. -/
theorem surfDesc_latched_iff {f : Surface} (h : f.desc.length = 64) (s : State) (i : Nat) :
    (u8 (surfDesc s i f) 0x38).testBit 1 = true ↔ f.latched ≠ [] := by
  have flags : ∀ nt em up : Bool,
      ((if nt then 1 else 0) + (if em then 0 else 2) + (if up then 4 else 0)).testBit 1 = !em := by decide
  rw [surfDesc_gflags h, flags]
  simp

/-! ### The two cases of R99 -/

theorem publishBlocked_iff {s : State} {h : Nat} {f : Surface} :
    publishBlocked s h f = true ↔ ingestOwned s h = true ∨ (f.releasedGen ≠ f.generation ∧ f.latched ≠ []) := by
  simp [publishBlocked]

/-- A command whose own part refuses it changes nothing but by its reply. -/
theorem plain_refused {s t : State} {k : Pkt} {c : Option (List Byte)} {st : Nat} {body : State → Res}
    (hk : ready s k 0 c t) (hb : body t = .err st) : plain k body s = finish k st [] t := by
  rw [plain_ready body hk (by rw [hb]; rfl), hb]
  rfl

/-- The same for one that goes on. -/
theorem plain_later {s t u : State} {k : Pkt} {c : Option (List Byte)} {body : State → Res}
    (hk : ready s k 0 c t) (hb : body t = .later u) : plain k body s = u := by
  rw [plain_ready body hk (by rw [hb]; rfl), hb]
  rfl

/-- `publish` of a surface that R99 keeps from the host. -/
theorem execPublish_blocked {s t : State} {k : Pkt} {c : Option (List Byte)} {i : Nat} {f : Surface}
    (hk : ready s k 0 c t) (hf : surfOf t (k.p32 0) = some (i, f)) (hb : publishBlocked t (k.p32 0) f = true)
    (hn : k.p32 4 < 2) : execPublish k s = .next (finish k St.inUse [] t) := by
  have hpar : ¬ 2 ≤ k.p32 4 := by omega
  exact congrArg Host.Outcome.next (plain_refused hk (by simp [hf, hb, hpar]))

/-! ### Uploads that R99 refuses -/

theorem surfOf_uploads (s : State) (l : List Upload) (h : Nat) :
    surfOf { s with srf := { s.srf with uploads := l } } h = surfOf s h := rfl

theorem publishBlocked_uploads (s : State) (l : List Upload) (h : Nat) (f : Surface) :
    publishBlocked { s with srf := { s.srf with uploads := l } } h f = publishBlocked s h f := rfl

/-- With no upload in the queue none starts. -/
theorem startUpload_nil {s : State} (hu : s.srf.uploads = []) (n : Nat) : startUpload n s = s := by
  cases n with
  | zero => rfl
  | succ n =>
    unfold startUpload
    rw [hu]
    simp

/-- An upload that publishes and is first in the queue is refused as it starts: it leaves the queue with its reply, and the
next one starts. -/
theorem startUpload_blocked {s : State} {u : Upload} {rest : List Upload} {i : Nat} {f : Surface} (n : Nat)
    (hr : s.srf.running = false) (hu : s.srf.uploads = u :: rest) (hp : u8 u.par 5 % 2 = 1)
    (hf : surfOf s (u32 u.par 0) = some (i, f)) (hb : publishBlocked s (u32 u.par 0) f = true) :
    startUpload (n + 1) s =
      startUpload n (finish u.pkt St.inUse [] { s with srf := { s.srf with uploads := rest } }) := by
  rw [startUpload]
  simp [hr, hu, hp, hf, hb]

/-- An upload that passes R104's checks, of a surface that no flow owns, is put last in the queue (R105). -/
theorem execUpload_queued {s t : State} {k : Pkt} {c : Option (List Byte)} {i : Nat} {f : Surface}
    (hk : ready s k 0 c t) (hf : surfOf t (k.p32 0) = some (i, f)) (hen : isSet t R.SRF_CTRL_UPLOAD_EN = true)
    (hok : uploadOk k.par f.desc = true) (free : ingestOwned t (k.p32 0) = false)
    (room : ¬ 64 ≤ t.srf.uploads.length - (if t.srf.running then 1 else 0)) :
    execUpload k s = .next (startUpload 66 { t with srf := { t.srf with uploads := t.srf.uploads ++ [⟨k, k.par⟩] } }) := by
  refine congrArg Host.Outcome.next (plain_later hk ?_)
  rw [hen, hf]
  simp only [hok, free, room, Bool.not_true, Bool.false_eq_true, if_false]

/-- An upload of a surface that a flow owns is refused as it comes. -/
theorem execUpload_owned {s t : State} {k : Pkt} {c : Option (List Byte)} {i : Nat} {f : Surface}
    (hk : ready s k 0 c t) (hf : surfOf t (k.p32 0) = some (i, f)) (hen : isSet t R.SRF_CTRL_UPLOAD_EN = true)
    (hok : uploadOk k.par f.desc = true) (owned : ingestOwned t (k.p32 0) = true) :
    execUpload k s = .next (finish k St.inUse [] t) := by
  refine congrArg Host.Outcome.next (plain_refused hk ?_)
  rw [hen, hf]
  simp only [hok, owned, Bool.not_true, Bool.false_eq_true, if_false, if_true]

/-- An upload that starts as it comes, and that R99 refuses, ends with its reply. -/
theorem execUpload_blocked {s t : State} {k : Pkt} {c : Option (List Byte)} {i : Nat} {f : Surface}
    (hk : ready s k 0 c t) (hf : surfOf t (k.p32 0) = some (i, f)) (hen : isSet t R.SRF_CTRL_UPLOAD_EN = true)
    (hok : uploadOk k.par f.desc = true) (free : ingestOwned t (k.p32 0) = false) (hp : u8 k.par 5 % 2 = 1)
    (hb : publishBlocked t (k.p32 0) f = true) (hu : t.srf.uploads = []) (hr : t.srf.running = false) :
    execUpload k s = .next (finish k St.inUse [] t) := by
  have queue : t.srf.uploads ++ [⟨k, k.par⟩] = ⟨k, k.par⟩ :: t.srf.uploads := by rw [hu]; rfl
  have refused : startUpload 66 { t with srf := { t.srf with uploads := ⟨k, k.par⟩ :: t.srf.uploads } } =
      startUpload 65 (finish k St.inUse [] t) :=
    startUpload_blocked (u := ⟨k, k.par⟩) 65 hr rfl hp ((surfOf_uploads t _ _).trans hf)
      ((publishBlocked_uploads t _ _ f).trans hb)
  rw [execUpload_queued hk hf hen hok free (by simp [hu]), queue, refused, startUpload_nil (by rw [finish_srf]; exact hu)]

/-- Settles O37: both cases of R99 make `publishBlocked` true, which refuses a publish, an upload that starts as it comes,
and one that starts from the queue. -/
theorem publishInUse : Obligations.PublishInUse := by
  unfold Obligations.PublishInUse
  intro s t k c i f hk hf used
  have hb : publishBlocked t (k.p32 0) f = true := publishBlocked_iff.2 used
  refine ⟨fun hd => surfDesc_latched_iff hd t i, execPublish_blocked hk hf hb, fun hen hok hp => ⟨?_, ?_⟩⟩
  · intro now
    cases owned : ingestOwned t (k.p32 0) with
    | true => exact execUpload_owned hk hf hen hok owned
    | false =>
      obtain ⟨hu, hr⟩ := now.resolve_left (by simp [owned])
      exact execUpload_blocked hk hf hen hok owned hp hb hu hr
  · exact fun n rest hr hu => startUpload_blocked n hr hu hp hf hb

end Sys2Proof.Machine
end


section
/-!
The JTAG port (R459). Table 14.11 and the rule on EXTEST are one equivalence about `jtagHonoured`; the event has one equation
for an instruction that is honoured and one for an instruction that is not. The table has no row for a dead identity: the
model honours there what it honours on an UNOWNED device. An honoured debug instruction only selects itself (log entry 41).
-/

namespace Sys2Proof.Machine

/-- Table 14.11: BYPASS and IDCODE always, the pins' instructions without an owner or under an unlock, debug by its level. -/
theorem jtagHonoured_iff {s : State} {i : JtagInstr} :
    jtagHonoured s i = true ↔ i = .bypass ∨ i = .idcode ∨ (i = .sample ∧ (ostate s ≠ 1 ∨ 1 ≤ getF s R.SEC_STATUS_DEBUG)) ∨
      (i = .extest ∧ (ostate s ≠ 1 ∨ 1 ≤ getF s R.SEC_STATUS_DEBUG) ∧
        (mode s = mBoot ∨ mode s = mStandby ∨ mode s = mService)) ∨
      (i = .coreDebug ∧ 1 ≤ getF s R.SEC_STATUS_DEBUG) ∨ (i = .scanTest ∧ 2 ≤ getF s R.SEC_STATUS_DEBUG) := by
  cases i with
  | bypass | idcode | sample | coreDebug | scanTest | other => simp [jtagHonoured]
  | extest => simp [jtagHonoured, or_assoc]

/-- The instruction the port acts on says nothing of the owner. -/
@[simp] theorem ostate_jtag (s : State) (i : JtagInstr) : ostate { s with sec := { s.sec with jtag := i } } = ostate s := rfl

theorem exec_jtagInstruction_honoured {s : State} {i : JtagInstr} (h : jtagHonoured s i = true) :
    exec (.jtagInstruction i) s = .next { s with sec := { s.sec with jtag := i } } :=
  congrArg Host.Outcome.next (if_pos h)

/-- What an instruction that is not honoured does: it acts as BYPASS, and is tamper source 6 on a device with an owner. -/
theorem exec_jtagInstruction_not_honoured {s : State} {i : JtagInstr} (h : ¬ jtagHonoured s i = true) :
    exec (.jtagInstruction i) s = .next (if ostate s = 1 then tamperEvent 6 0 { s with sec := { s.sec with jtag := .bypass } }
      else { s with sec := { s.sec with jtag := .bypass } }) := by
  rw [← ostate_jtag s .bypass]
  exact congrArg Host.Outcome.next (if_neg h)

/-- Settles O55: the obligation's condition is the model's own check, so each clause is one case of the event. -/
theorem jtagByState : Obligations.JtagByState := by
  unfold Obligations.JtagByState
  rintro s i _ honoured rfl table
  have check : honoured ↔ jtagHonoured s i = true := table.trans jtagHonoured_iff.symm
  rw [check]
  refine ⟨exec_jtagInstruction_honoured, fun refused free => ?_, fun refused owned => ?_⟩
  · rw [exec_jtagInstruction_not_honoured refused, if_neg free]
  · rw [exec_jtagInstruction_not_honoured refused, if_pos owned]

end Sys2Proof.Machine
end


section
/-!
First-fault records over both ways in (R564). `faultBytes` is the result for either: the records of one state, each of 32
bytes. read-faults reaches it through `plain`, the Muslin FAULTS operation through a request frame addressed to the device at
the port, whose fields are read back from the bytes of its header.
-/

namespace Sys2Proof.Machine

/-! ### The records -/

/-- A record with the choice of the snapshot by the parameter SET and the case of a powered block first, as R564 has them. -/
theorem recordBytes_eq (s : State) (set b : Nat) : recordBytes s (set == 1) b =
    if blockPowered (sender s) b = true then ((List.range 8).map (fun i =>
      leBytes 4 (regGet s (dirKey 0 ((if set = 1 then 0x800 else 0x400) + 32 * b + 4 * i))).toNat)).flatten
    else zeros 32 := by
  cases powered : blockPowered (sender s) b <;> simp [recordBytes, powered]

theorem length_flatten_map {α β : Type} {f : α → List β} {n : Nat} (hf : ∀ x, (f x).length = n) (l : List α) :
    (l.map f).flatten.length = l.length * n := by
  simp [List.length_flatten, Function.comp_def, hf]

@[simp] theorem recordBytes_length (s : State) (snap : Bool) (b : Nat) : (recordBytes s snap b).length = 32 := by
  unfold recordBytes
  split
  · exact List.length_replicate
  · exact length_flatten_map (fun _ => leBytes_length 4 _) _

/-- For BLOCK and SET in range and the reserved bytes zero, the result is the 24 records or the one asked for. -/
theorem faultBytes_valid {s : State} {p : List Byte} (hb : u8 p 0 < 24 ∨ u8 p 0 = 0xFF) (hset : u8 p 1 ≤ 1)
    (hz : zeroAt p 2 2 = true) : faultBytes s p = .ok (if u8 p 0 = 0xFF
      then ((List.range 24).map (recordBytes s (u8 p 1 == 1))).flatten else recordBytes s (u8 p 1 == 1) (u8 p 0)) := by
  have valid : ¬((24 ≤ u8 p 0 ∧ u8 p 0 ≠ 0xFF) ∨ 1 < u8 p 1 ∨ !zeroAt p 2 2) := by
    simp only [hz, Bool.not_true, Bool.false_eq_true, or_false]
    omega
  rw [faultBytes, if_neg valid]
  split <;> rfl

theorem faultBytes_length {s : State} {p d : List Byte} (h : faultBytes s p = .ok d) :
    d.length = if u8 p 0 = 0xFF then 768 else 32 := by
  unfold faultBytes at h
  split at h
  · cases h
  · split at h <;> cases h
    · rw [if_pos ‹_›, length_flatten_map (recordBytes_length s _), List.length_range]
    · rw [if_neg ‹_›, recordBytes_length]

/-! ### read-faults -/

/-- A command whose own part answers with results ends with them. -/
theorem plain_answered {s t u : State} {k : Pkt} {c : Option (List Byte)} {d : List Byte} {body : State → Res}
    (hk : ready s k d.length c t) (hb : body t = .ok u d) : plain k body s = finish k St.ok d u := by
  rw [plain_ready body hk (by rw [hb]; rfl), hb]
  rfl

theorem exec_readFaults {s t : State} {k : Pkt} {c : Option (List Byte)} {d : List Byte}
    (hk : ready s k d.length c t) (hd : faultBytes t k.par = .ok d) :
    exec (.readFaults k) s = .next (finish k St.ok d t) :=
  congrArg Host.Outcome.next (plain_answered hk (by simp [hd]))

/-! ### A Muslin request at the port -/

theorem leVal_leBytes (n v : Nat) : leVal (leBytes n v) = v % 256 ^ n := by
  induction n generalizing v with
  | zero => simp [leBytes, leVal, Nat.mod_one]
  | succ n ih => simp [leBytes, leVal, ih, Nat.pow_succ', Nat.mod_mul]

/-- A field reads back as it was written, after any bytes before it and whatever follows it. -/
theorem leAt_written {l : List Byte} {off : Nat} (h : l.length = off) (n v : Nat) (r : List Byte) :
    leAt (l ++ (leBytes n v ++ r)) off n = v % 256 ^ n := by
  rw [leAt_append h, leAt, sub, List.drop_zero, List.take_left' (leBytes_length n v), leVal_leBytes]

/-- The header of a request frame to the device at the port (Table 16.8). -/
def mslHeader (mop seq len : Nat) : List Byte :=
  [BitVec.ofNat 8 0x4D, BitVec.ofNat 8 mop] ++ leBytes 2 seq ++ leBytes 2 len ++ leBytes 2 0xFFF

@[simp] theorem mslHeader_length (mop seq len : Nat) : (mslHeader mop seq len).length = 8 := by simp [mslHeader]

/-- A request frame without its CRC is its header and its payload. -/
theorem mslRequest_take (mop seq : Nat) (p : List Byte) :
    (mslRequest mop seq p).take (8 + p.length) = mslHeader mop seq p.length ++ p :=
  List.take_left' (by simp; omega)

section Header
variable (mop seq len : Nat) (p : List Byte)

theorem mslHeader_mop : u8 (mslHeader mop seq len ++ p) 1 = mop % 256 := by
  simpa [mslHeader, leBytes] using leAt_written (l := [BitVec.ofNat 8 0x4D]) rfl 1 mop _

theorem mslHeader_seq : u16 (mslHeader mop seq len ++ p) 2 = seq % 65536 := by
  simpa [mslHeader] using leAt_written (l := [BitVec.ofNat 8 0x4D, BitVec.ofNat 8 mop]) rfl 2 seq _

theorem mslHeader_dest : u16 (mslHeader mop seq len ++ p) 6 = 0xFFF := by
  simpa [mslHeader] using leAt_written (off := 6) (l := [BitVec.ofNat 8 0x4D, BitVec.ofNat 8 mop] ++ leBytes 2 seq ++ leBytes 2 len)
    (by simp) 2 0xFFF p

end Header

/-- A request addressed to the device at the port, when none executes, is carried out as the mode allows. -/
theorem mslTake_begins {a t : State} {via : Option Nat} {b : List Byte} (hb : a.upd.mslBusy = none) (hd : u16 b 6 = 0xFFF)
    (ht : t = { a with upd := { a.upd with mslBusy := some (u16 b 2, 0xFFF, u8 b 1, via) } }) :
    mslTake via b a = if mslModeOk a (u8 b 1) then mslRun (u8 b 1) (b.drop 8) t else mslReply St.badState [] t := by
  simp [mslTake, mslExec, hb, hd, ht]

/-- The request frame of an operation, counted as a good frame, is begun with its own sequence number and payload. -/
theorem mslOp_begins {s a t : State} {mop seq : Nat} {p : List Byte} (hr : inReset s = false) (hb : s.upd.mslBusy = none)
    (hp : p.length ≤ 2040) (hm : mop < 256) (ha : a = incF s R.MSL_FRAMES_N)
    (ht : t = { a with upd := { a.upd with mslBusy := some (seq % 65536, 0xFFF, mop, none) } }) :
    mslOp mop seq p s = if mslModeOk a mop then mslRun mop p t else mslReply St.badState [] t := by
  have hop := (mslHeader_mop mop seq p.length p).trans (Nat.mod_eq_of_lt hm)
  have taken := mslTake_begins (a := a) (via := none) (by rw [ha, incF_upd, hb]) (mslHeader_dest mop seq p.length p) rfl
  rw [hop, mslHeader_seq, List.drop_left' (mslHeader_length _ _ _), ← ht] at taken
  simp only [mslOp, hr, mslRequest_take, Bool.false_or, decide_eq_true_eq, if_neg (Nat.not_lt.2 hp), ← ha, taken]

theorem mslRun_faults {t : State} {p d : List Byte} (hp : p.length = 4) (hd : faultBytes t p = .ok d) :
    mslRun 2 p t = mslReply St.ok d t := by
  simp [mslRun, hp, hd]

/-- The Muslin operation answers with the same result as read-faults. -/
theorem exec_faults {s a t : State} {seq : Nat} {p d : List Byte} (hr : inReset s = false) (hb : s.upd.mslBusy = none)
    (hp : p.length = 4) (ha : a = incF s R.MSL_FRAMES_N) (hm : mslModeOk a 2 = true)
    (ht : t = { a with upd := { a.upd with mslBusy := some (seq % 65536, 0xFFF, 2, none) } })
    (hd : faultBytes t p = .ok d) : exec (.faults seq p) s = .next (mslReply St.ok d t) := by
  have begun : mslOp 2 seq p s = _ := mslOp_begins hr hb (by omega) (by decide) ha ht
  rw [if_pos hm, mslRun_faults hp hd] at begun
  exact congrArg Host.Outcome.next begun

/-- Settles O11: the stated result is what `faultBytes` gives, and both operations answer with that. -/
theorem readFaultsReturnsRecords : Obligations.ReadFaultsReturnsRecords := by
  unfold Obligations.ReadFaultsReturnsRecords
  intro t p one result records hset hz hresult
  obtain rfl : recordBytes t (u8 p 1 == 1) = one := funext fun b => (recordBytes_eq t _ b).trans (records b).symm
  have hd : faultBytes t p = .ok result := by
    rw [faultBytes_valid (hresult.imp And.left And.left) hset hz]
    rcases hresult with ⟨hb, rfl⟩ | ⟨hb, rfl⟩
    · rw [if_neg (by omega)]
    · rw [if_pos hb]
  refine ⟨faultBytes_length hd, ?_, ?_⟩
  · rintro s k c rfl hk
    exact exec_readFaults hk hd
  · intro s a q hr hb hp ha hm ht
    exact exec_faults hr hb hp ha hm ht hd

end Sys2Proof.Machine
end


section
/-!
The step (log entries 1 and 2), the state after reset, and what every step keeps. `exec` is one call for each command, so that
no command undoes anything is one case for each; a step is a command on the rest of the queue, or one cycle of the clocks.
-/

namespace Sys2Proof.Machine

open State

variable {a s t : State}

/-! ### Steps -/

theorem step_cons {c : Instr} {rest : List Instr} (h : s.pending = c :: rest) :
    step s = exec c { s with pending := rest } := by
  rw [step, h]

theorem step_nil (h : s.pending = []) : step s = .next (tick s) := by
  rw [step, h]

/-- Settles O1: the dispatch on the queue. -/
theorem stepRunsFront : Obligations.StepRunsFront := fun _ _ _ h => step_cons h

/-- Settles O2: the empty case of the same dispatch. -/
theorem emptyQueueTicks : Obligations.EmptyQueueTicks := fun _ h => step_nil h

/-! ### The state after reset -/

/-- No register is listed after reset, so each reads as its reset value. -/
theorem regGet_reset (key : Nat) : regGet State.reset key = regReset key := rfl

theorem mode_reset : mode State.reset = mBoot := by decide +kernel

theorem inv_reset : State.reset.Inv := ⟨reset_mem_wf, rfl⟩

/-- Settles O3: every table of the reset state is empty. -/
theorem resetState : Obligations.ResetState :=
  ⟨inv_reset, rfl, rfl, mode_reset, rfl, rfl, rfl, rfl, regGet_reset⟩

/-! ### What no command undoes -/

/-- No command undoes what only rises: one case for each arm of the dispatch. -/
theorem exec_grows (i : Instr) (hs : Grows a s) : OutGrows a (exec i s) :=
  match i with
  | .getInfo k => execGetInfo_grows k hs
  | .getStatus k => execGetStatus_grows k hs
  | .setMode k => execSetMode_grows k hs
  | .warmReset k => execWarmReset_grows k hs
  | .warmResetDelayExpiry => execWarmResetDelayExpiry_grows hs
  | .readRegs k => execReadRegs_grows k hs
  | .writeRegs k => execWriteRegs_grows k hs
  | .ping k => execPing_grows k hs
  | .semAcquire k => execSemAcquire_grows k hs
  | .semWaitExpiry k => execSemWaitExpiry_grows k hs
  | .semRelease k => execSemRelease_grows k hs
  | .semStatus k => execSemStatus_grows k hs
  | .setLiveness k => execSetLiveness_grows k hs
  | .livenessExpiry r => execLivenessExpiry_grows r hs
  | .readRemote k f => execReadRemote_grows k f hs
  | .writeRemote k f => execWriteRemote_grows k f hs
  | .openExport k => execOpenExport_grows k hs
  | .exportWindowExpiry w => execExportWindowExpiry_grows w hs
  | .closeExport k => execCloseExport_grows k hs
  | .setGroups k => execSetGroups_grows k hs
  | .setEthPort k => execSetEthPort_grows k hs
  | .ethPortRestartDone p => execEthPortRestartDone_grows p hs
  | .setAddress k => execSetAddress_grows k hs
  | .addFlow k => execAddFlow_grows k hs
  | .modifyFlow k => execModifyFlow_grows k hs
  | .removeFlow k => execRemoveFlow_grows k hs
  | .getFlow k => execGetFlow_grows k hs
  | .createSurface k => execCreateSurface_grows k hs
  | .destroySurface k => execDestroySurface_grows k hs
  | .getSurface k => execGetSurface_grows k hs
  | .setSurface k => execSetSurface_grows k hs
  | .publish k => execPublish_grows k hs
  | .upload k => execUpload_grows k hs
  | .uploadComplete data => execUploadComplete_grows data hs
  | .uploadDmaError data => execUploadDmaError_grows data hs
  | .setLayer k => execSetLayer_grows k hs
  | .setZOrder k => execSetZOrder_grows k hs
  | .setBackground k => execSetBackground_grows k hs
  | .loadBank k f => execLoadBank_grows k f hs
  | .setWriteback k => execSetWriteback_grows k hs
  | .setPreview k => execSetPreview_grows k hs
  | .commit k => execCommit_grows k hs
  | .commitLockIn n => execCommitLockIn_grows n hs
  | .setWall k => execSetWall_grows k hs
  | .setProfile k => execSetProfile_grows k hs
  | .setTone k => execSetTone_grows k hs
  | .setAmbientCurve k => execSetAmbientCurve_grows k hs
  | .commitColour k => execCommitColour_grows k hs
  | .setAmbientSensors k => execSetAmbientSensors_grows k hs
  | .loadMap k f => execLoadMap_grows k f hs
  | .commitMap k => execCommitMap_grows k hs
  | .getMap k f => execGetMap_grows k f hs
  | .calibrate k => execCalibrate_grows k hs
  | .discover k => execDiscover_grows k hs
  | .step k => execStep_grows k hs
  | .getTopology k => execGetTopology_grows k hs
  | .setPtp k => execSetPtp_grows k hs
  | .setCadence k => execSetCadence_grows k hs
  | .armTrigger k => execArmTrigger_grows k hs
  | .disarmTrigger k => execDisarmTrigger_grows k hs
  | .setWtSeconds k => execSetWtSeconds_grows k hs
  | .getTime k => execGetTime_grows k hs
  | .factoryWrite k f => execFactoryWrite_grows k f hs
  | .loadUserLayer k f => execLoadUserLayer_grows k f hs
  | .userLayerWriteDone good => execUserLayerWriteDone_grows good hs
  | .revertUserLayer k => execRevertUserLayer_grows k hs
  | .readAgeing k f => execReadAgeing_grows k f hs
  | .moduleRelease k => execModuleRelease_grows k hs
  | .setStrandGeometry k => execSetStrandGeometry_grows k hs
  | .strandRead k => execStrandRead_grows k hs
  | .enumerate k => execEnumerate_grows k hs
  | .diagDrive k => execDiagDrive_grows k hs
  | .setFeed k => execSetFeed_grows k hs
  | .setDeratingCurve k => execSetDeratingCurve_grows k hs
  | .setSupplies k => execSetSupplies_grows k hs
  | .clearSupplyFaults k => execClearSupplyFaults_grows k hs
  | .setDiode k => execSetDiode_grows k hs
  | .setAmon k => execSetAmon_grows k hs
  | .setThreshold k => execSetThreshold_grows k hs
  | .enrolOwner k => execEnrolOwner_grows k hs
  | .rotateOwner k => execRotateOwner_grows k hs
  | .releaseOwner k => execReleaseOwner_grows k hs
  | .setDelegate k => execSetDelegate_grows k hs
  | .setDenyList k => execSetDenyList_grows k hs
  | .loadModuleSigner k => execLoadModuleSigner_grows k hs
  | .revokeRoot k => execRevokeRoot_grows k hs
  | .setPolicy k => execSetPolicy_grows k hs
  | .tamperClear k => execTamperClear_grows k hs
  | .zeroise k => execZeroise_grows k hs
  | .lockdown k => execLockdown_grows k hs
  | .getNonce k => execGetNonce_grows k hs
  | .debugUnlock k => execDebugUnlock_grows k hs
  | .debugLock k => execDebugLock_grows k hs
  | .debugUnlockExpiry => execDebugUnlockExpiry_grows hs
  | .getAttestation k => execGetAttestation_grows k hs
  | .readTamperLog k => execReadTamperLog_grows k hs
  | .configSet k => execConfigSet_grows k hs
  | .configGet k f => execConfigGet_grows k f hs
  | .configCommit k => execConfigCommit_grows k hs
  | .configWriteDone good => execConfigWriteDone_grows good hs
  | .configRevert k => execConfigRevert_grows k hs
  | .stageImage k f => execStageImage_grows k f hs
  | .stageDone good => execStageDone_grows good hs
  | .activate k => execActivate_grows k hs
  | .activationReady => execActivationReady_grows hs
  | .activationTimeout => execActivationTimeout_grows hs
  | .revertImage k => execRevertImage_grows k hs
  | .commitSvn k => execCommitSvn_grows k hs
  | .getUpdateStatus k => execGetUpdateStatus_grows k hs
  | .readQueue k => execReadQueue_grows k hs
  | .readFaults k => execReadFaults_grows k hs
  | .readCell k => execReadCell_grows k hs
  | .envelopeVerified k f => execEnvelopeVerified_grows k f hs
  | .envelopeThrottleExpiry r => execEnvelopeThrottleExpiry_grows r hs
  | .interimReplyTimer k => execInterimReplyTimer_grows k hs
  | .forwardResendTimeout tag => execForwardResendTimeout_grows tag hs
  | .quietForget tag => execQuietForget_grows tag hs
  | .aggregateCollectionEnd tag => execAggregateCollectionEnd_grows tag hs
  | .commandRingDoorbell v => execCommandRingDoorbell_grows v hs
  | .commandEntryFetch entry => execCommandEntryFetch_grows entry hs
  | .replyRingHeadWrite v => execReplyRingHeadWrite_grows v hs
  | .ringEnableWrite reply v => execRingEnableWrite_grows reply v hs
  | .cp1CmdWrite v => execCp1CmdWrite_grows v hs
  | .cp1RplRead => execCp1RplRead_grows hs
  | .cp1Flush => execCp1Flush_grows hs
  | .cp1PartialTimeout => execCp1PartialTimeout_grows hs
  | .qspiStatus => execQspiStatus_grows hs
  | .indAddrWrite q v => execIndAddrWrite_grows q v hs
  | .indDataRead q be => execIndDataRead_grows q be hs
  | .indDataWrite q v => execIndDataWrite_grows q v hs
  | .latchedPairRead q pair part be => execLatchedPairRead_grows q pair part be hs
  | .eventAcknowledge q addr v => execEventAcknowledge_grows q addr v hs
  | .cfgLockWrite q v => execCfgLockWrite_grows q v hs
  | .gpioOutWrite q v => execGpioOutWrite_grows q v hs
  | .sysLoadWrite q v => execSysLoadWrite_grows q v hs
  | .forceFull => execForceFull_grows hs
  | .passMaxClear q v => execPassMaxClear_grows q v hs
  | .calCmdWrite q p v => execCalCmdWrite_grows q p v hs
  | .injGo q p l v => execInjGo_grows q p l v hs
  | .timSnapGo q v => execTimSnapGo_grows q v hs
  | .triggerArmWrite q u v => execTriggerArmWrite_grows q u v hs
  | .triggerDisarmWrite q u v => execTriggerDisarmWrite_grows q u v hs
  | .ckptNow q v => execCkptNow_grows q v hs
  | .stepCmdGo q p v => execStepCmdGo_grows q p v hs
  | .pciRetrain q v => execPciRetrain_grows q v hs
  | .faultRecordClear q b v => execFaultRecordClear_grows q b v hs
  | .clkSelChange q v => execClkSelChange_grows q v hs
  | .testLoopWrite q p v => execTestLoopWrite_grows q p v hs
  | .parkReqWrite q p l v => execParkReqWrite_grows q p l v hs
  | .eqOverrideWrite q p l v => execEqOverrideWrite_grows q p l v hs
  | .txIdleWrite q p v => execTxIdleWrite_grows q p v hs
  | .registerWrite q addr v be => execRegisterWrite_grows q addr v be hs
  | .powerOnReset => execPowerOnReset_grows hs
  | .brownOut => execBrownOut_grows hs
  | .wrstAssert => execWrstAssert_grows hs
  | .watchdogExpiry => execWatchdogExpiry_grows hs
  | .resetEnd role board src lost => execResetEnd_grows role board src lost hs
  | .bootComplete => execBootComplete_grows hs
  | .tamperArm => execTamperArm_grows hs
  | .tamperEvent src detail holds => execTamperEvent_grows src detail holds hs
  | .modulePulled => execModulePulled_grows hs
  | .moduleInserted m => execModuleInserted_grows m hs
  | .modIntEdge raws => execModIntEdge_grows raws hs
  | .pmbAlert reads => execPmbAlert_grows reads hs
  | .gpioEdge pin rise => execGpioEdge_grows pin rise hs
  | .genlockEdge => execGenlockEdge_grows hs
  | .ppsEdge => execPpsEdge_grows hs
  | .genlockLoss => execGenlockLoss_grows hs
  | .vddStrLoss => execVddStrLoss_grows hs
  | .vddStrReturn => execVddStrReturn_grows hs
  | .pcieLinkDown => execPcieLinkDown_grows hs
  | .pcieLinkUp speed width => execPcieLinkUp_grows speed width hs
  | .ethLinkChange p sub up => execEthLinkChange_grows p sub up hs
  | .ethFrameRx p sub b flags => execEthFrameRx_grows p sub b flags hs
  | .ptpAnnounceTimeout j => execPtpAnnounceTimeout_grows j hs
  | .delayReqTimer j => execDelayReqTimer_grows j hs
  | .mergeWindowExpiry j => execMergeWindowExpiry_grows j hs
  | .legIdle j l => execLegIdle_grows j l hs
  | .flowTimeout j => execFlowTimeout_grows j hs
  | .frameBoundary n => execFrameBoundary_grows n hs
  | .guardCheckDone layer => execGuardCheckDone_grows layer hs
  | .guardWaitExpiry => execGuardWaitExpiry_grows hs
  | .regionComplete j => execRegionComplete_grows j hs
  | .passEnd => execPassEnd_grows hs
  | .cellLaunch p => execCellLaunch_grows p hs
  | .presentInstant n => execPresentInstant_grows n hs
  | .frameClose n => execFrameClose_grows n hs
  | .armSend n => execArmSend_grows n hs
  | .pushCutoff => execPushCutoff_grows hs
  | .pushWindowEnd => execPushWindowEnd_grows hs
  | .pwmCycleStart => execPwmCycleStart_grows hs
  | .adcStart codes => execAdcStart_grows codes hs
  | .statusPoll g => execStatusPoll_grows g hs
  | .returnReply g words crc => execReturnReply_grows g words crc hs
  | .readTimeout g => execReadTimeout_grows g hs
  | .triggerFire k => execTriggerFire_grows k hs
  | .pulseEnd g => execPulseEnd_grows g hs
  | .syncInterval => execSyncInterval_grows hs
  | .tSync p m => execTSync_grows p m hs
  | .tFollow p m => execTFollow_grows p m hs
  | .tDreq p m => execTDreq_grows p m hs
  | .tDresp p m => execTDresp_grows p m hs
  | .tAnnounce p m => execTAnnounce_grows p m hs
  | .tParams p m => execTParams_grows p m hs
  | .announceTimer => execAnnounceTimer_grows hs
  | .announceExpiry dev => execAnnounceExpiry_grows dev hs
  | .masterChangeDwell => execMasterChangeDwell_grows hs
  | .offerExpiry p => execOfferExpiry_grows p hs
  | .oscLearn => execOscLearn_grows hs
  | .deliveryReportTimer => execDeliveryReportTimer_grows hs
  | .ambientSample reads => execAmbientSample_grows reads hs
  | .ambientReportTimer => execAmbientReportTimer_grows hs
  | .toneStateTimer => execToneStateTimer_grows hs
  | .feedClaimTimer => execFeedClaimTimer_grows hs
  | .budgetPeriod feed => execBudgetPeriod_grows feed hs
  | .demandTimer => execDemandTimer_grows hs
  | .budgetEchoTimeout slot => execBudgetEchoTimeout_grows slot hs
  | .sagGatherExpiry feed => execSagGatherExpiry_grows feed hs
  | .budgetHoldExpiry => execBudgetHoldExpiry_grows hs
  | .telemetryRound reads => execTelemetryRound_grows reads hs
  | .overheadMeasurement => execOverheadMeasurement_grows hs
  | .sensorSample x raw => execSensorSample_grows x raw hs
  | .thresholdDwellExpiry t => execThresholdDwellExpiry_grows t hs
  | .dieModelUpdate rails => execDieModelUpdate_grows rails hs
  | .zoneModelUpdate => execZoneModelUpdate_grows hs
  | .checkpoint => execCheckpoint_grows hs
  | .checkpointDone good => execCheckpointDone_grows good hs
  | .patrolScrub unit region index kind => execPatrolScrub_grows unit region index kind hs
  | .containmentEnd b => execContainmentEnd_grows b hs
  | .losAssert p l => execLosAssert_grows p l hs
  | .losDeassert p l => execLosDeassert_grows p l hs
  | .clockOutOfLock p => execClockOutOfLock_grows p hs
  | .laneOutOfLock p l => execLaneOutOfLock_grows p l hs
  | .frequencyMeasured p f => execFrequencyMeasured_grows p f hs
  | .trainingBlock p l skew inv b => execTrainingBlock_grows p l skew inv b hs
  | .trainingTimeout p => execTrainingTimeout_grows p hs
  | .calRunDone p l r => execCalRunDone_grows p l r hs
  | .calStart p => execCalStart_grows p hs
  | .calRetryTimer p l => execCalRetryTimer_grows p l hs
  | .loopTimeout p => execLoopTimeout_grows p hs
  | .flitRx p l j corr b => execFlitRx_grows p l j corr b hs
  | .retryTimeout p => execRetryTimeout_grows p hs
  | .unackedTimeout p => execUnackedTimeout_grows p hs
  | .hello p l => execHello_grows p l hs
  | .laneReq p l => execLaneReq_grows p l hs
  | .laneset p l => execLaneset_grows p l hs
  | .stepFlit p l => execStepFlit_grows p l hs
  | .retrainTimeout p => execRetrainTimeout_grows p hs
  | .autoStepDown p reason => execAutoStepDown_grows p reason hs
  | .stepUpTimer p => execStepUpTimer_grows p hs
  | .authHello p m => execAuthHello_grows p m hs
  | .proof p m => execProof_grows p m hs
  | .authFail p m => execAuthFail_grows p m hs
  | .authBackoffExpiry p => execAuthBackoffExpiry_grows p hs
  | .rekey p m => execRekey_grows p m hs
  | .rekeyTimer p => execRekeyTimer_grows p hs
  | .command p m => execCommand_grows p m hs
  | .reply p m => execReply_grows p m hs
  | .cellMessage p m => execCellMessage_grows p m hs
  | .discoverMessage p m => execDiscoverMessage_grows p m hs
  | .discoverReply p m => execDiscoverReply_grows p m hs
  | .probe p m => execProbe_grows p m hs
  | .probeReply p m => execProbeReply_grows p m hs
  | .probeWaitExpiry p h => execProbeWaitExpiry_grows p h hs
  | .assign p m => execAssign_grows p m hs
  | .assignAck p m => execAssignAck_grows p m hs
  | .assignRetryTimeout p h => execAssignRetryTimeout_grows p h hs
  | .linkEvent p m => execLinkEvent_grows p m hs
  | .healHoldExpiry p => execHealHoldExpiry_grows p hs
  | .liveness p m => execLiveness_grows p m hs
  | .livenessIdleTimer => execLivenessIdleTimer_grows hs
  | .primaryLost => execPrimaryLost_grows hs
  | .backupReq p m => execBackupReq_grows p m hs
  | .backupRelease p m => execBackupRelease_grows p m hs
  | .lockdownNotice p m => execLockdownNotice_grows p m hs
  | .slotNotice p m => execSlotNotice_grows p m hs
  | .slotReply p m => execSlotReply_grows p m hs
  | .slotNoticeRetry j => execSlotNoticeRetry_grows j hs
  | .deliveryReport p m => execDeliveryReport_grows p m hs
  | .wallSettings p m => execWallSettings_grows p m hs
  | .ambientReport p m => execAmbientReport_grows p m hs
  | .toneState p m => execToneState_grows p m hs
  | .budget p m => execBudget_grows p m hs
  | .demand p m => execDemand_grows p m hs
  | .feedClaim p m => execFeedClaim_grows p m hs
  | .tunnel p m => execTunnel_grows p m hs
  | .mslFrame frame => execMslFrame_grows frame hs
  | .ident seq payload => execIdent_grows seq payload hs
  | .faults seq payload => execFaults_grows seq payload hs
  | .updStatus seq payload => execUpdStatus_grows seq payload hs
  | .loadBegin seq payload => execLoadBegin_grows seq payload hs
  | .loadData seq payload => execLoadData_grows seq payload hs
  | .loadEnd seq payload => execLoadEnd_grows seq payload hs
  | .mslStage seq payload => execMslStage_grows seq payload hs
  | .mslActivate seq payload => execMslActivate_grows seq payload hs
  | .mslRevert seq payload => execMslRevert_grows seq payload hs
  | .tParamsTimer => execTParamsTimer_grows hs
  | .laneReqTimer p => execLaneReqTimer_grows p hs
  | .checkerLock p l => execCheckerLock_grows p l hs
  | .checkerLockLoss p l bits errs => execCheckerLockLoss_grows p l bits errs hs
  | .clockLoss bit => execClockLoss_grows bit hs
  | .clockRestored bit => execClockRestored_grows bit hs
  | .jtagInstruction j => execJtagInstruction_grows j hs
  | .apertureAccess off n w => execApertureAccess_grows off n w hs
  | .pcieConfigWrite bme msixEn d3 => execPcieConfigWrite_grows bme msixEn d3 hs
  | .activateVerifyDone good => execActivateVerifyDone_grows good hs
  | .factoryWriteDone good => execFactoryWriteDone_grows good hs
  | .degradedExpiry => execDegradedExpiry_grows hs

/-- Storage whose identity was destroyed is that of a device with a dead identity (R431). -/
theorem ostate_of_killed (h : s.nv.killed = true) : ostate s = 2 := if_pos h

/-- A step that changes the queue only by taking its front keeps what a command keeps. -/
theorem step_keeps (h : step s = .next t) :
    (Memory.wf s.mem = true → Memory.wf t.mem = true) ∧ (Regs.wf s.regs = true → Regs.wf t.regs = true) ∧
      NvGrows s.nv t.nv := by
  cases queue : s.pending with
  | nil =>
    rw [step_nil queue] at h
    obtain ⟨_, _, _, mem, regs, nv⟩ := OutGrows.next (tick_grows (Grows.refl s)) t h
    exact ⟨mem, regs, nv⟩
  | cons c rest =>
    rw [step_cons queue] at h
    obtain ⟨_, _, _, mem, regs, nv⟩ := exec_grows c (Grows.refl { s with pending := rest }) t h
    exact ⟨mem, regs, nv⟩

/-- Settles O4: each step keeps both forms. -/
theorem stepKeepsInvariant : Obligations.StepKeepsInvariant := by
  unfold Obligations.StepKeepsInvariant
  rintro s t ⟨memory, registers⟩ h
  obtain ⟨mem, regs, _⟩ := step_keeps h
  exact ⟨mem memory, regs registers⟩

/-- Settles O5: every command's effect grows, and with it the kill of the identity stays. -/
theorem nothingIsUndone : Obligations.NothingIsUndone := by
  unfold Obligations.NothingIsUndone
  refine ⟨fun i s t h => exec_grows i (Grows.refl s) t h, fun s t killed h => ?_⟩
  obtain ⟨_, _, nv⟩ := step_keeps h
  exact ⟨nv.killed killed, ostate_of_killed (nv.killed killed)⟩

end Sys2Proof.Machine
end


section
/-!
Registers and fields, as statements about them need them: which fields a write leaves alone is decided on the bit ranges, and
an event counted for an interrupt source changes its counter, the pending bits of MSI-X and what has been sent.
-/

namespace Sys2Proof.Machine

/-! ### Fields -/

/-- A range of bits within a word. -/
def Fld.inWord (f : Fld) : Bool := decide (f.lo ≤ f.hi) && decide (f.hi < 32)

/-- A write of f leaves g alone: another register, or other bits of the same. -/
def Fld.apart (f g : Fld) : Bool :=
  decide (g.reg ≠ f.reg) || (f.inWord && (decide (g.hi < f.lo ∧ g.lo ≤ g.hi) || decide (f.hi < g.lo)))

theorem getF_setF_self {s : State} {f : Fld} {v : Nat} (h : f.inWord = true) : getF (setF s f v) f = v % 2 ^ f.width := by
  simp only [Fld.inWord, Bool.and_eq_true, decide_eq_true_eq] at h
  exact getF_setF_same s f v h.1 h.2

theorem getF_setF_other {s : State} {f g : Fld} {v : Nat} (h : f.apart g = true) : getF (setF s f v) g = getF s g := by
  simp only [Fld.apart, Fld.inWord, Bool.or_eq_true, Bool.and_eq_true, decide_eq_true_eq] at h
  rcases h with h | ⟨⟨h1, h2⟩, h⟩
  · exact getF_setF_reg s v h
  · by_cases hr : g.reg = f.reg
    · exact getF_setF_apart s v h1 h2 hr h
    · exact getF_setF_reg s v hr

theorem getF_addF_other {s : State} {f g : Fld} {n : Nat} (h : f.apart g = true) : getF (addF s f n) g = getF s g :=
  getF_setF_other h

theorem getF_incF_other {s : State} {f g : Fld} (h : f.apart g = true) : getF (incF s f) g = getF s g :=
  getF_setF_other h

theorem getF_incF_self {s : State} {f : Fld} (h : f.inWord = true) : getF (incF s f) f = (getF s f + 1) % 2 ^ f.width :=
  getF_setF_self h

theorem getF_setB_other {s : State} {f g : Fld} {b : Bool} (h : f.apart g = true) : getF (setB s f b) g = getF s g :=
  getF_setF_other h

theorem isSet_iff {s : State} {f : Fld} : isSet s f = true ↔ getF s f = 1 := by simp [isSet]

theorem isSet_congr {s t : State} {f g : Fld} (h : getF s f = getF t g) : isSet s f = isSet t g := by rw [isSet, isSet, h]

theorem isSet_setF_other {s : State} {f g : Fld} {v : Nat} (h : f.apart g = true) : isSet (setF s f v) g = isSet s g :=
  isSet_congr (getF_setF_other h)

theorem isSet_setB_other {s : State} {f g : Fld} {b : Bool} (h : f.apart g = true) : isSet (setB s f b) g = isSet s g :=
  isSet_congr (getF_setB_other h)

theorem isSet_incF_other {s : State} {f g : Fld} (h : f.apart g = true) : isSet (incF s f) g = isSet s g :=
  isSet_congr (getF_incF_other h)

theorem isSet_setB_self {s : State} {f : Fld} {b : Bool} (h : f.inWord = true) : isSet (setB s f b) f = b := by
  have wide : 1 < 2 ^ f.width := Nat.one_lt_two_pow (by
    simp only [Fld.inWord, Bool.and_eq_true, decide_eq_true_eq] at h
    unfold Fld.width
    omega)
  rw [isSet, setB, getF_setF_self h]
  cases b
  · simp
  · simp [Nat.mod_eq_of_lt wide]

theorem getF_lt {s : State} {f : Fld} : getF s f < 2 ^ f.width := Nat.mod_lt _ (Nat.two_pow_pos _)

/-! ### Effects on registers alone -/

/-- Only registers differ. -/
def RegsOnly (s t : State) : Prop := ∃ r, t = { s with regs := r }

theorem RegsOnly.refl (s : State) : RegsOnly s s := ⟨s.regs, rfl⟩

theorem RegsOnly.eq {s t : State} (h : RegsOnly s t) : t = { s with regs := t.regs } := by
  obtain ⟨r, rfl⟩ := h
  rfl

theorem RegsOnly.trans {s t u : State} (h : RegsOnly s t) (h' : RegsOnly t u) : RegsOnly s u := by
  obtain ⟨_, rfl⟩ := h
  obtain ⟨r, rfl⟩ := h'
  exact ⟨r, rfl⟩

theorem RegsOnly.setF {s t : State} (h : RegsOnly s t) (f : Fld) (v : Nat) : RegsOnly s (Machine.setF t f v) :=
  h.trans ⟨_, rfl⟩

theorem RegsOnly.setB {s t : State} (h : RegsOnly s t) (f : Fld) (b : Bool) : RegsOnly s (Machine.setB t f b) :=
  h.setF f _

theorem RegsOnly.incF {s t : State} (h : RegsOnly s t) (f : Fld) : RegsOnly s (Machine.incF t f) :=
  h.setF f _

theorem RegsOnly.addF {s t : State} (h : RegsOnly s t) (f : Fld) (n : Nat) : RegsOnly s (Machine.addF t f n) :=
  h.setF f _

theorem RegsOnly.add48 {s t : State} (h : RegsOnly s t) (lo hi : Fld) (n : Nat) : RegsOnly s (Machine.add48 t lo hi n) :=
  (h.setF lo _).setF hi _

/-- Only registers differ, and what has been sent. -/
def RegsOut (s t : State) : Prop := ∃ r o, t = { s with regs := r, out := o }

theorem RegsOut.refl (s : State) : RegsOut s s := ⟨s.regs, s.out, rfl⟩

theorem RegsOut.trans {s t u : State} (h : RegsOut s t) (h' : RegsOut t u) : RegsOut s u := by
  obtain ⟨_, _, rfl⟩ := h
  obtain ⟨r, o, rfl⟩ := h'
  exact ⟨r, o, rfl⟩

theorem RegsOnly.regsOut {s t : State} (h : RegsOnly s t) : RegsOut s t := by
  obtain ⟨r, rfl⟩ := h
  exact ⟨r, s.out, rfl⟩

theorem RegsOut.send {s t : State} (h : RegsOut s t) (e : Emit) : RegsOut s (Machine.send t e) :=
  h.trans ⟨t.regs, _, rfl⟩

/-! ### Interrupts -/

theorem sendVector_regsOut (v : Nat) (s : State) : RegsOut s (sendVector v s) := by
  unfold sendVector
  split
  · exact ⟨s.regs, _, rfl⟩
  · exact ⟨_, s.out, rfl⟩

/-- A message that cannot be sent sets a pending bit, and no other register changes. -/
theorem regGet_sendVector {s : State} {v key : Nat} (h : key ≠ R.MSIX_PBA) : regGet (sendVector v s) key = regGet s key := by
  unfold sendVector
  split
  · rfl
  · exact regGet_regPut_ne s _ h

theorem raise_regsOut (src : Nat) (s : State) : RegsOut s (raise src s) := by
  unfold raise
  split
  · exact RegsOut.refl s
  · next e _ _ =>
    have counted : RegsOut s (incF s e) := ((RegsOnly.refl s).incF e).regsOut
    dsimp only
    split
    · exact counted.trans (sendVector_regsOut _ _)
    · exact counted

/-- Apart from the pending bits, an event counted for a source with counter e is one in e. -/
theorem regGet_raise {s : State} {src key : Nat} {e a : Fld} (hsrc : irqFields src = some (e, a)) (h : key ≠ R.MSIX_PBA) :
    regGet (raise src s) key = regGet (incF s e) key := by
  unfold raise
  simp only [hsrc]
  split
  · exact regGet_sendVector h
  · rfl

theorem getF_raise {s : State} {src : Nat} {e a g : Fld} (hsrc : irqFields src = some (e, a)) (h : g.reg ≠ R.MSIX_PBA) :
    getF (raise src s) g = getF (incF s e) g := by
  unfold getF
  rw [regGet_raise hsrc h]

end Sys2Proof.Machine
end


section
/-!
How a packet is handled before and after its own part (R468, R438, R469): what is lost, what is refused, and what a reply and
the start of a packet leave alone.
-/

namespace Sys2Proof.Machine

/-! ### Refusals -/

/-- Settles O6: whichever command the packet carries, it is handled as a packet, and lost. -/
theorem packetLostBeforeBoot : Obligations.PacketLostBeforeBoot := by
  unfold Obligations.PacketLostBeforeBoot
  intro i k s carried early
  obtain ⟨f, body, handled⟩ := exec_packet carried s
  rw [handled, command_lost f body early]

/-- SEC's handling passes its verdict on. -/
theorem envelope_verdict (k : Pkt) (f : Fetch) (s : State) : (envelope k f s).2 = envVerdict s k f := by
  unfold envelope
  dsimp only
  split
  · rfl
  · split <;> rfl

/-- An envelope that SEC refuses is answered with the failing check's status on the state SEC leaves. -/
theorem command_envelope_refused {s : State} {k : Pkt} (f : Fetch) (body : Option (List Byte) → State → Res)
    (takes : takesNow s k) (passes : precheck (arrive k s) k = none) (signed : k.signed = true)
    (held : releasedOf (arrive k s) k = none) (bad : (envVerdict (arrive k s) k f).1 ≠ 0) (fits : replyFits s k 0 = true) :
    command k f body s = finish k (envVerdict (arrive k s) k f).1 [] (envelope k f (arrive k s)).1 := by
  obtain ⟨hr, hm, hw⟩ := takes
  have auth : authorise k f (arrive k s) = envelope k f (arrive k s) := by rw [authorise, if_pos signed, held]
  have verdict := envelope_verdict k f (arrive k s)
  simp only [command, hr, hm, hw, passes, auth, fits, verdict, bad, Bool.false_or, beq_iff_eq, Bool.false_eq_true, ne_eq,
    not_false_eq_true, if_true, if_false]

/-- Settles O8: both refusals are those of `command`, whichever command the packet carries. -/
theorem signatureGate : Obligations.SignatureGate := by
  unfold Obligations.SignatureGate
  intro i k s carried takes fits passes
  obtain ⟨f, body, handled⟩ := exec_packet carried s
  refine ⟨fun unsigned cls => ?_, fun signed held bad => ⟨f, ?_⟩⟩
  · rw [handled, command_unsigned f body takes passes unsigned cls fits]
  · rw [handled, command_envelope_refused f body takes passes signed held (bad f) fits]

/-! ### What a reply changes -/

/-- The fields that carry a reply are the only ones that differ. -/
def ReplyOnly (s t : State) : Prop := ∃ o r c w u, t = { s with out := o, regs := r, cps := c, twl := w, upd := u }

theorem ReplyOnly.refl (s : State) : ReplyOnly s s := ⟨s.out, s.regs, s.cps, s.twl, s.upd, rfl⟩

theorem ReplyOnly.eq {s t : State} (h : ReplyOnly s t) :
    t = { s with out := t.out, regs := t.regs, cps := t.cps, twl := t.twl, upd := t.upd } := by
  obtain ⟨o, r, c, w, u, rfl⟩ := h
  rfl

theorem ReplyOnly.trans {s t u : State} (h : ReplyOnly s t) (h' : ReplyOnly t u) : ReplyOnly s u := by
  obtain ⟨_, _, _, _, _, rfl⟩ := h
  obtain ⟨o, r, c, w, u, rfl⟩ := h'
  exact ⟨o, r, c, w, u, rfl⟩

theorem RegsOut.replyOnly {s t : State} (h : RegsOut s t) : ReplyOnly s t := by
  obtain ⟨r, o, rfl⟩ := h
  exact ⟨o, r, s.cps, s.twl, s.upd, rfl⟩

theorem foldl_replyOnly {α : Type} {f : State → α → State} (hf : ∀ s x, ReplyOnly s (f s x)) (l : List α) (s : State) :
    ReplyOnly s (l.foldl f s) := by
  induction l generalizing s with
  | nil => exact ReplyOnly.refl s
  | cons x l ih => exact (hf s x).trans (ih _)

theorem portUpd_replyOnly (p : Nat) (f : Port → Port) (s : State) : ReplyOnly s (portUpd p f s) :=
  ⟨s.out, s.regs, s.cps, _, s.upd, rfl⟩

theorem transmit_replyOnly (p : Nat) (m : Msg) (s : State) : ReplyOnly s (transmit p m s) := by
  unfold transmit
  exact (portUpd_replyOnly p _ s).trans
    ((((RegsOnly.refl _).add48 _ _ _).incF _).regsOut.send _).replyOnly

theorem pumpN_replyOnly (p n : Nat) (s : State) : ReplyOnly s (pumpN p n s) := by
  induction n generalizing s with
  | zero => exact ReplyOnly.refl s
  | succ n ih =>
    unfold pumpN
    split
    · exact ReplyOnly.refl s
    · exact ((portUpd_replyOnly _ _ s).trans (transmit_replyOnly _ _ _)).trans (ih _)

theorem sendMsg_replyOnly (p : Nat) (m : Msg) (s : State) : ReplyOnly s (sendMsg p m s) := by
  unfold sendMsg
  split
  · exact (portUpd_replyOnly _ _ s).trans (pumpN_replyOnly _ _ _)
  · exact ReplyOnly.refl s

theorem sendTo_replyOnly (dev : Nat) (m : Msg) (s : State) : ReplyOnly s (sendTo dev m s) := by
  unfold sendTo
  split
  · exact sendMsg_replyOnly _ _ s
  · exact ReplyOnly.refl s

theorem sendTunnel_replyOnly (dest : Nat) (frame : List Byte) (s : State) : ReplyOnly s (sendTunnel dest frame s) := by
  unfold sendTunnel
  dsimp only
  split
  · split
    · exact sendMsg_replyOnly _ _ s
    · exact ReplyOnly.refl s
  · refine foldl_replyOnly (fun a p => ?_) _ s
    split
    · exact sendMsg_replyOnly _ _ a
    · exact ReplyOnly.refl a

theorem mslAnswer_replyOnly (mop seq : Nat) (via : Option Nat) (status : Nat) (data : List Byte) (s : State) :
    ReplyOnly s (mslAnswer mop seq via status data s) := by
  unfold mslAnswer
  cases via with
  | none => exact ⟨_, s.regs, s.cps, s.twl, s.upd, rfl⟩
  | some src => exact sendTunnel_replyOnly _ _ s

theorem mslReply_replyOnly (status : Nat) (data : List Byte) (s : State) : ReplyOnly s (mslReply status data s) := by
  unfold mslReply
  split
  · exact ReplyOnly.refl s
  · exact ReplyOnly.trans ⟨s.out, s.regs, s.cps, s.twl, _, rfl⟩ (mslAnswer_replyOnly _ _ _ _ _ _)

theorem ringPut_replyOnly (k : Pkt) (rflags status : Nat) (data : List Byte) (s : State) :
    ReplyOnly s (ringPut k rflags status data s) :=
  ReplyOnly.trans ⟨_, _, _, s.twl, s.upd, rfl⟩ (raise_regsOut 2 _).replyOnly

theorem fifoPut_replyOnly (k : Pkt) (rflags status : Nat) (data : List Byte) (s : State) :
    ReplyOnly s (fifoPut k rflags status data s) := by
  unfold fifoPut
  dsimp only
  split
  · exact ⟨s.out, s.regs, _, s.twl, s.upd, rfl⟩
  · exact ReplyOnly.refl s

theorem vc1Put_replyOnly (k : Pkt) (src rflags status : Nat) (data : List Byte) (s : State) :
    ReplyOnly s (vc1Put k src rflags status data s) := by
  unfold vc1Put
  dsimp only
  split
  · exact sendTo_replyOnly _ _ s
  · split
    · exact sendMsg_replyOnly _ _ s
    · exact ReplyOnly.refl s

theorem putReply_replyOnly (k : Pkt) (rflags status : Nat) (data : List Byte) (s : State) :
    ReplyOnly s (putReply k rflags status data s) := by
  unfold putReply
  cases k.req with
  | cp0 =>
    dsimp only
    split
    · exact ringPut_replyOnly _ _ _ _ s
    · exact ReplyOnly.refl s
  | cp1 => exact fifoPut_replyOnly _ _ _ _ s
  | vc1 src o => exact vc1Put_replyOnly _ _ _ _ _ s
  | muslin => exact mslReply_replyOnly _ _ s

/-- Only the command transport differs. -/
def CpsOnly (s t : State) : Prop := ∃ c, t = { s with cps := c }

theorem CpsOnly.replyOnly {s t : State} (h : CpsOnly s t) : ReplyOnly s t := by
  obtain ⟨c, rfl⟩ := h
  exact ⟨s.out, s.regs, c, s.twl, s.upd, rfl⟩

theorem unreserve_cpsOnly (k : Pkt) (s : State) : CpsOnly s (unreserve k s) := by
  unfold unreserve
  cases k.req <;> exact ⟨_, rfl⟩

theorem keepReply_cpsOnly (k : Pkt) (status : Nat) (data : List Byte) (s : State) : CpsOnly s (keepReply k status data s) := by
  unfold keepReply
  cases k.req <;> exact ⟨_, rfl⟩

theorem sendFinal_replyOnly (k : Pkt) (hasResult : Bool) (status : Nat) (data : List Byte) (s : State) :
    ReplyOnly s (sendFinal k hasResult status data s) := by
  have kept : ReplyOnly s (keepReply k status data (unreserve k s)) :=
    (unreserve_cpsOnly k s).replyOnly.trans (keepReply_cpsOnly k status data _).replyOnly
  unfold sendFinal
  split
  · split
    · exact CpsOnly.replyOnly ⟨_, rfl⟩
    · exact ReplyOnly.refl s
  · dsimp only
    split
    · exact kept.trans (CpsOnly.replyOnly ⟨_, rfl⟩)
    · split
      · exact kept
      · exact kept.trans (putReply_replyOnly _ _ _ _ _)

theorem finish_replyOnly (k : Pkt) (status : Nat) (data : List Byte) (s : State) : ReplyOnly s (finish k status data s) :=
  sendFinal_replyOnly _ _ _ _ _

/-- A packet that begins leaves the held ones, or restarts its requester's watchdog. -/
theorem arrive_eq (k : Pkt) (s : State) :
    arrive k s = { s with cps := { s.cps with held := (arrive k s).cps.held, liveStart := (arrive k s).cps.liveStart } } := by
  unfold arrive
  split
  · rfl
  · unfold restartWatchdog
    split <;> rfl

/-- Settles O9: the reply's frame is that of the transport it goes out by. -/
theorem replyFrame : Obligations.ReplyFrame :=
  ⟨fun k st d s => (finish_replyOnly k st d s).eq, arrive_eq⟩

end Sys2Proof.Machine
end


section
/-!
Commands of areas 0x00 and 0x01 (R28, R474, R477, R490, R491, R493, R543). A command that a packet carries and that passes
R468's checks ends as its own part ends, so each statement is one about the own part.
-/

namespace Sys2Proof.Machine

variable {s t u : State} {i : Instr} {k : Pkt} {f : Fetch} {body : Option (List Byte) → State → Res}
  {c : Option (List Byte)} {d : List Byte} {st : Nat}

/-! ### A command's own part -/

/-- The own part answers with results. -/
theorem exec_answered (hi : exec i s = .next (command k f body s)) (hk : ready s k d.length c t)
    (hb : body c t = .ok u d) : exec i s = .next (finish k St.ok d u) := by
  rw [hi, command_ready f body hk (by rw [hb]; rfl), hb]
  rfl

/-- The own part answers without results. -/
theorem exec_done (hi : exec i s = .next (command k f body s)) (hk : ready s k 0 c t) (hb : body c t = .ok u []) :
    exec i s = .next (finish k St.ok [] u) :=
  exec_answered (d := []) hi hk hb

/-- The own part refuses. -/
theorem exec_refused (hi : exec i s = .next (command k f body s)) (hk : ready s k 0 c t) (hb : body c t = .err st) :
    exec i s = .next (finish k st [] t) := by
  rw [hi, command_ready f body hk (by rw [hb]; rfl), hb]
  rfl

/-- The own part goes on. -/
theorem exec_later (hi : exec i s = .next (command k f body s)) (hk : ready s k 0 c t) (hb : body c t = .later u) :
    exec i s = .next u := by
  rw [hi, command_ready f body hk (by rw [hb]; rfl), hb]
  rfl

/-! ### Information and registers -/

/-- Settles O10: each own part answers with its bytes on the state it began in. -/
theorem informationCommandsComplete : Obligations.InformationCommandsComplete := by
  unfold Obligations.InformationCommandsComplete
  intro s t k n c hk
  refine ⟨?_, ?_, ?_, ?_⟩
  · rintro rfl
    exact exec_answered rfl hk rfl
  · rintro rfl
    exact exec_answered rfl hk rfl
  · rintro rfl
    refine exec_answered rfl (c := c) (d := _ ++ _) ?_ rfl
    have length : ∀ x y : Nat, (if sender t then leBytes 4 x else leBytes 4 y).length = 4 := fun x y => by split <;> simp
    have last : ∀ x : Nat, (if sender t then zeros 4 else leBytes 4 x).length = 4 := fun x => by split <;> simp [zeros]
    simpa [length, last] using hk
  · rintro rfl
    refine exec_answered rfl (c := c) (d := List.flatten _) ?_ rfl
    rw [length_flatten_map (fun _ => leBytes_length 4 _), List.length_range]
    exact hk

/-- Settles O13: the parameters in range, the own part is the accesses in their order. -/
theorem registerCommandsComplete : Obligations.RegisterCommandsComplete := by
  unfold Obligations.RegisterCommandsComplete
  intro s t k n c hk hmode hz hcount
  refine ⟨?_, ?_⟩
  · rintro u ws hmax hread rfl
    have valid : ¬(k.p16 4 = 0 ∨ 1020 < k.p16 4 ∨ 1 < k.p8 6 ∨ !parZero k 7 1) := by
      simp only [hz, Bool.not_true, Bool.false_eq_true, or_false]
      omega
    exact exec_answered rfl hk (by simp only [if_neg valid, hread])
  · rintro hmax rfl
    have valid : ¬(k.p16 4 = 0 ∨ 1018 < k.p16 4 ∨ 1 < k.p8 6 ∨ !parZero k 7 1) := by
      simp only [hz, Bool.not_true, Bool.false_eq_true, or_false]
      omega
    exact exec_done rfl hk (if_neg valid)

/-! ### Modes -/

/-- Table 2.2 as a list of transitions. -/
theorem modeAllowed_iff {a b : Nat} :
    modeAllowed a b = true ↔ (a, b) ∈ [(1, 2), (1, 4), (2, 1), (2, 3), (3, 2), (3, 1), (4, 1)] := by
  simp only [modeAllowed, Bool.or_eq_true, Bool.and_eq_true, beq_iff_eq, List.mem_cons, Prod.mk.injEq, List.not_mem_nil,
    or_false, mStandby, mShow, mHold, mService, and_or_left, or_assoc]

theorem setMode_invalid (h : k.p8 0 = 0 ∨ 4 < k.p8 0) (hk : ready s k 0 c t) :
    exec (.setMode k) s = .next (finish k St.badParam [] t) :=
  exec_refused rfl hk (if_pos (by rcases h with h | h <;> simp [h]))

section
variable (hk : ready s k 0 c t) (low : 1 ≤ k.p8 0) (high : k.p8 0 ≤ 4) (hz : zeroAt k.par 1 3 = true)
include hk low high hz

theorem setMode_busy (h : transitioning t = true) : exec (.setMode k) s = .next (finish k St.busy [] t) := by
  refine exec_refused rfl hk ?_
  simp only [hz, h, Nat.not_lt.2 high, Nat.ne_of_gt low]
  rfl

variable (free : transitioning t = false)
include free

theorem setMode_same (h : k.p8 0 = mode t) : exec (.setMode k) s = .next (finish k St.ok [] t) := by
  refine exec_done rfl hk ?_
  simp [hz, free, ← h, Nat.not_lt.2 high, Nat.ne_of_gt low]

theorem setMode_other (h : k.p8 0 ≠ mode t) : exec (.setMode k) s =
    .next (if modeAllowed (mode t) (k.p8 0) then finish k St.ok [] (changeMode (k.p8 0) (if k.p8 0 = 3 then 1 else 0) t)
      else finish k St.badState [] t) := by
  cases allowed : modeAllowed (mode t) (k.p8 0) with
  | true => exact exec_done rfl hk (by simp [hz, free, h, allowed, Nat.not_lt.2 high, Nat.ne_of_gt low])
  | false => exact exec_refused rfl hk (by simp [hz, free, h, allowed, Nat.not_lt.2 high, Nat.ne_of_gt low])

end

/-- A field of SYS_MODE after a mode entry is as the three writes leave it; the count is not in that register. -/
theorem getF_enterMode {m cause : Nat} {g : Fld} (hg : R.SYS_MODE_EVT_COUNT.apart g = true) (hp : g.reg ≠ R.MSIX_PBA) :
    getF (enterMode m cause s) g = getF (setF (setF (setF s R.SYS_MODE_PREV_MODE (mode s)) R.SYS_MODE_MODE m)
      R.SYS_MODE_HOLD_CAUSE cause) g := by
  rw [enterMode, getF_raise rfl hp, getF_incF_other hg]

/-- A field that a mode entry does not write. -/
theorem getF_enterMode_other {m cause : Nat} {g : Fld} (hg : R.SYS_MODE_EVT_COUNT.apart g = true) (hp : g.reg ≠ R.MSIX_PBA)
    (h1 : R.SYS_MODE_PREV_MODE.apart g = true) (h2 : R.SYS_MODE_MODE.apart g = true)
    (h3 : R.SYS_MODE_HOLD_CAUSE.apart g = true) : getF (enterMode m cause s) g = getF s g := by
  rw [getF_enterMode hg hp, getF_setF_other h3, getF_setF_other h2, getF_setF_other h1]

theorem mode_enterMode {m cause : Nat} (h : m < 8) : mode (enterMode m cause s) = m := by
  rw [mode, getF_enterMode (by decide) (by decide), getF_setF_other (by decide), getF_setF_self (by decide)]
  exact Nat.mod_eq_of_lt h

theorem prevMode_enterMode {m cause : Nat} : getF (enterMode m cause s) R.SYS_MODE_PREV_MODE = mode s := by
  rw [getF_enterMode (by decide) (by decide), getF_setF_other (by decide), getF_setF_other (by decide),
    getF_setF_self (by decide)]
  exact Nat.mod_eq_of_lt getF_lt

theorem holdCause_enterMode {m cause : Nat} (h : cause < 4) :
    getF (enterMode m cause s) R.SYS_MODE_HOLD_CAUSE = cause := by
  rw [getF_enterMode (by decide) (by decide), getF_setF_self (by decide)]
  exact Nat.mod_eq_of_lt h

theorem evtCount_enterMode {m cause : Nat} :
    getF (enterMode m cause s) R.SYS_MODE_EVT_COUNT = (getF s R.SYS_MODE_EVT_COUNT + 1) % 65536 := by
  rw [enterMode, getF_raise rfl (by decide), getF_incF_self (by decide), getF_setF_other (by decide),
    getF_setF_other (by decide), getF_setF_other (by decide)]
  rfl

/-- Settles O12: Table 2.2 is the model's own check, and a mode entry is three writes and one count. -/
theorem setModeFollowsTable : Obligations.SetModeFollowsTable := by
  unfold Obligations.SetModeFollowsTable
  refine ⟨fun s t k c hk => ⟨fun h => setMode_invalid h hk, fun low high hz =>
    ⟨setMode_busy hk low high hz, fun free => ⟨setMode_same hk low high hz free, ?_, ?_⟩⟩⟩, ?_⟩
  · intro other allowed
    rw [setMode_other hk low high hz free other, if_pos (modeAllowed_iff.2 allowed)]
  · intro other refused
    rw [setMode_other hk low high hz free other, if_neg (mt modeAllowed_iff.1 refused)]
  · intro s m cause hm hc
    exact ⟨mode_enterMode hm, prevMode_enterMode, holdCause_enterMode hc,
      getF_enterMode_other (by decide) (by decide) (by decide) (by decide) (by decide), evtCount_enterMode⟩

/-! ### Semaphores -/

/-- Starting a watchdog changes nothing else. -/
theorem startWatch_eq (r : Req) (old s : State) :
    startWatch r old s = { s with cps := { s.cps with liveStart := (startWatch r old s).cps.liveStart } } := by
  unfold startWatch restartWatchdog
  split
  · rfl
  · split <;> rfl

/-- Stopping one neither. -/
theorem stopWatch_eq (r : Req) (s : State) :
    stopWatch r s = { s with cps := { s.cps with liveStart := (stopWatch r s).cps.liveStart } } := by
  unfold stopWatch
  split <;> rfl

/-- What a requester comes to hold, and that nothing else changes but its watchdog. -/
theorem semGive_eq (n : Nat) (r : Req) (s : State) : ∃ l,
    semGive n r s = { s with cps := { s.cps with sems := Tab.put s.cps.sems n r, liveStart := l } } :=
  ⟨_, startWatch_eq r s _⟩

/-- A semaphore other than SEM3 that nobody waits for is free, and nothing else changes. -/
theorem semFree_unwaited {n : Nat} (hn : n ≠ 3) (h : ∀ w ∈ s.cps.semWaits, w.sem ≠ n) :
    semFree n s = { s with cps := { s.cps with sems := Tab.del s.cps.sems n } } := by
  have unwaited : s.cps.semWaits.find? (fun w => w.sem == n) = none := by simpa [List.find?_eq_none] using h
  unfold semFree semServe
  simp only [if_neg hn, unwaited]

section
variable (hk : ready s k 0 c t) (hn : k.p8 0 < 16) (hz : zeroAt k.par 1 1 = true) (hw : k.p16 2 ≤ 1000)
include hk hn hz hw

/-- The own part of sem-acquire, its parameters in range: by the semaphore's holder. -/
theorem semAcquire_free (h : Tab.get t.cps.sems (k.p8 0) = none) :
    exec (.semAcquire k) s = .next (finish k St.ok [] (semGive (k.p8 0) k.req t)) :=
  exec_done rfl hk (by simp [hz, h, Nat.not_le.2 hn, Nat.not_lt.2 hw])

theorem semAcquire_own (h : Tab.get t.cps.sems (k.p8 0) = some k.req) :
    exec (.semAcquire k) s = .next (finish k St.ok [] t) :=
  exec_done rfl hk (by simp [hz, h, Nat.not_le.2 hn, Nat.not_lt.2 hw])

variable {r : Req} (h : Tab.get t.cps.sems (k.p8 0) = some r) (hr : r ≠ k.req)
include h hr

omit hw in
theorem semAcquire_held (now : k.p16 2 = 0) : exec (.semAcquire k) s = .next (finish k St.held [] t) :=
  exec_refused rfl hk (by simp [hz, h, hr, now, Nat.not_le.2 hn])

theorem semAcquire_waits (later : k.p16 2 ≠ 0) : exec (.semAcquire k) s = .next (startWatch k.req t
    { t with cps := { t.cps with semWaits := t.cps.semWaits ++ [⟨k.p8 0, k⟩] } }) :=
  exec_later rfl hk (by simp [hz, h, hr, later, Nat.not_le.2 hn, Nat.not_lt.2 hw])

end

/-- Settles O14: the grant, the refusal and the wait of an acquire, and the two ends of a release. -/
theorem semaphores : Obligations.Semaphores := by
  unfold Obligations.Semaphores
  refine ⟨fun s t k c hk hn hz hw => ⟨fun free => ?_, semAcquire_own hk hn hz hw, fun r h hr =>
    ⟨semAcquire_held hk hn hz h hr, fun later => ?_⟩⟩, fun s t k c hk hn hz => ⟨fun own => ⟨?_, ?_⟩, fun other => ?_⟩⟩
  · refine ⟨_, semAcquire_free hk hn hz hw free, ?_⟩
    obtain ⟨l, given⟩ := semGive_eq (k.p8 0) k.req t
    rw [given]
    exact ⟨Tab.get_put_same _ _ _, fun m hm => Tab.get_put_ne _ _ hm, rfl, rfl, rfl, rfl, rfl⟩
  · refine ⟨_, semAcquire_waits hk hn hz hw h hr later, ?_⟩
    rw [startWatch_eq]
    exact ⟨rfl, rfl, rfl, rfl, rfl, rfl⟩
  · exact exec_done rfl hk (by simp [hz, holds, own, Nat.not_le.2 hn])
  · intro hn3 unwaited
    rw [semFree_unwaited hn3 unwaited, stopWatch_eq]
    exact ⟨Tab.get_del_same _ _, rfl, rfl⟩
  · exact exec_refused rfl hk (by simp [hz, holds, other, Nat.not_le.2 hn])

/-! ### Liveness, groups and windows -/

theorem livenessSet_invalid {r : Req} {b : List Byte} (h : u16 b 0 < 100 ∨ 60000 < u16 b 0) (s : State) :
    livenessSet r b s = .error St.badParam :=
  if_pos (h.elim .inl fun h => .inr (.inl h))

/-- The parameter in range, what set-liveness stores by requester and role. -/
theorem livenessSet_valid {r : Req} {b : List Byte} (low : 100 ≤ u16 b 0) (high : u16 b 0 ≤ 60000) (hz : zeroAt b 2 2 = true)
    (s : State) : livenessSet r b s = match r with
      | .cp1 => .ok (setItem 3 1 b (setF s R.CPS_LIVE_CP1_TIMEOUT_MS (u16 b 0)))
      | .cp0 => .ok (setItem 3 0 b (setF s R.CPS_LIVE_CP0_TIMEOUT_MS (u16 b 0)))
      | _ => if sender s then .ok { s with cps := { s.cps with live := (r, u16 b 0) :: s.cps.live.filter (fun e => e.1 != r) } }
        else .ok (setItem 3 0 b (setF s R.CPS_LIVE_CP0_TIMEOUT_MS (u16 b 0))) := by
  refine if_neg ?_
  simp only [hz, Bool.not_true, Bool.false_eq_true, or_false]
  omega

theorem exec_setLiveness (hk : ready s k 0 c t) (h : livenessSet k.req k.par t = .ok u) :
    exec (.setLiveness k) s = .next (finish k St.ok [] u) :=
  exec_done rfl hk (congrArg resOf h)

/-- Settles O16: the three settings by requester, and the windows by number. -/
theorem livenessGroupsAndExports : Obligations.LivenessGroupsAndExports := by
  unfold Obligations.LivenessGroupsAndExports
  refine ⟨fun s t k c hk => ⟨exec_done rfl hk rfl, fun low high hz => ?_, fun h => ?_⟩, fun s t k c hk hw => ⟨?_, ?_⟩, ?_⟩
  · have valid := livenessSet_valid (r := k.req) low high hz t
    refine ⟨fun hr => ?_, fun hr => ?_, fun src o hr => ⟨fun tile => ?_, fun snd => ?_⟩⟩
    · exact exec_setLiveness hk (by rw [valid, hr])
    · exact exec_setLiveness hk (by rw [valid, hr])
    · exact exec_setLiveness hk (by rw [valid, hr]; simp only [tile, Bool.false_eq_true, if_false])
    · exact exec_setLiveness hk (by rw [valid, hr]; simp only [snd, if_true])
  · exact exec_refused rfl hk (congrArg resOf (livenessSet_invalid h t))
  · intro hsp hrights hallow hlife hstage
    have ranges : ¬(16 ≤ k.p8 0 ∨ 1 < k.p8 1 ∨ 3 < k.p8 2 ∨ 0xFFF < k.p16 4 ∨ k.p16 6 = 0) := by omega
    have window : ¬(k.p8 1 = 1 ∧ (1 < k.p8 3 ∨ (!sender t ∧ k.p8 3 = 0) ∨ 134217728 < k.p64 8 + k.p64 16)) := by
      rintro ⟨sp, h⟩
      obtain ⟨hbuf, hrole, hlen⟩ := hstage sp
      rcases h with h | ⟨tile, hb⟩ | h
      · omega
      · rcases hrole with snd | hb'
        · simp [snd] at tile
        · omega
      · omega
    refine exec_done rfl hk ?_
    simp only [if_neg ranges, if_neg window]
  · intro hz
    exact exec_done rfl hk (by simp [hz, Nat.not_le.2 hw])
  · intro s w run
    exact congrArg Host.Outcome.next (if_pos run)

/-! ### Remote access -/

/-- Settles O17: a window of a stage buffer is a range of memory, and a write there is one of memory. -/
theorem remoteAccess : Obligations.RemoteAccess := by
  unfold Obligations.RemoteAccess
  intro s t k n c f hk ok
  refine ⟨?_, ?_, ?_, ?_⟩
  · rintro w hw stage rfl
    refine exec_answered rfl (c := c) (d := memRead _ _ _) (by simpa [memRead] using hk) ?_
    simp [ok, hw, stage]
  · rintro w hw stage rfl
    refine ⟨memWrite t (stageMem w.buf + w.base + k.p64 4) (sub k.par 16 (k.p32 12)), ?_,
      fun i h => memGet_memWrite_in t _ i _ h, fun a h => memGet_memWrite_out t _ a _ h, rfl⟩
    exact exec_done rfl hk (by simp [ok, hw, stage])
  · rintro hw rfl
    exact exec_refused rfl hk (by simp [ok, hw])
  · rintro hw rfl
    exact exec_refused rfl hk (by simp [ok, hw])

end Sys2Proof.Machine
end


section
/-!
How packets travel: the CP0 rings (R480 to R482), the CP1 FIFOs (R483, R532), messages (R252, R484), outstanding packets
(R470, R479, R485), and the envelopes of SEC (R438 to R442).
-/

namespace Sys2Proof.Machine

variable {s : State} {v : Word}

/-! ### The rings -/

theorem wbits_low (v : Word) : wbits v 0 1 = v.toNat % 2 := by simp [wbits]

/-- LOG2N as a write of a ring's control register takes it. -/
def ringLog (v : Word) : Nat := max 2 (min 10 (wbits v 4 4))

theorem ringLog_ge (v : Word) : 2 ≤ ringLog v := Nat.le_max_left _ _

theorem ringLog_le (v : Word) : ringLog v ≤ 10 := Nat.max_le.2 ⟨by decide, Nat.min_le_left _ _⟩

theorem ringLog_mod (v : Word) : ringLog v % 2 ^ 4 = ringLog v := Nat.mod_eq_of_lt (by have := ringLog_le v; omega)

/-- A ring is disabled: its registers change, its head and tail to 0. -/
theorem ringEnable_command_off (h : v.toNat % 2 = 0) (s : State) : ringEnable false v s =
    setF (setF (setF (setF s R.CPS_CQ_CTRL_LOG2N (ringLog v)) R.CPS_CQ_CTRL_ENABLE 0) R.CPS_CQ_HEAD_HEAD 0)
      R.CPS_CQ_TAIL_TAIL 0 := by
  simp [ringEnable, ringLog, wbits_low, h]

theorem ringEnable_reply_off (h : v.toNat % 2 = 0) (s : State) : ringEnable true v s =
    setF (setF (setF (setF s R.CPS_RQ_CTRL_LOG2N (ringLog v)) R.CPS_RQ_CTRL_ENABLE 0) R.CPS_RQ_HEAD_HEAD 0)
      R.CPS_RQ_TAIL_TAIL 0 := by
  simp [ringEnable, ringLog, wbits_low, h]

/-- A ring is enabled: its control register takes both fields, and one that was off takes the size. -/
theorem ringEnable_command_on (h : v.toNat % 2 = 1) (s : State) : ∃ c, ringEnable false v s =
    { setF (setF s R.CPS_CQ_CTRL_LOG2N (ringLog v)) R.CPS_CQ_CTRL_ENABLE 1 with cps := c } := by
  simp only [ringEnable, wbits_low, h, Bool.false_eq_true, if_false, Nat.one_ne_zero]
  split <;> exact ⟨_, rfl⟩

theorem ringEnable_reply_on (h : v.toNat % 2 = 1) (s : State) : ∃ c, ringEnable true v s =
    { setF (setF s R.CPS_RQ_CTRL_LOG2N (ringLog v)) R.CPS_RQ_CTRL_ENABLE 1 with cps := c } := by
  simp only [ringEnable, wbits_low, h, if_true, Nat.one_ne_zero, if_false]
  split <;> exact ⟨_, rfl⟩

/-- The command transport beside the registers says nothing of a field. -/
theorem getF_cps (s : State) (c : CpsSt) (f : Fld) : getF { s with cps := c } f = getF s f := rfl

/-- Settles O18: each write is one of fields, read back field by field. -/
theorem ringRegisters : Obligations.RingRegisters := by
  unfold Obligations.RingRegisters
  intro s v live snd
  have now : (alive s && sender s) = true := by simp [live, snd]
  have enable : ∀ reply, exec (.ringEnableWrite reply v) s = .next (ringEnable reply v s) :=
    fun reply => congrArg Host.Outcome.next (if_pos now)
  refine ⟨congrArg Host.Outcome.next (if_pos now), congrArg Host.Outcome.next (if_pos now), fun off => ⟨?_, ?_⟩,
    fun on => ⟨?_, ?_⟩⟩
  · refine ⟨_, enable false, ?_⟩
    rw [ringEnable_command_off off]
    simp (disch := decide) only [getF_setF_self, getF_setF_other, Nat.zero_mod, true_and]
    exact (((((RegsOnly.refl s).setF _ _).setF _ _).setF _ _).setF _ _).eq
  · refine ⟨_, enable true, ?_⟩
    rw [ringEnable_reply_off off]
    simp (disch := decide) only [getF_setF_self, getF_setF_other, Nat.zero_mod, true_and]
    exact (((((RegsOnly.refl s).setF _ _).setF _ _).setF _ _).setF _ _).eq
  · obtain ⟨c, on⟩ := ringEnable_command_on on s
    refine ⟨_, enable false, ?_⟩
    rw [on]
    simp (disch := decide) only [getF_cps, getF_setF_self, getF_setF_other]
    exact ⟨rfl, (ringLog_mod v).symm ▸ ringLog_ge v, (ringLog_mod v).symm ▸ ringLog_le v, rfl, rfl⟩
  · obtain ⟨c, on⟩ := ringEnable_reply_on on s
    refine ⟨_, enable true, ?_⟩
    rw [on]
    simp (disch := decide) only [getF_cps, getF_setF_self, getF_setF_other]
    exact ⟨rfl, (ringLog_mod v).symm ▸ ringLog_ge v, (ringLog_mod v).symm ▸ ringLog_le v, rfl, rfl⟩

/-- Settles O19: the reservation is the last part of the condition under which an entry is taken. -/
theorem commandEntryTaken : Obligations.CommandEntryTaken := by
  unfold Obligations.CommandEntryTaken
  intro s
  refine ⟨fun no e => congrArg Host.Outcome.next (if_pos (by simp [no])), fun yes => ⟨?_, ?_, fun l => ?_⟩⟩
  · simp only [canFetch, Bool.and_eq_true, decide_eq_true_eq] at yes
    exact yes.2
  · exact congrArg Host.Outcome.next (if_neg (by simp [yes]))
  · exact congrArg Host.Outcome.next (if_neg (by simp [yes]))

/-! ### The FIFOs of CP1 -/

theorem cp1Complete_short (h : s.cps.cp1Cmd.length < 4) : cp1Complete s = s := if_pos h

section
variable (up : inReset s = false) (booted : mode s ≠ mBoot) (awake : mode s ≠ mLockdown)
include up booted awake

theorem exec_cp1CmdWrite (v : Word) : exec (.cp1CmdWrite v) s = .next (cp1Push v s) :=
  congrArg Host.Outcome.next (if_neg (by simp [up, booted, awake]))

theorem exec_cp1CmdWrite_room (h : cp1Level s < 2048) (v : Word) : exec (.cp1CmdWrite v) s =
    .next (cp1Complete { s with cps := { s.cps with cp1Cmd := s.cps.cp1Cmd ++ [v] } }) := by
  rw [exec_cp1CmdWrite up booted awake, cp1Push, if_neg (Nat.not_le.2 h)]

omit awake in
theorem exec_cp1RplRead : exec .cp1RplRead s = .next (match s.cps.cp1Rpl with
    | [] => send (tally R.CPS_CP1_ERR_UNDERFLOW 1 4 0 s) (.readData 1 0)
    | w :: rest => send { s with cps := { s.cps with cp1Rpl := rest } } (.readData 1 w)) :=
  congrArg Host.Outcome.next ((if_neg (by simp [up])).trans (if_neg (by simp [booted])))

theorem exec_cp1Flush : exec .cp1Flush s = .next (cp1Flush s) :=
  congrArg Host.Outcome.next (if_pos (by simp [running, alive, up, booted, awake]))

end

/-- Settles O20: both FIFOs are lists, and each event is a case of theirs. -/
theorem cp1Fifos : Obligations.Cp1Fifos := by
  unfold Obligations.Cp1Fifos
  intro s up booted awake
  refine ⟨fun v room => exec_cp1CmdWrite_room up booted awake room v, fun v room short => ?_, fun v full => ?_,
    fun w l hl => ?_, fun hl => ?_, fun some => ?_, ⟨_, exec_cp1Flush up booted awake, rfl, rfl, rfl, ?_, rfl, rfl, rfl⟩, ?_⟩
  · rw [exec_cp1CmdWrite_room up booted awake room, cp1Complete_short]
    simpa using Nat.add_lt_add_right short 1
  · rw [exec_cp1CmdWrite up booted awake, cp1Push, if_pos full]
  · rw [exec_cp1RplRead up booted, hl]
    rfl
  · rw [exec_cp1RplRead up booted, hl]
  · exact congrArg Host.Outcome.next (if_neg (by simp [up, some]))
  · intro k hk hr
    exact List.mem_append_left _ (List.mem_filter.2 ⟨hk, by simp [hr]⟩)
  · exact congrArg Host.Outcome.next (if_neg (by simp [up]))

/-! ### Messages -/

/-- Settles O21: the two arrivals are those of `msgIn`, and so is the refusal of any. -/
theorem messagesOfCommands : Obligations.MessagesOfCommands := by
  unfold Obligations.MessagesOfCommands
  refine ⟨fun s p m h => ⟨congrArg Host.Outcome.next (msgIn_arrives _ h), congrArg Host.Outcome.next (msgIn_arrives _ h)⟩, ?_⟩
  intro i p m s message live traffic refused
  obtain ⟨take, handled⟩ := exec_message message s
  rw [handled, msgIn_refused take live traffic refused]

/-! ### Outstanding packets -/

theorem unreserve_cp1 {k : Pkt} (h : k.req = .cp1) (s : State) : unreserve k s = s := by
  rw [unreserve, h]

/-- A final reply for the CP1 host of a sender: it goes to the FIFO, with RESPONDER the device that replied. -/
theorem takeReply_cp1 {m : Msg} {e : Fwd} {w : List Word} (outstanding : Tab.get s.cps.fwd (u32 m.payload 4) = some e)
    (host : e.pkt.req = .cp1) (final : (u32 m.payload 0).testBit 16 = false) (heard : s.cps.mute.contains e.pkt = false)
    (hw : w = wordsOf 2048 (replyBytes { s with cps := { s.cps with devnum := u32 m.payload 8 % 4096 } } e.pkt 0
      (u32 m.payload 8 / 65536) (sub m.payload 16 (u32 m.payload 12 % 8192)))) (fits : s.cps.cp1Rpl.length + w.length ≤ 2048) :
    takeReply m s = { s with cps := { s.cps with fwd := Tab.del s.cps.fwd (u32 m.payload 4)
                                                 cp1Rpl := s.cps.cp1Rpl ++ w } } := by
  have put : ∀ d : Nat, replyBytes { s with cps := { s.cps with fwd := Tab.del s.cps.fwd (u32 m.payload 4), devnum := d } } =
      replyBytes { s with cps := { s.cps with devnum := d } } := fun d => rfl
  simp only [takeReply, outstanding, final, heard, unreserve_cp1 host, putReply, host, fifoPut, put, ← hw, if_pos fits,
    Bool.false_eq_true, if_false]

section
variable {tag : Nat} {e : Fwd} (up : running s = true) (outstanding : Tab.get s.cps.fwd tag = some e)
  (loud : e.pkt.quiet = false)
include up outstanding loud

theorem forwardResendTimeout_again (h : e.resends < 2) : exec (.forwardResendTimeout tag) s = .next (
    let u := tally R.CPS_FWD_RESENDS 1 4 0
      { s with cps := { s.cps with fwd := Tab.put s.cps.fwd tag { e with resends := e.resends + 1 } } }
    sendTo e.pkt.target (fwdMsg u e.pkt tag) u) := by
  refine congrArg Host.Outcome.next ((if_neg (by simp [up])).trans ?_)
  simp only [outstanding, loud, if_pos h, Bool.false_eq_true, if_false]

theorem forwardResendTimeout_last (h : 2 ≤ e.resends) : exec (.forwardResendTimeout tag) s = .next (finish e.pkt St.noReply []
    (tally R.CPS_FWD_NO_REPLY 1 3 0 { s with cps := { s.cps with fwd := Tab.del s.cps.fwd tag } })) := by
  refine congrArg Host.Outcome.next ((if_neg (by simp [up])).trans ?_)
  simp only [outstanding, loud, if_neg (Nat.not_lt.2 h), Bool.false_eq_true, if_false]

end

theorem exec_quietForget {tag : Nat} {e : Fwd} (outstanding : Tab.get s.cps.fwd tag = some e) (quiet : e.pkt.quiet = true) :
    exec (.quietForget tag) s = .next (unreserve e.pkt { s with cps := { s.cps with fwd := Tab.del s.cps.fwd tag } }) := by
  refine congrArg Host.Outcome.next ?_
  simp only [outstanding, quiet, if_true]

theorem unreserve_mute (k : Pkt) (s : State) : (unreserve k s).cps.mute = s.cps.mute := by
  unfold unreserve
  cases k.req <;> rfl

/-- A collection that awaits no device after an interim reply ends with its aggregate. -/
theorem exec_aggregateCollectionEnd {tag : Nat} {a : Agg} (up : running s = true)
    (collecting : Tab.get s.cps.aggs tag = some a) (heard : s.cps.mute.contains a.pkt = false) (alone : a.interim = []) :
    exec (.aggregateCollectionEnd tag) s = .next (putReply a.pkt 2
      (if a.replies.all (fun e => e.2 == 0) && (aggMissing s a).isEmpty then St.ok else St.part) (aggResult s a)
      (unreserve a.pkt { s with cps := { s.cps with aggs := Tab.del s.cps.aggs tag } })) := by
  refine congrArg Host.Outcome.next ((if_neg (by simp [up])).trans ?_)
  simp only [collecting, alone, unreserve_mute, heard, List.filter_nil, List.isEmpty_nil, Bool.and_true, Bool.false_eq_true,
    if_false]

/-- Settles O22: each timer is the case of its table entry. -/
theorem outstandingPackets : Obligations.OutstandingPackets := by
  unfold Obligations.OutstandingPackets
  refine ⟨fun s m e out host final heard w hw fits => takeReply_cp1 out host final heard hw fits,
    fun s tag e up out loud => ⟨fun h => ⟨_, rfl, forwardResendTimeout_again up out loud h⟩,
      forwardResendTimeout_last up out loud⟩,
    fun s tag e => exec_quietForget, fun s tag a => exec_aggregateCollectionEnd, fun s k up alone => ?_⟩
  refine congrArg Host.Outcome.next ((if_neg (by simp [up])).trans ?_)
  simp only [alone]

/-! ### Envelopes -/

/-- SEC's note of a verification leaves the store in use as it was. -/
theorem raiseCtr_noteVerified (k : Pkt) (r : Req) (s : State) :
    raiseCtr k (incF (noteVerified r s) R.SEC_ENV_OK_N) =
      { raiseCtr k s with regs := (incF s R.SEC_ENV_OK_N).regs, sec := (noteVerified r s).sec } := by
  have store : storeOf (incF (noteVerified r s) R.SEC_ENV_OK_N) = storeOf s := rfl
  unfold raiseCtr
  rw [store]
  cases storeOf s <;> rfl

/-- An envelope that passes: SEC notes it, counts it and raises LAST_CTR. -/
theorem envelope_passed {k : Pkt} {f : Fetch} (h : (envVerdict s k f).1 = 0) :
    (envelope k f s).1 = raiseCtr k (incF (noteVerified k.req s) R.SEC_ENV_OK_N) := by
  unfold envelope
  simp [h]

theorem raiseCtr_frame (k : Pkt) (s : State) : (raiseCtr k s).mem = s.mem ∧ (raiseCtr k s).cps = s.cps := by
  unfold raiseCtr
  split <;> exact ⟨rfl, rfl⟩

/-- A command that SEC has put among the released ones is found there. -/
theorem releasedOf_last (s : State) (k : Pkt) (copy : Option (List Byte)) :
    (releasedOf { s with sec := { s.sec with released := s.sec.released ++ [{ pkt := k, copy := copy }] } } k).isSome = true := by
  simp [releasedOf]

section
variable {k : Pkt} {f : Fetch} (up : running s = true) (signed : k.signed = true) (held : s.cps.held.contains k = true)
  (fresh : releasedOf s k = none) (passes : precheck s k = none)
include up signed held fresh passes

theorem envelopeVerified_passed (h : (envVerdict s k f).1 = 0) : exec (.envelopeVerified k f) s =
    .next { (envelope k f s).1 with sec := { (envelope k f s).1.sec with
      released := (envelope k f s).1.sec.released ++ [{ pkt := k, copy := (envVerdict s k f).2 }] } } := by
  have verdict := envelope_verdict k f s
  refine congrArg Host.Outcome.next ((if_neg (by rw [up, signed, held, fresh]; decide)).trans ?_)
  simp only [passes, verdict, h, if_true]

theorem envelopeVerified_failed (h : (envVerdict s k f).1 ≠ 0) (fits : replyFits s k 0 = true) :
    exec (.envelopeVerified k f) s = .next (finish k (envVerdict s k f).1 []
      { (envelope k f s).1 with cps := { (envelope k f s).1.cps with held := (envelope k f s).1.cps.held.erase k } }) := by
  have verdict := envelope_verdict k f s
  refine congrArg Host.Outcome.next ((if_neg (by rw [up, signed, held, fresh]; decide)).trans ?_)
  simp only [passes, verdict, if_neg h, fits, if_true]

end

/-- The list of throttled requesters once r's throttling has ended. -/
def throttledBut (r : Req) (s : State) : List (Req × Nat) := s.sec.throttled.filter (fun e => e.1 != r)

theorem exec_envelopeThrottleExpiry (r : Req) (s : State) : exec (.envelopeThrottleExpiry r) s =
    .next (setB { s with sec := { s.sec with throttled := throttledBut r s } } R.SEC_STATUS_THROTTLED
      (!(throttledBut r s).isEmpty)) := rfl

/-- Settles O23: SEC releases on a verdict of 0, and answers on any other. -/
theorem envelopeVerification : Obligations.EnvelopeVerification := by
  unfold Obligations.EnvelopeVerification
  refine ⟨fun s k f up signed held fresh passes => ⟨fun ok => ?_, envelopeVerified_failed up signed held fresh passes⟩,
    fun s r => ?_⟩
  · refine ⟨_, envelopeVerified_passed up signed held fresh passes ok, releasedOf_last _ _ _, ?_⟩
    rw [envelope_passed ok, raiseCtr_noteVerified]
    exact ⟨rfl, (raiseCtr_frame k s).1, (raiseCtr_frame k s).2⟩
  · refine ⟨_, exec_envelopeThrottleExpiry r s, fun e he => ?_, ?_, setB_mem _ _ _, setB_nv _ _ _, setB_cps _ _ _⟩
    · rw [setB_sec] at he
      obtain ⟨mem, other⟩ := List.mem_filter.1 he
      exact ⟨by simpa using other, mem⟩
    · rw [← isSet_iff, isSet_setB_self (by decide), setB_sec]
      simp

end Sys2Proof.Machine
end


section
/-!
Register writes (R536, R540 to R544, R550, R551, R557, R561). A write that may act acts by its register alone; what it stores
is said bit by bit, from the value written within the fields that a write stores and from before elsewhere.
-/

namespace Sys2Proof.Machine

variable {s : State} {q : Nat} {v : Word}

/-! ### The gate -/

theorem access_unreached {b off : Nat} {ind : Bool} {act : State → State} (h : reaches s q b = false) :
    access q b ind off act s = s := if_pos (by simp [h])

theorem access_locked {b off : Nat} {ind : Bool} {act : State → State} (h : reaches s q b = true)
    (locked : mode s = mLockdown ∨ blockPowered (sender s) b = false) :
    access q b ind off act s = lockViol b q ind off s :=
  (if_neg (by simp [h])).trans (if_pos (by simpa using locked))

theorem byteWrite_whole {b off : Nat} : byteWrite q b off v 15 s = directWrite q b off v s := if_pos rfl

theorem regWrite_mapped {a b off : Nat} {be : BitVec 4} (h : regAddr a = some (b, off)) (whole : q = 0 ∨ be = 15) :
    regWrite q a v be s = access q b false off (byteWrite q b off v be) s := by
  unfold regWrite
  rw [if_neg (fun narrow => whole.elim narrow.1 narrow.2), h]

/-- Settles O24: the gate comes before the write, whatever the register. -/
theorem registerWriteGate : Obligations.RegisterWriteGate := by
  unfold Obligations.RegisterWriteGate
  intro s q a v
  refine ⟨fun b off hb => ?_, fun unmapped => ?_⟩
  · have gate : exec (.registerWrite q a v 15) s = .next (access q b false off (byteWrite q b off v 15) s) :=
      congrArg Host.Outcome.next (regWrite_mapped hb (.inr rfl))
    refine ⟨fun h => ?_, fun h locked => ?_, fun acts => ?_⟩
    · rw [gate, access_unreached h]
    · rw [gate, access_locked h locked]
    · rw [gate, access_acts _ _ _ acts, byteWrite_whole]
  · refine congrArg Host.Outcome.next ?_
    unfold regWrite
    rw [if_neg (by simp), unmapped]

/-! ### Words bit by bit -/

/-- A field replaced: its own bits come from the new value, the others stay. -/
theorem Fld.getLsbD_ins {f : Fld} (h : f.inWord = true) (w : Word) (x : Nat) {i : Nat} :
    (f.ins w x).getLsbD i = if f.lo ≤ i ∧ i ≤ f.hi then x.testBit (i - f.lo) else w.getLsbD i := by
  simp only [Fld.inWord, Bool.and_eq_true, decide_eq_true_eq] at h
  rw [← BitVec.testBit_toNat, ← BitVec.testBit_toNat, Fld.toNat_ins f w x h.1 h.2, Nat.add_comm,
    Nat.testBit_two_pow_mul_add _ (Nat.mod_lt _ (Nat.two_pow_pos _))]
  by_cases low : i < f.lo
  · rw [if_pos low, if_neg (by omega), Nat.testBit_mod_two_pow]
    simp [low]
  · rw [if_neg low, Nat.add_comm (x % _), Nat.testBit_two_pow_mul_add _ (Nat.mod_lt _ (Nat.two_pow_pos _))]
    by_cases inside : i ≤ f.hi
    · have within : i - f.lo < f.width := by unfold Fld.width; omega
      rw [if_pos within, if_pos (by omega), Nat.testBit_mod_two_pow]
      simp [within]
    · have beyond : ¬ i - f.lo < f.width := by unfold Fld.width; omega
      rw [if_neg beyond, if_neg (by omega), Nat.testBit_div_two_pow, Nat.testBit_div_two_pow]
      congr 1
      omega

/-- The bits of a field. -/
theorem Fld.testBit_of (f : Fld) (w : Word) (j : Nat) :
    (f.of w).testBit j = (decide (j < f.width) && w.getLsbD (f.lo + j)) := by
  rw [Fld.of, Nat.testBit_mod_two_pow, Nat.testBit_div_two_pow, BitVec.testBit_toNat]
  congr 2
  omega

/-- A field taken from another word. -/
theorem Fld.getLsbD_ins_of {f : Fld} (h : f.inWord = true) (w v : Word) {i : Nat} :
    (f.ins w (f.of v)).getLsbD i = if f.lo ≤ i ∧ i ≤ f.hi then v.getLsbD i else w.getLsbD i := by
  rw [Fld.getLsbD_ins h]
  split
  · next inside =>
    have within : i - f.lo < f.width := by unfold Fld.width; omega
    rw [Fld.testBit_of, Nat.add_sub_cancel' inside.1]
    simp [within]
  · rfl

/-- Some of a list of fields taken from another word. -/
theorem getLsbD_foldl_ins {α : Type} (g : α → Fld) (p : α → Bool) (l : List α) (h : ∀ x ∈ l, (g x).inWord = true)
    (w v : Word) {i : Nat} : (l.foldl (fun a x => if p x then (g x).ins a ((g x).of v) else a) w).getLsbD i =
      if l.any (fun x => p x && decide ((g x).lo ≤ i) && decide (i ≤ (g x).hi)) then v.getLsbD i else w.getLsbD i := by
  induction l generalizing w with
  | nil => rfl
  | cons x l ih =>
    rw [List.foldl_cons, ih (fun y hy => h y (.tail _ hy)), List.any_cons]
    have first : (if p x then (g x).ins w ((g x).of v) else w).getLsbD i =
        if (p x && decide ((g x).lo ≤ i) && decide (i ≤ (g x).hi)) = true then v.getLsbD i else w.getLsbD i := by
      cases p x with
      | false => rfl
      | true => simpa using Fld.getLsbD_ins_of (h x (.head _)) w v
    rw [first]
    cases l.any _ <;> simp

/-- A word merged by byte enables. -/
theorem getLsbD_mergeBytes (be : BitVec 4) (old v : Word) {i : Nat} (hi : i < 32) :
    (mergeBytes be old v).getLsbD i = if be.getLsbD (i / 8) then v.getLsbD i else old.getLsbD i := by
  have byte : ∀ x ∈ List.range 4, (Fld.mk 0 (8 * x + 7) (8 * x)).inWord = true := by decide
  have bits := getLsbD_foldl_ins (fun x => ⟨0, 8 * x + 7, 8 * x⟩) (fun x => be.getLsbD x) (List.range 4) byte old v (i := i)
  have enabled : (List.range 4).any (fun x => be.getLsbD x && decide (8 * x ≤ i) && decide (i ≤ 8 * x + 7)) =
      be.getLsbD (i / 8) := by
    rw [Bool.eq_iff_iff]
    simp only [List.any_eq_true, List.mem_range, Bool.and_eq_true, decide_eq_true_eq]
    constructor
    · rintro ⟨x, _, ⟨set, low⟩, high⟩
      rwa [show i / 8 = x by omega]
    · intro set
      exact ⟨i / 8, by omega, ⟨set, by omega⟩, by omega⟩
  exact bits.trans (by rw [enabled])

/-- Settles O25: the three fates of a narrow write, and the merged word. -/
theorem narrowWrites : Obligations.NarrowWrites := by
  unfold Obligations.NarrowWrites
  intro s a b off v be hb acts narrow
  have write : exec (.registerWrite 0 a v be) s = .next (byteWrite 0 b off v be s) := by
    refine congrArg Host.Outcome.next ?_
    rw [regWrite_mapped hb (.inl rfl), access_acts _ _ _ acts]
  rw [write]
  refine ⟨fun effect => ?_, fun effect absent => ?_, fun effect present hb0 hb1 => ?_, fun i hi => getLsbD_mergeBytes be _ v hi⟩
  · rw [byteWrite, if_neg narrow, if_pos effect]
  · rw [byteWrite, if_neg narrow, effect, absent]
    rfl
  · rw [byteWrite, if_neg narrow, if_neg (by simp [effect]), if_neg (not_or.2 ⟨present, fun lock => hb0 lock.1⟩)]
    simp only [if_neg (fun low : b = 1 ∧ off < 0x10 => hb1 low.1)]

/-! ### Storing a word -/

theorem storeWord_known {key : Nat} {d : RegDef} (h : regDef key = some d) :
    storeWord key v s = regPut s key (clampWord key (mergeWord d.fields (regGet s key) v)) := by
  rw [storeWord, h]

/-- Storing a word changes registers alone. -/
theorem storeWord_regsOnly (key : Nat) (v : Word) (s : State) : RegsOnly s (storeWord key v s) := by
  unfold storeWord
  split
  · exact RegsOnly.refl s
  · exact ⟨_, rfl⟩

theorem regGet_storeWord_other {key other : Nat} (h : other ≠ key) : regGet (storeWord key v s) other = regGet s other := by
  unfold storeWord
  split
  · rfl
  · exact regGet_regPut_ne s _ h

theorem clampWord_unlimited {key : Nat} {w : Word} (h : clampsOf key = []) (hk : key ≠ R.TNM_CTRL) : clampWord key w = w := by
  unfold clampWord
  rw [h]
  exact if_neg (fun both => hk both.1)

theorem getLsbD_mergeWord {fs : List FieldDef} (h : ∀ f ∈ fs, f.lo ≤ f.hi ∧ f.hi < 32) (old v : Word) {i : Nat} :
    (mergeWord fs old v).getLsbD i =
      if fs.any (fun f => f.kind.stores && decide (f.lo ≤ i) && decide (i ≤ f.hi)) then v.getLsbD i else old.getLsbD i :=
  getLsbD_foldl_ins (fun f : FieldDef => ⟨0, f.hi, f.lo⟩) (fun f => f.kind.stores) fs
    (fun f hf => by obtain ⟨h1, h2⟩ := h f hf; simp [Fld.inWord, h1, h2]) old v

/-- Settles O26: an unlimited register takes the merged word. -/
theorem storeTakesWritableBits : Obligations.StoreTakesWritableBits := by
  unfold Obligations.StoreTakesWritableBits
  intro s key d v known unlimited untoned fields
  refine ⟨fun i _ => ?_, fun other h => regGet_storeWord_other h, (storeWord_regsOnly key v s).eq⟩
  rw [storeWord_known known, clampWord_unlimited unlimited untoned, regGet_regPut_same, getLsbD_mergeWord fields]

/-! ### Pairs and acknowledges -/

theorem indOf_indUpd_same (f : IndPair → IndPair) : indOf (indUpd q f s) q = f (indOf s q) := by
  simp [indOf, indUpd]

theorem indOf_indUpd_other {r : Nat} (h : r ≠ q) (f : IndPair → IndPair) : indOf (indUpd q f s) r = indOf s r := by
  simp [indOf, indUpd, Tab.get_put_ne _ _ h]

/-- Out of reset, a block that answers answers a host's read of a whole word. -/
theorem hostRead_acts {b off : Nat} {act : State → State × Word} (acts : mayAct s q b) :
    hostRead q b off 15 act s = send (act s).1 (.readData q (act s).2) := by
  obtain ⟨reached, awake, powered⟩ := acts
  simp [hostRead, reached, awake, powered]

theorem inReset_of_mayAct {b : Nat} (acts : mayAct s q b) : inReset s = false := by
  obtain ⟨reached, _, _⟩ := acts
  simp only [reaches, Bool.and_eq_true, Bool.not_eq_true'] at reached
  exact reached.1.1

theorem exec_indDataRead (acts : mayAct s q 1) :
    exec (.indDataRead q 15) s = .next (send (indRead q s).1 (.readData q (indRead q s).2)) := by
  refine congrArg Host.Outcome.next ((if_neg (by simp [inReset_of_mayAct acts])).trans ?_)
  rw [ite_self, hostRead_acts acts]

theorem exec_latchedPairRead {i : Nat} (acts : mayAct s q 10) (hi : i < 4) (part : Nat) :
    exec (.latchedPairRead q i part 15) s =
      .next (send (pairRead q i (min part 2) s).1 (.readData q (pairRead q i (min part 2) s).2)) := by
  refine congrArg Host.Outcome.next ((if_neg (by simp [inReset_of_mayAct acts])).trans ?_)
  rw [ite_self, hostRead_acts acts, Nat.mod_eq_of_lt hi]

theorem exec_eventAcknowledge {a b off : Nat} (hb : regAddr a = some (b, off))
    (ea : hasKind (dirKey b off) (· == .ea) = true) (acts : mayAct s q b) :
    exec (.eventAcknowledge q a v) s = .next (ackWrite (dirKey b off) v s) := by
  refine congrArg Host.Outcome.next ?_
  simp only [hb, ea, if_true]
  exact access_acts _ _ _ acts

/-- Settles O27: a requester's pair is its own entry, a latched pair its own entry of another table. -/
theorem pairsAndAcknowledges : Obligations.PairsAndAcknowledges := by
  unfold Obligations.PairsAndAcknowledges
  refine ⟨fun s q v acts => ⟨⟨_, congrArg Host.Outcome.next (access_acts _ _ _ acts), ?_⟩,
    congrArg Host.Outcome.next (access_acts _ _ _ acts), fun absent => ?_, fun acts' present => ?_, fun t w read => ?_⟩,
    fun s q i acts hi => ⟨⟨_, exec_latchedPairRead acts hi 0, rfl, ?_, fun j hj => ?_, rfl, rfl⟩,
      exec_latchedPairRead acts hi 1⟩,
    fun s q a b off v hb ea acts => ⟨exec_eventAcknowledge hb ea acts, fun k source => ?_⟩⟩
  · rw [indAddrWrite, indOf_indUpd_same]
    exact ⟨rfl, by simp [wbits], rfl, rfl, fun r hr => indOf_indUpd_other hr _, rfl⟩
  · simp only [indWrite, if_pos absent]
  · simp only [indWrite, if_neg present, access_acts _ _ _ acts']
  · rw [exec_indDataRead acts, read]
    rfl
  · exact Tab.get_put_same _ _ _
  · exact Tab.get_put_ne _ _ hj
  · simp only [ackWrite, source]

/-! ### SYS -/

theorem cfgLockWrite_first (h : s.sys.cfgLocked = 0) : cfgLockWrite q v s =
    { regPut s R.SYS_CFG_LOCK (BitVec.ofNat 32 (v.toNat % 8)) with sys := { s.sys with cfgLocked := 7 } } :=
  if_neg (by simp [h])

/-- A write of SYS_GPIO_OUT, past the other registers of SYS. -/
theorem writeSys_gpioOut : writeSys q 0x44 v s =
    if isSet s R.SYS_CFG_LOCK_GPIO then lockViol 0 q false 0x44 s else gpioOutWrite v s := by
  simp [writeSys, gpioLocked]

theorem sysLoadWrite_boot (boot : mode s = mBoot) (snd : sender s = true) (src : getF s R.SYS_MODE_BOOT_SRC = 2)
    (awake : s.upd.chosen = none) : sysLoadWrite v s =
      let s1 := setF s R.SYS_LOAD_LEN (R.SYS_LOAD_LEN.of v)
      if 50331648 < R.SYS_LOAD_LEN.of v then setF s1 R.SYS_LOAD_STAT 2
      else setF (loadBundle (memRead s1 loadMem (R.SYS_LOAD_LEN.of v)) false s1).2 R.SYS_LOAD_STAT
        (if (loadBundle (memRead s1 loadMem (R.SYS_LOAD_LEN.of v)) false s1).1 then 3 else 2) := by
  simp [sysLoadWrite, boot, snd, src, awake]

/-- Settles O28: three registers of SYS with an effect of their own. -/
theorem systemRegisterWrites : Obligations.SystemRegisterWrites := by
  unfold Obligations.SystemRegisterWrites
  refine ⟨fun s q v acts => ⟨fun first => ?_, fun later => ?_, fun locked => ?_, fun free => ?_⟩,
    fun s q v acts => ⟨fun boot snd src awake => ?_, fun other => ?_⟩⟩
  · refine ⟨_, congrArg Host.Outcome.next ((access_acts _ _ _ acts).trans (cfgLockWrite_first first)), rfl, ?_,
      fun key hk => regGet_regPut_ne s _ hk, rfl, rfl, rfl, rfl⟩
    have stored : regGet (regPut s R.SYS_CFG_LOCK (BitVec.ofNat 32 (v.toNat % 8))) R.SYS_CFG_LOCK = _ :=
      regGet_regPut_same _ _ _
    exact (congrArg BitVec.toNat stored).trans (by rw [BitVec.toNat_ofNat]; omega)
  · exact congrArg Host.Outcome.next ((access_acts _ _ _ acts).trans (if_pos later))
  · exact congrArg Host.Outcome.next ((access_acts _ _ _ acts).trans (writeSys_gpioOut.trans (if_pos locked)))
  · refine ⟨gpioOutWrite v s, congrArg Host.Outcome.next ((access_acts _ _ _ acts).trans
      (writeSys_gpioOut.trans (if_neg (by simp [free])))), ?_, fun key hk => regGet_regPut_ne _ _ hk, fun g hg => ?_,
      rfl, rfl, rfl, rfl⟩
    · rw [gpioOutWrite, getF_setF_self (by decide)]
      exact Nat.mod_mod _ _
    · rw [gpioOutWrite, setF_sys] at hg
      obtain ⟨mem, same⟩ := List.mem_filter.1 hg
      exact ⟨by simpa using same, mem⟩
  · refine ⟨_, congrArg Host.Outcome.next ((access_acts _ _ _ acts).trans (sysLoadWrite_boot boot snd src awake)), ?_, ?_⟩
    · intro long
      simp only [if_pos long]
      exact ⟨getF_setF_self (by decide), setF_upd _ _ _, setF_mem _ _ _, setF_nv _ _ _⟩
    · intro fits good u loaded
      simp only [if_neg (Nat.not_lt.2 fits), loaded]
  · exact congrArg Host.Outcome.next ((access_acts _ _ _ acts).trans (if_pos (by simp [other])))

end Sys2Proof.Machine
end


section
/-!
Register writes that act at once (R148, R184, R310, R324, R554, R561), the control and test registers of a Twill port (R233 to
R246), and STR_CTRL (R363, R381).
-/

namespace Sys2Proof.Machine

variable {s : State} {q : Nat} {v : Word}

/-! ### Registers that are cleared -/

theorem getF_regPut_zero {k : Nat} {f : Fld} (h : f.reg = k) : getF (regPut s k 0) f = 0 := by
  subst h
  simp [getF, Fld.of]

theorem getF_regPut_other {k : Nat} {w : Word} {f : Fld} (h : f.reg ≠ k) : getF (regPut s k w) f = getF s f := by
  rw [getF, regGet_regPut_ne s w h]
  rfl

/-- The CLEAR registers of the fault records, past the other registers of SYS. -/
theorem writeSys_frecClear {b : Nat} (hb : b < 24) (hv : v.toNat % 2 = 1) :
    writeSys q (0x41C + 32 * b) v s = frecClear b s := by
  have place : 0x400 ≤ 0x41C + 32 * b ∧ 0x41C + 32 * b < 0x700 ∧ (0x41C + 32 * b) % 32 = 0x1C := by omega
  have free : gpioLocked (0x41C + 32 * b) = false := by simp [gpioLocked]; omega
  have block : (0x41C + 32 * b - 0x400) / 32 = b := by omega
  unfold writeSys
  rw [if_neg (by omega), if_neg (by omega), if_neg (by simp [free]), if_neg (by omega), if_neg (by omega), if_pos place,
    if_pos hv, block]

/-- A cleared record: its first word is zero, and LOST is kept. -/
theorem getF_frecClear_w0 {b : Nat} {f : Fld} (h : f.reg = R.FREC_W0 b) : getF (frecClear b s) f = 0 := by
  have other : ∀ k, R.FREC_W0 b < k → f.reg ≠ k := fun k hk => by omega
  unfold frecClear
  simp only []
  rw [getF_regPut_other (other _ (by simp)), getF_regPut_other (other _ (by simp)), getF_regPut_other (other _ (by simp)),
    getF_regPut_other (other _ (by simp)), getF_regPut_other (other _ (by simp)), getF_regPut_zero h]

theorem getF_frecClear_lost (b : Nat) : getF (frecClear b s) (R.FREC_LOST_LOST b) = getF s (R.FREC_LOST_LOST b) := by
  unfold frecClear
  simp only []
  rw [getF_regPut_other (by simp), getF_regPut_other (by simp), getF_regPut_other (by simp), getF_regPut_other (by simp),
    getF_regPut_other (by simp), getF_regPut_other (by simp)]

theorem RegsOnly.regPut {s t : State} (h : RegsOnly s t) (k : Nat) (w : Word) : RegsOnly s (Machine.regPut t k w) :=
  h.trans ⟨_, rfl⟩

theorem frecClear_regsOnly (b : Nat) (s : State) : RegsOnly s (frecClear b s) :=
  ((((((RegsOnly.refl s).regPut _ _).regPut _ _).regPut _ _).regPut _ _).regPut _ _).regPut _ _

/-! ### Snapshots of the clocks -/

/-- A value in a pair of registers reads back modulo 2^64. -/
theorem val48_setF {lo hi : Fld} (x : Nat) (hlo : lo.inWord = true) (hhi : hi.inWord = true) (wlo : lo.width = 32)
    (whi : hi.width = 32) (apart : hi.apart lo = true) :
    val48 (setF (setF s lo x) hi (x / 4294967296)) lo hi = x % 2 ^ 64 := by
  rw [val48, getF_setF_other apart, getF_setF_self hlo, getF_setF_self hhi, wlo, whi]
  omega

theorem val48_setF_other {lo hi f : Fld} {x : Nat} (h1 : f.apart lo = true) (h2 : f.apart hi = true) :
    val48 (setF s f x) lo hi = val48 s lo hi := by
  rw [val48, getF_setF_other h1, getF_setF_other h2]
  rfl

theorem timSnap_regsOnly (s : State) : RegsOnly s (timSnap s) :=
  ((((((RegsOnly.refl s).setF _ _).setF _ _).setF _ _).setF _ _).setF _ _).setF _ _

/-- The three clocks of one moment. -/
theorem val48_timSnap (s : State) : val48 (timSnap s) R.TIM_SNAP_LT_LO_VAL R.TIM_SNAP_LT_HI_VAL = ltNs s % 2 ^ 64 ∧
    val48 (timSnap s) R.TIM_SNAP_WT_LO_VAL R.TIM_SNAP_WT_HI_VAL = wtNs s % 2 ^ 64 ∧
    val48 (timSnap s) R.TIM_SNAP_NT_LO_VAL R.TIM_SNAP_NT_HI_VAL = ntNs s % 2 ^ 64 := by
  unfold timSnap
  simp only []
  refine ⟨?_, ?_, ?_⟩
  · rw [val48_setF_other (by decide) (by decide), val48_setF_other (by decide) (by decide),
      val48_setF_other (by decide) (by decide), val48_setF_other (by decide) (by decide),
      val48_setF _ (by decide) (by decide) (by decide) (by decide) (by decide)]
  · rw [val48_setF_other (by decide) (by decide), val48_setF_other (by decide) (by decide),
      val48_setF _ (by decide) (by decide) (by decide) (by decide) (by decide)]
  · rw [val48_setF _ (by decide) (by decide) (by decide) (by decide) (by decide)]

/-! ### FORCE_FULL -/

/-- Queue descriptors with those of some slots made to be delivered in full. -/
def fullQueues (slots : List Nat) (l : Tab QDesc) : Tab QDesc :=
  l.map (fun e => if e.1 / 4096 ∈ slots then (e.1, { e.2 with valid := false }) else e)

theorem fullQueues_cons (i : Nat) (l : List Nat) (x : Tab QDesc) :
    fullQueues (i :: l) x = fullQueues l (x.map (fun e => if e.1 / 4096 = i then (e.1, { e.2 with valid := false }) else e)) := by
  simp only [fullQueues, List.map_map, List.mem_cons]
  refine List.map_congr_left fun e _ => ?_
  by_cases h : e.1 / 4096 = i <;> by_cases h' : e.1 / 4096 ∈ l <;> simp [h, h']

theorem foldl_slotFull (l : List Nat) (s : State) : l.foldl (fun a i => slotFull i a) s =
    { s with cel := { s.cel with queues := fullQueues l s.cel.queues } } := by
  induction l generalizing s with
  | nil => simp [fullQueues]
  | cons i l ih => rw [List.foldl_cons, ih, fullQueues_cons]; rfl

theorem forceFull_eq (s : State) : forceFull s =
    { s with cel := { s.cel with queues := fullQueues (s.cel.slots.map Prod.fst) s.cel.queues } } := foldl_slotFull _ s

theorem fullQueues_valid {slots : List Nat} {l : Tab QDesc} {e : Nat × QDesc} (he : e ∈ fullQueues slots l)
    (h : e.1 / 4096 ∈ slots) : e.2.valid = false := by
  obtain ⟨x, _, rfl⟩ := List.mem_map.1 he
  by_cases hx : x.1 / 4096 ∈ slots
  · rw [if_pos hx]
  · rw [if_neg hx] at h
    exact absurd h hx

/-! ### Triggers -/

theorem trigWrite_disarm {u : Nat} (h : (R.TRIG_CTL_DISARM u).of v = 1) :
    getF (trigWrite u v s) (R.TRIG_CTL_ARMED u) = 0 := by
  unfold trigWrite
  simp only [if_pos h]
  exact getF_setF_self rfl

/-- Settles O29: each write acts through its own register. -/
theorem registerActions : Obligations.RegisterActions := by
  unfold Obligations.RegisterActions
  intro s q v
  refine ⟨fun b hb hv acts => ?_, fun acts free go => ?_, fun acts locked => ?_, fun acts clear => ?_, fun acts go => ?_,
    fun up snd => ?_, fun acts now => ?_, fun u hu acts => ⟨?_, ?_, trigWrite_disarm⟩⟩
  · refine ⟨frecClear b s, congrArg Host.Outcome.next ((if_pos hb).trans ((access_acts _ _ _ acts).trans
      (writeSys_frecClear hb hv))), getF_frecClear_w0 rfl, getF_frecClear_w0 rfl, getF_frecClear_w0 rfl,
      getF_frecClear_lost b, (frecClear_regsOnly b s).eq⟩
  · refine congrArg Host.Outcome.next ((access_acts _ _ _ acts).trans ?_)
    rw [pciCtrlWrite, if_neg (by simp [free])]
    exact if_pos go
  · exact congrArg Host.Outcome.next ((access_acts _ _ _ acts).trans (if_pos locked))
  · exact congrArg Host.Outcome.next ((access_acts _ _ _ acts).trans (if_pos clear))
  · obtain ⟨lt, wt, nt⟩ := val48_timSnap s
    exact ⟨timSnap s, congrArg Host.Outcome.next ((access_acts _ _ _ acts).trans (if_pos go)), lt, wt, nt,
      (timSnap_regsOnly s).eq⟩
  · refine ⟨forceFull s, congrArg Host.Outcome.next (if_pos (by simp [up, snd])), ?_, by rw [forceFull_eq]⟩
    rw [forceFull_eq]
    rintro e he ⟨sl, hsl⟩
    exact fullQueues_valid he (List.mem_map.2 ⟨_, hsl, rfl⟩)
  · exact congrArg Host.Outcome.next ((access_acts _ _ _ acts).trans (if_pos now))
  · exact congrArg Host.Outcome.next ((if_pos hu).trans (access_acts _ _ _ acts))
  · exact congrArg Host.Outcome.next ((if_pos hu).trans (access_acts _ _ _ acts))

/-! ### Registers of a Twill port -/

section
variable {p : Nat}

theorem getF_send {e : Emit} {f : Fld} : getF (send s e) f = getF s f := rfl

/-- Entering a loopback ends in the loopback state of the port. -/
theorem testCtrlWrite_loop (service : mode s = mService) (off : getF s (R.TWL_TEST_CTRL_LOOP p) = 0)
    (on : getF (storeWord (R.TWL_TEST_CTRL p) v s) (R.TWL_TEST_CTRL_LOOP p) ≠ 0) :
    getF (testCtrlWrite q p v s) (R.TWL_PHY_STATUS_PSTATE p) = 4 := by
  unfold testCtrlWrite
  simp only [service, ne_eq, not_true_eq_false, if_false, off, on, if_true]
  rw [getF_send, getF_setF_self rfl]
  rfl

variable {l : Nat}

theorem injWrite_one (hl : l < 4) (one : (R.LANE_INJ_INJ_MODE p l).of v = 1) (allowed : injAllowed s p l = true)
    (go : (R.LANE_INJ_INJ_GO p l).of v = 1) : injWrite q p l v s =
      send (addF (storeWord (R.LANE_INJ p l) v s) (R.LANE_INJECTED_COUNT p l) 1) (.phy p 4 (l * 256 + 1)) := by
  simp [injWrite, Nat.not_le.2 hl, one, allowed, go]

theorem parkReqWrite_park (hl : l < 4) (want : (R.LANE_TEST_PARK_REQ p l).of v = 1) (allowed : testAllowed s p l = true)
    (same : (R.LANE_TEST_CHK_PAT p l).of v = getF s (R.LANE_TEST_CHK_PAT p l)) :
    parkReqWrite q p l v s = parkLane p l (storeWord (R.LANE_TEST p l) v s) := by
  simp [parkReqWrite, Nat.not_le.2 hl, want, allowed, same]

/-- Settles O30: each write past the gate, where it is allowed and where it is not. -/
theorem twillRegisterWrites : Obligations.TwillRegisterWrites := by
  unfold Obligations.TwillRegisterWrites
  intro s q p v _ acts
  have write : ∀ {ind off act}, access q (16 + p) ind off act s = act s := access_acts _ _ _ acts
  refine ⟨fun booted => ?_, fun other => ?_, fun service same => ?_, fun service off on => ?_, fun was now => ?_,
    fun was now => ?_, fun go fits => ?_, fun l hl => ⟨fun allowed => ?_, fun en other => ?_, fun one allowed go => ?_,
      fun some refused => ?_, fun want allowed same => ?_, fun want refused => ?_⟩⟩
  · exact congrArg Host.Outcome.next (write.trans (if_neg booted))
  · exact congrArg Host.Outcome.next (write.trans (if_pos other))
  · refine congrArg Host.Outcome.next (write.trans ?_)
    simp only [testCtrlWrite, service, ne_eq, not_true_eq_false, if_false, same, if_true]
  · exact ⟨_, congrArg Host.Outcome.next write, testCtrlWrite_loop service off on⟩
  · refine congrArg Host.Outcome.next (write.trans ?_)
    simp only [phyCtrlWrite, was, now, Bool.not_true, Bool.and_false, Bool.false_and, Bool.false_eq_true, if_false]
  · refine congrArg Host.Outcome.next (write.trans ?_)
    simp only [phyCtrlWrite, was, now, Bool.not_false, Bool.and_true, if_true]
  · refine congrArg Host.Outcome.next (write.trans ?_)
    simp [stepCmdWrite, go, fits]
  · refine congrArg Host.Outcome.next (write.trans (if_neg ?_))
    rcases allowed with off | service
    · simp [off]
    · simp [service]
  · exact congrArg Host.Outcome.next (write.trans (if_pos ⟨by simp [en], other⟩))
  · exact congrArg Host.Outcome.next (write.trans (injWrite_one hl one allowed go))
  · refine congrArg Host.Outcome.next (write.trans ((if_neg (Nat.not_le.2 hl)).trans (if_pos ⟨some, ?_⟩)))
    simp [refused]
  · exact congrArg Host.Outcome.next (write.trans (parkReqWrite_park hl want allowed same))
  · refine congrArg Host.Outcome.next (write.trans ((if_neg (Nat.not_le.2 hl)).trans (if_pos ?_)))
    simp [want, refused]

end

/-! ### STR_CTRL -/

/-- The state after the return rate of a write of STR_CTRL has been taken care of. -/
def retSent (s u : State) : State :=
  if !(getF u R.STR_CTRL_RET_EXP != getF s R.STR_CTRL_RET_EXP) then u
  else if u.str.inWindow then { u with str := { u.str with cfgDue := true } }
  else sendConfig (strandList u) false (frameNow0 u) u

/-- A write of STR_CTRL while the strand clock runs. -/
theorem strCtrlWrite_clocked {u : State} (acts : mayAct s q 13) (hu : u = storeWord R.STR_CTRL v s)
    (runs : clkRuns u = true) : strCtrlWrite q v s =
      if clkCode u = getF u R.STR_STATUS_CLK_EFF then { retSent s u with str := { (retSent s u).str with clkNext := none } }
      else if mode (retSent s u) = mShow ∨ mode (retSent s u) = mHold then
        { retSent s u with str := { (retSent s u).str with clkNext := some (clkCode (retSent s u)) } }
      else clkApply true (retSent s u) := by
  unfold strCtrlWrite
  rw [access_acts _ _ _ acts, ← hu]
  by_cases same : clkCode u = getF u R.STR_STATUS_CLK_EFF
  · simp [runs, same, retSent]
  · simp [runs, same, retSent]

/-- Settles O31: the rate first, then the clock. -/
theorem strandControlWrite : Obligations.StrandControlWrite := by
  unfold Obligations.StrandControlWrite
  intro s u q v acts hu
  refine ⟨fun stopped => ?_, fun runs w hw => ?_⟩
  · refine congrArg Host.Outcome.next ((access_acts _ _ _ acts).trans ?_)
    rw [← hu]
    simp [stopped]
  · obtain rfl : retSent s u = w := by
      rcases hw with ⟨same, rfl⟩ | ⟨new, window, rfl⟩ | ⟨new, window, rfl⟩
      · simp [retSent, same]
      · simp [retSent, new, window]
      · simp [retSent, new, window]
    have clocked : exec (.clkSelChange q v) s = .next (strCtrlWrite q v s) := rfl
    rw [clocked, strCtrlWrite_clocked acts hu runs]
    refine ⟨fun same => by rw [if_pos same], fun new => ⟨fun waits => ?_, fun now => ?_⟩⟩
    · rw [if_neg new, if_pos waits]
    · rw [if_neg new, if_neg now]

end Sys2Proof.Machine
end


section
/-!
Ethernet ports, flows and received frames (R52 to R57, R59 to R82): set-eth-port and the restart it begins, the flow table, the
timers of a flow, and the classes of a received frame.
-/

namespace Sys2Proof.Machine

variable {s t : State} {k : Pkt} {c : Option (List Byte)} {i p : Nat}

/-! ### Effects on registers and what is sent -/

theorem RegsOut.setF {s t : State} (h : RegsOut s t) (f : Fld) (v : Nat) : RegsOut s (Machine.setF t f v) :=
  h.trans ((RegsOnly.refl t).setF f v).regsOut

theorem RegsOut.regPut {s t : State} (h : RegsOut s t) (n : Nat) (w : Word) : RegsOut s (Machine.regPut t n w) :=
  h.trans ((RegsOnly.refl t).regPut n w).regsOut

theorem foldl_regsOnly {α : Type} (l : List α) {g : State → α → State} (h : ∀ a x, RegsOnly a (g a x)) (s : State) :
    RegsOnly s (l.foldl g s) := by
  induction l generalizing s with
  | nil => exact .refl s
  | cons x l ih => exact (h s x).trans (ih (g s x))

theorem foldl_regsOut {α : Type} (l : List α) {g : State → α → State} (h : ∀ a x, RegsOut a (g a x)) (s : State) :
    RegsOut s (l.foldl g s) := by
  induction l generalizing s with
  | nil => exact .refl s
  | cons x l ih => exact (h s x).trans (ih (g s x))

/-! ### Commands whose own part only stores -/

theorem exec_stores {i : Instr} {g : State → Except Nat State} {u : State}
    (hi : exec i s = .next (plain k (fun t => resOf (g t)) s)) (hk : ready s k 0 c t) (hg : g t = .ok u) :
    exec i s = .next (finish k St.ok [] u) :=
  exec_done hi hk (congrArg resOf hg)

theorem exec_fails {i : Instr} {g : State → Except Nat State} {st : Nat}
    (hi : exec i s = .next (plain k (fun t => resOf (g t)) s)) (hk : ready s k 0 c t) (hg : g t = .error st) :
    exec i s = .next (finish k st [] t) :=
  exec_refused hi hk (congrArg resOf hg)

/-! ### Ethernet ports -/

theorem idlePort_regsOnly (p : Nat) (s : State) : RegsOnly s (idlePort p s) :=
  foldl_regsOnly _ (fun a e => foldl_regsOnly _ (fun b x => by
    show RegsOnly b (if u8 x.2 0 = p then legActive e.1 x.1 false b else b)
    split
    · exact (RegsOnly.refl b).setF _ _
    · exact .refl b) a) s

/-- A port's configuration as set-eth-port stores it. -/
def ethStored (l : List Byte) (e : EthSt) : EthSt :=
  { e with
    cfg := Tab.put e.cfg (u8 l 0) (u8 l 1), pflags := Tab.put e.pflags (u8 l 0) (u8 l 2), ref := Tab.put e.ref (u8 l 0) (u8 l 3)
    restarting := if e.restarting.contains (u8 l 0) then e.restarting else u8 l 0 :: e.restarting
    up := e.up.filter (fun x => x / 4 != u8 l 0) }

/-- The parameters of set-eth-port in their ranges. -/
def ethRanges (l : List Byte) : Prop := u8 l 0 < 2 ∧ u8 l 1 < 3 ∧ u8 l 2 < 16 ∧ u8 l 3 < 2 ∧ (8 ≤ u8 l 2 → u8 l 1 = 2)

theorem ethPortSet_inUse {l : List Byte} (fits : ethRanges l)
    (used : ∃ g ∈ allLegs t, u8 g 0 = u8 l 0 ∧ cfgSubs (u8 l 1) ≤ u8 g 1) : ethPortSet l t = .error St.inUse := by
  obtain ⟨hp, hc, hf, hr, hg⟩ := fits
  unfold ethPortSet
  simp only []
  rw [if_neg (by omega), if_pos (List.any_eq_true.2 (by simpa using used))]

theorem ethPortSet_stores {l : List Byte} (fits : ethRanges l)
    (unused : ∀ g ∈ allLegs t, u8 g 0 = u8 l 0 → u8 g 1 < cfgSubs (u8 l 1)) :
    ethPortSet l t = .ok (setItem 0x0010 (u8 l 0) l (idlePort (u8 l 0) { t with eth := ethStored l t.eth })) := by
  obtain ⟨hp, hc, hf, hr, hg⟩ := fits
  unfold ethPortSet
  simp only []
  rw [if_neg (by omega), if_neg ?_]
  · rfl
  · rw [List.any_eq_true]
    rintro ⟨g, hg, h⟩
    simp only [Bool.and_eq_true, beq_iff_eq, decide_eq_true_eq] at h
    exact absurd (unused g hg h.1) (Nat.not_lt.2 h.2)

theorem setEthPort_stores (hk : ready s k 0 c t) (fits : ethRanges k.par)
    (unused : ∀ g ∈ allLegs t, u8 g 0 = k.p8 0 → u8 g 1 < cfgSubs (k.p8 1)) :
    ∃ u, exec (.setEthPort k) s = .next (finish k St.ok [] u) ∧ u.eth = ethStored k.par t.eth ∧
      u = setItem 0x0010 (k.p8 0) k.par { t with eth := u.eth, regs := u.regs } := by
  obtain ⟨r, hr⟩ := idlePort_regsOnly (k.p8 0) { t with eth := ethStored k.par t.eth }
  refine ⟨_, exec_stores rfl hk (ethPortSet_stores fits unused), ?_, ?_⟩
  · rw [show idlePort (u8 k.par 0) _ = _ from hr]
    rfl
  · rw [show idlePort (u8 k.par 0) _ = _ from hr]
    rfl

theorem addressSet_four {l : List Byte} (hp : u8 l 0 < 2) (hb : u8 l 1 < portSubs t (u8 l 0)) (four : u8 l 2 = 0)
    (len : u8 l 3 ≤ 32) (z : zeroAt l 8 12 = true) : addressSet l t = .ok (setItem 0x0011 (u8 l 0 * 4 + u8 l 1) l
      { t with eth := { t.eth with ip4 := Tab.put t.eth.ip4 (u8 l 0 * 4 + u8 l 1) (sub l 3 17) } }) := by
  simp [addressSet, four, z, hp, hb, len]

theorem addressSet_six {l : List Byte} (hp : u8 l 0 < 2) (hb : u8 l 1 < portSubs t (u8 l 0)) (six : u8 l 2 = 1)
    (len : u8 l 3 ≤ 128) : addressSet l t = .ok (setItem 0x0011 (u8 l 0 * 4 + u8 l 1) l
      { t with eth := { t.eth with ip6 := Tab.put t.eth.ip6 (u8 l 0 * 4 + u8 l 1) (sub l 3 17) } }) := by
  simp [addressSet, six, hp, hb, len]

/-- Settles O32: configuration, restart, addresses and links in turn. -/
theorem ethernetPorts : Obligations.EthernetPorts := by
  unfold Obligations.EthernetPorts
  refine ⟨fun s t k c hk => ⟨fun hp hc hf hr hg => ⟨fun used => ?_, fun unused => ?_⟩, fun hp hb => ⟨fun v4 len z => ?_,
    fun v6 len => ?_⟩⟩, fun s p run wait => ?_, fun s p b run snd hp hb => ⟨fun up => ?_, fun down => ⟨?_, fun lost => ?_⟩⟩⟩
  · exact exec_fails rfl hk (ethPortSet_inUse ⟨hp, hc, hf, hr, hg⟩ used)
  · obtain ⟨u, run, stored, frame⟩ := setEthPort_stores hk ⟨hp, hc, hf, hr, hg⟩ unused
    refine ⟨u, run, ?_, ?_, ?_, ?_, fun x => ?_, frame⟩
    · rw [stored]
      exact Tab.get_put_same _ _ _
    · rw [stored]
      exact Tab.get_put_same _ _ _
    · rw [stored]
      exact Tab.get_put_same _ _ _
    · rw [stored]
      show k.p8 0 ∈ if t.eth.restarting.contains (k.p8 0) then t.eth.restarting else k.p8 0 :: t.eth.restarting
      split
      · next h => simpa using h
      · simp
    · rw [stored]
      simp [ethStored]
  · exact exec_stores rfl hk (addressSet_four hp hb v4 len z)
  · exact exec_stores rfl hk (addressSet_six hp hb v6 len)
  · refine ⟨_, congrArg Host.Outcome.next (if_pos (by rw [run, wait]; rfl)), rfl, fun q => ?_, fun x => ?_⟩
    · simp
    · simp only [List.mem_append, List.mem_filter, List.mem_map, List.mem_range, bne_iff_ne, ne_eq, subKey]
      exact or_congr_right (exists_congr fun _ => and_congr_right fun _ => eq_comm)
  · refine congrArg Host.Outcome.next ((if_neg ?_).trans (if_pos up))
    simp [run, snd, hp, hb]
  · refine congrArg Host.Outcome.next ((if_neg ?_).trans ((if_neg (by decide)).trans (if_neg fun h => absurd (h.symm.trans down) (by decide))))
    simp [run, snd, hp, hb]
  · refine congrArg Host.Outcome.next ((if_neg ?_).trans ((if_pos rfl).trans ((if_pos lost).trans ?_)))
    · simp [run, snd, hp, hb]
    · rw [if_neg fun h => absurd (h.symm.trans down) (by decide)]

/-! ### Flows -/

theorem groupReport_regsOut (n : Nat) (d : List Byte) (s : State) : RegsOut s (groupReport n d s) :=
  foldl_regsOut _ (fun a l => by
    show RegsOut a (if legMulticast l then send a _ else a)
    split
    · exact (RegsOut.refl a).send _
    · exact .refl a) s

theorem flowState_regsOut (i st : Nat) (s : State) : RegsOut s (flowState i st s) := by
  unfold flowState
  split
  · exact .refl s
  · exact ((RegsOut.refl s).setF _ _).trans (raise_regsOut _ _)

theorem flowClear_regsOnly (i : Nat) (s : State) : RegsOnly s (flowClear i s) :=
  foldl_regsOnly _ (fun a _ => (RegsOnly.refl a).regPut _ _) s

/-- Registers that were zero or are cleared are zero. -/
theorem regGet_foldl_clear {b n : Nat} (l : List Nat) {s : State} (h : (∃ j ∈ l, b + 4 * j = n) ∨ regGet s n = 0) :
    regGet (l.foldl (fun a j => regPut a (b + 4 * j) 0) s) n = 0 := by
  induction l generalizing s with
  | nil => simpa using h
  | cons x l ih =>
    refine ih ?_
    rw [regGet_regPut]
    rcases h with ⟨j, hj, rfl⟩ | zero
    · rcases List.mem_cons.1 hj with rfl | later
      · exact .inr (by simp)
      · exact .inl ⟨j, later, rfl⟩
    · refine .inr ?_
      split
      · rfl
      · exact zero

theorem regGet_flowClear {j : Nat} (h : j < 16) : regGet (flowClear i s) (R.ING_F_STATE i + 4 * j) = 0 :=
  regGet_foldl_clear _ (.inl ⟨j, List.mem_range.2 h, rfl⟩)

theorem removeFlow_removes {f : Flow} (hk : ready s k 0 c t) (hf : Tab.get t.ing.flows (k.p8 0) = some f) (hi : k.p8 0 < 64)
    (hz : zeroAt k.par 1 3 = true) : ∃ r o, exec (.removeFlow k) s = .next (finish k St.ok [] (flowClear (k.p8 0)
      { t with ing := { t.ing with flows := Tab.del t.ing.flows (k.p8 0) }, regs := r, out := o })) := by
  obtain ⟨r, o, hu⟩ := (flowState_regsOut (k.p8 0) 0 t).trans
    (foldl_regsOut (flowDescs f) (fun a d => groupReport_regsOut 2 d a) _)
  refine ⟨r, o, exec_done rfl hk ?_⟩
  have valid : ¬(64 ≤ k.p8 0 ∨ !parZero k 1 3) := by
    simp only [parZero, hz]
    simpa using hi
  simp only [if_neg valid, hf, hu]

/-! ### Received frames -/

theorem classify_ptp {b : Nat} {l : List Byte} {vid off : Nat} {x y : Bool} (h : ethHead l = (0, vid, 0x88F7, off)) :
    classify p b l x y s = ptpRx p b 2 (l.drop off) s := by
  unfold classify
  rw [h]
  exact if_pos rfl

/-- Settles O33: the flow table, the timers, and the classes of a frame in their order. -/
theorem flowsAndFrames : Obligations.FlowsAndFrames := by
  unfold Obligations.FlowsAndFrames
  refine ⟨fun s t k n c hk => ⟨?_, ?_, ?_, fun f hf => ⟨?_, fun hi hz => ⟨?_, ?_⟩⟩⟩, fun s i l run known hl => ?_,
    fun s i run known st => ?_, fun s i fl f run known waits => ?_, fun s p b l fl run snd up => ⟨fun full => ?_,
    fun space => ⟨fun code => ?_, fun sound => ⟨fun bad => ?_, fun fcs tags len => ?_⟩⟩, fun vid off h => classify_ptp h⟩⟩
  · rintro rfl room fine free
    exact exec_done rfl hk (by simp only [Nat.not_le.2 room, fine, free]; rfl)
  · rintro rfl full
    exact exec_refused rfl hk (if_pos full)
  · rintro rfl bad
    exact exec_refused rfl hk (if_pos bad)
  · rintro rfl fine
    exact exec_done rfl hk (by simp only [fine, hf]; rfl)
  · rintro rfl
    have valid : ¬(64 ≤ k.p8 0 ∨ !parZero k 1 3) := by
      simp only [parZero, hz]
      simpa using hi
    exact exec_answered rfl hk (by simp only [if_neg valid, hf])
  · rintro rfl
    obtain ⟨r, o, run⟩ := removeFlow_removes hk hf hi hz
    obtain ⟨r', hr⟩ := flowClear_regsOnly (k.p8 0)
      { t with ing := { t.ing with flows := Tab.del t.ing.flows (k.p8 0) }, regs := r, out := o }
    refine ⟨_, run, fun i => ?_, fun j hj => regGet_flowClear hj, by rw [hr], by rw [hr], by rw [hr]⟩
    rw [hr]
    split
    · next h => rw [h]; exact Tab.get_del_same _ _
    · next h => exact Tab.get_del_ne _ h
  · exact congrArg Host.Outcome.next (if_pos (by simp [run, known, hl]))
  · exact congrArg Host.Outcome.next (if_pos (by simp [run, known, st]))
  · refine congrArg Host.Outcome.next ?_
    simp only [known, run, waits]
    rfl
  all_goals refine congrArg Host.Outcome.next ((if_neg (by simpa [run, snd] using up)).trans ?_)
  · exact if_pos full
  · exact (if_neg (by simp [space])).trans (if_pos code)
  · refine (if_neg (by simp [space])).trans ((if_neg (by simp [sound])).trans (if_pos ?_))
    rcases bad with fcs | tags | long
    · simp [fcs]
    · simp [tags]
    · have longer : (if (ethHead l).1 = 0 then 9018 else 9022) < l.length + 4 := by split <;> omega
      simp [longer]
  · refine (if_neg (by simp [space])).trans ((if_neg (by simp [sound])).trans (if_neg ?_))
    have fits : l.length + 4 ≤ if (ethHead l).1 = 0 then 9018 else 9022 := by split <;> omega
    simp [fcs, fits]
    omega

end Sys2Proof.Machine
end


section
/-!
Surfaces, uploads and the aperture (R84 to R109). An access to the aperture can raise a fault, whose handling leaves memory
alone whatever its severity.
-/

namespace Sys2Proof.Machine

variable {s t : State} {k : Pkt} {c : Option (List Byte)} {i : Nat}

/-! ### What a fault of SRF leaves of memory -/

theorem ReplyOnly.mem {s t : State} (h : ReplyOnly s t) : t.mem = s.mem := by
  rw [h.eq]

/-- Memory of a state whose record is given. -/
theorem mem_mk {p o f r m n y l c e i b a t k j z w d x h q u} :
    (State.mk p o f r m n y l c e i b a t k j z w d x h q u).mem = m := rfl

theorem RegsOut.mem {s t : State} (h : RegsOut s t) : t.mem = s.mem := h.replyOnly.mem

@[simp] theorem raise_mem (n : Nat) (s : State) : (raise n s).mem = s.mem := (raise_regsOut n s).mem

@[simp] theorem finish_mem (k : Pkt) (n : Nat) (d : List Byte) (s : State) : (finish k n d s).mem = s.mem :=
  (finish_replyOnly k n d s).mem

@[simp] theorem sendFinal_mem (k : Pkt) (b : Bool) (n : Nat) (d : List Byte) (s : State) :
    (sendFinal k b n d s).mem = s.mem :=
  (sendFinal_replyOnly k b n d s).mem

@[simp] theorem sendMsg_mem (p : Nat) (m : Msg) (s : State) : (sendMsg p m s).mem = s.mem := (sendMsg_replyOnly p m s).mem

@[simp] theorem portUpd_mem (p : Nat) (g : Port → Port) (s : State) : (portUpd p g s).mem = s.mem := rfl

/-- A fold whose steps leave memory alone leaves it alone. -/
theorem foldl_mem {α : Type} {g : State → α → State} (h : ∀ a x, (g a x).mem = a.mem) (l : List α) (s : State) :
    (l.foldl g s).mem = s.mem := by
  induction l generalizing s with
  | nil => rfl
  | cons x l ih => exact (ih _).trans (h s x)

@[simp] theorem setLevel_mem (n : Nat) (f : Fld) (v : Nat) (s : State) : (setLevel n f v s).mem = s.mem := by
  unfold setLevel
  split <;> simp

@[simp] theorem calReply_mem (p : Nat) (s : State) : (calReply p s).mem = s.mem := by
  unfold calReply
  split
  · rfl
  · split
    · exact sendFinal_mem _ _ _ _ _
    · rfl

theorem calOutcome_mem (p l n : Nat) (s : State) : (calOutcome p l n s).mem = s.mem := calReply_mem p _

theorem laneLock_mem (p l : Nat) (b : Bool) (s : State) : (laneLock p l b s).mem = s.mem :=
  (setLevel_mem _ _ _ _).trans (setB_mem _ _ _)

theorem laneUpd_mem (p l : Nat) (g : Lane → Lane) (s : State) : (laneUpd p l g s).mem = s.mem := rfl

theorem lanesDown_mem (p : Nat) (s : State) : (lanesDown p s).mem = s.mem := by
  unfold lanesDown calAbandon
  dsimp only
  rw [portUpd_mem, phyLevel, setLevel_mem, foldl_mem fun a l => (laneUpd_mem p l _ _).trans (laneLock_mem p l false a),
    setF_mem, foldl_mem fun a l => calOutcome_mem p l 2 a, portUpd_mem]

theorem holdPort_mem (p : Nat) (s : State) : (holdPort p s).mem = s.mem := by
  rw [holdPort, send_mem, setF_mem, lanesDown_mem]

theorem startTrain_mem (p n : Nat) (s : State) : (startTrain p n s).mem = s.mem := by
  unfold startTrain
  dsimp only
  rw [send_mem, setF_mem, setF_mem, lanesDown_mem]

theorem releasePort_mem (p : Nat) (s : State) : (releasePort p s).mem = s.mem := by
  unfold releasePort phyLevel
  rw [startTrain_mem, setLevel_mem, setLevel_mem, setB_mem]

@[simp] theorem twillBringUp_mem (s : State) : (twillBringUp s).mem = s.mem :=
  foldl_mem (fun a p => by
    show (if _ then a else releasePort p a).mem = a.mem
    split
    · rfl
    · exact releasePort_mem p a) _ s

@[simp] theorem twillSilent_mem (s : State) : (twillSilent s).mem = s.mem :=
  foldl_mem (fun a p => by rw [holdPort_mem, portUpd_mem, linkLevel, setLevel_mem]) _ s

@[simp] theorem sendNotices_mem (n : Nat) (s : State) : (sendNotices n s).mem = s.mem :=
  foldl_mem (fun a p => foldl_mem (fun b _ => sendMsg_mem p _ b) _ a) _ s

@[simp] theorem endDebug_mem (s : State) : (endDebug s).mem = s.mem := by
  unfold endDebug
  extract_lets lvl t _ u
  have hu : u.mem = s.mem := mem_mk.trans ((setF_mem _ _ _).trans (setF_mem _ _ _))
  split
  · exact (twillBringUp_mem u).trans hu
  · exact hu

@[simp] theorem gpioReset_mem (s : State) : (gpioReset s).mem = s.mem := by
  refine mem_mk.trans ?_
  rw [setF_mem, setF_mem, setF_mem, setF_mem, setF_mem, setF_mem]

@[simp] theorem pcieOff_mem (n : Nat) (s : State) : (pcieOff n s).mem = s.mem := by
  unfold pcieOff
  dsimp only
  rw [setF_mem, setF_mem, setLevel_mem, setLevel_mem, setLevel_mem, setLevel_mem, setLevel_mem]

theorem strandAll_mem (op : Nat) (l : List Nat) (s : State) : (strandAll op l s).mem = s.mem :=
  foldl_mem (fun a st => by rw [strandSend, send_mem, addF_mem]) _ s

@[simp] theorem strandsStop_mem (s : State) : (strandsStop s).mem = s.mem := by
  refine mem_mk.trans ?_
  rw [setF_mem, setF_mem, strandAll_mem]

@[simp] theorem enterMode_mem (m n : Nat) (s : State) : (enterMode m n s).mem = s.mem := by
  rw [enterMode, raise_mem, setF_mem, setF_mem, setF_mem]

@[simp] theorem endAll_mem (s : State) : (endAll s).mem = s.mem := by
  unfold endAll
  extract_lets l
  exact (foldl_mem (fun a k => sendFinal_mem k true St.lockdown [] a) l _).trans mem_mk

/-- LOCKDOWN entered, its notices sent, and the ports, the pins and the debug unlock brought to rest. -/
def lockdownQuiet (cause : Nat) (s : State) : State :=
  endDebug (gpioReset (pcieOff 6 (twillSilent (
    if sender s then sendNotices cause (setF (enterMode mLockdown 0 s) R.SYS_MODE_LOCK_CAUSE cause)
    else strandsStop (sendNotices cause (setF (enterMode mLockdown 0 s) R.SYS_MODE_LOCK_CAUSE cause))))))

/-- What was under way is dropped. -/
def lockdownDrop (s : State) : State :=
  { s with
    cmp := { s.cmp with pass := none }
    srf := { s.srf with running := false, uploads := [] }
    upd := { s.upd with activation := none, staging := none, cfgWrite := none }
    nv := { s.nv with abandoned := s.nv.abandoned || s.upd.activation.any (fun a => !a.verifying) }
    sys := { s.sys with warmWait := false }
    flt := { s.flt with containing := [] } }

theorem enterLockdown_eq (cause : Nat) (s : State) : enterLockdown cause s =
    if inReset s || mode s == mLockdown then s else endAll (lockdownDrop (lockdownQuiet cause s)) := rfl

theorem lockdownQuiet_mem (n : Nat) (s : State) : (lockdownQuiet n s).mem = s.mem := by
  rw [lockdownQuiet, endDebug_mem, gpioReset_mem, pcieOff_mem, twillSilent_mem]
  split
  · rw [sendNotices_mem, setF_mem, enterMode_mem]
  · rw [strandsStop_mem, sendNotices_mem, setF_mem, enterMode_mem]

@[simp] theorem enterLockdown_mem (n : Nat) (s : State) : (enterLockdown n s).mem = s.mem := by
  rw [enterLockdown_eq]
  split
  · rfl
  · rw [endAll_mem, lockdownDrop, mem_mk, lockdownQuiet_mem]

@[simp] theorem abortUpload_mem (s : State) : (abortUpload s).mem = s.mem := by
  unfold abortUpload
  split
  · split
    · rfl
    · exact (sendFinal_mem _ _ _ _ _).trans mem_mk
  · rfl

theorem writeRecord_regsOut (o : Occ) (n : Nat) (s : State) : RegsOut s (writeRecord o n s) :=
  (((((((((RegsOnly.refl s).setF _ _).setF _ _).setF _ _).setF _ _).setF _ _).setF _ _).setF _ _).setF _ _).setF _ _
    |>.regsOut.trans (raise_regsOut 1 _)

@[simp] theorem recordFault_mem (o : Occ) (n : Nat) (s : State) : (recordFault o n s).mem = s.mem := by
  unfold recordFault
  split
  · rw [setSat, setF_mem]
  · exact (writeRecord_regsOut o n s).mem

@[simp] theorem noteDegraded_mem (o : Occ) (s : State) : (noteDegraded o s).mem = s.mem := 
  (setF_mem _ _ _).trans mem_mk

theorem haltFault_mem (o : Occ) (s : State) : (haltFault o s).mem = s.mem := by
  rw [haltFault, enterLockdown_mem, setF_mem, setF_mem]

theorem loseFault_mem (o : Occ) (s : State) : (loseFault o s).mem = s.mem := by
  rw [loseFault, incF_mem, incF_mem]

theorem contain_srf {o : Occ} (h : o.block = 6) (s : State) : contain o s = abortUpload s := by
  unfold contain containAct
  rw [h]
  exact if_pos (.inl rfl)

theorem actFault_mem {o : Occ} (h : o.block = 6) (busy : Bool) (sev : Nat) (s : State) :
    (actFault busy sev o s).mem = s.mem := by
  unfold actFault
  split
  · rfl
  · split
    · rw [haltFault_mem, noteDegraded_mem, recordFault_mem]
    · split
      · exact loseFault_mem o s
      · split
        · rw [contain_srf h, abortUpload_mem, noteDegraded_mem, recordFault_mem]
        · rw [noteDegraded_mem, recordFault_mem]

theorem occur_mem (src detail info : Nat) (s : State) : (occur 6 src detail info s).mem = s.mem := by
  have step : ∀ (busy : Occ → Bool) (sev : Nat) (keep : Occ → Bool) (a : State),
      (([⟨6, src, detail, info⟩].filter keep).foldl (fun x o => actFault (busy o) sev o x) a).mem = a.mem := by
    intro busy sev keep a
    cases h : keep ⟨6, src, detail, info⟩
    · simp [h]
    · simp [h, actFault_mem]
  unfold occur occurs
  dsimp only
  rw [step, step, step]

theorem tally_mem (f : Fld) (src detail : Nat) (s : State) : (tally f 6 src detail s).mem = s.mem :=
  (occur_mem src detail 0 _).trans (incF_mem s f)

theorem memGet_tally (f : Fld) (src detail x : Nat) (s : State) : memGet (tally f 6 src detail s) x = memGet s x :=
  congrArg (fun m => Tab.getD m x 0) (tally_mem f src detail s)

/-! ### The heap and the table -/

/-- What taking from the heap changes. -/
def HeapOnly (s t : State) : Prop := ∃ x y, t = { s with free := x, srf := { s.srf with heap := y } }

theorem heapTake_heapOnly {n b : Nat} (h : heapTake n s = some (b, t)) : HeapOnly s t := by
  unfold heapTake at h
  dsimp only at h
  split at h
  · cases h
  · cases h
    exact ⟨_, _, rfl⟩

theorem heapTakeAll_heapOnly {l bases : List Nat} (h : heapTakeAll l s = some (bases, t)) : HeapOnly s t := by
  induction l generalizing s bases with
  | nil =>
    cases h
    exact ⟨_, _, rfl⟩
  | cons n l ih =>
    rw [heapTakeAll] at h
    split at h
    · cases h
    · next b s1 h1 =>
      split at h
      · cases h
      · next l' s2 h2 =>
        cases h
        obtain ⟨_, _, rfl⟩ := heapTake_heapOnly h1
        obtain ⟨x, y, rfl⟩ := ih h2
        exact ⟨x, y, rfl⟩

theorem freeEntry_unused (h : freeEntry t = some i) : Tab.get t.srf.table i = none := by
  have := List.find?_some h
  simpa using this

/-- The descriptor of a new surface whose planes are at the bases given. -/
def newDesc (p : List Byte) (bases : List Nat) : List Byte :=
  p.take 0x0E ++ leBytes 2 (sPitch p) ++ leBytes 8 (bases.getD 0 0 * 4096) ++
    leBytes 8 (if fmtPlanes (u8 p 4) = 2 then bases.getD 1 0 * 4096 else 0) ++
    leBytes 8 (if u8 p 5 = 1 then bases.getD 1 0 * 4096 else 0) ++ zeros 24

/-- A new surface. -/
def newSurface (p : List Byte) (bases : List Nat) (inst : Nat) : Surface :=
  { desc := newDesc p bases, instanceNo := inst, alive := true, generation := 0, releasedGen := 0, tCap := 0
    ntMapped := false, pub := [BitVec.ofNat 8 (u8 p 0x0C), BitVec.ofNat 8 (u8 p 6), BitVec.ofNat 8 (u8 p 7)], latched := []
    guardRefs := [], failed := [], unlatched := [] }

/-- A new surface stored. -/
def storeSurface (i : Nat) (f : Surface) (s : State) : State :=
  { s with srf := { s.srf with table := Tab.put s.srf.table i f, instances := Tab.put s.srf.instances i f.instanceNo } }

section
variable {p : List Byte}

theorem surfCreate_full (fine : surfCheck p = 0) (full : freeEntry t = none) : surfCreate p t = .err St.tableFull := by
  simp [surfCreate, fine, full]

theorem surfCreate_noMemory (fine : surfCheck p = 0) (free : freeEntry t = some i)
    (none : heapTakeAll (List.replicate (fmtPlanes (u8 p 4)) (macroTiles p) ++ (if u8 p 5 = 1 then [hdrUnits p] else []))
      (takeFree t) = none) : surfCreate p t = .err St.noMemory := by
  simp only [surfCreate, fine, free, none]
  rfl

theorem surfCreate_creates {bases : List Nat} {v f} (fine : surfCheck p = 0) (free : freeEntry t = some i)
    (fits : heapTakeAll (List.replicate (fmtPlanes (u8 p 4)) (macroTiles p) ++ (if u8 p 5 = 1 then [hdrUnits p] else []))
      (takeFree t) = some (bases, v))
    (hf : f = newSurface p bases (Tab.getD v.srf.instances i 0 % 0xFFFFF + 1)) :
    surfCreate p t = .ok (storeSurface i f v) (surfDesc (storeSurface i f v) i f) := by
  subst hf
  simp only [surfCreate, fine, free, fits]
  rfl

end

/-- Settles O34: existing surfaces first, then a new one. -/
theorem surfaceCommands : Obligations.SurfaceCommands := by
  unfold Obligations.SurfaceCommands
  refine ⟨fun s t k n c i f hk hf => ⟨?_, ?_, fun hg => ⟨?_, ?_⟩, ?_⟩, fun s t k n c hk fine => ⟨?_, fun i free => ⟨freeEntry_unused free, ?_⟩⟩⟩
  · rintro rfl
    exact exec_answered rfl hk (by simp only [hf])
  · rintro rfl h4 h5 h6 h7
    have valid : ¬(16 ≤ k.p8 4 ∨ 5 ≤ k.p8 5 ∨ 4 ≤ k.p8 6 ∨ k.p8 7 ≠ 0) := by omega
    split
    · next owned => exact exec_refused rfl hk (by simp only [hf, if_neg valid, if_pos owned])
    · next free => exact exec_done rfl hk (by simp only [hf, if_neg valid, if_neg free])
  · rintro rfl blocked
    exact exec_refused rfl hk (by simp only [hf, if_neg (Nat.not_le.2 hg), if_pos blocked])
  · rintro rfl free
    refine exec_answered rfl (d := leBytes 4 _) (by rwa [leBytes_length]) ?_
    simp only [hf, if_neg (Nat.not_le.2 hg), free]
    rfl
  · rintro rfl
    refine ⟨fun used => exec_refused rfl hk ?_, fun owned layer pending => ⟨fun none => exec_done rfl hk ?_,
      fun latched => exec_done rfl hk ?_⟩⟩
    · simp only [hf]
      exact if_pos (by simpa [or_assoc] using used)
    · simp only [hf, owned, layer, pending, none]
      rfl
    · simp only [hf, owned, layer, pending]
      exact (if_neg (by simp)).trans (if_neg (by simpa using latched))
  · rintro rfl full
    exact exec_refused rfl hk (surfCreate_full fine full)
  · rintro sizes rfl
    refine ⟨?_, fun bases v fits => ?_⟩
    · rintro rfl none
      exact exec_refused rfl hk (surfCreate_noMemory fine free none)
    · have create := surfCreate_creates fine free fits rfl
      obtain ⟨x, y, rfl⟩ := heapTakeAll_heapOnly fits
      refine ⟨_, _, create, Tab.get_put_same _ _ _, rfl, rfl, rfl, rfl, rfl, rfl, rfl, rfl, ?_⟩
      rintro rfl
      exact exec_answered rfl hk create

/-! ### Uploads -/

/-- An upload that publishes nothing starts where none runs. -/
theorem startUpload_starts {x : Upload} {rest : List Upload} (n : Nat) (idle : s.srf.running = false)
    (first : s.srf.uploads = x :: rest) (quiet : u8 x.par 5 % 2 = 0) :
    startUpload (n + 1) s = { s with srf := { s.srf with running := true } } := by
  simp [startUpload, idle, first, quiet]

theorem uploadDone_plain {x : Upload} {rest : List Upload} {data : List Byte} (first : s.srf.uploads = x :: rest)
    (quiet : u8 x.par 5 % 2 = 0) :
    uploadDone data s = uploadPop (finish x.pkt St.ok (leBytes 4 0) (uploadWrite x data s)) := by
  simp only [uploadDone, first, quiet]
  rfl

theorem uploadDone_publishes {x : Upload} {rest : List Upload} {data : List Byte} {f : Surface}
    (first : s.srf.uploads = x :: rest) (asked : u8 x.par 5 % 2 = 1)
    (hf : surfOf (uploadWrite x data s) (u32 x.par 0) = some (i, f)) :
    uploadDone data s = uploadPop (finish x.pkt St.ok (leBytes 4 (nextGen f.generation))
      (publishGen i (if u8 x.par 5 / 2 % 2 = 1 then some (u64 x.par 0x20) else none) (uploadWrite x data s))) := by
  simp only [uploadDone, first, asked, hf]
  rfl

/-! ### The aperture -/

/-- What an access to the aperture does where it is enabled. -/
def apertureDone (a n : Nat) (w : Option (List Byte)) (s : State) : State :=
  match w with
  | none =>
    send (if ((List.range n).map (a + ·)).all (heapUsed s) then s else tally R.SRF_STRAY_COUNT 6 2 0 s)
      (.windowData (((List.range n).map (a + ·)).map (fun x => if heapUsed s x then memGet s (heapMem + x) else 0)))
  | some l =>
    let s1 := (((List.range l.length).map (a + ·)).zip l).foldl
      (fun t x => if heapUsed s x.1 then memPut t (heapMem + x.1) x.2 else t) s
    let s2 := if ((List.range l.length).map (a + ·)).all (heapUsed s) then s1 else tally R.SRF_STRAY_COUNT 6 2 0 s1
    if ((List.range l.length).map (a + ·)).any (fun x => heapUsed s x && inLatched s x) then
      tally R.SRF_EARLY_WRITE_COUNT 6 2 0 s2 else s2

section
variable {off n : Nat} (run : running s = true) (snd : sender s = true) (up : isSet s R.PCI_STATUS_LINK_UP = true)
  (fits : off < 1073741824)
include run snd up fits

theorem aperture_enabled (en : isSet s R.SRF_CTRL_APERTURE_EN = true) (w : Option (List Byte)) :
    exec (.apertureAccess off n w) s =
      .next (apertureDone (getF s R.SRF_CTRL_BASE * 268435456 + off) n w s) := by
  refine congrArg Host.Outcome.next ((if_neg (by simp [run, snd, up, fits])).trans ((if_neg (by simp [en])).trans ?_))
  cases w <;> rfl

theorem aperture_disabled (dis : isSet s R.SRF_CTRL_APERTURE_EN = false) :
    exec (.apertureAccess off n none) s = .next (send s (.windowData (zeros n))) ∧
      ∀ l, exec (.apertureAccess off n (some l)) s = .next s :=
  ⟨congrArg Host.Outcome.next ((if_neg (by simp [run, snd, up, fits])).trans (if_pos (by simp [dis]))),
    fun _ => congrArg Host.Outcome.next ((if_neg (by simp [run, snd, up, fits])).trans (if_pos (by simp [dis])))⟩

end

section
variable {a n : Nat} {b : Byte} {l : List Byte}

theorem aperture_read (used : ∀ i, i < n → heapUsed s (a + i) = true) :
    apertureDone a n none s = send s (.windowData (memRead s (heapMem + a) n)) := by
  have all : ((List.range n).map (a + ·)).all (heapUsed s) = true := by simpa using used
  have bytes : ((List.range n).map (a + ·)).map (fun x => if heapUsed s x then memGet s (heapMem + x) else 0) =
      memRead s (heapMem + a) n := by
    rw [List.map_map, memRead]
    refine List.map_congr_left fun i hi => ?_
    simp only [Function.comp_apply, used i (List.mem_range.1 hi), if_true, Nat.add_assoc]
  simp only [apertureDone]
  rw [if_pos all, bytes]

theorem aperture_write_latched (used : heapUsed s a = true) (latched : inLatched s a = true) :
    apertureDone a n (some [b]) s = tally R.SRF_EARLY_WRITE_COUNT 6 2 0 (memPut s (heapMem + a) b) := by
  simp [apertureDone, used, latched]

theorem aperture_write_free (used : heapUsed s a = true) (free : inLatched s a = false) :
    apertureDone a n (some [b]) s = memPut s (heapMem + a) b := by
  simp [apertureDone, used, free]

theorem aperture_write_stray (stray : heapUsed s a = false) :
    apertureDone a n (some [b]) s = tally R.SRF_STRAY_COUNT 6 2 0 s := by
  simp [apertureDone, stray]

/-- Bytes put one after the other are those of one write. -/
theorem foldl_memPut (g : Nat → Bool) (l : List Byte) {m : Nat} (used : ∀ i, i < l.length → g (m + i) = true) (s : State) :
    (((List.range l.length).map (m + ·)).zip l).foldl (fun t x => if g x.1 then memPut t (heapMem + x.1) x.2 else t) s =
      memWrite s (heapMem + m) l := by
  induction l generalizing m s with
  | nil => rfl
  | cons x l ih =>
    have rest : (List.range (x :: l).length).map (m + ·) = m :: (List.range l.length).map (m + 1 + ·) := by
      rw [List.length_cons, List.range_succ_eq_map, List.map_cons, List.map_map]
      exact congrArg _ (List.map_congr_left fun i _ => by simp; omega)
    have first : g m = true := used 0 (by simp)
    rw [rest, List.zip_cons_cons, List.foldl_cons, ih fun i hi => by
      have := used (i + 1) (by simpa using hi)
      rwa [show m + (i + 1) = m + 1 + i by omega] at this]
    simp only [first, if_true]
    rfl

theorem memGet_aperture_write (used : ∀ i, i < l.length → heapUsed s (a + i) = true) (x : Nat) :
    memGet (apertureDone a n (some l) s) x = memGet (memWrite s (heapMem + a) l) x := by
  have all : ((List.range l.length).map (a + ·)).all (heapUsed s) = true := by simpa using used
  simp only [apertureDone]
  rw [if_pos all, foldl_memPut (heapUsed s) l used]
  split
  · exact memGet_tally _ _ _ _ _
  · rfl

end

/-- Settles O35: uploads, then the aperture. -/
theorem uploadsAndAperture : Obligations.UploadsAndAperture := by
  unfold Obligations.UploadsAndAperture
  refine ⟨fun s t k c hk => ⟨fun dis => ?_, fun i f en hf ok owned room => ?_⟩,
    fun s x rest data run busy first => ⟨?_, fun quiet => ?_, fun asked i f hf => ?_⟩,
    fun s off run snd up fits => ⟨fun dis n => aperture_disabled run snd up fits dis, ?_⟩⟩
  · exact exec_refused rfl hk (if_pos (by simp [dis]))
  · have few : ¬64 ≤ t.srf.uploads.length - (if t.srf.running then 1 else 0) := by omega
    have queued : exec (.upload k) s =
        .next (startUpload 66 { t with srf := { t.srf with uploads := t.srf.uploads ++ [⟨k, k.par⟩] } }) := by
      refine exec_later rfl hk ?_
      simp only [en, hf, ok, owned, if_neg few]
      rfl
    refine ⟨queued, fun none idle quiet => ?_⟩
    rw [queued, none]
    exact congrArg Host.Outcome.next
      (startUpload_starts (s := { t with srf := { t.srf with uploads := [⟨k, k.par⟩] } }) 65 idle rfl quiet)
  · refine congrArg Host.Outcome.next ((if_pos (by simp [run, busy])).trans ?_)
    rw [first]
  · exact congrArg Host.Outcome.next ((if_pos (by simp [run, busy])).trans (uploadDone_plain first quiet))
  · exact congrArg Host.Outcome.next ((if_pos (by simp [run, busy])).trans (uploadDone_publishes first asked hf))
  · rintro en n a rfl
    have done := aperture_enabled (n := n) run snd up fits en
    refine ⟨fun used => ?_, fun b used => ⟨fun latched => ?_, fun free => ?_⟩, fun b stray => ?_, fun l used => ⟨_, done _, ?_, ?_⟩⟩
    · rw [done, aperture_read used]
      rfl
    · rw [done, aperture_write_latched used latched]
    · rw [done, aperture_write_free used free]
    · rw [done, aperture_write_stray stray]
    · intro i hi
      rw [memGet_aperture_write used, memGet_memWrite_in _ _ _ _ hi]
    · intro x hx
      rw [memGet_aperture_write used, memGet_memWrite_out _ _ _ _ hx]

end Sys2Proof.Machine
end


section
/-!
Shadow state, commits, maps and cells (R110 to R119, R158 to R200): commands that write the shadow configuration, commits and
their lock-in, the map's commands, and the timers of slots and deliveries.
-/

namespace Sys2Proof.Machine

variable {s t : State} {k : Pkt} {c : Option (List Byte)} {n : Nat}

/-! ### Shadow writes -/

/-- A command whose own part changes the composition's shadow state. -/
theorem cmp_shadowed {i : Instr} {f : Fetch} {body : Option (List Byte) → State → Res} {g : Shadow → Shadow}
    (hi : exec i s = .next (command k f body s)) (hk : ready s k 0 c t) (hb : body c t = .ok (cmpShadow g t) []) :
    exec i s = .next (finish k St.ok []
      { setF t R.CMP_SHADOW_SEQ_SEQ (nextSeq (getF t R.CMP_SHADOW_SEQ_SEQ)) with
        cmp := { t.cmp with shadow := g t.cmp.shadow } }) :=
  exec_done hi hk hb

/-- A command whose own part changes the shadow state of tone mapping. -/
theorem tnm_shadowed {i : Instr} {f : Fetch} {body : Option (List Byte) → State → Res} {g : TShadow → TShadow}
    (hi : exec i s = .next (command k f body s)) (hk : ready s k 0 c t) (hb : body c t = .ok (tnmShadow g t) []) :
    exec i s = .next (finish k St.ok []
      { setF t R.TNM_SHADOW_SEQ_SEQ (nextSeq (getF t R.TNM_SHADOW_SEQ_SEQ)) with
        tnm := { t.tnm with shadow := g t.tnm.shadow } }) :=
  exec_done hi hk hb

/-- Settles O38: each own part is a shadow write where its checks hold. -/
theorem shadowWrites : Obligations.ShadowWrites := by
  unfold Obligations.ShadowWrites
  refine ⟨fun n h => if_neg (by omega), rfl, fun s t k c hk => ⟨fun static fits => ?_,
    fun z => ⟨fun h => ?_, fun h all => ?_, fun h => ?_, fun f d h hd ok => ?_⟩, fun fin => ?_, fun i hi nan => ?_,
    fun h z3 z6 => ?_, fun ok => ?_, fun lo hi => ?_, fun bad => ?_, fun lo hi z zs pts hp small rises => ?_⟩⟩
  · refine cmp_shadowed (g := fun x => { x with layers := Tab.put x.layers (k.p8 0) k.par }) rfl hk (if_neg ?_)
    cases hq : layerSource t k.par with
    | none => simp [static]
    | some q => simp [static, fits q hq]
  · have valid : ¬(2 ≤ k.p8 0 ∨ !parZero k 1 3 ∨
        (k.p8 0 = 1 ∧ !(List.range 24).all (fun i => ((sub k.par 4 24).map (fun b => b.toNat)).contains i))) := by
      simp [z, h]
    refine (cmp_shadowed rfl hk (if_neg valid)).trans ?_
    simp only [h]
    rfl
  · have valid : ¬(2 ≤ k.p8 0 ∨ !parZero k 1 3 ∨
        (k.p8 0 = 1 ∧ !(List.range 24).all (fun i => ((sub k.par 4 24).map (fun b => b.toNat)).contains i))) := by
      simpa [z, h] using all
    refine (cmp_shadowed rfl hk (if_neg valid)).trans ?_
    simp only [h]
    rfl
  · exact cmp_shadowed (g := fun x => { x with wb := k.par }) rfl hk (if_neg (by simp [z, h]))
  · refine cmp_shadowed (g := fun x => { x with banks := Tab.put x.banks (k.p8 0) (d.take 1792) }) rfl hk ?_
    refine (if_neg (by simp [z, h])).trans ?_
    simp only [hd, ok]
    rfl
  · refine cmp_shadowed (g := fun x => { x with bg := k.par }) rfl hk (if_neg ?_)
    simpa [notFinite16] using fin
  · refine exec_refused rfl hk (if_pos ?_)
    rw [List.any_eq_true]
    exact ⟨i, List.mem_range.2 hi, by simp [notFinite16, nan]⟩
  · exact cmp_shadowed (g := fun x => { x with pv := k.par }) rfl hk (if_neg (by simp [z3, z6, h]))
  · exact tnm_shadowed (g := fun x => { x with profiles := Tab.put x.profiles (k.p8 0) k.par }) rfl hk (if_neg (by simp [ok]))
  · exact tnm_shadowed (g := fun x => { x with kneeG := k.p16 0, kHost := k.p16 2 }) rfl hk
      (if_neg (by simp [kHostOk, lo, hi]))
  · refine exec_refused rfl hk (if_pos ?_)
    simp only [kHostOk, Bool.not_eq_true', Bool.and_eq_false_iff, decide_eq_false_iff_not]
    omega
  · subst hp
    refine tnm_shadowed (g := fun x => { x with curve := _ }) rfl hk (if_neg ?_)
    have zeros : (List.range (k.p8 0)).any (fun i => k.p16 (10 + 8 * i) != 0) = false := by simpa using zs
    have high : ((List.range (k.p8 0)).map (fun i => (k.p32 (4 + 8 * i), k.p16 (8 + 8 * i)))).any
        (fun p => decide (0x8000 < p.2)) = false := by simpa using small
    simp only [z, zeros, high, rises]
    simpa using ⟨lo, hi⟩

/-! ### Commits -/

theorem leAt_zero {l : List Byte} {off : Nat} (h : u32 l off = 0) : u8 l off = 0 := by
  show leVal (sub l off 1) = 0
  have whole : leVal (sub l off 4) = 0 := h
  unfold sub at *
  cases hd : l.drop off with
  | nil => rfl
  | cons b r =>
    rw [hd] at whole
    simp only [List.take_succ_cons, leVal] at whole ⊢
    simp only [List.take_zero, leVal]
    omega

theorem bitAt_of_zero {l : List Byte} {off bit : Nat} (h : u32 l off = 0) : bitAt l off bit = false := by
  rw [bitAt, show leAt l off 1 = 0 from leAt_zero h, Nat.zero_testBit]

/-- A place among the pending commits is one that is taken. -/
theorem placeCommit_some {o : Option Nat} {l : List (Option Nat × Bool)} {due : Option Nat} {i : Nat}
    (h : placeCommit t o l = .ok (due, some i)) : l ≠ [] := by
  rintro rfl
  simp [placeCommit] at h

theorem replaceAt_nonempty {α : Type} {l : List α} {i : Option Nat} {x : α} (h : ∀ n, i = some n → l ≠ []) :
    (replaceAt l i x).isEmpty = false := by
  cases i with
  | none => simp [replaceAt]
  | some n => simpa [replaceAt] using h n rfl

theorem commitReply_length (due : Option Nat) (seq : Nat) : (commitReply due seq).length = 8 := by
  simp [commitReply]

/-- The whole shadow configuration at its sequence number. -/
def cmpSnap (t : State) : Shadow := { t.cmp.shadow with seq := getF t R.CMP_SHADOW_SEQ_SEQ }

/-- The shadow configuration of tone mapping at its sequence number. -/
def tnmSnap (t : State) : TShadow := { t.tnm.shadow with seq := getF t R.TNM_SHADOW_SEQ_SEQ }

/-- A commit taken. -/
def commitStored (i : Option Nat) (p : Pending) (t : State) : State :=
  { t with cmp := { t.cmp with pendings := replaceAt t.cmp.pendings i p } }

section
variable (hk : ready s k n c t) (seq : k.p32 0 = 0) (plain : k.p32 4 = 0)
include hk seq plain

theorem commit_checked (bad : commitCheck t (cmpSnap t) ≠ 0) (hn : n = 0) :
    exec (.commit k) s = .next (finish k (commitCheck t (cmpSnap t)) [] t) := by
  subst hn
  refine exec_refused rfl hk ?_
  simp only [seq, plain, ne_eq, not_true_eq_false, false_and, if_false, show ¬2 ≤ 0 by decide]
  unfold cmpSnap at bad
  rw [if_pos bad, if_pos bad]
  rfl

variable {due i : Option Nat}

theorem commit_waits (fine : commitCheck t (cmpSnap t) = 0) (hn : n = 8)
    (place : placeCommit t none (t.cmp.pendings.map (fun p => (p.due, p.locked))) = .ok (due, i)) :
    exec (.commit k) s = .next (finish k St.ok (commitReply due (getF t R.CMP_SHADOW_SEQ_SEQ))
      (cmpPending (commitStored i ⟨cmpSnap t, due, false, false⟩ t))) := by
  subst hn
  refine exec_answered rfl (by rwa [commitReply_length]) ?_
  unfold cmpSnap at fine
  simp only [seq, plain, bitAt_of_zero plain, fine, place, ne_eq, not_true_eq_false, false_and, if_false,
    show ¬2 ≤ 0 by decide, Bool.false_eq_true]
  rfl

theorem commitColour_waits (fine : dstPeaksOk t (tnmSnap t) = true) (hn : n = 8)
    (place : placeCommit t none (t.tnm.pendings.map (fun p => (p.due, p.locked))) = .ok (due, i)) :
    exec (.commitColour k) s = .next (finish k St.ok (commitReply due (getF t R.TNM_SHADOW_SEQ_SEQ))
      { t with tnm := { t.tnm with pendings := replaceAt t.tnm.pendings i ⟨tnmSnap t, due, false, false, false⟩ } }) := by
  subst hn
  refine exec_answered rfl (by rwa [commitReply_length]) ?_
  unfold tnmSnap at fine
  simp only [seq, plain, bitAt_of_zero plain, fine, place, ne_eq, not_true_eq_false, false_and, if_false,
    show ¬4 ≤ 0 by decide, Bool.false_eq_true, Bool.not_true]
  rfl

end

/-- Settles O39: the own part of each commit, and the lock-in at a boundary. -/
theorem commits : Obligations.Commits := by
  unfold Obligations.Commits
  refine ⟨fun s t k n c hk => ⟨?_, ?_, fun seq plain due i => ⟨commit_checked hk seq plain, fun fine hn place => ?_,
    commitColour_waits hk seq plain⟩⟩, fun s n h => ?_⟩
  · rintro rfl asked old
    exact exec_refused rfl hk (if_pos ⟨asked, old⟩)
  · rintro rfl asked old
    exact exec_refused rfl hk (if_pos ⟨asked, old⟩)
  · have waits : (replaceAt t.cmp.pendings i ⟨cmpSnap t, due, false, false⟩).isEmpty = false := by
      refine replaceAt_nonempty fun m hm => ?_
      subst hm
      simpa using placeCommit_some place
    refine ⟨_, commit_waits hk seq plain fine hn place, rfl, isSet_iff.1 ?_, rfl⟩
    rw [cmpPending, isSet_setB_self (by decide)]
    simp [commitStored, waits]
  · refine ⟨_, congrArg Host.Outcome.next (if_neg (by simp [h])), ?_, ?_, rfl⟩
    · refine List.map_congr_left fun p _ => ?_
      obtain ⟨snap, due, targeted, locked⟩ := p
      cases due <;> simp
    · refine List.map_congr_left fun p _ => ?_
      obtain ⟨snap, due, targeted, locked, immediate⟩ := p
      cases due <;> simp

/-! ### Maps and cells -/

theorem commitMap_waits {m : List Byte} (hk : ready s k 4 c t) (hm : t.cel.loaded = some m) (ok : mapOk t m = true)
    (shows : mode t = mShow) (bounds : hasBoundaries t = true) :
    exec (.commitMap k) s = .next (finish k St.ok (leBytes 4 (nextBoundary t))
      { t with cel := { t.cel with mapPending := some (m, nextBoundary t) } }) := by
  refine exec_answered rfl (d := leBytes 4 _) (by rwa [leBytes_length]) ?_
  simp only [hm, mapCommit, ok, shows, bounds]
  rfl

theorem commitMap_takes {m : List Byte} (hk : ready s k 4 c t) (hm : t.cel.loaded = some m) (ok : mapOk t m = true)
    (other : mode t ≠ mShow) :
    exec (.commitMap k) s = .next (finish k St.ok (leBytes 4 0xFFFFFFFF) (mapTakes m t)) := by
  refine exec_answered rfl (d := leBytes 4 _) (by rwa [leBytes_length]) ?_
  simp only [hm, mapCommit, ok, Bool.not_true, Bool.false_eq_true, if_false, if_neg other]

/-- The margin a delivery report carries. -/
def reportMargin (s : State) : Nat :=
  match s.celT.margin with | some n => min 0xFFFFFF (n / 1000) | none => getF s R.CEL_T_MARGIN_MARGIN

/-- A delivery report. -/
def deliveryFields (s : State) : List Byte :=
  leBytes 2 (getF s R.CEL_T_PREP_PREP_FIXED) ++ leBytes 2 (getF s R.CEL_T_PREP_PREP_CELL) ++
    leBytes 4 (getF s R.CEL_T_LATE_EVT_COUNT) ++ leBytes 4 (getF s R.CEL_T_STALE_COUNT) ++
    leBytes 4 (getF s R.CEL_T_BAD_COUNT) ++ leBytes 4 (getF s R.CEL_T_REFUSED_COUNT + getF s R.CEL_T_EARLY_COUNT) ++
    leBytes 3 (reportMargin s) ++
    leBytes 1 ((if s.celT.storeEmpty then 1 else 0) + (if isSet s R.CEL_T_STATUS_COMPLETE then 2 else 0)) ++ zeros 8

theorem deliveryFields_length (s : State) : (deliveryFields s).length = 32 := by
  simp only [deliveryFields, List.length_append, leBytes_length]
  rfl

/-- The margin is shown and begins again. -/
def marginShown (s : State) : State :=
  { setF s R.CEL_T_MARGIN_MARGIN (reportMargin s) with celT := { s.celT with margin := none } }

theorem getF_marginShown (s : State) : getF (marginShown s) R.CEL_T_MARGIN_MARGIN = reportMargin s % 2 ^ 24 :=
  getF_setF_self (s := s) (f := R.CEL_T_MARGIN_MARGIN) (v := reportMargin s) (by decide)

theorem isSet_marginShown (s : State) : isSet (marginShown s) R.CEL_T_STATUS_SERVED = isSet s R.CEL_T_STATUS_SERVED :=
  isSet_setF_other (s := s) (f := R.CEL_T_MARGIN_MARGIN) (v := reportMargin s) (by decide)

theorem deliveryReportTimer_reports (run : running s = true) (tile : sender s = false) : exec .deliveryReportTimer s =
    .next (if isSet (marginShown s) R.CEL_T_STATUS_SERVED then toSender 0x12 (deliveryFields s)
        { marginShown s with celT := { s.celT with
          margin := none, storeEmpty := s.celT.storeEmpty && (upstreamUp (marginShown s)).isNone } }
      else marginShown s) :=
  congrArg Host.Outcome.next (if_neg (by simp [run, tile]))

/-- Settles O42: commands, then launches, notices and delivery reports. -/
theorem mapsAndCells : Obligations.MapsAndCells := by
  unfold Obligations.MapsAndCells
  refine ⟨fun s t k n c f hk => ⟨?_, ?_, fun m hm => ⟨?_, ?_, ?_⟩, ?_, ?_, ?_, ?_⟩,
    fun s run => ⟨fun p e snd awake en up next => ?_, fun i sl st hsl => ⟨fun some few => ?_, fun all => ?_⟩,
      fun tile unserved => ?_, fun tile served => ?_⟩⟩
  · rintro d rfl hd
    exact exec_done rfl hk (by simp only [hd])
  · rintro rfl none
    exact exec_refused rfl hk (by simp only [none])
  · rintro rfl bad
    exact exec_refused rfl hk (by simp only [hm, mapCommit, bad]; rfl)
  · rintro rfl ok other
    exact commitMap_takes hk hm ok other
  · rintro rfl ok shows bounds
    exact commitMap_waits hk hm ok shows bounds
  · rintro rfl invalid
    exact exec_refused rfl hk (if_pos (by simp [invalid]))
  · rintro u rfl valid written
    refine exec_answered rfl (d := leBytes 4 _) (by rwa [leBytes_length]) ?_
    simp only [valid, written]
    rfl
  · rintro hsl hc rfl
    exact exec_answered rfl hk (if_neg (by omega))
  · rintro v hc h2 h3 hv rfl
    have valid : ¬(tileCells t ≤ k.p16 0 ∨ 4 ≤ k.p8 2 ∨ k.p8 3 ≠ 0) := by omega
    have length : (leBytes 4 v.tag ++ zeros 4 ++ leBytes 8 v.hash.toNat ++ v.payload).length = 16 + v.payload.length := by
      simp [zeros]
      omega
    refine exec_answered rfl (c := c) (d := leBytes 4 v.tag ++ _ ++ _ ++ _) (by rwa [length]) ?_
    refine (if_neg valid).trans ?_
    simp only [h2, hv, if_true]
  · refine congrArg Host.Outcome.next ((if_pos (by simp [run, snd, awake, en, up])).trans ?_)
    rw [next]
  · refine congrArg Host.Outcome.next ((if_neg (by simp [run, st])).trans ?_)
    simp only [hsl, if_neg (Nat.ne_of_gt some), if_pos few]
  · refine congrArg Host.Outcome.next ((if_neg (by simp [run, st])).trans ?_)
    simp only [hsl, if_neg (show sl.notices ≠ 0 by omega), if_neg (Nat.not_lt.2 all)]
  · refine ⟨marginShown s, ?_, rfl, fun m hm => ?_, rfl⟩
    · rw [deliveryReportTimer_reports run tile, isSet_marginShown, unserved]
      rfl
    · rw [getF_marginShown, reportMargin, hm]
      exact Nat.mod_eq_of_lt (Nat.lt_of_le_of_lt (Nat.min_le_left _ _) (by decide))
  · refine ⟨{ marginShown s with celT := { s.celT with
        margin := none, storeEmpty := s.celT.storeEmpty && (upstreamUp (marginShown s)).isNone } },
      deliveryFields s, deliveryFields_length s, rfl, rfl, ?_⟩
    rw [deliveryReportTimer_reports run tile, isSet_marginShown, served]
    rfl

end Sys2Proof.Machine
end


section
/-!
The Twill port (R222 to R260), its link (R261 to R300) and discovery (R301 to R315).
-/

namespace Sys2Proof.Machine

variable {s t : State} {k : Pkt} {c : Option (List Byte)} {n p l : Nat}

/-! ### Ports and lanes -/

theorem portOf_portUpd (p : Nat) (g : Port → Port) (s : State) : portOf (portUpd p g s) p = g (portOf s p) := by
  simp [portOf, portUpd]

theorem laneOf_laneUpd (p l : Nat) (g : Lane → Lane) (s : State) : laneOf (laneUpd p l g s) p l = g (laneOf s p l) := by
  unfold laneUpd
  rw [laneOf, portOf_portUpd, Tab.get_put_same]
  rfl

/-- A change of a port's lane is known from the lane as it is. -/
theorem laneUpd_congr {g g' : Lane → Lane} (h : g (laneOf s p l) = g' (laneOf s p l)) : laneUpd p l g s = laneUpd p l g' s := by
  unfold laneUpd portUpd
  have lane : g (((Tab.get (portOf s p).lanes l).getD Lane.empty)) = g' ((Tab.get (portOf s p).lanes l).getD Lane.empty) := h
  simp only [lane]

theorem Fld.apart_bits {f g : Fld} (hf : f.inWord = true)
    (bits : (decide (g.hi < f.lo ∧ g.lo ≤ g.hi) || decide (f.hi < g.lo)) = true) : f.apart g = true := by
  rw [Fld.apart, hf, bits, Bool.and_true, Bool.or_true]

theorem setLevel_regsOut (src : Nat) (f : Fld) (v : Nat) (s : State) : RegsOut s (setLevel src f v s) := by
  unfold setLevel
  split
  · exact .refl s
  · exact ((RegsOut.refl s).setF f v).trans (raise_regsOut _ _)

theorem irqFields_phy (h : p < 8) : irqFields (24 + p) = some (R.TWL_PHY_EVT_COUNT p, R.TWL_PHY_ACK_ACK p) := by
  interval_cases p <;> rfl

theorem getF_phyLevel_other {f : Nat → Fld} {g : Fld} {v : Nat} (hp : p < 8) (pending : g.reg ≠ R.MSIX_PBA)
    (counter : g.reg ≠ R.TWL_PHY_EVT p) (h : (f p).apart g = true) : getF (phyLevel p f v s) g = getF s g := by
  unfold phyLevel setLevel
  split
  · rfl
  · rw [getF_raise (irqFields_phy hp) pending, getF_incF_other (by simp [Fld.apart, counter]), getF_setF_other h]

/-! ### The physical layer -/

/-- The first result of a lane's calibration is kept. -/
theorem calRunDone_first {r : Option CalRun} (first : (laneOf s p l).runs = []) :
    calRunDone p l r s = laneUpd p l (fun x => { x with runs := [r] }) s := by
  have kept : laneUpd p l (fun x => { x with runs := x.runs ++ [r] }) s = laneUpd p l (fun x => { x with runs := [r] }) s :=
    laneUpd_congr (by simp [first])
  unfold calRunDone
  simp only [kept, laneOf_laneUpd]
  rfl

/-- The second result, where the two agree, ends it with their mean. -/
theorem calRunDone_agree {a b : CalRun} (first : (laneOf s p l).runs = [some a]) (agree : runsAgree s p (some a) (some b) = true) :
    calRunDone p l (some b) s = calEnd p l true (calApply p l
      ((a.1 + b.1 + 1) / 2, (a.2.1 + b.2.1 + 1) / 2, (a.2.2.1 + b.2.2.1 + 1) / 2, (a.2.2.2 + b.2.2.2 + 1) / 2)
      (laneUpd p l (fun x => { x with runs := [some a, some b] }) s)) := by
  have kept : laneUpd p l (fun x => { x with runs := x.runs ++ [some b] }) s =
      laneUpd p l (fun x => { x with runs := [some a, some b] }) s := laneUpd_congr (by simp [first])
  have still : runsAgree (laneUpd p l (fun x => { x with runs := [some a, some b] }) s) p (some a) (some b) = true := agree
  unfold calRunDone
  simp only [kept, laneOf_laneUpd, calVerdict, still, if_true]
  rfl

theorem frequencyMeasured_own {f : Nat} (h : stepOfHz f = some (getF s (R.TWL_PHY_STATUS_RATE p))) :
    frequencyMeasured p f s = phyLevel p R.TWL_PHY_STATUS_CLK_LOL 0 (setB (portUpd p
      (fun q => { q with measured := some (getF s (R.TWL_PHY_STATUS_RATE p)) }) s) (R.LANE_W0_LOCK p 4) true) := by
  simp [frequencyMeasured, h]

theorem lane_ne_status (p q : Nat) : R.LANE_W0 p 4 ≠ R.TWL_PHY_STATUS q ∧ R.LANE_W0 p 4 ≠ R.TWL_PHY_EVT q ∧
    R.LANE_W0 p 4 ≠ R.MSIX_PBA := by
  simp only [R.LANE_W0, R.TWL_PHY_STATUS, R.TWL_PHY_EVT, R.MSIX_PBA, dirKey, indKey]
  omega

theorem status_apart_lane (p : Nat) : (R.LANE_W0_LOS p 4).apart (R.TWL_PHY_STATUS_PSTATE p) = true := by
  have other : decide (R.TWL_PHY_STATUS p ≠ R.LANE_W0 p 4) = true := decide_eq_true (lane_ne_status p p).1.symm
  rw [Fld.apart, other, Bool.true_or]

theorem lane_apart_status {f : Fld} (h : f.reg = R.TWL_PHY_STATUS p) : f.apart (R.LANE_W0_LOS p 4) = true := by
  simp [Fld.apart, h, (lane_ne_status p p).1]

/-- The clock of a waiting port is back: its loss ends, and the port trains. -/
def clockBack (p : Nat) (s : State) : State :=
  setF (phyLevel p R.TWL_PHY_STATUS_CLK_LOS 0 (setB s (R.LANE_W0_LOS p 4) false)) (R.TWL_PHY_STATUS_PSTATE p) 2

theorem clockBack_regsOut (p : Nat) (s : State) : RegsOut s (clockBack p s) :=
  (((RegsOnly.refl s).setB _ _).regsOut.trans (setLevel_regsOut _ _ _ _)).setF _ _

theorem getF_phyLevel_clockLos (hp : p < 8) {g : Fld} (pending : g.reg ≠ R.MSIX_PBA) (counter : g.reg ≠ R.TWL_PHY_EVT p)
    (h : (R.TWL_PHY_STATUS_CLK_LOS p).apart g = true) :
    getF (phyLevel p R.TWL_PHY_STATUS_CLK_LOS 0 (setB s (R.LANE_W0_LOS p 4) false)) g = getF (setB s (R.LANE_W0_LOS p 4) false) g :=
  getF_phyLevel_other hp pending counter h

theorem losDeassert_clock (hp : p < 8) (up : alive s = true) (waits : pstate s p = 1) :
    exec (.losDeassert p 4) s = .next (clockBack p s) := by
  refine congrArg Host.Outcome.next ((if_neg (by simp [up, waits, hp])).trans ((if_neg (by simp)).trans (if_pos ?_)))
  refine (getF_phyLevel_clockLos hp ?_ (by simp) (Fld.apart_bits rfl rfl)).trans ((getF_setB_other ?_).trans waits)
  · simp only [R.TWL_PHY_STATUS, R.MSIX_PBA, dirKey]
    omega
  · exact status_apart_lane p

/-- Settles O43: lanes, ports, then the commands of calibration and steps. -/
theorem twillPhysicalLayer : Obligations.TwillPhysicalLayer := by
  unfold Obligations.TwillPhysicalLayer
  refine ⟨fun s p l up hp hl => ⟨fun on sig u hu => ?_, fun on => ?_, ?_, fun r busy => ⟨fun first => ?_, fun a b first hr agree => ?_⟩,
    fun retry uncal => ?_, fun pat => ?_, fun locked n e => ?_, fun skew inv b good los lol park trains => ?_⟩,
    fun s p up hp => ⟨fun st => ?_, fun waits _ => ?_, fun trains f => ⟨fun none => ?_, fun own => ?_⟩, fun trains u hu => ?_,
      fun st => ?_, fun st => ?_⟩, fun s t k n c hk z => ⟨?_, ?_, ?_, ?_⟩⟩
  · have gate : ¬(!alive s || pstate s p == 0 || decide (8 ≤ p) || decide (5 ≤ l) || isSet s (R.LANE_W0_LOS p l)) = true := by
      simp [up, on, sig]
      omega
    have lane : l ≠ 4 := by omega
    subst hu
    refine ⟨fun st => ?_, fun st => ?_⟩
    · exact congrArg Host.Outcome.next ((if_neg gate).trans ((if_neg lane).trans (if_pos st)))
    · exact congrArg Host.Outcome.next ((if_neg gate).trans ((if_neg lane).trans (if_neg st)))
  · refine congrArg Host.Outcome.next ((if_neg ?_).trans (if_pos (by omega)))
    simp [up, on]
    omega
  · exact congrArg Host.Outcome.next (if_pos (by simp [up, hp, hl]))
  · exact congrArg Host.Outcome.next ((if_pos (by simp [up, hp, hl, busy])).trans (calRunDone_first first))
  · subst hr
    exact congrArg Host.Outcome.next ((if_pos (by simp [up, hp, hl, busy])).trans (calRunDone_agree first agree))
  · refine congrArg Host.Outcome.next ((if_neg (by simp [up, hp, hl, retry])).trans (if_neg ?_))
    rw [laneOf_laneUpd]
    simp [uncal]
  · exact congrArg Host.Outcome.next (if_pos (by simp [up, hp, hl, pat]))
  · exact congrArg Host.Outcome.next (if_pos (by simp [up, hp, hl, locked]))
  · exact congrArg Host.Outcome.next (if_pos (by simp [up, hp, hl, good, los, lol, park, trains]))
  · refine congrArg Host.Outcome.next (if_pos ?_)
    rcases st with st | st <;> simp [up, hp, st]
  · refine ⟨clockBack p s, losDeassert_clock hp up waits, getF_setF_self rfl, ?_, (clockBack_regsOut p s).mem, ?_⟩
    · obtain ⟨_, counter, pending⟩ := lane_ne_status p p
      rw [clockBack, isSet_setF_other (lane_apart_status rfl)]
      exact (isSet_congr (getF_phyLevel_clockLos hp pending counter (lane_apart_status rfl))).trans (isSet_setB_self rfl)
    · obtain ⟨r, o, h⟩ := clockBack_regsOut p s
      rw [h]
  · refine congrArg Host.Outcome.next ((if_pos (by simp [up, hp, trains])).trans ?_)
    simp only [frequencyMeasured, none]
  · exact congrArg Host.Outcome.next ((if_pos (by simp [up, hp, trains])).trans (frequencyMeasured_own own))
  · subst hu
    exact congrArg Host.Outcome.next (if_neg (by simp [up, hp, trains]))
  · exact congrArg Host.Outcome.next (if_pos (by simp [up, hp, st]))
  · exact congrArg Host.Outcome.next (if_pos (by simp [up, hp, st]))
  · rintro rfl hp off
    refine exec_answered rfl (d := [3, 3, 3, 3]) hk ((if_neg ?_).trans (if_pos off))
    simp [z, hp, off]
  · rintro rfl hp
    exact exec_refused rfl hk (if_pos (.inl hp))
  · rintro rfl hp some few
    refine exec_later rfl hk ((if_neg ?_).trans (if_neg (by omega)))
    simp [z, hp, few]
  · rintro rfl hp few
    have valid : ¬(8 ≤ k.p8 0 ∨ 3 ≤ k.p8 1 ∨ !parZero k 2 2) := by simp [z, hp, few]
    refine ⟨fun down => ?_, fun up => ?_⟩
    · exact exec_done rfl hk ((if_neg valid).trans (congrArg (Res.ok · []) (if_neg down)))
    · exact exec_done rfl hk ((if_neg valid).trans (congrArg (Res.ok · []) (if_pos up)))

/-! ### The link layer -/

theorem getF_portUpd {g : Port → Port} {f : Fld} : getF (portUpd p g s) f = getF s f := rfl

/-- The fields of a HELLO that its port shows. -/
theorem helloPeer_shown (p : Nat) (l : List Byte) (s : State) :
    getF (helloPeer p l s) (R.TWL_PEER_DEVNUM p) = u16 l 1 % 4096 ∧ getF (helloPeer p l s) (R.TWL_PEER_TPL p) = u8 l 3 % 256 ∧
      getF (helloPeer p l s) (R.TWL_PEER_PORT p) = u8 l 6 % 8 := by
  refine ⟨getF_portUpd.trans ?_, getF_portUpd.trans ?_, getF_portUpd.trans (getF_setF_self rfl)⟩
  · rw [getF_setF_other (Fld.apart_bits rfl rfl), getF_setF_other (Fld.apart_bits rfl rfl),
      getF_setF_other (Fld.apart_bits rfl rfl), getF_setF_other (Fld.apart_bits rfl rfl),
      getF_setF_other (Fld.apart_bits rfl rfl), getF_setF_self rfl]
    rfl
  · rw [getF_setF_other (Fld.apart_bits rfl rfl), getF_setF_other (Fld.apart_bits rfl rfl),
      getF_setF_other (Fld.apart_bits rfl rfl), getF_setF_other (Fld.apart_bits rfl rfl), getF_setF_self rfl]
    rfl

theorem leVal_lt (l : List Byte) : leVal l < 256 ^ l.length := by
  induction l with
  | nil => decide
  | cons b l ih =>
    have hb := b.isLt
    rw [leVal, List.length_cons, Nat.pow_succ]
    omega

/-- A field of n bytes. -/
theorem leAt_lt (l : List Byte) (off n : Nat) : leAt l off n < 256 ^ n :=
  Nat.lt_of_lt_of_le (leVal_lt _) (Nat.pow_le_pow_right (by decide) (List.length_take_le _ _))

/-- Settles O44: LINK flits, HELLO, and the timers of a link. -/
theorem twillLinkLayer : Obligations.TwillLinkLayer := by
  unfold Obligations.TwillLinkLayer
  refine ⟨fun s p l up low high => ?_, fun s p l hp => ?_, fun s p up => ⟨fun retry u hu => ?_, fun pending st => ?_, fun st => ?_,
    fun auto slow => ?_, fun st timer fast => ?_, fun boot => ⟨fun st => ?_, fun ss hss => ⟨fun spent => ?_, fun left => ?_⟩⟩⟩⟩
  · have link : (alive s && decide (1 ≤ lstate s p) && decide (lstate s p ≤ 4)) = true := by simp [up, low, high]
    refine ⟨congrArg Host.Outcome.next (if_pos link), fun some => congrArg Host.Outcome.next (if_pos ?_),
      fun none => congrArg Host.Outcome.next (if_neg ?_), fun small => ?_, fun large => ?_,
      congrArg Host.Outcome.next (if_pos link), fun owed => congrArg Host.Outcome.next (if_pos ?_),
      fun w i corr b hp hw st len => congrArg Host.Outcome.next (if_pos ?_)⟩
    · simp [link, some]
    · simp [none]
    · exact congrArg Host.Outcome.next ((if_pos link).trans (if_pos small))
    · exact congrArg Host.Outcome.next ((if_pos link).trans (if_neg (Nat.not_le.2 large)))
    · rw [link]
      rcases owed with owed | owed <;> simp [owed]
    · simp [up, hp, hw, st, low, high, len]
  · obtain ⟨dev, tpl, port⟩ := helloPeer_shown p l s
    refine ⟨dev, tpl.trans (Nat.mod_eq_of_lt (leAt_lt l 3 1)), port, ?_⟩
    unfold helloPeer
    simp only [portOf_portUpd]
  · subst hu
    have gate : ¬(!alive s || !isSet s (R.TWL_LL_STATUS_RETRYING p)) = true := by simp [up, retry]
    refine ⟨fun eighth => congrArg Host.Outcome.next ((if_neg gate).trans (if_pos ?_)),
      fun few => congrArg Host.Outcome.next ((if_neg gate).trans (if_neg ?_))⟩
    · rw [portOf_portUpd]
      exact Nat.succ_le_succ eighth
    · rw [portOf_portUpd]
      exact Nat.not_le.2 (Nat.succ_lt_succ few)
  · exact congrArg Host.Outcome.next (if_pos (by simp [up, pending, st]))
  · exact congrArg Host.Outcome.next (if_pos (by simp [up, st]))
  · refine congrArg Host.Outcome.next ((if_pos (by simp [up, auto])).trans (if_neg (Nat.not_le.2 slow)))
  · exact congrArg Host.Outcome.next (if_pos (by simp [up, st, timer, fast]))
  · exact congrArg Host.Outcome.next ((if_neg (by simp [running, up, boot])).trans (if_neg fun h => st h.1))
  · refine congrArg Host.Outcome.next ((if_neg (by simp [running, up, boot])).trans ?_)
    simp only [hss, if_pos spent]
  · refine congrArg Host.Outcome.next ((if_neg (by simp [running, up, boot])).trans ?_)
    simp only [hss, if_neg (Nat.not_le.2 left)]

/-! ### Discovery -/

/-- What get-topology says of the tile at a hop of a port. -/
def topologyEntry (t : State) (p h : Nat) : List Byte :=
  let r := (Tab.get (portOf t p).replies h).getD (zeros 32)
  let sl := positionSlot t p h
  let st := match sl with | some i => slotState t i | none => 0
  let dev := match sl with
    | some i => (match Tab.get t.cel.slots i with
      | some o => if o.numbered then getF t (R.CEL_S_W0_DEVNUM i) else u16 r 6 | none => u16 r 6)
    | none => u16 r 6
  leBytes 1 h ++ leBytes 1 st ++ leBytes 2 dev ++ leBytes 1 (u8 r 2) ++ leBytes 1 (u8 r 3) ++ leBytes 1 (u8 r 4) ++ [0]

/-- What get-topology answers. -/
def topology (t : State) (p : Nat) : List Byte :=
  ((List.range (foundTiles (portOf t p))).map (fun j => topologyEntry t p (j + 1))).flatten

theorem topology_length (t : State) (p : Nat) : (topology t p).length = 8 * foundTiles (portOf t p) := by
  rw [topology, length_flatten_map (n := 8) (fun x => by simp [topologyEntry]), List.length_range, Nat.mul_comm]

theorem getTopology_lists (hp : k.p8 0 < 8) (z : zeroAt k.par 1 3 = true)
    (hk : ready s k (8 * foundTiles (portOf t (k.p8 0))) c t) :
    exec (.getTopology k) s = .next (finish k St.ok (topology t (k.p8 0)) t) := by
  refine exec_answered rfl (c := c) (by rwa [topology_length]) ((if_neg ?_).trans ?_)
  · simp [z, hp]
  · rfl

/-- Settles O45: the commands, then the timers of numbering, healing and liveness. -/
theorem discoveryAndLiveness : Obligations.DiscoveryAndLiveness := by
  unfold Obligations.DiscoveryAndLiveness
  refine ⟨fun s t k n c hk hp z => ⟨?_, ?_, ?_⟩, fun s run => ⟨fun snd => ⟨fun p h x hx => ⟨fun idle pending => ?_,
    fun idle done => ?_, fun tried few => ?_, fun all => ?_⟩, fun p heal up => ?_, fun none => ?_⟩,
    fun a b p tile first second served up => ?_⟩⟩
  · rintro rfl up
    exact exec_later rfl hk ((if_neg (by simp [z, hp])).trans (if_neg (by simp [up])))
  · rintro rfl down
    exact exec_refused rfl hk ((if_neg (by simp [z, hp])).trans (if_pos down))
  · intro hn
    exact ⟨topology t (k.p8 0), topology_length t _, getTopology_lists hp z (hn ▸ hk)⟩
  · refine congrArg Host.Outcome.next ((if_neg (by simp [run, snd])).trans ?_)
    simp only [hx, idle, pending]
    rfl
  · refine congrArg Host.Outcome.next ((if_neg (by simp [run, snd])).trans ?_)
    simp only [hx, idle, done]
    rfl
  · refine congrArg Host.Outcome.next ((if_neg (by simp [run, snd])).trans ?_)
    simp only [hx, if_neg (Nat.ne_of_gt tried), if_pos few]
  · refine congrArg Host.Outcome.next ((if_neg (by simp [run, snd])).trans ?_)
    simp only [hx, if_neg (show x.2.1 ≠ 0 by omega), if_neg (Nat.not_lt.2 all)]
  · exact congrArg Host.Outcome.next ((if_pos (by simp [run, snd, heal])).trans (if_pos up))
  · exact congrArg Host.Outcome.next (if_pos (by simp [run, snd, none]))
  · refine congrArg Host.Outcome.next ?_
    simp only [first, second]
    exact if_pos (by simp [run, tile, served, up])

end Sys2Proof.Machine
end


section
/-!
Messages that this device consumes, commands of time, and the events of triggers and clocks (R262 to R340).
-/

namespace Sys2Proof.Machine

variable {s t : State} {k : Pkt} {c : Option (List Byte)} {n p : Nat} {m : Msg}

/-- A message that this device consumes has its effect on the state in which it has been received. -/
theorem exec_arrives {i : Instr} {take : State → State} {u : State} (hi : exec i s = .next (msgIn p m take s))
    (h : arrives s p m) (ht : t = received s p m) (hu : take t = u) : exec i s = .next u := by
  rw [hi, msgIn_arrives take h, ← ht, hu]

/-! ### Slot notices -/

/-- A tile served after a slot notice that fits its geometry. -/
def tileServed (epoch src : Nat) (t : State) : State :=
  setF (setF (setF (setF t R.CEL_T_STATUS_SERVED 1) R.CEL_T_STATUS_GEOM_BAD 0) R.CEL_T_STATUS_EPOCH epoch)
    R.CEL_T_STATUS_SENDER src

theorem linkUp_tileServed (epoch src : Nat) (t : State) (p : Nat) : linkUp (tileServed epoch src t) p = linkUp t p := by
  have other : R.TWL_LL_STATUS p ≠ R.CEL_T_STATUS := by
    simp only [R.TWL_LL_STATUS, R.CEL_T_STATUS, dirKey]
    omega
  have keeps : ∀ {f : Fld} (u : State) (v : Nat), f.reg = R.CEL_T_STATUS → lstate (setF u f v) p = lstate u p :=
    fun u v h => getF_setF_reg u v (h.symm ▸ other)
  have link : lstate (tileServed epoch src t) p = lstate t p :=
    (keeps _ _ rfl).trans ((keeps _ _ rfl).trans ((keeps _ _ rfl).trans (keeps _ _ rfl)))
  have port : portOf (tileServed epoch src t) p = portOf t p := rfl
  unfold linkUp
  rw [link, port]

theorem isSet_tileServed (epoch src : Nat) (t : State) : isSet (tileServed epoch src t) R.CEL_T_STATUS_SERVED = true := by
  unfold tileServed
  rw [isSet_setF_other (by decide), isSet_setF_other (by decide), isSet_setF_other (by decide), isSet_iff]
  exact getF_setF_self (by decide)

theorem backupRelease_none (new : Nat) (s : State) : backupRelease none new s = s := by
  unfold backupRelease
  split
  · exact if_neg fun h => nomatch h.1
  · rfl

theorem slotNotice_serves (h : arrives s p m) (ht : t = received s p m) (tile : sender t = false)
    (geom : (u16 m.payload 0, u16 m.payload 2) = tileGeom t) (known : geomReady t = true) (down : linkUp t p = false)
    (unserved : isSet t R.CEL_T_STATUS_SERVED = false) :
    exec (.slotNotice p m) s = .next (tileServed (u8 m.payload 4) m.src t) := by
  have good : ((u16 m.payload 0, u16 m.payload 2) == tileGeom t && geomReady t) = true := by simp [geom, known]
  have still : linkUp (tileServed (u8 m.payload 4) m.src t) p = false := (linkUp_tileServed _ _ t p).trans down
  refine exec_arrives rfl h ht ?_
  simp only [tile, good, unserved, Bool.false_eq_true, if_false, if_true]
  exact (congrArg (backupRelease none m.src) (if_neg fun up => absurd (still.symm.trans up) (by decide))).trans
    (backupRelease_none _ _)

/-! ### Budgets -/

theorem getF_setLevel_other {src v : Nat} {e a f g : Fld} (hsrc : irqFields src = some (e, a)) (pending : g.reg ≠ R.MSIX_PBA)
    (counter : e.apart g = true) (h : f.apart g = true) : getF (setLevel src f v s) g = getF s g := by
  unfold setLevel
  split
  · rfl
  · rw [getF_raise hsrc pending, getF_incF_other counter, getF_setF_other h]

theorem mode_levelFall (b src : Nat) (s : State) : mode (levelFall b src s) = mode s :=
  getF_setB_other (by decide)

theorem mode_thmLevel_off {f : Fld} {src : Nat} (h : f.apart R.SYS_MODE_MODE = true) (s : State) :
    mode (thmLevel f src false s) = mode s := by
  unfold thmLevel
  split
  · rfl
  · rw [if_neg (by decide), mode_levelFall]
    exact getF_setLevel_other rfl (by decide) (by decide) h

theorem thm_thmLevel_off (f : Fld) (src : Nat) (s : State) : (thmLevel f src false s).thm = s.thm := by
  unfold thmLevel
  split
  · rfl
  · rw [if_neg (by decide)]
    obtain ⟨r, o, h⟩ := setLevel_regsOut 15 f 0 s
    rw [h]
    rfl

/-- A budget that sets no condition, as the tile keeps it. -/
def budgetKept (b : BudgetMsg) (t : State) : State :=
  thmLevel R.THM_STATUS_FEED_SHORT 6 false (thmLevel R.THM_STATUS_FEED_UNSET 5 false (thmLevel R.THM_STATUS_SAFE 4 false
    (setLevel 15 R.THM_STATUS_BUDGET_VALID 1 { t with thm := { t.thm with budgetNext := some b, budgetAt := ltNs t } })))

theorem mode_budgetKept (b : BudgetMsg) (t : State) : mode (budgetKept b t) = mode t := by
  unfold budgetKept
  rw [mode_thmLevel_off (by decide), mode_thmLevel_off (by decide), mode_thmLevel_off (by decide)]
  exact getF_setLevel_other rfl (by decide) (by decide) (by decide)

theorem budgetNext_budgetKept (b : BudgetMsg) (t : State) : (budgetKept b t).thm.budgetNext = some b := by
  unfold budgetKept
  rw [thm_thmLevel_off, thm_thmLevel_off, thm_thmLevel_off]
  obtain ⟨r, o, h⟩ := setLevel_regsOut 15 R.THM_STATUS_BUDGET_VALID 1
    { t with thm := { t.thm with budgetNext := some b, budgetAt := ltNs t } }
  rw [h]

theorem budget_keeps (h : arrives s p m) (ht : t = received s p m) (tile : sender t = false) (awake : mode t ≠ mHold)
    (short : (budgetOf m.payload).flags.testBit 0 = false) (unset : (budgetOf m.payload).flags.testBit 1 = false) :
    exec (.budget p m) s = .next (budgetKept (budgetOf m.payload) t) := by
  refine exec_arrives rfl h ht ?_
  simp only [tile, short, unset, Bool.false_eq_true, if_false]
  exact if_neg fun hold => awake ((mode_budgetKept _ t).symm.trans hold)

/-! ### Demands -/

/-- The feed of a slot's entry. -/
def slotFeed (t : State) (i : Nat) : Nat := u8 ((Tab.get t.cel.slots i).map (fun e => e.entry) |>.getD []) 4

/-- The fields that a DEMAND sets in the registers of its slot. -/
def demandSets (i feed : Nat) (l : List Byte) : List (Fld × Nat) :=
  [(R.THM_SLOT_SEQ_BSEQ_ECHO i, u16 l 0), (R.THM_SLOT_FLAGS_STEP i, u8 l 3), (R.THM_SLOT_FLAGS_SAG i, u8 l 2 % 2),
    (R.THM_SLOT_FLAGS_TELEM_VALID i, u8 l 2 / 4 % 2), (R.THM_SLOT_FLAGS_SAFE i, u8 l 2 / 8 % 2),
    (R.THM_SLOT_FLAGS_FEED i, feed), (R.THM_SLOT_DEMAND_MW i, u32 l 4), (R.THM_SLOT_PIN_MW i, u32 l 12),
    (R.THM_SLOT_RV_VIN_MIN i, u16 l 16), (R.THM_SLOT_RV_RHO i, u16 l 18)]

/-- The registers of a slot as a DEMAND sets them. -/
def demandRegs (i feed : Nat) (l : List Byte) (t : State) : State :=
  (demandSets i feed l).foldl (fun a e => setF a e.1 e.2) t

/-- What a DEMAND leaves of its feed slot and its feed, once the registers are set. -/
def demandStored (i feed : Nat) (l : List Byte) (t1 : State) : State :=
  let echoed := u16 l 0 == getF t1 (R.THM_SLOT_SEQ_BSEQ_SENT i)
  let t2 := feedSlotUpd i (fun g => { g with
    pmax := u16 l 20, lamp := u32 l 8, noContent := (u8 l 2).testBit 1, telem := (u8 l 2).testBit 2
    demandAt := some (ltNs t1), since := ltNs t1
    lowered := if echoed || g.lowered == some (u16 l 0) then none else g.lowered
    silent := if echoed || g.lowered == some (u16 l 0) then false else g.silent }) t1
  { t2 with
    tnm := { t2.tnm with rho := some (max (t2.tnm.rho.getD 0) (u16 l 18)) }
    thm := { t2.thm with
      vins := if u16 l 16 = 0 then t2.thm.vins else
        Tab.put t2.thm.vins feed ((ltNs t2, u16 l 16) :: (Tab.getD t2.thm.vins feed []).filter
          (fun x => decide (ltNs t2 < x.1 + 1000000000)))
      gather := if (u8 l 2).testBit 0 && !t2.thm.gather.contains feed then t2.thm.gather ++ [feed] else t2.thm.gather } }

/-- A DEMAND of the tile of a slot. -/
def takeDemand (m : Msg) (t : State) : State :=
  if !sender t then t
  else match slotOf t m.src with
    | none => t
    | some i => releaseHeld (slotFeed t i) (demandStored i (slotFeed t i) m.payload (demandRegs i (slotFeed t i) m.payload t))

theorem exec_demand (p : Nat) (m : Msg) (s : State) : exec (.demand p m) s = .next (msgIn p m (takeDemand m) s) := by
  show execDemand p m s = _
  unfold execDemand takeDemand demandStored demandRegs demandSets slotFeed
  rfl

theorem demand_takes {i : Nat} (h : arrives s p m) (ht : t = received s p m) (snd : sender t = true)
    (hsl : slotOf t m.src = some i) : exec (.demand p m) s =
      .next (releaseHeld (slotFeed t i) (demandStored i (slotFeed t i) m.payload (demandRegs i (slotFeed t i) m.payload t))) := by
  refine exec_arrives (exec_demand p m s) h ht ?_
  simp only [takeDemand, snd, hsl, Bool.not_true, Bool.false_eq_true, if_false]

theorem demandStored_frame (i feed : Nat) (l : List Byte) (u : State) : ∃ x, demandStored i feed l u =
    { u with tnm := { u.tnm with rho := some (max (u.tnm.rho.getD 0) (u16 l 18)) }, thm := x } := ⟨_, rfl⟩

theorem demandRegs_regsOnly (i feed : Nat) (l : List Byte) (t : State) : RegsOnly t (demandRegs i feed l t) :=
  foldl_regsOnly (demandSets i feed l) (fun a e => (RegsOnly.refl a).setF e.1 e.2) t

theorem getF_demandRegs_rho (i feed : Nat) (l : List Byte) (t : State) :
    getF (demandRegs i feed l t) (R.THM_SLOT_RV_RHO i) = u16 l 18 := by
  unfold demandRegs demandSets
  simp only [List.foldl_cons, List.foldl_nil]
  rw [getF_setF_self rfl]
  exact Nat.mod_eq_of_lt (leAt_lt l 18 2)

theorem getF_demandRegs_demand (i feed : Nat) (l : List Byte) (t : State) :
    getF (demandRegs i feed l t) (R.THM_SLOT_DEMAND_MW i) = u32 l 4 := by
  have other : R.THM_SLOT_DEMAND i ≠ R.THM_SLOT_RV i ∧ R.THM_SLOT_DEMAND i ≠ R.THM_SLOT_PIN i := by
    simp only [R.THM_SLOT_DEMAND, R.THM_SLOT_RV, R.THM_SLOT_PIN, indKey]
    omega
  unfold demandRegs demandSets
  simp only [List.foldl_cons, List.foldl_nil]
  rw [getF_setF_reg _ _ other.1, getF_setF_reg _ _ other.1, getF_setF_reg _ _ other.2, getF_setF_self rfl]
  exact Nat.mod_eq_of_lt (leAt_lt l 4 4)

/-- Settles O46: each message's own part on the state in which it has been received. -/
theorem messagesTakeEffect : Obligations.MessagesTakeEffect := by
  unfold Obligations.MessagesTakeEffect
  intro s t p m h ht
  have takes : ∀ {i : Instr} {take : State → State} {u : State}, exec i s = .next (msgIn p m take s) → take t = u →
      exec i s = .next u := fun hi => exec_arrives hi h ht
  refine ⟨⟨takes rfl rfl, takes rfl rfl, takes rfl rfl, takes rfl rfl, takes rfl rfl, takes rfl rfl⟩,
    ⟨takes rfl rfl, takes rfl rfl, takes rfl rfl, takes rfl rfl, takes rfl rfl, takes rfl rfl⟩, fun tile => ?_, fun snd => ?_,
    fun mine some => takes rfl (if_pos ⟨mine, some⟩), fun other => takes rfl (if_neg fun h => other h.1)⟩
  · have own : ∀ {a b : State}, (if sender t then a else b) = b := if_neg (by simp [tile])
    refine ⟨takes rfl own, takes rfl own, takes rfl own, takes rfl rfl, takes rfl rfl, ?_, ?_⟩
    · by_cases fits : (u16 m.payload 0, u16 m.payload 2) = tileGeom t ∧ geomReady t = true ∧ linkUp t p = false ∧
          isSet t R.CEL_T_STATUS_SERVED = false
      · obtain ⟨geom, known, down, unserved⟩ := fits
        exact ⟨_, slotNotice_serves h ht tile geom known down unserved, fun _ _ _ _ => isSet_tileServed _ _ t⟩
      · exact ⟨_, takes rfl rfl, fun geom known down unserved => absurd ⟨geom, known, down, unserved⟩ fits⟩
    · by_cases fits : mode t ≠ mHold ∧ (budgetOf m.payload).flags.testBit 0 = false ∧
          (budgetOf m.payload).flags.testBit 1 = false
      · obtain ⟨awake, short, unset⟩ := fits
        exact ⟨_, budget_keeps h ht tile awake short unset, fun _ _ _ => budgetNext_budgetKept _ t⟩
      · exact ⟨_, takes rfl rfl, fun awake short unset => absurd ⟨awake, short, unset⟩ fits⟩
  · have own : ∀ {a b : State}, (if !sender t then a else b) = b := if_neg (by simp [snd])
    refine ⟨takes rfl (if_pos snd), takes rfl rfl, takes rfl rfl, takes rfl rfl, takes rfl rfl, takes rfl rfl, takes rfl rfl,
      takes rfl own, takes rfl own, takes rfl own, fun i hsl => ⟨takes rfl ?_, takes rfl ?_, slotFeed t i, _,
        demand_takes h ht snd hsl, ?_⟩⟩
    · simp only [hsl, snd, if_true]
    · simp only [hsl, snd, if_true]
    · obtain ⟨x, stored⟩ := demandStored_frame i (slotFeed t i) m.payload (demandRegs i (slotFeed t i) m.payload t)
      have demand := getF_demandRegs_demand i (slotFeed t i) m.payload t
      have rho := getF_demandRegs_rho i (slotFeed t i) m.payload t
      obtain ⟨r, hr⟩ := demandRegs_regsOnly i (slotFeed t i) m.payload t
      rw [hr] at stored demand rho
      rw [hr, stored]
      exact ⟨demand, rho, rfl, rfl, rfl⟩

end Sys2Proof.Machine
end


section
/-!
Commands of time (R289 to R325) and the events of triggers, captures, elections and PTP.
-/

namespace Sys2Proof.Machine

variable {s t : State} {k : Pkt} {c : Option (List Byte)} {n : Nat}

/-! ### set-ptp -/

/-- The registers of a PTP port that set-ptp makes anew. -/
def ptpRegs (l : List Byte) (t : State) : State :=
  setF (setF (setF (setF (setF t (R.PTP_W0_VALID (u8 l 0)) 0) (R.PTP_W0_PORT (u8 l 0)) (u8 l 1))
    (R.PTP_W0_SUBPORT (u8 l 0)) (u8 l 2)) (R.PTP_W0_DOMAIN (u8 l 0)) (u8 l 4)) (R.PTP_ASYM_PS_VAL (u8 l 0)) (u32 l 8)

theorem ptpRegs_regsOnly (l : List Byte) (t : State) : RegsOnly t (ptpRegs l t) :=
  (((((RegsOnly.refl t).setF _ _).setF _ _).setF _ _).setF _ _).setF _ _

/-- A field of the first word of a PTP port is not in the word of its asymmetry. -/
theorem getF_ptpRegs {l : List Byte} {f : Fld} (h : f.reg = R.PTP_W0 (u8 l 0)) : getF (ptpRegs l t) f =
    getF (setF (setF (setF (setF t (R.PTP_W0_VALID (u8 l 0)) 0) (R.PTP_W0_PORT (u8 l 0)) (u8 l 1))
      (R.PTP_W0_SUBPORT (u8 l 0)) (u8 l 2)) (R.PTP_W0_DOMAIN (u8 l 0)) (u8 l 4)) f := by
  have other : f.reg ≠ R.PTP_ASYM_PS (u8 l 0) := by
    rw [h]
    simp only [R.PTP_W0, R.PTP_ASYM_PS, indKey]
    omega
  exact getF_setF_reg _ _ other

theorem ptpRegs_shown {l : List Byte} (port : u8 l 1 < 2) (sub : u8 l 2 < 4) (domain : u8 l 4 < 128) :
    getF (ptpRegs l t) (R.PTP_W0_PORT (u8 l 0)) = u8 l 1 ∧ getF (ptpRegs l t) (R.PTP_W0_SUBPORT (u8 l 0)) = u8 l 2 ∧
      getF (ptpRegs l t) (R.PTP_W0_DOMAIN (u8 l 0)) = u8 l 4 ∧ getF (ptpRegs l t) (R.PTP_W0_VALID (u8 l 0)) = 0 ∧
      getF (ptpRegs l t) (R.PTP_ASYM_PS_VAL (u8 l 0)) = u32 l 8 := by
  refine ⟨(getF_ptpRegs rfl).trans ?_, (getF_ptpRegs rfl).trans ?_, (getF_ptpRegs rfl).trans ?_, (getF_ptpRegs rfl).trans ?_,
    (getF_setF_self rfl).trans (Nat.mod_eq_of_lt (leAt_lt l 8 4))⟩
  · rw [getF_setF_other (Fld.apart_bits rfl rfl), getF_setF_other (Fld.apart_bits rfl rfl), getF_setF_self rfl]
    exact Nat.mod_eq_of_lt port
  · rw [getF_setF_other (Fld.apart_bits rfl rfl), getF_setF_self rfl]
    exact Nat.mod_eq_of_lt sub
  · rw [getF_setF_self rfl]
    exact Nat.mod_eq_of_lt (Nat.lt_trans domain (show 128 < 2 ^ 8 by decide))
  · rw [getF_setF_other (Fld.apart_bits rfl rfl), getF_setF_other (Fld.apart_bits rfl rfl),
      getF_setF_other (Fld.apart_bits rfl rfl), getF_setF_self rfl]
    rfl

theorem portSubs_le (t : State) (p : Nat) : portSubs t p ≤ 4 := by
  unfold portSubs cfgSubs
  split
  · decide
  · split <;> decide

/-! ### Triggers -/

/-- A trigger as arm-trigger sets it before it is armed. -/
def trigSet (k : Pkt) (t : State) : State :=
  setF (setF (setF (setF t (R.TRIG_CMP_CMP (k.p8 0)) (k.p32 4)) (R.TRIG_CTL_ACTION (k.p8 0)) (k.p8 1))
    (R.TRIG_CTL_GPIO (k.p8 0)) (k.p8 2)) (R.TRIG_CTL_PULSE (k.p8 0)) (max 1 (k.p16 8))

/-- A trigger armed for a compare value ahead. -/
def trigArmed (i : Nat) (a : State) : State :=
  setF (setF (setF a (R.TRIG_CTL_ARMED i) 1) (R.TRIG_CTL_REFUSED i) 0) (R.TRIG_CTL_LATE i) 0

theorem trigSet_regsOnly (k : Pkt) (t : State) : RegsOnly t (trigSet k t) :=
  ((((RegsOnly.refl t).setF _ _).setF _ _).setF _ _).setF _ _

theorem trigArmed_regsOnly (i : Nat) (a : State) : RegsOnly a (trigArmed i a) :=
  (((RegsOnly.refl a).setF _ _).setF _ _).setF _ _

/-- The registers of triggers are not that of the state of WT. -/
theorem trig_ne_status (i : Nat) : R.TIM_STATUS ≠ R.TRIG_CMP i ∧ R.TIM_STATUS ≠ R.TRIG_CTL i ∧ R.TRIG_CMP i ≠ R.TRIG_CTL i := by
  simp only [R.TIM_STATUS, R.TRIG_CMP, R.TRIG_CTL, dirKey, indKey]
  omega

theorem wtValid_trigSet (k : Pkt) (t : State) : wtValid (trigSet k t) = wtValid t := by
  obtain ⟨cmp, ctl, _⟩ := trig_ne_status (k.p8 0)
  have same : getF (trigSet k t) R.TIM_STATUS_WT_STATE = getF t R.TIM_STATUS_WT_STATE := by
    unfold trigSet
    rw [getF_setF_reg _ _ ctl, getF_setF_reg _ _ ctl, getF_setF_reg _ _ ctl, getF_setF_reg _ _ cmp]
  rw [wtValid, wtValid, same]

theorem wtTick_trigSet (k : Pkt) (t : State) : wtTick (trigSet k t) = wtTick t := by
  obtain ⟨r, h⟩ := trigSet_regsOnly k t
  rw [h]
  rfl

theorem cmp_trigSet (k : Pkt) (t : State) : getF (trigSet k t) (R.TRIG_CMP_CMP (k.p8 0)) = k.p32 4 := by
  obtain ⟨_, _, other⟩ := trig_ne_status (k.p8 0)
  unfold trigSet
  rw [getF_setF_reg _ _ other, getF_setF_reg _ _ other, getF_setF_reg _ _ other, getF_setF_self rfl]
  exact Nat.mod_eq_of_lt (leAt_lt k.par 4 4)

theorem triggerArm_unheld {i : Nat} (h : wtValid t = false) : (triggerArm i t).2 = 3 := by
  simp [triggerArm, h]

theorem triggerArm_ahead {i : Nat} (h : wtValid t = true)
    (ahead : 0 < signed 32 (unsigned 32 ((getF t (R.TRIG_CMP_CMP i) : Int) - wtTick t))) :
    triggerArm i t = (trigArmed i t, 0) := by
  unfold triggerArm
  rw [if_neg (by simp [h])]
  exact if_pos ahead

/-- The fields of a trigger armed with the parameters of arm-trigger. -/
theorem trigArmed_shown (act : k.p8 1 < 4) (gpio : k.p8 2 < 24) (u : State) (hu : u = trigArmed (k.p8 0) (trigSet k t)) :
    getF u (R.TRIG_CTL_ARMED (k.p8 0)) = 1 ∧ getF u (R.TRIG_CMP_CMP (k.p8 0)) = k.p32 4 ∧
      getF u (R.TRIG_CTL_ACTION (k.p8 0)) = k.p8 1 ∧ getF u (R.TRIG_CTL_GPIO (k.p8 0)) = k.p8 2 ∧
      getF u (R.TRIG_CTL_REFUSED (k.p8 0)) = 0 := by
  obtain ⟨_, _, other⟩ := trig_ne_status (k.p8 0)
  have bits : ∀ {f g : Fld} (a : State) (v : Nat), f.inWord = true →
      (decide (g.hi < f.lo ∧ g.lo ≤ g.hi) || decide (f.hi < g.lo)) = true → getF (setF a f v) g = getF a g :=
    fun _ _ word apart => getF_setF_other (Fld.apart_bits word apart)
  subst hu
  unfold trigArmed
  refine ⟨?_, ?_, ?_, ?_, ?_⟩
  · rw [bits _ _ rfl rfl, bits _ _ rfl rfl, getF_setF_self rfl]
    rfl
  · rw [getF_setF_reg _ _ other, getF_setF_reg _ _ other, getF_setF_reg _ _ other, cmp_trigSet]
  · rw [bits _ _ rfl rfl, bits _ _ rfl rfl, bits _ _ rfl rfl, trigSet, bits _ _ rfl rfl, bits _ _ rfl rfl, getF_setF_self rfl]
    exact Nat.mod_eq_of_lt act
  · rw [bits _ _ rfl rfl, bits _ _ rfl rfl, bits _ _ rfl rfl, trigSet, bits _ _ rfl rfl, getF_setF_self rfl]
    exact Nat.mod_eq_of_lt (Nat.lt_trans gpio (show 24 < 2 ^ 5 by decide))
  · rw [bits _ _ rfl rfl, getF_setF_self rfl]
    rfl

theorem armTrigger_arms (hk : ready s k 8 c t) (unit : k.p8 0 < 16) (act : k.p8 1 < 4) (gpio : k.p8 2 < 24)
    (z3 : zeroAt k.par 3 1 = true) (z10 : zeroAt k.par 10 2 = true) (held : wtValid t = true)
    (ahead : 0 < signed 32 (unsigned 32 ((k.p32 4 : Int) - wtTick t))) :
    exec (.armTrigger k) s = .next (finish k St.ok (zeros 8) (trigArmed (k.p8 0) (trigSet k t))) := by
  have arms : triggerArm (k.p8 0) (trigSet k t) = (trigArmed (k.p8 0) (trigSet k t), 0) :=
    triggerArm_ahead ((wtValid_trigSet k t).trans held) (by rwa [cmp_trigSet, wtTick_trigSet])
  refine exec_answered rfl (c := c) (d := zeros 8) hk ((if_neg (by simp [unit, act, gpio, z3, z10])).trans ?_)
  rw [← trigSet]
  dsimp only
  rw [arms]
  show Res.ok _ (leBytes 4 0 ++ leBytes 4 (if 0 = 1 then _ else 0)) = _
  rw [if_neg (by decide)]
  rfl

theorem armTrigger_unheld (hk : ready s k 0 c t) (unit : k.p8 0 < 16) (act : k.p8 1 < 4) (gpio : k.p8 2 < 24)
    (z3 : zeroAt k.par 3 1 = true) (z10 : zeroAt k.par 10 2 = true) (lost : wtValid t = false) :
    exec (.armTrigger k) s = .next (finish k St.badState [] t) := by
  have arms : triggerArm (k.p8 0) (trigSet k t) = ((triggerArm (k.p8 0) (trigSet k t)).1, 3) :=
    Prod.ext rfl (triggerArm_unheld ((wtValid_trigSet k t).trans lost))
  refine exec_refused rfl hk ((if_neg (by simp [unit, act, gpio, z3, z10])).trans ?_)
  rw [← trigSet]
  dsimp only
  rw [arms]
  rfl

/-! ### Cadences -/

theorem cadenceApply_refused {l : List Byte} (h : isMaster (promoteParams t) = false ∨ wtHeld (promoteParams t) = false) :
    cadenceApply l t = .error St.badState := by
  refine if_pos ?_
  rcases h with h | h <;> simp [h]

section
variable {l : List Byte} (free : u8 l 0x10 = 0) (master : isMaster (promoteParams t) = true)
  (held : wtHeld (promoteParams t) = true)
include free master held

theorem cadenceApply_bad (bad : cadenceOk l = false) : cadenceApply l t = .error St.badParam := by
  unfold cadenceApply
  simp only [master, held, free, bad]
  rfl

variable (ok : cadenceOk l = true)
include ok

theorem cadenceApply_late (late : cadenceSet (promoteParams t) l = none) : cadenceApply l t = .error St.tooLate := by
  unfold cadenceApply
  simp only [master, held, free, ok, late]
  rfl

theorem cadenceApply_holds {q : Params} (set : cadenceSet (promoteParams t) l = some q) : cadenceApply l t =
    .ok (setItem 0x0024 0 l (holdParams q { promoteParams t with tim := { (promoteParams t).tim with
      align := 0, glMul := u8 l 0x11, phase := signed 32 (u32 l 0x14) } })) := by
  unfold cadenceApply
  simp only [master, held, free, ok, set]
  rfl

end

/-- Settles O47: each command's own part. -/
theorem timeCommands : Obligations.TimeCommands := by
  unfold Obligations.TimeCommands
  intro s t k n c hk
  refine ⟨?_, ?_, ?_, fun unit act gpio z3 z10 => ⟨?_, ?_⟩, ?_, ?_, ?_⟩
  · rintro rfl inst port sub transport domain flags lo hi z
    obtain ⟨hport, hsub, hdomain, hvalid, hasym⟩ := ptpRegs_shown (t := t) port
      (Nat.lt_of_lt_of_le sub (portSubs_le t _)) domain
    refine ⟨ptpRegs k.par t, hport, hsub, hdomain, hvalid, hasym, (ptpRegs_regsOnly k.par t).eq, exec_stores rfl hk (if_neg ?_)⟩
    simp only [z, not_or, Nat.not_le, Nat.not_lt]
    exact ⟨inst, port, sub, transport, domain, flags, lo, hi, by decide⟩
  · rintro rfl h
    exact exec_fails rfl hk (cadenceApply_refused h)
  · rintro u rfl master held rfl free
    refine ⟨fun bad => exec_fails rfl hk (cadenceApply_bad free master held bad), fun ok => ⟨fun late =>
      exec_fails rfl hk (cadenceApply_late free master held ok late), fun q set =>
      exec_stores rfl hk (cadenceApply_holds free master held ok set)⟩⟩
  · rintro rfl lost
    exact armTrigger_unheld hk unit act gpio z3 z10 lost
  · rintro rfl held ahead
    obtain ⟨armed, cmp, action, pin, refused⟩ := trigArmed_shown (t := t) act gpio _ rfl
    exact ⟨_, armTrigger_arms hk unit act gpio z3 z10 held ahead, armed, cmp, action, pin, refused,
      ((trigSet_regsOnly k t).trans (trigArmed_regsOnly _ _)).eq⟩
  · rintro rfl unit z
    exact exec_done rfl hk (if_neg (by simp [unit, z]))
  · rintro rfl
    exact exec_done rfl hk rfl
  · rintro l rfl rfl
    exact exec_answered rfl (c := c) (d := stampBytes _ ++ _ ++ _ ++ _ ++ _) hk rfl

/-! ### Captures -/

theorem capture_regsOnly (i : Nat) (s : State) : RegsOnly s (capture_ i s) :=
  (((RegsOnly.refl s).setF _ _).setF _ _).incF _

theorem getF_capture (i : Nat) (s : State) : getF (capture_ i s) (R.CAP_LO_VAL i) = wtNs s % 2 ^ 32 := by
  have other : R.CAP_LO i ≠ R.CAP_HI i ∧ R.CAP_LO i ≠ R.CAP_EDGES i := by
    simp only [R.CAP_LO, R.CAP_HI, R.CAP_EDGES, indKey]
    omega
  unfold capture_
  rw [incF, addF, getF_setF_reg _ _ other.2, getF_setF_reg _ _ other.1, getF_setF_self rfl]
  rfl

/-! ### The Delay_Req of a PTP port -/

theorem ptpInst_ptpUpd (i : Nat) (g : PtpInst → PtpInst) (s : State) : ptpInst (ptpUpd i g s) i = g (ptpInst s i) := by
  simp [ptpInst, ptpUpd, Tab.getD]

theorem ptpInst_send (i : Nat) (e : Emit) (s : State) : ptpInst (send s e) i = ptpInst s i := rfl

/-- A Delay_Req message. -/
def delayReqBytes (i : Nat) (s : State) : List Byte :=
  [1, 2, 0, 44, BitVec.ofNat 8 (getF s (R.PTP_W0_DOMAIN i)), 0, (if (ptpInst s i).unicast then 4 else 0), 0] ++ zeros 12 ++
    ptpIdentity i ++ (leBytes 2 (ptpInst s i).dseq).reverse ++ [1, 0x7F] ++ zeros 10

theorem delayReqBytes_length (i : Nat) (s : State) : (delayReqBytes i s).length = 44 := by
  simp [delayReqBytes, ptpIdentity, zeros]

theorem delayReqTimer_sends {i t2 : Nat} {t1 : Int} (run : running s = true) (snd : sender s = true) (en : (ptpInst s i).enabled = true)
    (last : (ptpInst s i).last = some (t1, t2)) (best : (ptpBest (ptpInst s i)).isSome = true) :
    exec (.delayReqTimer i) s = .next (send (ptpUpd i (fun x => { x with
      dseq := (x.dseq + 1) % 65536, dreq := some (x.dseq, s.tim.lt, t1, t2) }) s)
      (.eth (getF s (R.PTP_W0_PORT i)) (getF s (R.PTP_W0_SUBPORT i)) 3 (delayReqBytes i s))) := by
  refine congrArg Host.Outcome.next ?_
  simp only [last]
  exact if_neg (by simp [run, snd, en, Option.isSome_iff_ne_none.1 best])

/-- Settles O48: triggers and pulses, then the events of a device that runs. -/
theorem timeEvents : Obligations.TimeEvents := by
  unfold Obligations.TimeEvents
  refine ⟨fun s k up hk => ⟨fun armed => ?_, fun idle => ?_⟩, fun s g => ⟨_, rfl, fun h => by simp [pulseStop], rfl⟩,
    fun s run => ⟨⟨_, (capture_regsOnly 1 s).eq, getF_capture 1 s, ?_⟩, ⟨_, (capture_regsOnly 0 s).eq, getF_capture 0 s, ?_⟩,
      fun u slave => ⟨?_, ?_⟩, fun master src => ?_, ?_, ?_, fun l u hl hu => ⟨fun unsteady => ?_, fun locked long steady => ?_⟩,
      fun p hp offered => ?_, fun b dwell => ⟨fun best => ?_, fun other => ?_⟩, fun snd => ⟨fun dis => ?_, fun en => ?_,
        fun d => ?_, fun i hi en => ⟨?_, fun t1 t2 last best => ?_⟩⟩⟩⟩
  · exact congrArg Host.Outcome.next (if_pos (by simp [up, hk, armed]))
  · exact congrArg Host.Outcome.next (if_neg (by simp [idle]))
  · exact congrArg Host.Outcome.next (if_pos run)
  · exact congrArg Host.Outcome.next (if_pos run)
  · exact if_pos (by simp [slave])
  · exact if_pos (by simp [slave])
  · exact congrArg Host.Outcome.next (if_pos (by simp [run, master, src]))
  · exact congrArg Host.Outcome.next (if_pos run)
  · exact congrArg Host.Outcome.next (if_pos run)
  · subst hl hu
    refine congrArg Host.Outcome.next ((if_neg (by simp [run])).trans
      (congrArg (fun x => holdLongUpdate (holdAgain true (holdAgain false x))) (if_neg ?_)))
    rcases unsteady with state | temps
    · simp [state]
    · simp [temps]
  · subst hl hu
    refine congrArg Host.Outcome.next ((if_neg (by simp [run])).trans
      (congrArg (fun x => holdLongUpdate (holdAgain true (holdAgain false x))) (if_pos ?_)))
    simp [locked, long, steady]
  · exact congrArg Host.Outcome.next (if_pos (by simp [run, hp, offered]))
  · refine congrArg Host.Outcome.next ?_
    simp only [dwell, run, if_pos best]
    rfl
  · refine congrArg Host.Outcome.next ?_
    simp only [dwell, run, if_neg other]
    rfl
  · refine congrArg Host.Outcome.next ((if_neg (by simp [run, snd])).trans ?_)
    simp only [dis]
    rfl
  · refine congrArg Host.Outcome.next ((if_neg (by simp [run, snd])).trans ?_)
    simp only [en]
    rfl
  · exact congrArg Host.Outcome.next (if_pos (by simp [run, snd]))
  · exact congrArg Host.Outcome.next (if_pos (by simp [run, snd, hi, en]))
  · refine ⟨_, delayReqBytes i s, delayReqTimer_sends run snd en last best, ?_, ?_, delayReqBytes_length i s, rfl, rfl⟩
    · exact congrArg PtpInst.dreq ((ptpInst_send i _ _).trans (ptpInst_ptpUpd i _ s))
    · exact congrArg PtpInst.dseq ((ptpInst_send i _ _).trans (ptpInst_ptpUpd i _ s))

end Sys2Proof.Machine
end


section
/-!
Module commands and the ends of their writes (R341 to R360): layers, geometry, release and checkpoints.
-/

namespace Sys2Proof.Machine

variable {s t : State} {k : Pkt} {c : Option (List Byte)} {n : Nat}

/-! ### Geometry -/

/-- What every step of a fold leaves alone, the fold leaves alone. -/
theorem foldl_keeps {α β : Type} {π : State → β} {g : State → α → State} (h : ∀ a x, π (g a x) = π a) (l : List α)
    (s : State) : π (l.foldl g s) = π s := by
  induction l generalizing s with
  | nil => rfl
  | cons x l ih => exact (ih _).trans (h s x)

theorem setStrand_str (st : Nat) (s : State) : (setStrand st 0 s).str = s.str := by
  obtain ⟨r, o, h⟩ := setLevel_regsOut 14 (R.STR_S_STATE_SSTATE st) 0 s
  unfold setStrand
  simp only [h]
  split
  · rfl
  · rw [setF_str, if_neg (by decide)]
    split <;> rfl

/-- The strands past a geometry's are not used. -/
def strandsPast (g : List Byte) (s : State) : State :=
  (List.range 64).foldl (fun a st => if gNstr g ≤ st then setStrand st 0 a else a) s

theorem strandsPast_str (g : List Byte) (s : State) : (strandsPast g s).str = s.str :=
  foldl_keeps (π := State.str) (fun a st => by
    split
    · exact setStrand_str st a
    · rfl) _ s

/-- The state in which set-strand-geometry starts the strands. -/
def geometryTaken (l : List Byte) (t : State) : State :=
  let t1 := loadGeo (strandWaitsFail { t with str := { t.str with geoCmd := some (sub l 0 32, sub l 32 16) } })
  strandsPast (sub l 0 32) { t1 with str := { t1.str with enums := [] } }

theorem geometryTaken_enums (l : List Byte) (t : State) : (geometryTaken l t).str.enums = [] :=
  congrArg StrSt.enums (strandsPast_str _ _)

section
variable {l : List Byte} (fl : getF t R.DMK_STATUS_FL_STATE = 2)
include fl

theorem geometrySet_other (other : sub l 32 16 ≠ factoryIdOf (flOf t)) : geometrySet l t = .error St.badParam := by
  unfold geometrySet
  dsimp only
  rw [if_neg (fun h => h fl), if_pos (.inl other)]

theorem geometrySet_takes (own : sub l 32 16 = factoryIdOf (flOf t)) (ok : geoOk t (sub l 0 32) = true) :
    geometrySet l t = .ok (setItem 0x0035 0 l (strandsStart true (geometryTaken l t))) := by
  unfold geometrySet
  dsimp only
  rw [if_neg (fun h => h fl), if_neg (by simp [own, ok])]
  rfl

end

/-! ### Ends of writes -/

theorem userSlot_none {m : Module} (h : s.dmk.user = none) : userSlot s m = none := by
  rw [userSlot, h]

/-- The end of a checkpoint's write, where nothing waits for it. -/
def ckptStored (i : Nat) (b : List Byte) (m : Module) (s : State) : State :=
  let s1 := setLevel 13 R.DMK_STATUS_CKPT_BUSY 0 { s with dmk := { s.dmk with ckptWrite := none } }
  setF (incF { s1 with nv := { s1.nv with module := some (modSetCkpt m i b) }
                       dmk := { s1.dmk with ckptDoneAt := some (ltNs s1) } } R.DMK_CKPT_OK) R.DMK_CKPT_SEQ_SEQ (u32 b 8)

theorem ckptStored_frame (i : Nat) (b : List Byte) (m : Module) (s : State) : ∃ r o x, ckptStored i b m s =
    { s with regs := r, out := o, nv := { s.nv with module := some (modSetCkpt m i b) }
             dmk := { s.dmk with ckptWrite := none, ckptDoneAt := x } } := by
  obtain ⟨r, o, h⟩ := setLevel_regsOut 13 R.DMK_STATUS_CKPT_BUSY 0 { s with dmk := { s.dmk with ckptWrite := none } }
  unfold ckptStored
  rw [h]
  exact ⟨_, _, _, rfl⟩

theorem ckptStored_seq (i : Nat) (b : List Byte) (m : Module) (s : State) :
    getF (ckptStored i b m s) R.DMK_CKPT_SEQ_SEQ = u32 b 8 :=
  (getF_setF_self (by decide)).trans (Nat.mod_eq_of_lt (leAt_lt b 8 4))

theorem checkpointDone_stores {i : Nat} {b : List Byte} {m : Module} (run : running s = true)
    (write : s.dmk.ckptWrite = some (i, b)) (mod : s.nv.module = some m) (once : s.dmk.ckptAgain = false)
    (none : s.dmk.release = none) : exec (.checkpointDone true) s = .next (ckptStored i b m s) := by
  have again : (ckptStored i b m s).dmk.ckptAgain = false := by
    obtain ⟨r, o, x, h⟩ := ckptStored_frame i b m s
    rw [h]
    exact once
  have released : (ckptStored i b m s).dmk.release = Option.none := by
    obtain ⟨r, o, x, h⟩ := ckptStored_frame i b m s
    rw [h]
    exact none
  refine congrArg Host.Outcome.next ?_
  simp only [write, mod, run, Bool.not_true, Bool.false_eq_true, if_false, if_true]
  change (if (ckptStored i b m s).dmk.ckptAgain then ckptStart (ckptStored i b m s) else
    match (ckptStored i b m s).dmk.release with | Option.none => ckptStored i b m s | some k => _) = _
  rw [again, released]
  rfl

/-- Settles O49: the commands, then the ends of their writes, then checkpoints. -/
theorem moduleCommands : Obligations.ModuleCommands := by
  unfold Obligations.ModuleCommands
  refine ⟨fun s t k n c f hk => ⟨?_, ?_, ?_, fun other hn => ?_, ?_, ?_, ?_, ?_⟩,
    fun s k b m run mod => ⟨fun write fresh => ?_, fun write fl => ?_⟩, fun s => ⟨rfl, fun no => if_pos (by simp [no]),
    fun i b m run write mod once none => ?_⟩⟩
  · rintro rfl m d mod kept area z data
    have place : ¬(2 ≤ k.p8 0 ∨ !parZero k 1 3) := by simp [area, z]
    refine ⟨fun fl => exec_later rfl hk ((if_neg place).trans ?_), fun fl => exec_refused rfl hk ((if_neg place).trans ?_)⟩
    · simp only [mod, kept, area, data, fl]
      rfl
    · simp only [mod, kept, area, data, fl]
      rfl
  · rintro rfl none low z
    exact exec_refused rfl hk ((if_neg (by simp [low, z])).trans (by simp only [none]))
  · rintro rfl fl kept
    have ready : ¬(getF t R.DMK_STATUS_FL_STATE ≠ 2 ∨ isSet t R.DMK_STATUS_RELEASED = true) := by simp [fl, kept]
    refine ⟨fun d data ok => exec_later rfl hk ((if_neg ready).trans ?_), fun m u mod user slot ok => exec_done rfl hk ?_⟩
    · simp only [data, ok]
      rfl
    · have place : userSlot t m = some 0 := by simp [userSlot, user, slot]
      simp only [mod, place]
      exact if_neg (by simp [fl, kept, user, ok])
  · subst hn
    exact ⟨exec_refused rfl hk (if_pos (.inl other)), exec_refused rfl hk (if_pos other), exec_fails rfl hk (if_pos other)⟩
  · rintro fl rfl a u rfl written
    refine exec_answered rfl (d := leBytes 4 _) (by rwa [leBytes_length]) ((if_neg (fun h => h fl)).trans ?_)
    simp only [written]
  · rintro rfl mod kept
    have ready : ¬(t.nv.module.isNone = true ∨ isSet t R.DMK_STATUS_RELEASED = true) := by
      simp [kept, Option.isSome_iff_ne_none.1 mod]
    refine ⟨fun may => exec_later rfl hk ((if_neg ready).trans (if_neg (by simp [may]))),
      fun no => exec_done rfl hk ((if_neg ready).trans (if_pos (by simp [no])))⟩
  · rintro rfl fl other
    exact exec_fails rfl hk (geometrySet_other fl other)
  · rintro rfl fl own ok
    exact ⟨_, exec_stores rfl hk (geometrySet_takes fl own ok), geometryTaken_enums _ _⟩
  · refine ⟨congrArg Host.Outcome.next ?_, congrArg Host.Outcome.next ?_⟩
    · simp only [write, mod, run, userSlot_none fresh]
      rfl
    · simp only [write, mod, run, userSlot_none fresh]
      rfl
  · refine ⟨congrArg Host.Outcome.next ?_, congrArg Host.Outcome.next ?_⟩
    · simp only [write, mod, run, fl]
      rfl
    · simp only [write, mod, run, fl]
      rfl
  · obtain ⟨r, o, x, h⟩ := ckptStored_frame i b m s
    have seq := ckptStored_seq i b m s
    refine ⟨_, checkpointDone_stores run write mod once none, ?_, seq, ?_, ?_⟩ <;> rw [h]
    rfl

end Sys2Proof.Machine
end


section
/-!
Heat and power (R390 to R424): commands that store what they carry, samples, thresholds and models, telemetry, and budgets.
-/

namespace Sys2Proof.Machine

variable {s t : State} {k : Pkt} {c : Option (List Byte)} {n : Nat}

/-! ### Commands whose own part stores or refuses with BAD_PARAM -/

/-- What an own part that stores or refuses with BAD_PARAM answers. -/
def okOr (r : Option State) : Res := match r with | some u => .ok u [] | none => .err St.badParam

theorem exec_okOr {i : Instr} {f : Fetch} {body : Option (List Byte) → State → Res} {u : State} {g : State → Option State}
    (hi : exec i s = .next (command k f body s)) (hb : body c t = okOr (g t)) (hk : ready s k 0 c t) (hg : g t = some u) :
    exec i s = .next (finish k St.ok [] u) :=
  exec_done hi hk (hb.trans (by rw [hg]; rfl))

theorem exec_notOk {i : Instr} {f : Fetch} {body : Option (List Byte) → State → Res} {g : State → Option State}
    (hi : exec i s = .next (command k f body s)) (hb : body c t = okOr (g t)) (hk : ready s k 0 c t) (hg : g t = none) :
    exec i s = .next (finish k St.badParam [] t) :=
  exec_refused hi hk (hb.trans (by rw [hg]; rfl))

/-! ### Feeds -/

/-- The lowest index with a property. -/
theorem head_idxs {p : Nat → Bool} {m e : Nat} (he : e < m) (on : p e = true) (below : ∀ i, i < e → p i = false) :
    (idxs m p).head? = some e := by
  rw [idxs, List.head?_filter, List.find?_range_eq_some]
  exact ⟨on, List.mem_range.2 he, fun i hi => by simp [below i hi]⟩

theorem head_idxs_none {p : Nat → Bool} {m : Nat} (off : ∀ i, i < m → p i = false) : (idxs m p).head? = none := by
  rw [idxs, List.head?_filter, List.find?_range_eq_none]
  intro i hi
  simp [off i hi]

theorem feedSet_puts {l : List Byte} {e : Nat} (ok : feedOk l = true) (en : u8 l 1 = 1)
    (place : (feedEntry t (u8 l 0) <|> (idxs 32 (fun i => !entryOn t i)).head?) = some e) :
    feedSet l t = .ok (setItem 0x0022 e l (feedCheck (entryPut e l t))) := by
  unfold feedSet
  simp only [ok, en, place]
  rfl

theorem feedSet_full {l : List Byte} (ok : feedOk l = true) (en : u8 l 1 = 1)
    (place : (feedEntry t (u8 l 0) <|> (idxs 32 (fun i => !entryOn t i)).head?) = none) :
    feedSet l t = .error St.tableFull := by
  unfold feedSet
  simp only [ok, en, place]
  rfl

/-! ### Supplies, diodes and thresholds -/

/-- The registers of the supplies as set-supplies leaves them. -/
def suppliesRegs (l : List Byte) (t : State) : State :=
  (List.range 4).foldl (fun a i =>
    let b := [R.THM_SUP_SW i, R.THM_SUP_IN i, R.THM_SUP_PIN i, R.THM_SUP_POUT i, R.THM_SUP_OUT i, R.THM_SUP_TEMP i].foldl
      (fun x r => regPut x r 0) a
    regPut b (R.THM_SUP i) (BitVec.ofNat 32 (if i < u8 l 0 then u8 l (4 + 4 * i) + 128 * u8 l (5 + 4 * i) else 0))) t

theorem suppliesRegs_regsOnly (l : List Byte) (t : State) : RegsOnly t (suppliesRegs l t) :=
  foldl_regsOnly (List.range 4) (fun a i =>
    (foldl_regsOnly _ (g := fun x r => regPut x r 0) (fun x r => (RegsOnly.refl x).regPut r 0) a).regPut (R.THM_SUP i) _) t

/-- What is kept of the supplies that set-supplies names. -/
def suppliesKept (l : List Byte) (x : ThmSt) : ThmSt :=
  { x with nsup := u8 l 0, bus := u8 l 1, supFail := [], supVmode := [], supInput := [] }

/-- The supplies as set-supplies leaves them. -/
def suppliesStored (l : List Byte) (t : State) : State :=
  setLevel 15 R.THM_STATUS_TELEM_VALID 0 { suppliesRegs l t with thm := suppliesKept l (suppliesRegs l t).thm }

theorem suppliesStored_frame (l : List Byte) (t : State) :
    ∃ r o, suppliesStored l t = { t with regs := r, out := o, thm := suppliesKept l t.thm } := by
  obtain ⟨r, hr⟩ := suppliesRegs_regsOnly l t
  unfold suppliesStored
  rw [hr]
  obtain ⟨r', o, h⟩ := setLevel_regsOut 15 R.THM_STATUS_TELEM_VALID 0 { t with regs := r, thm := suppliesKept l t.thm }
  exact ⟨r', o, h⟩

theorem suppliesSet_stores {l : List Byte} (few : u8 l 0 ≤ 4) (bus : u8 l 1 ≤ 1) (z : zeroAt l 2 2 = true)
    (each : ∀ i, i < u8 l 0 → u8 l (4 + 4 * i) < 128 ∧ u8 l (5 + 4 * i) ≤ 1 ∧ zeroAt l (6 + 4 * i) 2 = true) :
    suppliesSet l t = some (setItem 0x0031 0 l (suppliesStored l t)) := by
  refine if_pos ?_
  simp only [few, bus, z, decide_true, Bool.and_self, Bool.true_and, List.all_eq_true, List.mem_range]
  intro i hi
  obtain ⟨addr, pec, zero⟩ := each i hi
  simp [addr, pec, zero]

/-- The registers of a diode channel. -/
def diodeRegs (l : List Byte) (t : State) : State :=
  setF (setF t (R.THM_SENSN_NB0 (20 + u8 l 0)) (u8 l 6)) (R.THM_SENSN_NB1 (20 + u8 l 0)) (u8 l 7)

/-- A diode channel as set-diode leaves it. -/
def diodeStored (l : List Byte) (t : State) : State :=
  { diodeRegs l t with thm := { (diodeRegs l t).thm with
    diodes := Tab.put (diodeRegs l t).thm.diodes (u8 l 0) (sub l 2 4) } }

/-- What is kept of the thermal blocks beside their registers. -/
theorem getF_thm (s : State) (x : ThmSt) (f : Fld) : getF { s with thm := x } f = getF s f := rfl

theorem diodeStored_shown (l : List Byte) (t : State) :
    getF (diodeStored l t) (R.THM_SENSN_NB0 (20 + u8 l 0)) = u8 l 6 ∧
      getF (diodeStored l t) (R.THM_SENSN_NB1 (20 + u8 l 0)) = u8 l 7 ∧
      Tab.get (diodeStored l t).thm.diodes (u8 l 0) = some (sub l 2 4) := by
  refine ⟨(getF_thm _ _ _).trans ?_, (getF_thm _ _ _).trans ?_, Tab.get_put_same _ _ _⟩
  · rw [diodeRegs, getF_setF_other (Fld.apart_bits rfl rfl), getF_setF_self rfl]
    exact Nat.mod_eq_of_lt (leAt_lt l 6 1)
  · rw [diodeRegs, getF_setF_self rfl]
    exact Nat.mod_eq_of_lt (leAt_lt l 7 1)

/-- One supply named among those configured. -/
theorem idxs_one {m x : Nat} (h : x < m) (few : x ≠ 0xFF) : idxs m (fun i => i == x || x == 0xFF) = [x] := by
  have self : (fun i => i == x || x == 0xFF) = fun i => i == x := by
    funext i
    simp [few]
  rw [idxs, self, List.filter_beq, List.nodup_range.count, if_pos (List.mem_range.2 h)]
  rfl

theorem nbOk_of {m : Nat} (h : m < 56 ∨ m = 0xFF) : nbOk m = true := by
  rcases h with h | h <;> simp [nbOk, h]

theorem diodeSet_stores {l : List Byte} (low : u8 l 0 < 4) (z : u8 l 1 = 0) (n0 : u8 l 6 < 56 ∨ u8 l 6 = 0xFF)
    (n1 : u8 l 7 < 56 ∨ u8 l 7 = 0xFF) : diodeSet l t = some (setItem 0x0032 (u8 l 0) l (diodeStored l t)) :=
  if_pos (by simp [low, z, nbOk_of n0, nbOk_of n1])

/-- The registers of a threshold. -/
def thresholdRegs (l : List Byte) (t : State) : State :=
  setF (setF (setF t (R.THM_THR_LEVEL (u8 l 0)) (u16 l 2)) (R.THM_THR_HYST (u8 l 0)) (u16 l 4))
    (R.THM_THRD_DWELL_MS (u8 l 0)) (u16 l 6)

theorem thresholdRegs_shown (l : List Byte) (t : State) :
    getF (thresholdRegs l t) (R.THM_THR_LEVEL (u8 l 0)) = u16 l 2 ∧ getF (thresholdRegs l t) (R.THM_THR_HYST (u8 l 0)) = u16 l 4 ∧
      getF (thresholdRegs l t) (R.THM_THRD_DWELL_MS (u8 l 0)) = u16 l 6 ∧
      getF (thresholdRegs l t) (R.THM_THRD_STATE (u8 l 0)) = getF t (R.THM_THRD_STATE (u8 l 0)) := by
  have other : R.THM_THR (u8 l 0) ≠ R.THM_THRD (u8 l 0) := by
    simp only [R.THM_THR, R.THM_THRD, indKey]
    omega
  have small : ∀ off, u16 l off % 2 ^ 16 = u16 l off := fun off => Nat.mod_eq_of_lt (leAt_lt l off 2)
  unfold thresholdRegs
  refine ⟨?_, ?_, ?_, ?_⟩
  · rw [getF_setF_reg _ _ other, getF_setF_other (Fld.apart_bits rfl rfl), getF_setF_self rfl]
    exact small 2
  · rw [getF_setF_reg _ _ other, getF_setF_self rfl]
    exact small 4
  · rw [getF_setF_self rfl]
    exact small 6
  · rw [getF_setF_other (Fld.apart_bits rfl rfl), getF_setF_reg _ _ other.symm, getF_setF_reg _ _ other.symm]

/-- Settles O51: each command's own part, where its checks hold and where they fail. -/
theorem thermalCommands : Obligations.ThermalCommands := by
  unfold Obligations.ThermalCommands
  intro s t k c hk
  refine ⟨fun bad => exec_fails rfl hk (if_pos (by simp [bad])), fun ok en => ⟨fun e he => ?_, fun none e he off below => ?_,
    fun none all => ?_⟩, fun bad => ?_, fun ok own => ?_, fun ok other snd => ⟨fun none => ?_, fun e he => ?_⟩,
    fun few bus z each => ?_, fun many => ?_, fun low few z => ?_, fun low z n0 n1 => ?_, fun low z => ?_, fun low z => ?_,
    fun high => ?_⟩
  · exact exec_stores rfl hk (feedSet_puts ok en (by rw [he]; rfl))
  · exact exec_stores rfl hk (feedSet_puts ok en (by
      rw [none, head_idxs he (by simp [off]) (fun i hi => by simp [below i hi])]
      rfl))
  · exact exec_fails rfl hk (feedSet_full ok en (by
      rw [none, head_idxs_none (fun i hi => by simp [all i hi])]
      rfl))
  · exact exec_notOk (g := curveSet k.par) rfl rfl hk (if_pos (by simp [bad]))
  · exact exec_okOr (g := curveSet k.par) rfl rfl hk ((if_neg (by simp [ok])).trans (if_pos own))
  · refine exec_notOk (g := curveSet k.par) rfl rfl hk ((if_neg (by simp [ok])).trans ((if_neg other).trans
      ((if_neg (by simp [snd])).trans ?_)))
    rw [none]
  · refine exec_okOr (g := curveSet k.par) rfl rfl hk ((if_neg (by simp [ok])).trans ((if_neg other).trans
      ((if_neg (by simp [snd])).trans ?_)))
    rw [he]
  · obtain ⟨r, o, stored⟩ := suppliesStored_frame k.par t
    refine ⟨suppliesStored k.par t, exec_okOr (g := suppliesSet k.par) rfl rfl hk (suppliesSet_stores few bus z each), ?_⟩
    rw [stored]
    exact ⟨rfl, rfl, rfl, rfl⟩
  · exact exec_notOk (g := suppliesSet k.par) rfl rfl hk (if_neg (by simp [Nat.not_le.2 many]))
  · refine exec_done rfl hk ((if_neg (by simp [low, z])).trans ?_)
    rw [idxs_one low (by omega)]
    rfl
  · exact ⟨diodeStored k.par t, exec_okOr (g := diodeSet k.par) rfl rfl hk (diodeSet_stores low z n0 n1),
      diodeStored_shown k.par t⟩
  · exact exec_okOr (g := amonSet k.par) rfl rfl hk (if_pos ⟨low, z⟩)
  · obtain ⟨level, hyst, dwell, state⟩ := thresholdRegs_shown k.par t
    exact ⟨thresholdRegs k.par t, exec_okOr (g := thresholdSet k.par) rfl rfl hk (if_pos ⟨low, z⟩), level, hyst, dwell, state,
      ((((RegsOnly.refl t).setF _ _).setF _ _).setF _ _).eq⟩
  · exact exec_notOk (g := thresholdSet k.par) rfl rfl hk (if_neg fun h => absurd h.1 (Nat.not_le.2 high))

end Sys2Proof.Machine
end


section
/-!
The role in force: nothing but a reset writes SYS_MODE_ROLE_EFF. Messages, replies, interrupts and faults of the thermal block leave
it as it is, those that end in LOCKDOWN included.
-/

namespace Sys2Proof.Machine

variable {s t : State}

/-- The role in force, as a register file holds it. -/
def roleIn (r : Tab Word) : Nat := R.SYS_MODE_ROLE_EFF.of ((Tab.get r R.SYS_MODE).getD (regReset R.SYS_MODE))

/-- The role in force, as its field reads. -/
def role (s : State) : Nat := roleIn s.regs

theorem role_eq (s : State) : role s = getF s R.SYS_MODE_ROLE_EFF := rfl

theorem sender_congr (h : role t = role s) : sender t = sender s := isSet_congr h

/-- The role of a state whose record is given. -/
theorem role_mk {p o f r m n y l c e i b a v k j z w d x h q u} :
    role (State.mk p o f r m n y l c e i b a v k j z w d x h q u) = roleIn r := rfl

theorem role_setF {f : Fld} {v : Nat} (h : f.apart R.SYS_MODE_ROLE_EFF = true) : role (setF s f v) = role s := getF_setF_other h

theorem role_setB {f : Fld} {b : Bool} (h : f.apart R.SYS_MODE_ROLE_EFF = true) : role (setB s f b) = role s := role_setF h

theorem role_addF {f : Fld} {n : Nat} (h : f.apart R.SYS_MODE_ROLE_EFF = true) : role (addF s f n) = role s := role_setF h

/-- A field of another block is apart from the role. -/
theorem apart_role {f : Fld} (h : f.reg ≠ R.SYS_MODE) : f.apart R.SYS_MODE_ROLE_EFF = true := by
  have ne : R.SYS_MODE ≠ f.reg := fun e => h e.symm
  simp only [Fld.apart, Bool.or_eq_true, decide_eq_true_eq]
  exact .inl ne

theorem role_send (e : Emit) : role (send s e) = role s := rfl

theorem role_foldl {α : Type} {g : State → α → State} (h : ∀ a x, role (g a x) = role a) (l : List α) (s : State) :
    role (l.foldl g s) = role s := by
  induction l generalizing s with
  | nil => rfl
  | cons x l ih => exact (ih _).trans (h s x)

/-! ### Interrupts -/

theorem role_sendVector (v : Nat) (s : State) : role (sendVector v s) = role s := by
  unfold sendVector
  split
  · rfl
  · exact role_setF (by decide)

theorem irqFields_apart_role {src : Nat} {e a : Fld} (h : irqFields src = some (e, a)) :
    e.apart R.SYS_MODE_ROLE_EFF = true := by
  unfold irqFields at h
  split at h
  case h_21 =>
    split at h
    · cases h
      exact apart_role (by simp only [R.TWL_PHY_EVT, R.SYS_MODE, dirKey]; omega)
    · split at h
      · cases h
        exact apart_role (by simp only [R.TWL_LL_EVT, R.SYS_MODE, dirKey]; omega)
      · split at h
        · cases h
          exact apart_role (by simp only [R.TRIG_FIRED, R.SYS_MODE, dirKey, indKey]; omega)
        · cases h
  all_goals
    cases h
    decide

theorem role_raise (n : Nat) (s : State) : role (raise n s) = role s := by
  unfold raise
  split
  · rfl
  · next e _ h =>
    have counted : role (incF s e) = role s := role_addF (irqFields_apart_role h)
    dsimp only
    split
    · exact (role_sendVector _ _).trans counted
    · exact counted

theorem role_setLevel {n : Nat} {f : Fld} {v : Nat} (h : f.apart R.SYS_MODE_ROLE_EFF = true) (s : State) :
    role (setLevel n f v s) = role s := by
  unfold setLevel
  split
  · rfl
  · exact (role_raise _ _).trans (role_setF h)

/-! ### Messages and replies -/

theorem role_portUpd (p : Nat) (g : Port → Port) (s : State) : role (portUpd p g s) = role s := rfl

theorem role_transmit (p : Nat) (m : Msg) (s : State) : role (transmit p m s) = role s := by
  unfold transmit
  dsimp only
  rw [role_send, incF, role_addF, add48, role_setF, role_setF, role_portUpd]
  · exact apart_role (by simp only [R.LINK_FTX_LO, R.SYS_MODE, dirKey, indKey]; omega)
  · exact apart_role (by simp only [R.LINK_FTX_HI, R.SYS_MODE, dirKey, indKey]; omega)
  · exact apart_role (by simp only [R.LINK_MSG_TX, R.SYS_MODE, dirKey, indKey]; omega)

theorem role_pumpN (p n : Nat) (s : State) : role (pumpN p n s) = role s := by
  induction n generalizing s with
  | zero => rfl
  | succ n ih =>
    unfold pumpN
    split
    · rfl
    · exact (ih _).trans ((role_transmit p _ _).trans role_mk)

theorem role_sendMsg (p : Nat) (m : Msg) (s : State) : role (sendMsg p m s) = role s := by
  unfold sendMsg
  split
  · exact (role_pumpN p _ _).trans role_mk
  · rfl

theorem role_sendTo (d : Nat) (m : Msg) (s : State) : role (sendTo d m s) = role s := by
  unfold sendTo
  split
  · exact role_sendMsg _ _ _
  · rfl

theorem role_sendTunnel (d : Nat) (l : List Byte) (s : State) : role (sendTunnel d l s) = role s := by
  unfold sendTunnel
  extract_lets m
  split
  · split
    · exact role_sendMsg _ _ _
    · rfl
  · refine role_foldl (fun a p => ?_) _ _
    split
    · exact role_sendMsg _ _ _
    · rfl

theorem role_mslReply (n : Nat) (d : List Byte) (s : State) : role (mslReply n d s) = role s := by
  unfold mslReply mslAnswer
  split
  · rfl
  · split
    · rfl
    · exact (role_sendTunnel _ _ _).trans role_mk

theorem role_ringPut (k : Pkt) (r n : Nat) (d : List Byte) (s : State) : role (ringPut k r n d s) = role s := by
  unfold ringPut
  extract_lets t a b s1 t' s2
  have moved : role s2 = role s := role_setF (s := s1) (by decide)
  exact (role_raise 2 _).trans (role_mk.trans moved)

theorem role_putReply (k : Pkt) (r n : Nat) (d : List Byte) (s : State) : role (putReply k r n d s) = role s := by
  unfold putReply
  split
  · split
    · exact role_ringPut _ _ _ _ _
    · rfl
  · unfold fifoPut
    extract_lets w
    split <;> exact role_mk
  · unfold vc1Put
    extract_lets m
    split
    · exact role_sendTo _ _ _
    · split
      · exact role_sendMsg _ _ _
      · rfl
  · exact role_mslReply _ _ _

theorem role_keepReply (k : Pkt) (n : Nat) (d : List Byte) (s : State) : role (keepReply k n d (unreserve k s)) = role s := by
  unfold keepReply unreserve
  split <;> split <;> exact role_mk

theorem role_sendFinal (k : Pkt) (b : Bool) (n : Nat) (d : List Byte) (s : State) : role (sendFinal k b n d s) = role s := by
  unfold sendFinal
  split
  · split <;> exact role_mk
  · extract_lets s1
    have kept : role s1 = role s := role_keepReply k n d s
    split
    · exact role_mk.trans kept
    · split
      · exact kept
      · exact (role_putReply _ _ _ _ _).trans kept

/-! ### Twill ports brought down and up -/

theorem role_calReply (p : Nat) (s : State) : role (calReply p s) = role s := by
  unfold calReply
  split
  · rfl
  · split
    · exact (role_sendFinal _ _ _ _ _).trans role_mk
    · rfl

theorem role_calOutcome (p l v : Nat) (s : State) : role (calOutcome p l v s) = role s :=
  (role_calReply p _).trans role_mk

/-- A port's status register is not the mode's. -/
theorem twlPhyStatus_ne (p : Nat) : R.TWL_PHY_STATUS p ≠ R.SYS_MODE := by
  simp only [R.TWL_PHY_STATUS, R.SYS_MODE, dirKey]; omega

theorem role_phyLevel (p : Nat) (hi lo v : Nat) (s : State) :
    role (phyLevel p (fun p => ⟨R.TWL_PHY_STATUS p, hi, lo⟩) v s) = role s :=
  role_setLevel (apart_role (twlPhyStatus_ne p)) s

theorem role_lane (p l hi lo : Nat) (b : Bool) (s : State) : role (setB s ⟨R.LANE_W0 p l, hi, lo⟩ b) = role s :=
  role_setB (apart_role (by simp only [R.LANE_W0, R.SYS_MODE, dirKey, indKey]; omega))

theorem role_phyStatus (p hi lo v : Nat) (s : State) : role (setF s ⟨R.TWL_PHY_STATUS p, hi, lo⟩ v) = role s :=
  role_setF (apart_role (twlPhyStatus_ne p))

theorem role_laneDown (p l : Nat) (s : State) : role (laneUpd p l Lane.fresh (laneLock p l false s)) = role s := by
  rw [laneUpd, role_portUpd, laneLock, phyBit]
  exact (role_phyLevel p _ _ _ _).trans (role_lane p l _ _ _ s)

theorem role_lanesDown (p : Nat) (s : State) : role (lanesDown p s) = role s := by
  unfold lanesDown calAbandon
  dsimp only
  rw [role_portUpd, role_phyLevel, role_foldl fun a l => role_laneDown p l a, role_phyStatus,
    role_foldl fun a l => role_calOutcome p l 2 a, role_portUpd]

theorem role_holdPort (p : Nat) (s : State) : role (holdPort p s) = role s := by
  rw [holdPort, role_send, role_phyStatus, role_lanesDown]

theorem role_startTrain (p n : Nat) (s : State) : role (startTrain p n s) = role s := by
  unfold startTrain
  dsimp only
  rw [role_send, role_phyStatus, role_phyStatus, role_lanesDown]

theorem role_releasePort (p : Nat) (s : State) : role (releasePort p s) = role s := by
  unfold releasePort
  rw [role_startTrain, role_phyLevel, role_phyLevel, role_lane]

theorem role_twillBringUp (s : State) : role (twillBringUp s) = role s :=
  role_foldl (fun a p => by
    split
    · rfl
    · exact role_releasePort p a) _ s

theorem role_twillSilent (s : State) : role (twillSilent s) = role s :=
  role_foldl (fun a p => by
    rw [role_holdPort, role_portUpd, linkLevel]
    exact role_setLevel (apart_role (by simp only [R.TWL_LL_STATUS, R.SYS_MODE, dirKey]; omega)) a) _ s

/-! ### LOCKDOWN -/

theorem role_enterMode (m c : Nat) (s : State) : role (enterMode m c s) = role s := by
  rw [enterMode, role_raise, role_setF (by decide), role_setF (by decide), role_setF (by decide)]

theorem role_sendNotices (n : Nat) (s : State) : role (sendNotices n s) = role s :=
  role_foldl (fun a p => role_foldl (fun b _ => role_sendMsg p _ b) _ a) _ s

theorem role_endDebug (s : State) : role (endDebug s) = role s := by
  unfold endDebug
  extract_lets lvl t _ u
  have kept : role u = role s := role_mk.trans
    ((role_setF (s := setF s R.SEC_STATUS_DEBUG 0) (by decide)).trans (role_setF (by decide)))
  split
  · exact (role_twillBringUp u).trans kept
  · exact kept

theorem role_gpioReset (s : State) : role (gpioReset s) = role s := by
  unfold gpioReset
  dsimp only
  refine role_mk.trans (?_ : role _ = role s)
  rw [role_setF (by decide), role_setF (by decide), role_setF (by decide), role_setF (by decide), role_setF (by decide),
    role_setF (by decide)]

theorem role_pcieOff (n : Nat) (s : State) : role (pcieOff n s) = role s := by
  unfold pcieOff
  dsimp only
  rw [role_setF (by decide), role_setF (by decide), role_setLevel (by decide), role_setLevel (by decide),
    role_setLevel (by decide), role_setLevel (by decide), role_setLevel (by decide)]

theorem role_strandAll (op : Nat) (l : List Nat) (s : State) : role (strandAll op l s) = role s :=
  role_foldl (fun a st => by
    rw [strandSend, role_send]
    exact role_addF (apart_role (by simp only [R.STR_S_PACKETS, R.SYS_MODE, dirKey, indKey]; omega))) _ s

theorem role_strandsStop (s : State) : role (strandsStop s) = role s := by
  unfold strandsStop
  extract_lets t u
  exact role_mk.trans ((role_setF (by decide)).trans ((role_setF (by decide)).trans (role_strandAll 0x4 [] s)))

theorem role_endAll (s : State) : role (endAll s) = role s := by
  unfold endAll
  extract_lets l
  exact (role_foldl (fun a k => role_sendFinal k true St.lockdown [] a) l _).trans role_mk

theorem role_lockdownQuiet (n : Nat) (s : State) : role (lockdownQuiet n s) = role s := by
  rw [lockdownQuiet, role_endDebug, role_gpioReset, role_pcieOff, role_twillSilent]
  split
  · rw [role_sendNotices, role_setF (by decide), role_enterMode]
  · rw [role_strandsStop, role_sendNotices, role_setF (by decide), role_enterMode]

theorem role_enterLockdown (n : Nat) (s : State) : role (enterLockdown n s) = role s := by
  rw [enterLockdown_eq]
  split
  · rfl
  · exact (role_endAll _).trans (role_mk.trans (role_lockdownQuiet n s))

/-! ### Faults of the thermal block, which none contains -/

theorem role_writeRecord (o : Occ) (sev : Nat) (s : State) : role (writeRecord o sev s) = role s := by
  have frec : ∀ {off : Nat} {b hi lo v : Nat} {a : State}, 0x400 ≤ off →
      role (setF a ⟨dirKey 0 (off + 32 * b), hi, lo⟩ v) = role a :=
    fun h => role_setF (apart_role (by simp only [R.SYS_MODE, dirKey]; omega))
  unfold writeRecord
  dsimp only
  rw [role_raise, frec (by decide), frec (by decide), frec (by decide), frec (by decide), frec (by decide), frec (by decide),
    frec (by decide), frec (by decide), frec (by decide)]

theorem role_recordFault (o : Occ) (sev : Nat) (s : State) : role (recordFault o sev s) = role s := by
  unfold recordFault
  split
  · exact role_setF (apart_role (by simp only [R.FREC_W0, R.SYS_MODE, dirKey]; omega))
  · exact role_writeRecord o sev s

theorem role_noteDegraded (o : Occ) (s : State) : role (noteDegraded o s) = role s :=
  (role_setF (by decide)).trans role_mk

theorem role_haltFault (o : Occ) (s : State) : role (haltFault o s) = role s := by
  rw [haltFault, role_enterLockdown, role_setF (by decide), role_setF (by decide)]

theorem role_loseFault (o : Occ) (s : State) : role (loseFault o s) = role s := by
  rw [loseFault, incF, incF, role_addF (by decide)]
  exact role_addF (apart_role (by simp only [R.FREC_LOST, R.SYS_MODE, dirKey]; omega))

theorem role_actFault {o : Occ} (h : containable o.block o.src = false) (busy : Bool) (sev : Nat) (s : State) :
    role (actFault busy sev o s) = role s := by
  have contained : ¬ (sev = 2 ∧ containable o.block o.src = true) := fun e => by simp [h] at e
  unfold actFault
  split
  · rfl
  · split
    · rw [role_haltFault, role_noteDegraded, role_recordFault]
    · split
      · exact role_loseFault o s
      · rw [role_noteDegraded, role_recordFault]

theorem role_occurs {l : List Occ} (h : ∀ o ∈ l, containable o.block o.src = false) (s : State) : role (occurs l s) = role s := by
  have pass : ∀ (keep : Occ → Bool) (g : Occ → Bool) (sev : Nat) (a : State),
      role ((l.filter keep).foldl (fun x o => actFault (g o) sev o x) a) = role a := by
    intro keep g sev
    have all : ∀ o ∈ l.filter keep, containable o.block o.src = false := fun o m => h o (List.mem_of_mem_filter m)
    generalize l.filter keep = r at all
    induction r with
    | nil => exact fun a => rfl
    | cons o r ih =>
      exact fun a => (ih (fun x m => all x (List.mem_cons_of_mem o m)) _).trans (role_actFault (all o List.mem_cons_self) _ _ a)
  unfold occurs
  dsimp only
  rw [pass, pass, pass]

theorem role_tally {f : Fld} {b src : Nat} (h : containable b src = false) (hf : f.apart R.SYS_MODE_ROLE_EFF = true) (d : Nat)
    (s : State) : role (tally f b src d s) = role s :=
  (role_occurs (fun o m => by rw [List.mem_singleton.1 m]; exact h) _).trans (role_addF hf)

theorem role_tallyN {f : Fld} {b src : Nat} (h : containable b src = false) (hf : f.apart R.SYS_MODE_ROLE_EFF = true) (n d : Nat)
    (s : State) : role (tallyN n f b src d s) = role s :=
  role_foldl (fun a _ => role_tally h hf d a) _ s

end Sys2Proof.Machine
end


section
/-!
Samples, thresholds, models, telemetry and budgets (R390 to R424).
-/

namespace Sys2Proof.Machine

variable {s t : State} {k : Pkt}

/-! ### Telemetry -/

/-- A field of a supply's registers is not the role's. -/
theorem role_supField {off hi lo v : Nat} (n : Nat) (s : State) :
    role (setF s ⟨indKey 11 (off + 32 * n), hi, lo⟩ v) = role s :=
  role_setF (apart_role (by simp only [R.SYS_MODE, dirKey, indKey]; omega))

theorem role_putRead {off hi lo : Nat} (n : Nat) (v : Option Nat) (site m : Nat) (s : State) :
    role (putRead ⟨indKey 11 (off + 32 * n), hi, lo⟩ v site m s) = role s := by
  unfold putRead
  split
  · exact role_supField n s
  · rfl

theorem role_supplyStatus (n : Nat) (r : SupplyRead) (s : State) : role (supplyStatus n r s) = role s := by
  unfold supplyStatus
  split
  · rfl
  · next w _ =>
    extract_lets s1 inp _ s2
    have read : role s2 = role s := role_mk.trans (role_supField n s)
    split
    · exact (role_supField n s2).trans read
    · exact read

/-- The supply's VOUT exponent kept, and its failed reads counted. -/
def supplyCounted (k : Nat) (r : SupplyRead) (s : State) : State :=
  let n := failedReads r
  let s0 := match r.vmode with
    | some v => { s with thm := { s.thm with supVmode := Tab.put s.thm.supVmode k v } }
    | none => s
  addF (tallyN n R.THM_PMB_ERR_N 11 10 k s0) (R.THM_SUP_CNT_ERRORS k) n

/-- One more round in which every read failed. -/
def supplyDead (k : Nat) (s : State) : State :=
  { s with thm := { s.thm with supFail := Tab.put s.thm.supFail k (Tab.getD s.thm.supFail k 0 + 1) } }

/-- A round with a read ends the row of failed ones. -/
def supplyAlive (k : Nat) (s : State) : State :=
  setF { s with thm := { s.thm with supFail := Tab.del s.thm.supFail k } } (R.THM_SUP_VALID k) 1

/-- The electrical values read. -/
def supplyValues (k : Nat) (r : SupplyRead) (s : State) : State :=
  putRead (R.THM_SUP_OUT_IOUT k) r.iout 53 1000 (putRead (R.THM_SUP_PIN_PIN k) r.pin 51 1000
    (putRead (R.THM_SUP_POUT_POUT k) r.pout 52 1000 (putRead (R.THM_SUP_IN_VIN k) r.vin 49 10
      (putRead (R.THM_SUP_IN_IIN k) r.iin 50 1000 (supplyStatus k r (supplyAlive k s))))))

/-- The output voltage, by the exponent kept. -/
def supplyVout (k : Nat) (r : SupplyRead) (s : State) : State :=
  match r.vout, Tab.get s.thm.supVmode k with
  | some w, some v => setSat s (R.THM_SUP_OUT_VOUT k) (voutMv v w)
  | _, _ => s

/-- The temperature read. -/
def supplyTemp (k : Nat) (r : SupplyRead) (s : State) : State :=
  match r.temp with
  | some w => setSatI s (R.THM_SUP_TEMP_TEMP k) (inexactI 54 (linear11 w 16).1 (linear11 w 16).2)
  | none => s

theorem supplyRound_eq (k : Nat) (r : SupplyRead) (s : State) : supplyRound k r s =
    if allFailed r then
      (if 3 ≤ Tab.getD (supplyCounted k r s).thm.supFail k 0 + 1 then
        setF (supplyDead k (supplyCounted k r s)) (R.THM_SUP_VALID k) 0 else supplyDead k (supplyCounted k r s))
    else supplyTemp k r (supplyVout k r (supplyValues k r (supplyCounted k r s))) := rfl

theorem role_supplyCounted (n : Nat) (r : SupplyRead) (s : State) : role (supplyCounted n r s) = role s := by
  have named : role (match r.vmode with
      | some v => { s with thm := { s.thm with supVmode := Tab.put s.thm.supVmode n v } }
      | none => s) = role s := by
    cases r.vmode <;> rfl
  exact (role_supField n _).trans ((role_tallyN (by decide) (by decide) _ n _).trans named)

theorem role_supplyValues (n : Nat) (r : SupplyRead) (s : State) : role (supplyValues n r s) = role s := by
  have alive_ : role (supplyAlive n s) = role s := (role_supField n _).trans role_mk
  rw [supplyValues, role_putRead, role_putRead, role_putRead, role_putRead, role_putRead, role_supplyStatus, alive_]

theorem role_supplyVout (n : Nat) (r : SupplyRead) (s : State) : role (supplyVout n r s) = role s := by
  unfold supplyVout
  split
  · exact role_supField n s
  · rfl

theorem role_supplyTemp (n : Nat) (r : SupplyRead) (s : State) : role (supplyTemp n r s) = role s := by
  unfold supplyTemp
  split
  · exact role_supField n s
  · rfl

/-- Reading a supply leaves the role as it is, even where a failed read is a fatal fault. -/
theorem role_supplyRound (n : Nat) (r : SupplyRead) (s : State) : role (supplyRound n r s) = role s := by
  have dead : role (supplyDead n (supplyCounted n r s)) = role s := role_mk.trans (role_supplyCounted n r s)
  rw [supplyRound_eq]
  split
  · split
    · exact (role_supField n _).trans dead
    · exact dead
  · rw [role_supplyTemp, role_supplyVout, role_supplyValues, role_supplyCounted]

/-- The end of a round: whether a supply is valid, and at a tile what the round calls for. -/
def telemetryEnd (s : State) : State :=
  let t := setLevel 15 R.THM_STATUS_TELEM_VALID (if (validSupplies s).isEmpty then 0 else 1) s
  if sender t then t else learnKp (sagCheck (gatherRound t))

/-- A sender's round over its one supply. -/
theorem telemetryRound_sender (r : SupplyRead) (up : alive s = true) (en : isSet s R.THM_CTRL_PMB_EN = true)
    (snd : sender s = true) (one : s.thm.nsup = 1) : exec (.telemetryRound [r]) s = .next
      (setLevel 15 R.THM_STATUS_TELEM_VALID (if (validSupplies (supplyRound 0 r s)).isEmpty then 0 else 1) (supplyRound 0 r s)) := by
  have still (v : Nat) : sender (setLevel 15 R.THM_STATUS_TELEM_VALID v (supplyRound 0 r s)) = true :=
    (sender_congr ((role_setLevel (by decide) _).trans (role_supplyRound 0 r s))).trans snd
  have round : (List.range s.thm.nsup).foldl (fun a k => match [r][k]? with
      | some r => supplyRound k r a
      | none => a) s = supplyRound 0 r s := by
    rw [one]
    rfl
  refine congrArg Host.Outcome.next ((if_neg (by simp [up])).trans ((if_neg (by simp [en])).trans ?_))
  refine (congrArg telemetryEnd round).trans ?_
  exact if_pos (still _)

/-- A supply is valid no longer. -/
def supplyInvalid (s : State) (k : Nat) : State := setF s (R.THM_SUP_VALID k) 0

/-- No supply is valid any longer. -/
def suppliesInvalid (s : State) : State := (List.range 4).foldl supplyInvalid s

theorem suppliesInvalid_regsOnly (s : State) : RegsOnly s (suppliesInvalid s) :=
  foldl_regsOnly (List.range 4) (fun a k => (RegsOnly.refl a).setF (R.THM_SUP_VALID k) 0) s

theorem isSet_supplyInvalid {i k : Nat} (h : isSet s (R.THM_SUP_VALID k) = false ∨ i = k) :
    isSet (supplyInvalid s i) (R.THM_SUP_VALID k) = false := by
  by_cases e : i = k
  · rw [supplyInvalid, e, isSet, getF_setF_self (by rfl)]
    rfl
  · have ne : (R.THM_SUP_VALID k).reg ≠ (R.THM_SUP_VALID i).reg := by
      simp only [R.THM_SUP, indKey]
      omega
    rw [supplyInvalid, isSet, getF_setF_reg _ _ ne]
    exact h.resolve_right e

theorem isSet_foldl_supplyInvalid {n : Nat} {l : List Nat} (h : isSet s (R.THM_SUP_VALID n) = false ∨ n ∈ l) :
    isSet (l.foldl supplyInvalid s) (R.THM_SUP_VALID n) = false := by
  induction l generalizing s with
  | nil => exact h.resolve_right List.not_mem_nil
  | cons i l ih =>
    rw [List.foldl_cons]
    refine ih (h.elim (fun off => .inl (isSet_supplyInvalid (.inl off))) fun m => ?_)
    exact (List.mem_cons.1 m).imp (fun e => isSet_supplyInvalid (.inr e.symm)) id

/-- An alert of the one supply, whose status could be read. -/
theorem pmbAlert_one {r : SupplyRead} {w : Nat} (up : alive s = true) (en : isSet s R.THM_CTRL_PMB_EN = true)
    (one : s.thm.nsup = 1) (hw : r.statusWord = some w) : exec (.pmbAlert [r]) s =
      .next (sagCheck (putRead (R.THM_SUP_IN_VIN 0) r.vin 49 10 (supplyStatus 0 r s))) := by
  refine congrArg Host.Outcome.next ((if_neg (by simp [up, en])).trans ?_)
  rw [one]
  show sagCheck (putRead (R.THM_SUP_IN_VIN 0) r.vin 49 10 (supplyStatus 0 r
    (if r.statusWord.isNone then addF (tally R.THM_PMB_ERR_N 11 10 0 s) (R.THM_SUP_CNT_ERRORS 0) 1 else s))) = _
  rw [hw]
  rfl

/-! ### Samples and thresholds -/

theorem sensorSample_good {x r : Nat} (there : sensorExists s x = true) (lo : -880 ≤ readingOf s x r)
    (hi : readingOf s x r ≤ 2400) : sensorSample x (some r) s = goodSample x (readingOf s x r) s :=
  (if_neg (by simp [there])).trans (if_neg (by omega))

theorem sensorSample_hard {x r : Nat} (there : sensorExists s x = true) (out : readingOf s x r < -880 ∨ 2400 < readingOf s x r) :
    sensorSample x (some r) s = hardFault x s :=
  (if_neg (by simp [there])).trans (if_pos out)

theorem sensorSample_absent {x : Nat} (r : Option Nat) (absent : sensorExists s x = false) : sensorSample x r s = s :=
  if_pos (by simp [absent])

/-- An on-die sensor always answers. -/
theorem sensorSample_die {x : Nat} (h : x < 20) : sensorSample x none s = s := by
  unfold sensorSample
  split
  · rfl
  · rfl

theorem exec_sensorSample (x : Nat) (r : Option Nat) (up : alive s = true) :
    exec (.sensorSample x r) s = .next (sensorSample x r s) :=
  congrArg Host.Outcome.next (if_pos up)

theorem exec_thrDwell {n : Nat} (up : alive s = true) (h : n < 24) : exec (.thresholdDwellExpiry n) s = .next
    (if getF s (R.THM_THRD_STATE n) = 1 then restep (thrEnter n 2 s)
     else if getF s (R.THM_THRD_STATE n) = 3 then restep (thrEnter n 0 s) else s) :=
  congrArg Host.Outcome.next ((if_neg (by simp [up])).trans (if_pos h))

theorem exec_laneDwell {p l : Nat} (up : alive s = true) (hp : p < 8) (hl : l < 4) :
    exec (.thresholdDwellExpiry (32 + (4 * p + l))) s = .next
      (if (Tab.getD s.thm.lanes (4 * p + l) (0, 0)).1 = 1 then laneEnter p l 2 s
       else if (Tab.getD s.thm.lanes (4 * p + l) (0, 0)).1 = 3 then laneEnter p l 0 s else s) := by
  have index : 32 + (4 * p + l) - 32 = 4 * p + l := by omega
  have port : (4 * p + l) / 4 = p := by omega
  have lane : (32 + (4 * p + l)) % 4 = l := by omega
  refine congrArg Host.Outcome.next ((if_neg (by simp [up])).trans ((if_neg (by omega)).trans ((if_pos (by omega)).trans ?_)))
  rw [index, port, lane]

/-! ### Models and the monitor ADC -/

theorem dieModelUpdate_unseeded {rails : List Nat} (up : alive s = true) (h : s.thm.seeded = false) :
    exec (.dieModelUpdate rails) s = .next (setSat s R.THM_CHIP_MW_MW rails.sum) :=
  congrArg Host.Outcome.next ((if_neg (by simp [up])).trans (if_pos (by
    show (!(setSat s R.THM_CHIP_MW_MW rails.sum).thm.seeded) = true
    rw [setSat, setF_thm, h]
    rfl)))

/-- The value that a code of the first monitor channel stands for. -/
def amonValue (w : Nat) (s : State) : Int :=
  inexactI 57 ((w : Int) * signed 32 (u32 (Tab.getD s.thm.amon 0 (zeros 8)) 0) +
    signed 32 (u32 (Tab.getD s.thm.amon 0 (zeros 8)) 4)) 65536

/-- A conversion of the first monitor channel, as its register shows it. -/
def amonShown (w : Nat) (s : State) : State :=
  setSatI (setF s (R.THM_AMON_CODE 0) w) (R.THM_AMON_VALUE 0) (amonValue w s)

theorem amonShown_regsOnly (w : Nat) (s : State) : RegsOnly s (amonShown w s) :=
  ((RegsOnly.refl s).setF (R.THM_AMON_CODE 0) w).setF (R.THM_AMON_VALUE 0) _

theorem getF_amonShown {w : Nat} (h : w < 4096) : getF (amonShown w s) (R.THM_AMON_CODE 0) = w :=
  (getF_setF_other (by decide)).trans ((getF_setF_self (by decide)).trans (Nat.mod_eq_of_lt h))

theorem thrOff_amonShown (w n : Nat) : thrOff (amonShown w s) n = thrOff s n := by
  have level : getF (amonShown w s) (R.THM_THR_LEVEL n) = getF s (R.THM_THR_LEVEL n) := by
    have ne : R.THM_THR n ≠ R.THM_AMON 0 := by
      simp only [R.THM_THR, R.THM_AMON, dirKey, indKey]
      omega
    exact (getF_setF_reg _ _ ne).trans (getF_setF_reg _ _ ne)
  rw [thrOff, thrOff, level]

/-- The conversion of channel k, where a code is given for it. -/
def adcConvert (codes : List Nat) (s : State) (k : Nat) : State :=
  match codes[k]? with
  | none => s
  | some c =>
    let code := Config.adcCorrect (c % 4096) (getI s (R.THM_SENS_USED 3)) % 4096
    let set := Tab.getD s.thm.amon k (zeros 8)
    let v := inexactI 57 ((code : Int) * signed 32 (u32 set 0) + signed 32 (u32 set 4)) 65536
    let b := setSatI (setF s (R.THM_AMON_CODE k) code) (R.THM_AMON_VALUE k) v
    thrJudge (9 + 2 * k) v (thrJudge (8 + 2 * k) v b)

theorem exec_adcStart (codes : List Nat) (s : State) : exec (.adcStart codes) s =
    .next (if !alive s then s else (List.range 8).foldl (adcConvert codes) s) := rfl

theorem foldl_adcConvert_none {codes l : List Nat} (h : ∀ k ∈ l, codes[k]? = none) (s : State) :
    l.foldl (adcConvert codes) s = s := by
  induction l with
  | nil => rfl
  | cons k l ih =>
    have same : adcConvert codes s k = s := by rw [adcConvert, h k List.mem_cons_self]
    rw [List.foldl_cons, same]
    exact ih fun k m => h k (List.mem_cons_of_mem _ m)

theorem adcConvert_first (v : Nat) (s : State) : adcConvert [v] s 0 =
    thrJudge 9 (amonValue (Config.adcCorrect (v % 4096) (getI s (R.THM_SENS_USED 3)) % 4096) s)
      (thrJudge 8 (amonValue (Config.adcCorrect (v % 4096) (getI s (R.THM_SENS_USED 3)) % 4096) s)
        (amonShown (Config.adcCorrect (v % 4096) (getI s (R.THM_SENS_USED 3)) % 4096) s)) := rfl

theorem thrJudge_amonShown {n : Nat} (off : thrOff s n = true) (w : Nat) (x : Int) :
    thrJudge n x (amonShown w s) = amonShown w s :=
  if_pos ((thrOff_amonShown w n).trans off)

theorem adcStart_first {v : Nat} (up : alive s = true) (hv : v < 4096) (lo : thrOff s 8 = true) (hi : thrOff s 9 = true) :
    exec (.adcStart [v]) s = .next (amonShown (Config.adcCorrect v (getI s (R.THM_SENS_USED 3)) % 4096) s) := by
  have first : List.range 8 = 0 :: [1, 2, 3, 4, 5, 6, 7] := rfl
  rw [exec_adcStart, if_neg (by simp [up]), first, List.foldl_cons, foldl_adcConvert_none (by simp), adcConvert_first,
    thrJudge_amonShown lo, thrJudge_amonShown hi, Nat.mod_eq_of_lt hv]

theorem setSat_fits {f : Fld} {v : Nat} (hf : f.inWord = true) (h : v < 2 ^ f.width) : getF (setSat s f v) f = v := by
  have le : min v (2 ^ f.width - 1) = v := by omega
  rw [setSat, getF_setF_self hf, le, Nat.mod_eq_of_lt h]

/-! ### Budgets -/

/-- The time of a lowered slot's echo is over: it counts as silent, and its feed's increases are not sent. -/
def echoSilent (i : Nat) (e : Slot) (s : State) : State :=
  let t := feedSlotUpd i (fun g => { g with silent := true }) s
  { t with thm := { t.thm with heldBack := Tab.del t.thm.heldBack (u8 e.entry 4) } }

theorem budgetEchoTimeout_lowered {i : Nat} {e : Slot} (run : running s = true) (snd : sender s = true)
    (h : Tab.get s.cel.slots i = some e) (low : (feedSlot s i).lowered.isSome = true) :
    exec (.budgetEchoTimeout i) s = .next (echoSilent i e s) := by
  have some_ : (feedSlot s i).lowered.isNone = false := by
    rw [← Option.not_isSome, low]
    rfl
  refine congrArg Host.Outcome.next ?_
  rw [h]
  exact if_neg (by simp [run, snd, some_])

theorem feedSlot_echoSilent (i : Nat) (e : Slot) (s : State) :
    (feedSlot (echoSilent i e s) i).silent = true :=
  congrArg (fun o : Option FeedSlot => (o.getD FeedSlot.empty).silent) (Tab.get_put_same _ _ _)

/-- The tile's floor as its budget, and no other waiting. -/
def floorBudget (b : BudgetMsg) (s : State) : State :=
  setF { s with thm := { s.thm with budget := some { b with b := b.floor }, budgetNext := none } } R.THM_BSEQ_BSEQ b.bseq

theorem showBudget_regsOnly (s : State) : RegsOnly s (showBudget s) := by
  unfold showBudget
  split
  · exact (RegsOnly.refl s).setF _ _
  · exact .refl s

theorem budgetHoldExpiry_floor {b : BudgetMsg} (up : alive s = true) (tile : sender s = false)
    (safe : isSet s R.THM_STATUS_SAFE = false) (next : s.thm.budgetNext = none) (now : s.thm.budget = some b) :
    exec .budgetHoldExpiry s = .next (thmLevel R.THM_STATUS_SAFE 4 true (showBudget (floorBudget b s))) := by
  refine congrArg Host.Outcome.next ((if_neg (by simp [up, tile, safe])).trans ?_)
  rw [next, now]
  rfl

theorem showBudget_floorBudget (b : BudgetMsg) (s : State) :
    (showBudget (floorBudget b s)).thm = { s.thm with budget := some { b with b := b.floor }, budgetNext := none } ∧
      (showBudget (floorBudget b s)).mem = s.mem ∧ (showBudget (floorBudget b s)).dmk = s.dmk := by
  obtain ⟨r, h⟩ := showBudget_regsOnly (floorBudget b s)
  rw [h]
  exact ⟨rfl, rfl, rfl⟩

/-- O_T as the mean of the rounds kept. -/
def overheadShown (s : State) : State := setSat s R.THM_KP_O_T (inexact 56 s.thm.ot.sum (1000 * s.thm.ot.length))

/-- The rounds are kept no longer. -/
def overheadDone (s : State) : State := { s with thm := { s.thm with ot := [] } }

theorem overheadShown_regsOnly (s : State) : RegsOnly s (overheadShown s) := (RegsOnly.refl s).setF R.THM_KP_O_T _

theorem overheadMeasurement_mean (run : running s = true) (tile : sender s = false) (h : s.thm.ot ≠ []) :
    exec .overheadMeasurement s = .next (overheadDone (overheadShown s)) := by
  have some_ : s.thm.ot.isEmpty = false := by simpa using h
  exact congrArg Host.Outcome.next (if_neg (by simp [run, tile, some_]))

theorem overheadDone_shown (s : State) : overheadDone (overheadShown s) =
    { s with regs := (overheadDone (overheadShown s)).regs, thm := { s.thm with ot := [] } } := by
  obtain ⟨r, h⟩ := overheadShown_regsOnly s
  rw [h]
  rfl

theorem not_inReset_of_alive (up : alive s = true) : inReset s = false := by
  simp only [alive, Bool.and_eq_true, Bool.not_eq_true'] at up
  exact up.1

theorem zoneModelUpdate_steps (up : alive s = true) (tile : sender s = false)
    (h : mode s = mStandby ∨ mode s = mService ∨ mode s = mHold) :
    exec .zoneModelUpdate s = .next (zoneJudge (zoneStep 10000000 (litScale s) s)) :=
  congrArg Host.Outcome.next (if_neg (by
    rcases h with h | h | h <;> simp [tile, not_inReset_of_alive up, h]))

theorem zoneModelUpdate_show (h : mode s = mShow) : exec .zoneModelUpdate s = .next s :=
  congrArg Host.Outcome.next (if_pos (by rw [h]; simp [mShow, mStandby, mService, mHold]))

/-- Settles O52: each event under the condition that lets it act. -/
theorem thermalEvents : Obligations.ThermalEvents := by
  unfold Obligations.ThermalEvents
  refine ⟨fun s up => ⟨?_, ?_, ?_, ?_, ?_, ?_, ?_, ?_, ?_, ?_, ?_, ?_, ?_, ?_⟩, fun s run snd => ⟨?_, ?_, ?_, ?_, ?_⟩,
    fun s run tile => ⟨?_, ?_, ?_, ?_⟩, fun s up tile => ⟨zoneModelUpdate_steps up tile, zoneModelUpdate_show, ?_, ?_⟩⟩
  · exact fun x r there => ⟨fun lo hi => (exec_sensorSample x _ up).trans (congrArg _ (sensorSample_good there lo hi)),
      fun out => (exec_sensorSample x _ up).trans (congrArg _ (sensorSample_hard there out))⟩
  · exact fun x r absent => (exec_sensorSample x r up).trans (congrArg _ (sensorSample_absent r absent))
  · exact fun x h => (exec_sensorSample x none up).trans (congrArg _ (sensorSample_die h))
  · exact fun n h => ⟨fun e => (exec_thrDwell up h).trans (congrArg _ (if_pos e)),
      fun e => (exec_thrDwell up h).trans (congrArg _ ((if_neg (by omega)).trans (if_pos e))),
      fun e1 e3 => (exec_thrDwell up h).trans (congrArg _ ((if_neg e1).trans (if_neg e3)))⟩
  · exact fun p l hp hl => ⟨fun e => (exec_laneDwell up hp hl).trans (congrArg _ (if_pos e)),
      fun e => (exec_laneDwell up hp hl).trans (congrArg _ ((if_neg (by omega)).trans (if_pos e)))⟩
  · exact fun h rails small => ⟨_, dieModelUpdate_unseeded up h, setSat_fits (by decide) small, rfl⟩
  · exact congrArg Host.Outcome.next (if_neg (by simp [up]))
  · rintro v w hv rfl lo hi
    exact ⟨_, adcStart_first up hv lo hi, getF_amonShown (Nat.mod_lt _ (by decide)), (amonShown_regsOnly _ s).eq⟩
  · exact fun snd l => congrArg Host.Outcome.next (if_pos (by simp [snd]))
  · intro tile r one
    refine congrArg Host.Outcome.next ((if_neg (by simp [up, tile])).trans ?_)
    rw [one]
    rfl
  · exact fun off l => congrArg Host.Outcome.next (if_pos (by simp [off]))
  · exact fun on one r w hw => pmbAlert_one up on one hw
  · exact fun off => ⟨suppliesInvalid s, fun l => congrArg Host.Outcome.next ((if_neg (by simp [up])).trans (if_pos (by simp [off]))),
      fun n h => isSet_foldl_supplyInvalid (.inr (List.mem_range.2 h)), (suppliesInvalid_regsOnly s).eq⟩
  · exact fun on snd one r => ⟨_, telemetryRound_sender r up on snd one, rfl⟩
  · exact fun f => ⟨congrArg Host.Outcome.next (if_pos (by simp [run, snd])), fun h => if_pos (by simp [h])⟩
  · exact fun f h => congrArg Host.Outcome.next (if_pos (by rw [run, snd, h]; rfl))
  · exact fun f h => congrArg Host.Outcome.next (if_neg (by rw [run, snd, h]; decide))
  · exact congrArg Host.Outcome.next (if_neg (by simp [run, snd]))
  · exact fun i e h low => ⟨_, budgetEchoTimeout_lowered run snd h low, feedSlot_echoSilent i e s, Tab.get_del_same _ _, rfl, rfl⟩
  · intro num
    refine congrArg Host.Outcome.next ((if_neg (by simp [run, tile])).trans ?_)
    rw [sendDemand, if_neg (by simp [run, tile, num])]
  · intro num
    refine congrArg Host.Outcome.next ((if_neg (by simp [run, tile])).trans ?_)
    rw [sendDemand, if_pos (by simp [num])]
  · exact fun h => congrArg Host.Outcome.next (if_pos (by simp [h]))
  · exact fun h => ⟨_, overheadMeasurement_mean run tile h, rfl, overheadDone_shown s⟩
  · exact fun safe => congrArg Host.Outcome.next (if_pos (by simp [safe]))
  · intro b safe next now
    obtain ⟨thm, mem, dmk⟩ := showBudget_floorBudget b s
    exact ⟨_, budgetHoldExpiry_floor up tile safe next now, by rw [thm], by rw [thm], mem, dmk⟩

end Sys2Proof.Machine
end


section
/-!
Ownership (R431 to R435): commands on the secure store in use.
-/

namespace Sys2Proof.Machine

variable {s t : State} {k : Pkt} {c : Option (List Byte)} {o : Store}

/-! ### The store in use -/

/-- The store in use replaced. -/
def storePut (o : Store) (s : State) : State := { s with nv := { s.nv with store := some o } }

theorem storeUpd_some {f : Store → Store} (h : storeOf t = some o) : storeUpd f t = storePut (f o) t := by
  rw [storeUpd, h]
  rfl

theorem storeOf_storePut {p : Store} (h : storeOf t = some o) : storeOf (storePut p t) = some p := by
  unfold storeOf at h ⊢
  split at h
  · next e => exact if_pos e
  · cases h

theorem pflag_of_storeOf {i : Nat} (h : storeOf t = some o) : pflag t i = o.pflags.testBit i := by
  rw [pflag, h]

/-- The state that the first enrolment leaves before the links are rekeyed. -/
def enrolled (k : Pkt) (t : State) : State :=
  { t with nv := { t.nv with store := some (newStore (sub k.par 0 96) (envCounter k)), storeGood := true, restricted := false }
           sec := { t.sec with loaded := true } }

theorem enrolOwner_first (hk : ready s k 0 c t) (h : ostate t = 0) (good : t.nv.storeGood = true) :
    exec (.enrolOwner k) s = .next (finish k St.ok [] (rekeyAll (enrolled k t))) := by
  refine exec_done rfl hk ?_
  simp only [h, good, Bool.not_true, Bool.and_false, Bool.false_eq_true, if_false]
  rfl

theorem enrolOwner_same (hk : ready s k 0 c t) (owned : ostate t = 1) (h : storeOf t = some o) (e : o.owner = sub k.par 0 96) :
    exec (.enrolOwner k) s = .next (finish k St.ok [] t) := by
  refine exec_done rfl hk ?_
  simp [owned, h, e]

theorem enrolOwner_other (hk : ready s k 0 c t) (owned : ostate t = 1) (h : storeOf t = some o) (e : o.owner ≠ sub k.par 0 96) :
    exec (.enrolOwner k) s = .next (finish k St.badState [] t) := by
  refine exec_refused rfl hk ?_
  simp [owned, h, e]

/-! ### Rotation and delegates -/

theorem rotateOwner_proved (hk : ready s k 0 c t) (h : storeOf t = some o)
    (proof : Config.ecdsaVerify (sub k.par 0 96) (certId t ++ sub k.body 0x10 8) (sub k.par 96 96) = true) :
    exec (.rotateOwner k) s = .next (finish k St.ok [] (rekeyAll (storePut { o with
      owner := sub k.par 0 96, lastCtr := (List.range 9).map (fun i => (i, envCounter k)) } t))) :=
  exec_done rfl hk ((if_neg (by simp [proof])).trans (by rw [storeUpd_some h]))

theorem rotateOwner_unproved (hk : ready s k 0 c t)
    (proof : Config.ecdsaVerify (sub k.par 0 96) (certId t ++ sub k.body 0x10 8) (sub k.par 96 96) = false) :
    exec (.rotateOwner k) s = .next (finish k St.sigBad [] t) :=
  exec_refused rfl hk (if_pos (by simp [proof]))

/-- Every signer slot starts at the counter of the rotation. -/
theorem get_lastCtr (x : Nat) {i : Nat} (h : i < 9) : Tab.get ((List.range 9).map (fun i => (i, x))) i = some x := by
  interval_cases i <;> rfl

/-- A delegate entered, or removed by a key of zeros. -/
def delegateSet (k : Pkt) (o : Store) : Store :=
  { o with delegates := (if (sub k.par 4 96).all (· == 0) then Tab.del o.delegates (k.p8 0)
      else Tab.put o.delegates (k.p8 0) (sub k.par 4 96, k.p8 1)) }

theorem setDelegate_stores (hk : ready s k 0 c t) (h : storeOf t = some o) (lo : 1 ≤ k.p8 0) (hi : k.p8 0 ≤ 8)
    (mask : k.p8 1 < 16) (even : k.p8 1 % 2 = 0) (z : zeroAt k.par 2 2 = true) :
    exec (.setDelegate k) s = .next (finish k St.ok [] (storePut (delegateSet k o) t)) := by
  have good : ¬ (k.p8 0 = 0 ∨ 8 < k.p8 0 ∨ k.p8 1 % 2 = 1 ∨ 16 ≤ k.p8 1 ∨ (!parZero k 2 2) = true) := by
    rw [parZero, z]
    simp only [Bool.not_true, Bool.false_eq_true, or_false]
    omega
  exact exec_done rfl hk ((if_neg good).trans (congrArg (fun u => Res.ok u []) (storeUpd_some h)))

theorem setDelegate_badParam (hk : ready s k 0 c t)
    (h : k.p8 0 = 0 ∨ 8 < k.p8 0 ∨ k.p8 1 % 2 = 1 ∨ 16 ≤ k.p8 1) :
    exec (.setDelegate k) s = .next (finish k St.badParam [] t) := by
  refine exec_refused rfl hk (if_pos ?_)
  simp only [← or_assoc] at h ⊢
  exact .inl h

/-! ### Lists, policies and roots -/

/-- An empty deny list denies no peer; without a session no link is lost anyway. -/
theorem setDenyList_empty (hk : ready s k 0 c t) (h : storeOf t = some o) (none_ : k.p8 0 = 0) (z : zeroAt k.par 1 3 = true)
    (quiet : ∀ p, (portOf t p).session = none) :
    exec (.setDenyList k) s = .next (finish k St.ok [] (storePut { o with deny := [] } t)) := by
  have listed : storeUpd (fun st => { st with deny := (List.range (k.p8 0)).map (fun i => sub k.par (4 + 16 * i) 16) }) t =
      storePut { o with deny := [] } t := by
    rw [storeUpd_some h, none_]
    rfl
  have noSession : ports.filter (fun p => (portOf (storePut { o with deny := [] } t) p).session.isSome) = [] := by
    refine List.filter_eq_nil_iff.2 fun p _ => ?_
    show ¬ (portOf t p).session.isSome = true
    rw [quiet p]
    decide
  refine exec_later rfl hk ((if_neg (by simp [none_, parZero, z])).trans ?_)
  dsimp only
  rw [listed, noSession]
  rfl

theorem loadModuleSigner_removes (hk : ready s k 0 c t) (h : storeOf t = some o) (slot : k.p8 0 < 16)
    (z : zeroAt k.par 1 3 = true) (zeros : (k.par.drop 4).all (· == 0) = true) :
    exec (.loadModuleSigner k) s = .next (finish k St.ok [] (storePut { o with signers := Tab.del o.signers (k.p8 0) } t)) :=
  exec_done rfl hk ((if_neg (by simp [parZero, z, slot])).trans ((if_pos zeros).trans (by rw [storeUpd_some h])))

theorem loadModuleSigner_stores (hk : ready s k 0 c t) (h : storeOf t = some o) (slot : k.p8 0 < 16)
    (z : zeroAt k.par 1 3 = true) (some_ : (k.par.drop 4).all (· == 0) = false)
    (chain : chainUnder t (sub (k.par.drop 4) 0 96) (sub (k.par.drop 4) 96 256) (sub (k.par.drop 4) 352 256) useModule = true) :
    exec (.loadModuleSigner k) s = .next (finish k St.ok []
      (storePut { o with signers := Tab.put o.signers (k.p8 0) (sub (k.par.drop 4) 96 512) } t)) :=
  exec_done rfl hk ((if_neg (by simp [parZero, z, slot])).trans ((if_neg (by rw [some_]; decide)).trans
    ((if_neg (by rw [chain]; decide)).trans (by rw [storeUpd_some h]))))

/-- The policies of set-policy in force. -/
def policySet (k : Pkt) (o : Store) : Store :=
  { o with policies := (List.range 11).map (fun i => k.p8 i), pflags := k.p8 11, rekeyH := k.p8 12 }

theorem setPolicy_stores (hk : ready s k 0 c t) (h : storeOf t = some o) (ok : policyOk k.par = true) :
    exec (.setPolicy k) s = .next (finish k St.ok [] (
      if o.pflags.testBit 0 = (k.p8 11).testBit 0 ∧ o.pflags.testBit 1 = (k.p8 11).testBit 1 then storePut (policySet k o) t
      else rekeyAll (storePut (policySet k o) t))) := by
  have flag (i : Nat) : pflag (storePut (policySet k o) t) i = (k.p8 11).testBit i := pflag_of_storeOf (storeOf_storePut h)
  refine exec_done rfl hk ((if_neg (by rw [ok]; decide)).trans ?_)
  dsimp only
  rw [storeUpd_some h]
  show Res.ok (if pflag t 0 = pflag (storePut (policySet k o) t) 0 ∧ pflag t 1 = pflag (storePut (policySet k o) t) 1
    then storePut (policySet k o) t else rekeyAll (storePut (policySet k o) t)) [] = _
  simp only [flag, pflag_of_storeOf h]

/-- The root slots that stay once r is revoked. -/
def rootsLeft (r : Nat) (t : State) : List Nat :=
  [0, 1, 2, 3].filter (fun i => (Tab.get t.nv.roots i).isSome && !t.nv.revoked.testBit i && i != r)

theorem rootsLeft_some {r b : Nat} {x : List Byte} (h : b < 4) (other : r ≠ b) (live : t.nv.revoked.testBit b = false)
    (fused : Tab.get t.nv.roots b = some x) : (rootsLeft r t).isEmpty = false := by
  have mem : b ∈ rootsLeft r t := by
    refine List.mem_filter.2 ⟨?_, by simp [live, fused, other.symm]⟩
    simp only [List.mem_cons, List.not_mem_nil, or_false]
    omega
  rw [List.isEmpty_eq_false_iff]
  exact List.ne_nil_of_mem mem

theorem rootsLeft_none {r : Nat} (h : ∀ i, i < 4 → i ≠ r → Tab.get t.nv.roots i = none ∨ t.nv.revoked.testBit i = true) :
    (rootsLeft r t).isEmpty = true := by
  rw [List.isEmpty_iff, rootsLeft, List.filter_eq_nil_iff]
  intro i hi
  by_cases e : i = r
  · simp [e]
  · rcases h i (by simp at hi; omega) e with empty | gone
    · simp [empty]
    · simp [gone]

theorem revokeRoot_revokes (hk : ready s k 0 c t) (hr : k.p8 0 < 4) (hb : k.p8 1 < 4) (other : k.p8 0 ≠ k.p8 1)
    (z : zeroAt k.par 2 2 = true) (live : t.nv.revoked.testBit (k.p8 1) = false)
    (fused : Tab.get t.nv.roots (k.p8 1) = some (Config.sha384 (sub k.par 4 96)))
    (proof : Config.ecdsaVerify (sub k.par 4 96) (ascii "MRRV" ++ leBytes 1 (k.p8 0)) (sub k.par 100 96) = true) :
    exec (.revokeRoot k) s = .next (finish k St.ok []
      { t with nv := { t.nv with revoked := t.nv.revoked ||| 2 ^ k.p8 0 } }) := by
  have left : ((rootsLeft (k.p8 0) t).isEmpty) = false := rootsLeft_some hb other live fused
  have good : ¬ (4 ≤ k.p8 0 ∨ 4 ≤ k.p8 1 ∨ k.p8 0 = k.p8 1 ∨ (!parZero k 2 2) = true ∨ (rootsLeft (k.p8 0) t).isEmpty = true) := by
    rw [parZero, z, left]
    simp only [Bool.not_true, Bool.false_eq_true, or_false]
    omega
  exact exec_done rfl hk ((if_neg good).trans (if_neg (by simp [live, fused, proof])))

theorem revokeRoot_last (hk : ready s k 0 c t)
    (h : ∀ i, i < 4 → i ≠ k.p8 0 → Tab.get t.nv.roots i = none ∨ t.nv.revoked.testBit i = true) :
    exec (.revokeRoot k) s = .next (finish k St.badParam [] t) :=
  exec_refused rfl hk (if_pos (.inr (.inr (.inr (.inr (rootsLeft_none h))))))

/-- Settles O53: each command of ownership on the store in use. -/
theorem ownershipCommands : Obligations.OwnershipCommands := by
  unfold Obligations.OwnershipCommands
  refine fun s t k c hk => ⟨?_, fun o owned h => ⟨enrolOwner_same hk owned h, enrolOwner_other hk owned h,
    rotateOwner_unproved hk, ?_, ?_, setDelegate_badParam hk, setDenyList_empty hk h, loadModuleSigner_removes hk h,
    loadModuleSigner_stores hk h, ?_, ?_⟩, fun bad => exec_refused rfl hk (if_pos (by rw [bad]; rfl)), exec_later rfl hk rfl, ?_,
    fun _ none_ => revokeRoot_last hk none_⟩
  · rintro u rfl free good
    exact ⟨enrolOwner_first hk free good, rfl⟩
  · exact fun proof => ⟨_, rotateOwner_proved hk h proof, fun i hi => get_lastCtr _ hi⟩
  · intro lo hi mask even z
    have stored := setDelegate_stores hk h lo hi mask even z
    refine ⟨fun key => ?_, fun key => ?_⟩ <;> rw [delegateSet, key] at stored <;> exact stored
  · rintro ok u rfl
    refine ⟨fun same => ?_, fun other => ?_⟩
    · exact (setPolicy_stores hk h ok).trans (by rw [if_pos ⟨(same 0 (by decide)).symm, (same 1 (by decide)).symm⟩]; rfl)
    · exact (setPolicy_stores hk h ok).trans (by rw [if_neg fun e => other e.1.symm]; rfl)
  · exact exec_done rfl hk (congrArg (fun u => Res.ok u []) (storeUpd_some h))
  · intro hr hb other z live fused proof
    refine ⟨_, revokeRoot_revokes hk hr hb other z live fused proof, ?_, ?_, rfl⟩
    · simp [Nat.testBit_or]
    · intro i hi
      simp [Nat.testBit_or, hi.symm]

end Sys2Proof.Machine
end


section
/-!
The configuration store (R512 to R518): items and generations.
-/

namespace Sys2Proof.Machine

variable {s t u : State} {k : Pkt} {n : Nat} {c : Option (List Byte)} {f : Fetch}

/-! ### Items -/

theorem configSet_one (hk : ready s k 0 c t) (item : k.p16 0 = 1) (inst : k.p8 2 = 0) (z3 : zeroAt k.par 3 1 = true)
    (z6 : zeroAt k.par 6 2 = true) (size : (k.par.drop 8).length = 4) (snd : sender t = true)
    (num : u32 (k.par.drop 8) 0 < 4095) : exec (.configSet k) s = .next (finish k St.ok [] (setItem 1 0 (k.par.drop 8) t)) := by
  have sized : itemSizeOk 1 (k.par.drop 8) = true := by simp [itemSizeOk, size]
  have role_ : itemInRole (sender t) 1 = true := snd
  refine exec_done rfl hk ((if_neg ?_).trans ((if_neg ?_).trans ((if_neg ?_).trans ?_)))
  · rw [parZero, parZero, z3, z6, item, inst]
    decide
  · rw [item, role_]
    decide
  · rw [item, sized]
    simp only [Bool.not_true, Bool.false_eq_true, true_and, false_or]
    omega
  · rw [item, inst]

theorem configSet_number (hk : ready s k 0 c t) (item : k.p16 0 = 1) (snd : sender t = true)
    (num : 4095 ≤ u32 (k.par.drop 8) 0) : exec (.configSet k) s = .next (finish k St.badParam [] t) := by
  have role_ : itemInRole (sender t) (k.p16 0) = true := by rw [item]; exact snd
  refine exec_refused rfl hk ?_
  dsimp only
  split
  · rfl
  · rw [if_neg (by rw [role_]; decide), if_pos (.inr ⟨item, num⟩)]

theorem configSet_tile (hk : ready s k 0 c t) (item : k.p16 0 = 1) (inst : k.p8 2 = 0) (z3 : zeroAt k.par 3 1 = true)
    (z6 : zeroAt k.par 6 2 = true) (tile : sender t = false) :
    exec (.configSet k) s = .next (finish k St.unsupported [] t) := by
  have role_ : itemInRole (sender t) 1 = false := tile
  refine exec_refused rfl hk ((if_neg ?_).trans (if_pos ?_))
  · rw [parZero, parZero, z3, z6, item, inst]
    decide
  · rw [item, role_]
    decide

theorem configSet_other (hk : ready s k 0 c t) (one : k.p16 0 ≠ 1) (preset : k.p16 0 ≠ 0x40) :
    exec (.configSet k) s = .next (finish k St.badParam [] t) :=
  exec_refused rfl hk (if_pos (.inl ⟨one, preset⟩))

/-- What config-get returns ahead of an item's data. -/
def itemHead (x : Nat) (d : List Byte) : List Byte := leBytes 2 x ++ zeros 2 ++ leBytes 2 d.length ++ zeros 2

theorem itemHead_length (x : Nat) (d : List Byte) : (itemHead x d).length = 8 := by
  simp [itemHead, zeros]

theorem configGet_inline {x : Nat} {d : List Byte} (known : itemKnown (k.p16 0) (k.p8 2) = true) (which : k.p8 3 ≤ 2)
    (item : itemWhich t (k.p8 3) (k.p16 0) (k.p8 2) = (x, d)) (short : k.par.length = 4) (fits : d.length ≤ 4072)
    (hk : ready s k (8 + d.length) c t) : exec (.configGet k f) s = .next (finish k St.ok (itemHead x d ++ d) t) := by
  have size : (itemHead x d ++ d).length = 8 + d.length := by rw [List.length_append, itemHead_length]
  refine exec_answered (f := f) rfl (by rw [size]; exact hk) ?_
  refine (if_neg (by simp [known, which])).trans ?_
  rw [item]
  exact (if_pos short).trans (if_neg (by simpa using fits))

theorem configGet_written {x : Nat} {d : List Byte} (known : itemKnown (k.p16 0) (k.p8 2) = true) (which : k.p8 3 ≤ 2)
    (item : itemWhich t (k.p8 3) (k.p16 0) (k.p8 2) = (x, d)) (long : k.par.length ≠ 4) (hk : ready s k 8 c t)
    (written : refWrite t (refAt k.par 4) d f = .ok u) : exec (.configGet k f) s = .next (finish k St.ok (itemHead x d) u) := by
  refine exec_answered (f := f) rfl (by rw [itemHead_length]; exact hk) ?_
  refine (if_neg (by simp [known, which])).trans ?_
  rw [item]
  refine (if_neg long).trans ?_
  dsimp only
  rw [written]
  rfl

theorem configGet_unknown (hk : ready s k 0 c t) (h : itemKnown (k.p16 0) (k.p8 2) = false) :
    exec (.configGet k f) s = .next (finish k St.badParam [] t) :=
  exec_refused (f := f) rfl hk (if_pos (.inl (by rw [h]; rfl)))

/-! ### Generations -/

/-- The slots of the two newest generations. -/
def newestSlots (s : State) : List Nat :=
  ((currentGen s).map Prod.fst).toList ++ ((previousGen s).map Prod.fst).toList

theorem newestSlots_length (s : State) : (newestSlots s).length ≤ 2 := by
  have one : ∀ o : Option Nat, o.toList.length ≤ 1 := fun o => by cases o <;> simp
  rw [newestSlots, List.length_append]
  exact Nat.add_le_add (one _) (one _)

/-- Of three slots one is free of the two newest generations. -/
theorem exists_free_slot (s : State) : ∃ i < 8, (newestSlots s).contains i = false := by
  by_contra none_
  have used : [0, 1, 2] ⊆ newestSlots s := by
    intro i hi
    have small : i < 8 := by simp at hi; omega
    by_contra out
    exact none_ ⟨i, small, by simpa using out⟩
  have := (List.subperm_of_subset (by decide : [0, 1, 2].Nodup) used).length_le
  have := newestSlots_length s
  simp at *
  omega

theorem nextGenSlot_free (s : State) : nextGenSlot s < 8 ∧ (newestSlots s).contains (nextGenSlot s) = false := by
  obtain ⟨i, small, free⟩ := exists_free_slot s
  have mem : i ∈ idxs 8 (fun i => !(newestSlots s).contains i) :=
    List.mem_filter.2 ⟨List.mem_range.2 small, by rw [free]; rfl⟩
  have first : nextGenSlot s = ((idxs 8 (fun i => !(newestSlots s).contains i)).head?).getD 0 := rfl
  cases h : (idxs 8 (fun i => !(newestSlots s).contains i)).head? with
  | none => rw [List.head?_eq_none_iff.1 h] at mem; cases mem
  | some j =>
    obtain ⟨range, unused⟩ := List.mem_filter.1 (List.mem_of_head? h)
    rw [first, h]
    exact ⟨List.mem_range.1 range, by simpa using unused⟩

theorem nextGenSlot_ne {e : Nat × Gen} (h : currentGen s = some e ∨ previousGen s = some e) : e.1 ≠ nextGenSlot s := by
  have mem : e.1 ∈ newestSlots s := by
    rw [newestSlots, List.mem_append]
    exact h.imp (fun h => by simp [h]) (fun h => by simp [h])
  intro same
  have free := (nextGenSlot_free s).2
  rw [← same, List.contains_iff_mem.2 mem] at free
  cases free

theorem nextGenNum_ne_zero (s : State) : nextGenNum s ≠ 0 := by
  unfold nextGenNum
  dsimp only
  split <;> omega

/-- A generation as it is written. -/
def newGen (cfs revertOf : Nat) (items : List Item) (s : State) : Gen :=
  { role := if sender s then 1 else 0, gen := nextGenNum s, cfs := cfs, revertOf := revertOf
    wt := wtNs s / 1000000000, nonce := freeVal s 64, items := items }

/-- Its slot erased, the write noted. -/
def genErased (k : Pkt) (g : Gen) (s : State) : State :=
  { takeFree s with nv := { s.nv with gens := Tab.del s.nv.gens (nextGenSlot s) }
                    upd := { s.upd with cfgWrite := some (k, nextGenSlot s, g) } }

theorem genWrite_eq (cfs revertOf : Nat) (items : List Item) (s : State) : genWrite k cfs revertOf items s =
    startBg k (setLevel 17 R.UPD_STATUS_CFG_BUSY 1 (genErased k (newGen cfs revertOf items s) s)) := rfl

theorem genWrite_nv_upd (cfs revertOf : Nat) (items : List Item) (s : State) :
    (genWrite k cfs revertOf items s).nv = { s.nv with gens := Tab.del s.nv.gens (nextGenSlot s) } ∧
      (genWrite k cfs revertOf items s).upd = { s.upd with cfgWrite := some (k, nextGenSlot s, newGen cfs revertOf items s) } := by
  obtain ⟨r, o, h⟩ := setLevel_regsOut 17 R.UPD_STATUS_CFG_BUSY 1 (genErased k (newGen cfs revertOf items s) s)
  rw [genWrite_eq, h]
  exact ⟨rfl, rfl⟩

/-- Settles O56: each command on items and generations, and the end of a generation's write. -/
theorem configurationCommands : Obligations.ConfigurationCommands := by
  unfold Obligations.ConfigurationCommands
  refine ⟨fun s t k n c f hk => ⟨?_, ?_, ?_, ?_, ?_, ?_, ?_⟩, ?_, fun s => ⟨fun h good => ?_, ?_⟩⟩
  · rintro rfl item inst z3 z6 size
    exact ⟨configSet_one hk item inst z3 z6 size, configSet_number hk item, configSet_tile hk item inst z3 z6⟩
  · rintro rfl one preset
    exact configSet_other hk one preset
  · intro known which x d item
    refine ⟨fun short fits size => configGet_inline known which item short fits (size ▸ hk), ?_⟩
    rintro long rfl u written
    exact configGet_written known which item long hk written
  · rintro rfl h
    exact configGet_unknown hk h
  · rintro rfl
    exact exec_later rfl hk rfl
  · rintro rfl h
    exact exec_refused rfl hk (by dsimp only; rw [h])
  · rintro rfl e h
    exact exec_later rfl hk (by dsimp only; rw [h])
  · intro s k a b l
    obtain ⟨nv, upd⟩ := genWrite_nv_upd (k := k) a b l s
    exact ⟨nextGenSlot s, newGen a b l s, _, by rw [upd], rfl, rfl, rfl, nextGenNum_ne_zero s, (nextGenSlot_free s).1,
      fun e h _ => nextGenSlot_ne (.inl h), fun e h _ => nextGenSlot_ne (.inr h), nv, fun j hj => Tab.get_del_ne _ hj⟩
  · refine congrArg Host.Outcome.next ?_
    rw [h]
  · rintro k i g h t rfl
    refine ⟨congrArg Host.Outcome.next (by rw [h]; rfl), fun other => congrArg Host.Outcome.next ?_, ?_⟩
    · rw [h]
      exact congrArg (finish k St.ok (leBytes 4 g.gen)) (if_neg other)
    · rintro revert u rfl
      refine congrArg Host.Outcome.next ?_
      rw [h]
      exact congrArg (finish k St.ok (leBytes 4 g.gen)) (if_pos revert)

end Sys2Proof.Machine
end


section
/-!
Firmware update (R502 to R508, R452): staging, activation and its ends, and the SVN fuses.
-/

namespace Sys2Proof.Machine

variable {s t u : State} {k : Pkt} {n : Nat} {c : Option (List Byte)} {f : Fetch} {b : List Byte}

/-! ### Staging -/

theorem stageImage_refused (hk : ready s k 0 c t) (z : zeroAt k.par 0 4 = true) (idle : activating t = false)
    (data : bulk k f c 4 0 t = .ok b) (bad : stageVerdict t b ≠ 0) :
    exec (.stageImage k f) s = .next (finish k (stageVerdict t b) [] t) := by
  refine exec_refused (f := f) rfl hk ((if_neg (by simp [parZero, z])).trans ((if_neg (by simp [idle])).trans ?_))
  rw [data]
  exact if_pos bad

theorem stageImage_begins (hk : ready s k 0 c t) (z : zeroAt k.par 0 4 = true) (idle : activating t = false)
    (data : bulk k f c 4 0 t = .ok b) (good : stageVerdict t b = 0) :
    exec (.stageImage k f) s = .next (stageBegin k b t) := by
  refine exec_later (f := f) rfl hk ((if_neg (by simp [parZero, z])).trans ((if_neg (by simp [idle])).trans ?_))
  rw [data]
  exact if_neg (by simp [good])

/-- Bytes without the manifest's magic are no bundle. -/
theorem stageVerdict_magic (h : u32 b 0 ≠ 0x4D42524D) : stageVerdict t b ≠ 0 := by
  have form : manifestOk b = false := by simp [manifestOk, h]
  unfold stageVerdict
  split
  · decide
  · rw [form, if_pos (by decide)]
    decide

/-! ### Activation -/

theorem activateVerdict_badState {n : Nat} (h : mode t = mHold ∨ (slotEntry t (otherSlot t)).state ≠ n) :
    activateVerdict t n = St.badState := by
  refine if_pos (h.imp (fun hold => ?_) id)
  rw [hold]
  decide

theorem activateBegin_refused (idle : transitioning t = false) (h : activateVerdict t n ≠ 0) :
    activateBegin k n t = .err (activateVerdict t n) :=
  (if_neg (by simp [idle])).trans (if_pos h)

theorem activateBegin_holds (idle : transitioning t = false) (h : activateVerdict t n = 0)
    (copy : t.upd.copyOf = some (otherSlot t)) : activateBegin k n t = .later (activateHold
      { pkt := k, slot := otherSlot t, fromMode := mode t, verifying := true } t) :=
  (if_neg (by simp [idle])).trans ((if_neg (by simp [h])).trans (if_pos copy))

theorem activateBegin_verifies (idle : transitioning t = false) (h : activateVerdict t n = 0)
    (copy : t.upd.copyOf ≠ some (otherSlot t)) : activateBegin k n t = .later (startBg k { t with upd := { t.upd with
      activation := some { pkt := k, slot := otherSlot t, fromMode := mode t, verifying := true } } }) :=
  (if_neg (by simp [idle])).trans ((if_neg (by simp [h])).trans (if_neg copy))

theorem activating_some {a : Activation} (h : s.upd.activation = some a) : activating s = !a.verifying := by
  rw [activating, h]
  rfl

/-! ### The SVN fuses -/

theorem commitSvn_raises {r : Running} (hk : ready s k 4 c t) (run : t.upd.running = some r) (booted : t.upd.activated = false)
    (rec_ : t.nv.bootRec.isSome = true) (image : t.upd.chosen = some (currentSlot t)) :
    exec (.commitSvn k) s = .next (finish k St.ok (leBytes 4 (max t.nv.svnFuses r.rec_.svn))
      { t with nv := { t.nv with svnFuses := max t.nv.svnFuses r.rec_.svn } }) := by
  have hk' : ready s k (leBytes 4 (max t.nv.svnFuses r.rec_.svn)).length c t := by rw [leBytes_length]; exact hk
  have known : t.nv.bootRec.isNone = false := by rw [← Option.not_isSome, rec_]; rfl
  refine exec_answered rfl hk' ?_
  dsimp only
  rw [run]
  exact if_neg (by simp [booted, known, image])

theorem commitSvn_badState (hk : ready s k 0 c t) (h : t.upd.running = none ∨ t.upd.activated = true) :
    exec (.commitSvn k) s = .next (finish k St.badState [] t) := by
  refine exec_refused rfl hk ?_
  dsimp only
  split
  · rfl
  · next r run =>
    exact if_pos (.inl (h.resolve_left (by rw [run]; exact Option.some_ne_none r)))

/-- Settles O57: the commands of an update and the ends of what they begin. -/
theorem firmwareUpdate : Obligations.FirmwareUpdate := by
  unfold Obligations.FirmwareUpdate
  refine ⟨fun s t k n c f hk => ⟨?_, fun b => stageVerdict_magic, ?_, activateVerdict_badState, ?_, ?_, ?_⟩,
    fun s => ⟨?_, ?_, ?_, fun a h => ⟨?_, ?_⟩⟩⟩
  · rintro rfl z idle b data
    exact ⟨stageImage_refused hk z idle data, stageImage_begins hk z idle data⟩
  · rintro rfl idle
    refine ⟨fun h => exec_refused rfl hk (activateBegin_refused idle h),
      fun h => exec_refused rfl hk (activateBegin_refused idle h), ?_⟩
    rintro a rfl
    exact ⟨fun h copy => exec_later rfl hk (activateBegin_holds idle h copy),
      fun h copy => exec_later rfl hk (activateBegin_verifies idle h copy),
      fun h copy => exec_later rfl hk (activateBegin_holds idle h copy),
      fun h copy => exec_later rfl hk (activateBegin_verifies idle h copy)⟩
  · rintro r rfl run booted rec_ image
    exact commitSvn_raises hk run booted rec_ image
  · rintro rfl h
    exact commitSvn_badState hk h
  · rintro l rfl size
    exact exec_answered rfl (size ▸ hk) rfl
  · exact fun h g => congrArg Host.Outcome.next (by rw [h])
  · rintro k b t h rfl
    exact ⟨congrArg Host.Outcome.next (by rw [h]; rfl), congrArg Host.Outcome.next (by rw [h]; rfl)⟩
  · exact fun h g => ⟨congrArg Host.Outcome.next (by rw [h]), congrArg Host.Outcome.next (by rw [h]),
      congrArg Host.Outcome.next (if_neg (by rw [activating, h]; decide))⟩
  · rintro verifying t rfl
    refine ⟨congrArg Host.Outcome.next ?_, fun bad => congrArg Host.Outcome.next ?_,
      fun good at_ quiet => congrArg Host.Outcome.next ?_⟩
    · rw [h]
      exact (if_neg (by simp [verifying])).trans (if_pos rfl)
    · rw [h]
      exact (if_neg (by simp [verifying])).trans ((if_neg (by decide)).trans (if_pos (by rw [bad]; rfl)))
    · rw [h]
      refine (if_neg (by simp [verifying])).trans ((if_neg (by decide)).trans ((if_neg (by rw [good]; decide)).trans (if_neg ?_)))
      rintro (⟨standby, show_⟩ | waits)
      · exact at_.elim standby show_
      · rw [quiet] at waits
        cases waits
  · intro verifying
    refine ⟨congrArg Host.Outcome.next (if_pos (by rw [activating_some h, verifying]; rfl)),
      fun lost => congrArg Host.Outcome.next ?_, ?_⟩
    · rw [h]
      exact (if_neg (by simp [verifying])).trans (if_pos lost)
    · rintro kept u rfl w rfl
      refine congrArg Host.Outcome.next ?_
      rw [h]
      exact (if_neg (by simp [verifying])).trans (if_neg (by rw [kept]; decide))

end Sys2Proof.Machine
end


section
/-!
The Muslin port (R522 to R525): frames and operations.
-/

namespace Sys2Proof.Machine

variable {s t u : State} {m q n : Nat} {p b : List Byte} {c : Option (List Byte)}

/-! ### Frames -/

theorem mslFrame_good (up : inReset s = false) (magic : u8 b 0 = 0x4D) (fits : u16 b 4 ≤ 2040) (size : b.length = 12 + u16 b 4)
    (crc : crc32c (b.take (8 + u16 b 4)) = u32 b (8 + u16 b 4)) :
    mslFrame b s = mslTake none (b.take (8 + u16 b 4)) (incF s R.MSL_FRAMES_N) := by
  refine (if_neg (by simp [up, magic])).trans (if_neg ?_)
  rintro (long | wrong | bad)
  · omega
  · exact wrong size
  · exact bad crc

theorem mslFrame_badCrc (up : inReset s = false) (magic : u8 b 0 = 0x4D)
    (crc : crc32c (b.take (8 + u16 b 4)) ≠ u32 b (8 + u16 b 4)) : mslFrame b s = tally R.MSL_ERR_CRC 15 4 0 s :=
  (if_neg (by simp [up, magic])).trans (if_pos (.inr (.inr crc)))

/-! ### Loads -/

/-- A load begun: its area empty. -/
def loadBegun (n : Nat) (s : State) : State :=
  { s with mem := s.mem.filter (fun c => decide (c.1 < loadMem) || decide (loadMem + loadMax ≤ c.1))
           upd := { s.upd with loadLen := some n, loadFlags := 0 } }

theorem loadBegin_good (size : p.length = 8) (some_ : 1 ≤ u32 p 0) (fits : u32 p 0 ≤ 50331648) (flags : u8 p 4 = 0)
    (z : zeroAt p 5 3 = true) : loadBegin p t = mslReply St.ok [] (loadBegun (u32 p 0) t) := by
  rw [loadBegin]
  dsimp only
  rw [flags, if_neg]
  · rfl
  · rw [size, z]
    rintro (bad | bad | bad | bad | bad | bad)
    · exact bad rfl
    · omega
    · exact absurd fits (Nat.not_le.2 bad)
    · omega
    · cases bad
    · exact absurd bad.1 (by decide)

theorem loadBegun_empty (n x : Nat) (lo : loadMem ≤ x) (hi : x < loadMem + 50331648) (e : Nat × Byte) (h : e ∈ (loadBegun n t).mem) :
    e.1 ≠ x := by
  have out : e.1 < loadMem ∨ loadMem + loadMax ≤ e.1 := by simpa using (List.mem_filter.1 h).2
  rintro rfl
  exact out.elim (Nat.not_lt.2 lo) (Nat.not_le.2 hi)

theorem loadBegun_below (n : Nat) (e : Nat × Byte) (h : e.1 < loadMem) : e ∈ (loadBegun n t).mem ↔ e ∈ t.mem := by
  refine List.mem_filter.trans (and_iff_left ?_)
  rw [decide_eq_true h]
  rfl

theorem loadData_stores (len : t.upd.loadLen = some n) (min : 4 ≤ p.length) (fits : u32 p 0 + (p.length - 4) ≤ n) :
    loadData p t = mslReply St.ok [] (memWrite t (loadMem + u32 p 0) (p.drop 4)) := by
  rw [loadData, len]
  dsimp only
  rw [if_neg (by rw [List.length_drop]; omega)]

theorem loadData_beyond (len : t.upd.loadLen = some n) (out : n < u32 p 0 + (p.length - 4)) :
    loadData p t = mslReply St.badParam [] t := by
  rw [loadData, len]
  dsimp only
  rw [if_pos (by rw [List.length_drop]; omega)]

theorem loadEnd_differs (len : t.upd.loadLen = some n) (size : p.length = 48) (hash : Config.sha384 (memRead t loadMem n) ≠ p) :
    loadEnd p t = mslReply St.refMismatch [] t := by
  rw [loadEnd, len]
  exact (if_neg (by simp [size])).trans (if_pos hash)

theorem loadEnd_matches (len : t.upd.loadLen = some n) (size : p.length = 48) (hash : Config.sha384 (memRead t loadMem n) = p) :
    loadEnd p t = if mode t = mBoot then (loadBundle (memRead t loadMem n) (t.upd.loadFlags == 1) (mslReply St.ok [] t)).2
      else mslReply St.ok [] t := by
  rw [loadEnd, len]
  exact (if_neg (by simp [size])).trans (if_neg (by simp [hash]))

/-! ### Operations -/

theorem mslRun_stage {k : Pkt} (hp : k = mslPkt 0x0D04 p) (hk : ready t k 0 c u) (z : zeroAt k.par 0 4 = true)
    (idle : activating u = false) (data : bulk k .dmaError c 4 0 u = .ok b) (good : stageVerdict u b = 0) :
    mslRun 7 p t = stageBegin k b u := by
  subst hp
  exact Host.Outcome.next.inj (stageImage_begins hk z idle data good)

theorem mslRun_activate {k : Pkt} (hp : k = mslPkt 0x0D05 p) (hk : ready t k 0 c u) (idle : transitioning u = false)
    (good : activateVerdict u 2 = 0) (copy : u.upd.copyOf = some (otherSlot u)) : mslRun 8 p t = activateHold
      { pkt := k, slot := otherSlot u, fromMode := mode u, verifying := true } u := by
  subst hp
  exact Host.Outcome.next.inj (exec_later (i := .activate _) rfl hk (activateBegin_holds idle good copy))

theorem mslRun_revert {k : Pkt} (hp : k = mslPkt 0x0D06 p) (hk : ready t k 0 c u) (idle : transitioning u = false)
    (good : activateVerdict u 4 = 0) (copy : u.upd.copyOf = some (otherSlot u)) : mslRun 9 p t = activateHold
      { pkt := k, slot := otherSlot u, fromMode := mode u, verifying := true } u := by
  subst hp
  exact Host.Outcome.next.inj (exec_later (i := .revertImage _) rfl hk (activateBegin_holds idle good copy))

/-- Each operation's row is its request at the port. -/
theorem exec_mslRow {i : Instr} (h : (m, i) ∈ [(1, Instr.ident q p), (2, .faults q p), (3, .updStatus q p), (4, .loadBegin q p),
      (5, .loadData q p), (6, .loadEnd q p), (7, .mslStage q p), (8, .mslActivate q p), (9, .mslRevert q p)]) :
    exec i s = .next (mslOp m q p s) ∧ m < 256 := by
  suffices rows : ∀ e ∈ [(1, Instr.ident q p), (2, .faults q p), (3, .updStatus q p), (4, .loadBegin q p),
      (5, .loadData q p), (6, .loadEnd q p), (7, .mslStage q p), (8, .mslActivate q p), (9, .mslRevert q p)],
      exec e.2 s = .next (mslOp e.1 q p s) ∧ e.1 < 256 from rows (m, i) h
  simp only [List.forall_mem_cons]
  exact ⟨⟨rfl, by decide⟩, ⟨rfl, by decide⟩, ⟨rfl, by decide⟩, ⟨rfl, by decide⟩, ⟨rfl, by decide⟩, ⟨rfl, by decide⟩,
    ⟨rfl, by decide⟩, ⟨rfl, by decide⟩, ⟨rfl, by decide⟩, fun _ h => absurd h List.not_mem_nil⟩

/-- Settles O58: frames of the Muslin port, and the operations they carry. -/
theorem muslinOperations : Obligations.MuslinOperations := by
  unfold Obligations.MuslinOperations
  refine ⟨?_, fun s b up magic fits size => ⟨fun crc => congrArg Host.Outcome.next (mslFrame_good up magic fits size crc),
    fun crc => congrArg Host.Outcome.next (mslFrame_badCrc up magic crc)⟩, fun t p => ⟨rfl, ?_, rfl, ?_, ?_, ?_, ?_, ?_, ?_⟩⟩
  · rintro s a t q p m i up idle fits row rfl rfl
    obtain ⟨hi, small⟩ := exec_mslRow (s := s) row
    have own := mslOp_begins (seq := q) up idle fits small rfl rfl
    exact ⟨fun ok => hi.trans (congrArg Host.Outcome.next (own.trans (if_pos ok))),
      fun bad => hi.trans (congrArg Host.Outcome.next (own.trans (if_neg (by rw [bad]; decide))))⟩
  · exact fun d size data => mslRun_faults size data
  · exact fun size some_ fits flags z => ⟨_, loadBegin_good size some_ fits flags z, rfl,
      fun x lo hi e he => loadBegun_empty _ x lo hi e he, fun e he => loadBegun_below _ e he, rfl⟩
  · intro none_
    refine ⟨?_, ?_⟩
    · show loadData p t = _
      rw [loadData, none_]
    · show loadEnd p t = _
      rw [loadEnd, none_]
  · exact fun n len => ⟨loadData_stores len, fun _ out => loadData_beyond len out, loadEnd_differs len,
      fun size hash up => (loadEnd_matches len size hash).trans (if_neg up),
      fun size hash boot => (loadEnd_matches len size hash).trans (if_pos boot)⟩
  · exact fun u c b hk z idle data good => mslRun_stage rfl hk z idle data good
  · exact fun u c hk idle good copy => mslRun_activate rfl hk idle good copy
  · exact fun u c hk idle good copy => mslRun_revert rfl hk idle good copy

end Sys2Proof.Machine
end


section
/-!
Resets (R46 to R48, R587, R599): their causes, and what the end of a reset keeps.
-/

namespace Sys2Proof.Machine

variable {s t : State} {k : Pkt} {c : Option (List Byte)}

/-! ### The causes -/

theorem warmReset_waits (hk : ready s k 0 c t) (delay : k.p16 0 ≤ 1000) (z : zeroAt k.par 2 2 = true)
    (idle : transitioning t = false) :
    exec (.warmReset k) s = .next (finish k St.ok [] { t with sys := { t.sys with warmWait := true } }) :=
  exec_done rfl hk ((if_neg (by simp [parZero, z, delay])).trans (if_neg (by simp [idle])))

theorem warmReset_busy (hk : ready s k 0 c t) (delay : k.p16 0 ≤ 1000) (z : zeroAt k.par 2 2 = true)
    (busy : transitioning t = true) : exec (.warmReset k) s = .next (finish k St.busy [] t) :=
  exec_refused rfl hk ((if_neg (by simp [parZero, z, delay])).trans (if_pos busy))

/-- The device in reset, internally, and what the cause was. -/
def internalReset (wdog cmd act : Bool) (s : State) : State :=
  resetBegins { s with sys := { s.sys with rst := { s.sys.rst with
    internal := true, sawWdog := s.sys.rst.sawWdog || wdog, sawCmd := s.sys.rst.sawCmd || cmd, sawAct := s.sys.rst.sawAct || act } } }

theorem beginInternal_begins {w d a : Bool} (h : mode s ≠ mLockdown) : beginInternal w d a s = internalReset w d a s :=
  if_neg (by simp [h])

theorem beginInternal_lockdown {w d a : Bool} (h : mode s = mLockdown) (up : inReset s = false) : beginInternal w d a s = s :=
  if_pos (by rw [h, up]; decide)

theorem inReset_internalReset (w d a : Bool) (s : State) : inReset (internalReset w d a s) = true := Bool.or_true _

theorem wrstAssert_begins (h : mode s ≠ mLockdown ∨ inReset s = true) : exec .wrstAssert s =
    .next { resetBegins s with sys := { (resetBegins s).sys with rst := { s.sys.rst with wrst := true, sawPin := true } } } :=
  congrArg Host.Outcome.next (if_neg (by rcases h with h | h <;> simp [h]))

theorem wrstAssert_lockdown (h : mode s = mLockdown) (up : inReset s = false) :
    exec .wrstAssert s = .next (incF s R.SYS_RESET_CAUSE_WRST_IGN) :=
  congrArg Host.Outcome.next (if_pos (by rw [h, up]; decide))

theorem watchdogExpiry_lockdown (h : mode s = mLockdown) (up : inReset s = false) : exec .watchdogExpiry s = .next s := by
  refine congrArg Host.Outcome.next ?_
  rw [beginInternal_lockdown h up, ite_self]

theorem watchdogExpiry_begins (chosen : s.upd.chosen.isSome = true) (h : mode s ≠ mLockdown) :
    exec .watchdogExpiry s = .next (internalReset true false false s) :=
  congrArg Host.Outcome.next ((if_pos chosen).trans (beginInternal_begins h))

/-- The state whose delay of a warm reset is over. -/
def warmWaited (s : State) : State := { s with sys := { s.sys with warmWait := false } }

theorem warmResetDelayExpiry_begins (waits : s.sys.warmWait = true) (h : mode s ≠ mLockdown) :
    exec .warmResetDelayExpiry s = .next (internalReset false true false (warmWaited s)) :=
  congrArg Host.Outcome.next ((if_pos waits).trans (beginInternal_begins (s := warmWaited s) h))

/-! ### After power-on -/

theorem outsideRegs_regsOnly (old s : State) : RegsOnly s (outsideRegs old s) :=
  ((RegsOnly.refl s).regPut _ _).regPut _ _

theorem sampleStraps_regsOnly (role : Bool) (b x : Nat) (s : State) : RegsOnly s (sampleStraps role b x s) :=
  ((((((RegsOnly.refl s).setB _ _).setB _ _).setF _ _).setF _ _).setB _ _).setB _ _

theorem afterPower_regsOnly (role : Bool) (b x : Nat) (s : State) : RegsOnly (freshState s) (afterPower role b x s) :=
  ((outsideRegs_regsOnly s (freshState s)).trans (sampleStraps_regsOnly role b x _)).setB _ _

theorem getF_outsideRegs {f : Fld} (clk : f.reg ≠ R.SYS_CLK) (pins : f.reg ≠ R.SYS_GPIO_IN) (old s : State) :
    getF (outsideRegs old s) f = getF s f :=
  (getF_regPut_other pins).trans (getF_regPut_other clk)

/-- The straps leave every field but their own. -/
theorem getF_sampleStraps {f : Fld} (role : Bool) (b x : Nat) (s : State) (h1 : R.SYS_MODE_ROLE_STRAP.apart f = true)
    (h2 : R.SYS_MODE_ROLE_EFF.apart f = true) (h3 : R.SYS_MODE_BOARD_ID.apart f = true) (h4 : R.SYS_MODE_BOOT_SRC.apart f = true)
    (h5 : R.SYS_RESET_CAUSE_POR.apart f = true) (h6 : R.SYS_RESET_CAUSE_STRAP_BAD.apart f = true) :
    getF (sampleStraps role b x s) f = getF s f :=
  (getF_setB_other h6).trans ((getF_setB_other h5).trans ((getF_setF_other h4).trans ((getF_setF_other h3).trans
    ((getF_setB_other h2).trans (getF_setB_other h1)))))

theorem mode_afterPower (role : Bool) (b x : Nat) (s : State) : mode (afterPower role b x s) = mBoot :=
  (getF_setB_other (by decide)).trans ((getF_sampleStraps role b x _ (by decide) (by decide) (by decide) (by decide) (by decide)
    (by decide)).trans ((getF_outsideRegs (by decide) (by decide) s _).trans mode_reset))

theorem sender_afterPower (role : Bool) (b x : Nat) (s : State) : sender (afterPower role b x s) = (role && s.nv.isS) :=
  (isSet_setB_other (by decide)).trans ((isSet_setB_other (by decide)).trans ((isSet_setB_other (by decide)).trans
    ((isSet_setF_other (by decide)).trans ((isSet_setF_other (by decide)).trans ((isSet_setB_self (by decide)).trans rfl)))))

theorem por_afterPower (role : Bool) (b x : Nat) (s : State) : isSet (afterPower role b x s) R.SYS_RESET_CAUSE_POR = true :=
  (isSet_setB_other (by decide)).trans ((isSet_setB_other (by decide)).trans (isSet_setB_self (by decide)))

/-! ### After a warm reset -/

/-- The records' snapshot changes registers alone. -/
theorem recordsSnap_regsOnly (old s : State) : RegsOnly s (recordsSnap old s) :=
  foldl_regsOnly _ (fun a _ => foldl_regsOnly _ (fun x _ => (RegsOnly.refl x).regPut _ _) a) s

/-- A fold of register writes leaves a register that none of them writes. -/
theorem regGet_foldl_other {α : Type} {g : State → α → State} {key : Nat} (h : ∀ a x, regGet (g a x) key = regGet a key)
    (l : List α) (s : State) : regGet (l.foldl g s) key = regGet s key := by
  induction l generalizing s with
  | nil => rfl
  | cons x l ih => exact (ih _).trans (h s x)

theorem regGet_recordsSnap {key : Nat} (h : key < 0x800) (old s : State) : regGet (recordsSnap old s) key = regGet s key :=
  regGet_foldl_other (fun a b => regGet_foldl_other (fun x i => regGet_regPut_ne x _ (by simp only [dirKey]; omega)) _ a) _ s

/-- What a warm reset leaves before its straps, causes and snapshot. -/
def warmBase (lost : List Nat) (s : State) : State :=
  { freshState s with
    regs := warmRegs lost s, tim := warmTime s, dmk := warmAges lost s, thm := warmModel lost s
    mem := s.mem.filter (fun c => decide (c.1 < loadMem))
    sys := { SysSt.reset with cfgLocked := s.sys.cfgLocked }
    sec := { (freshState s).sec with recent := s.sec.recent } }

/-- The retained regions that failed, as far as they are named. -/
def warmLost (l : List Nat) : List Nat := l.filter (· < 3)

/-- Its outside inputs and its snapshot of the fault records. -/
def warmSnap (l : List Nat) (s : State) : State := recordsSnap s (outsideRegs s (warmBase (warmLost l) s))

theorem afterWarm_eq (l : List Nat) (s : State) : afterWarm l s =
    setB (warmCause (warmLost l) s (warmSnap l s)) R.TIM_STATUS_CURVE_OK
      (decide (2 ≤ (curvePoints (warmCause (warmLost l) s (warmSnap l s))).length)) := rfl

theorem warmCause_regsOnly (lost : List Nat) (old s : State) : RegsOnly s (warmCause lost old s) :=
  ((((((((((((RegsOnly.refl s).setF _ _).setF _ _).setF _ _).setF _ _).setB _ _).setB _ _).setB _ _).setF _ _).setB _ _).setB _ _).setF
    _ _).setF _ _ |>.setF _ _

theorem afterWarm_regsOnly (l : List Nat) (s : State) : RegsOnly (warmBase (warmLost l) s) (afterWarm l s) :=
  (((outsideRegs_regsOnly s _).trans (recordsSnap_regsOnly s _)).trans (warmCause_regsOnly _ s _)).setB _ _

theorem getF_warmSnap {f : Fld} (l : List Nat) (s : State) (low : f.reg < 0x800) (clk : f.reg ≠ R.SYS_CLK)
    (pins : f.reg ≠ R.SYS_GPIO_IN) : getF (warmSnap l s) f = getF (warmBase (warmLost l) s) f := by
  rw [warmSnap, getF, regGet_recordsSnap low]
  exact getF_outsideRegs clk pins s _

theorem get_filter_none {α : Type} {p : Nat × α → Bool} {r : Tab α} {key : Nat} (h : ∀ v, p (key, v) = false) :
    Tab.get (r.filter p) key = none := by
  induction r with
  | nil => rfl
  | cons e r ih =>
    obtain ⟨a, v⟩ := e
    rw [List.filter_cons]
    split
    · next keep =>
      have ne : ¬ key = a := fun e => by rw [← e, h v] at keep; cases keep
      exact (if_neg ne).trans ih
    · exact ih

/-- SYS_MODE is not kept: it has its reset value. -/
theorem regGet_warmBase_mode (lost : List Nat) (s : State) : regGet (warmBase lost s) R.SYS_MODE = regReset R.SYS_MODE := by
  have gone : Tab.get (warmRegs lost s) R.SYS_MODE = none := get_filter_none fun v => by
    have kept : (decide (R.SYS_MODE < 65536) && sysKept R.SYS_MODE) = false := by decide
    have curve : curveKey R.SYS_MODE = false := by decide
    have ckpt : (R.SYS_MODE == R.DMK_CKPT_SEQ) = false := by decide
    simp only [kept, curve, ckpt, Bool.false_and, Bool.or_self]
  exact congrArg (fun o : Option Word => o.getD (regReset R.SYS_MODE)) gone

theorem getF_warmCause_mode (lost : List Nat) (old s : State) :
    getF (warmCause lost old s) R.SYS_MODE_MODE = getF s R.SYS_MODE_MODE := by
  simp (disch := decide) only [warmCause, getF_setF_other, getF_setB_other]

theorem getF_warmCause_role (lost : List Nat) (old s : State) :
    getF (warmCause lost old s) R.SYS_MODE_ROLE_EFF = getF old R.SYS_MODE_ROLE_EFF := by
  simp (disch := decide) only [warmCause, getF_setF_other, getF_setB_other, getF_setF_self]
  exact Nat.mod_eq_of_lt getF_lt

theorem isSet_warmCause_por (lost : List Nat) (old s : State) :
    isSet (warmCause lost old s) R.SYS_RESET_CAUSE_POR = false := by
  simp (disch := decide) only [warmCause, isSet_setF_other, isSet_setB_other, isSet_setB_self]

theorem isSet_warmCause_cmd (lost : List Nat) (old s : State) :
    isSet (warmCause lost old s) R.SYS_RESET_CAUSE_CMD = old.sys.rst.sawCmd := by
  simp (disch := decide) only [warmCause, isSet_setF_other, isSet_setB_other, isSet_setB_self]

theorem isSet_warmCause_wdog (lost : List Nat) (old s : State) :
    isSet (warmCause lost old s) R.SYS_RESET_CAUSE_WDOG = old.sys.rst.sawWdog := by
  simp (disch := decide) only [warmCause, isSet_setF_other, isSet_setB_other, isSet_setB_self]

theorem mode_afterWarm (l : List Nat) (s : State) : mode (afterWarm l s) = mBoot := by
  have snap : getF (warmSnap l s) R.SYS_MODE_MODE = getF (warmBase (warmLost l) s) R.SYS_MODE_MODE :=
    getF_warmSnap l s (by decide) (by decide) (by decide)
  rw [mode, afterWarm_eq, getF_setB_other (by decide), getF_warmCause_mode, snap, getF, regGet_warmBase_mode]
  decide

theorem sender_afterWarm (l : List Nat) (s : State) : sender (afterWarm l s) = sender s :=
  (isSet_setB_other (by decide)).trans (isSet_congr (getF_warmCause_role (warmLost l) s (warmSnap l s)))

theorem por_afterWarm (l : List Nat) (s : State) : isSet (afterWarm l s) R.SYS_RESET_CAUSE_POR = false :=
  (isSet_setB_other (by decide)).trans (isSet_warmCause_por (warmLost l) s (warmSnap l s))

theorem cmd_afterWarm (l : List Nat) (s : State) : isSet (afterWarm l s) R.SYS_RESET_CAUSE_CMD = s.sys.rst.sawCmd :=
  (isSet_setB_other (by decide)).trans (isSet_warmCause_cmd (warmLost l) s (warmSnap l s))

theorem wdog_afterWarm (l : List Nat) (s : State) : isSet (afterWarm l s) R.SYS_RESET_CAUSE_WDOG = s.sys.rst.sawWdog :=
  (isSet_setB_other (by decide)).trans (isSet_warmCause_wdog (warmLost l) s (warmSnap l s))

/-- Memory below the load area stays, the load area is empty. -/
theorem mem_afterWarm (l : List Nat) (s : State) (e : Nat × Byte) : e ∈ (afterWarm l s).mem ↔ e ∈ s.mem ∧ e.1 < loadMem := by
  obtain ⟨r, h⟩ := afterWarm_regsOnly l s
  rw [h]
  exact List.mem_filter.trans (and_congr_right fun _ => decide_eq_true_iff)

/-- Settles O59: each cause of a reset, and what is left when the last one ends. -/
theorem resetCauses : Obligations.ResetCauses := by
  unfold Obligations.ResetCauses
  refine ⟨fun s t k c hk delay z => ⟨warmReset_waits hk delay z, warmReset_busy hk delay z⟩,
    fun s => ⟨?_, fun h up => ⟨wrstAssert_lockdown h up, watchdogExpiry_lockdown h up⟩, ?_, ?_, fun role b x l => ⟨?_, ?_, ?_⟩⟩,
    fun s role b x l => ?_⟩
  · rintro u rfl
    exact ⟨rfl, rfl, wrstAssert_begins⟩
  · exact fun chosen h => ⟨_, watchdogExpiry_begins chosen h, inReset_internalReset _ _ _ s, Bool.or_true _, rfl, rfl, rfl, rfl⟩
  · exact fun waits h => ⟨_, warmResetDelayExpiry_begins waits h, inReset_internalReset _ _ _ _, Bool.or_true _, rfl, rfl, rfl, rfl, rfl⟩
  · exact fun up => congrArg Host.Outcome.next (if_pos (by rw [up]; rfl))
  · exact fun res power => congrArg Host.Outcome.next ((if_neg (by rw [res]; decide)).trans (congrArg romStarts (if_pos power)))
  · exact fun res power => congrArg Host.Outcome.next ((if_neg (by rw [res]; decide)).trans
      (congrArg romStarts (if_neg (by rw [power]; decide))))
  · obtain ⟨r, hp⟩ := afterPower_regsOnly role b x s
    obtain ⟨q, hw⟩ := afterWarm_regsOnly l s
    refine ⟨mode_afterPower role b x s, by rw [hp]; rfl, by rw [hp]; rfl, by rw [hp]; rfl, by rw [hp]; rfl,
      sender_afterPower role b x s, por_afterPower role b x s, by rw [hp]; rfl, mode_afterWarm l s, by rw [hw]; rfl, by rw [hw]; rfl,
      sender_afterWarm l s, by rw [hw]; rfl, por_afterWarm l s, cmd_afterWarm l s, wdog_afterWarm l s, mem_afterWarm l s⟩

end Sys2Proof.Machine
end


section
/-!
The end of boot, and events of the device as a whole: balls, clocks, PCIe, scrubbing, and the ends of containments and of
DEGRADED.
-/

namespace Sys2Proof.Machine

variable {s t u : State} {b g : Nat} {up : Bool}

/-! ### A bit of a number -/

theorem testBit_add_two_pow {v i : Nat} (h : v.testBit i = false) (j : Nat) :
    (v + 2 ^ i).testBit j = if j = i then true else v.testBit j := by
  rcases Nat.lt_trichotomy j i with lt | rfl | gt
  · rw [if_neg (by omega), Nat.add_comm, Nat.testBit_two_pow_add_gt lt]
  · rw [if_pos rfl, Nat.add_comm, Nat.testBit_two_pow_add_eq, h]
    rfl
  · have low : v % 2 ^ (i + 1) < 2 ^ i := by
      have digit : v / 2 ^ i % 2 = 0 := by simpa [Nat.testBit_eq_decide_div_mod_eq] using h
      rw [Nat.pow_succ, Nat.mod_mul, digit]
      exact Nat.mod_lt _ (Nat.two_pow_pos i)
    have twice : 2 ^ (i + 1) = 2 ^ i + 2 ^ i := by rw [Nat.pow_succ]; omega
    have parts := Nat.div_add_mod v (2 ^ (i + 1))
    have sum : v + 2 ^ i = 2 ^ (i + 1) * (v / 2 ^ (i + 1)) + (v % 2 ^ (i + 1) + 2 ^ i) := by omega
    rw [if_neg (by omega), sum, Nat.testBit_two_pow_mul_add _ (by omega), if_neg (by omega)]
    conv_rhs => rw [← parts, Nat.testBit_two_pow_mul_add _ (by omega), if_neg (by omega)]

theorem testBit_sub_two_pow {v i : Nat} (h : v.testBit i = true) (j : Nat) :
    (v - 2 ^ i).testBit j = if j = i then false else v.testBit j := by
  have back : v - 2 ^ i + 2 ^ i = v := Nat.sub_add_cancel (Nat.ge_two_pow_of_testBit h)
  have off : (v - 2 ^ i).testBit i = false := by
    have flip := Nat.testBit_two_pow_add_eq (v - 2 ^ i) i
    rw [Nat.add_comm, back, h] at flip
    simpa using flip.symm
  have bits := testBit_add_two_pow off j
  rw [back] at bits
  split
  · next e => rw [e]; exact off
  · next e => rw [bits, if_neg e]

theorem testBit_withBit (v i j : Nat) (b : Bool) : (withBit v i b).testBit j = if j = i then b else v.testBit j := by
  unfold withBit
  by_cases same : v.testBit i = b
  · rw [if_pos (by simp [same])]
    split
    · next e => rw [e, same]
    · rfl
  · rw [if_neg (by simp [same])]
    cases b
    · exact testBit_sub_two_pow (Bool.not_eq_false _ ▸ same) j
    · exact testBit_add_two_pow (Bool.not_eq_true _ ▸ same) j

/-! ### The end of boot -/

/-- The firmware started, and an activation that a reset ended settled. -/
def bootSettled (s : State) : State := settleActivation { s with sys := { s.sys with fwRunning := true } }

theorem bootComplete_waits (h : s.upd.chosen = none ∨ s.sys.tamperArmed = false) : exec .bootComplete s = .next s :=
  congrArg Host.Outcome.next (if_pos (by rcases h with h | h <;> simp [h]))

/-- BOOT_COMPLETE of a chosen image that has been armed. -/
theorem bootComplete_goes (up : inReset s = false) (boot : mode s = mBoot) (chosen : s.upd.chosen.isSome = true)
    (armed : s.sys.tamperArmed = true) : exec .bootComplete s = .next (match (bootSettled s).upd.slot with
      | some k =>
        if (slotEntry (bootSettled s) k).state = 3 ∧ settingsLost (bootSettled s) then
          beginInternal false true false (appendRec (fun r =>
            { r.setSlot k (fun e => { e with state := 5, reason := 4 }) with lastAct := 3 }) (bootSettled s))
        else bootRest (bootSettled s)
      | none => bootRest (bootSettled s)) := by
  have some_ : s.upd.chosen.isNone = false := by rw [← Option.not_isSome, chosen]; rfl
  exact congrArg Host.Outcome.next (if_neg (by rw [up, boot, some_, armed]; decide))

theorem bootComplete_rests (up : inReset s = false) (boot : mode s = mBoot) (chosen : s.upd.chosen.isSome = true)
    (armed : s.sys.tamperArmed = true) (kept : settingsLost (bootSettled s) = false) :
    exec .bootComplete s = .next (bootRest (bootSettled s)) := by
  refine (bootComplete_goes up boot chosen armed).trans (congrArg Host.Outcome.next ?_)
  split
  · exact if_neg (by rw [kept]; simp)
  · rfl

theorem bootComplete_trial {k : Nat} (up : inReset s = false) (boot : mode s = mBoot) (chosen : s.upd.chosen.isSome = true)
    (armed : s.sys.tamperArmed = true) (slot : (bootSettled s).upd.slot = some k) (trial : (slotEntry (bootSettled s) k).state = 3)
    (lost : settingsLost (bootSettled s) = true) : exec .bootComplete s =
      .next (beginInternal false true false (appendRec (fun r =>
        { r.setSlot k (fun e => { e with state := 5, reason := 4 }) with lastAct := 3 }) (bootSettled s))) := by
  refine (bootComplete_goes up boot chosen armed).trans (congrArg Host.Outcome.next ?_)
  rw [slot]
  exact if_pos ⟨trial, lost⟩

/-! ### Balls and clocks -/

/-- A register's write takes no device into reset. -/
theorem not_inReset_setF (run : inReset s = false) (f : Fld) (v : Nat) : ¬ inReset (setF s f v) = true := fun res => by
  rw [show inReset (setF s f v) = inReset s from rfl, run] at res
  cases res

/-- The level of a ball as its bit shows it. -/
def ballSet (g : Nat) (up : Bool) (s : State) : State := setF s R.SYS_GPIO_IN_IN (withBit (getF s R.SYS_GPIO_IN_IN) g up)

theorem testBit_ballSet (s : State) (g : Nat) (up : Bool) {i : Nat} (h : i < 24) :
    (getF (ballSet g up s) R.SYS_GPIO_IN_IN).testBit i = if i = g then up else (getF s R.SYS_GPIO_IN_IN).testBit i := by
  have width : getF (ballSet g up s) R.SYS_GPIO_IN_IN = withBit (getF s R.SYS_GPIO_IN_IN) g up % 2 ^ 24 := getF_setF_self (by decide)
  rw [width, Nat.testBit_mod_two_pow, decide_eq_true h, Bool.true_and, testBit_withBit]

theorem gpioEdge_same (h : (getF s R.SYS_GPIO_IN_IN).testBit g = up) : exec (.gpioEdge g up) s = .next s :=
  congrArg Host.Outcome.next (if_pos (by simp [h]))

theorem gpioEdge_changes (hg : g < 24) (h : (getF s R.SYS_GPIO_IN_IN).testBit g ≠ up) : exec (.gpioEdge g up) s = .next (
    if inReset (ballSet g up s) then ballSet g up s
    else
      let on := (getF (ballSet g up s) (if up then R.SYS_GPIO_RISE_RISE else R.SYS_GPIO_FALL_FALL)).testBit g
      let u := if on then raise 19 (ballSet g up s) else ballSet g up s
      if up && alive u then gpioCaptures g u else u) :=
  congrArg Host.Outcome.next (if_neg (by
    rw [Bool.or_eq_true, decide_eq_true_iff, beq_iff_eq]
    exact fun e => e.elim (by omega) h))

theorem gpioEdge_reset (hg : g < 24) (h : (getF s R.SYS_GPIO_IN_IN).testBit g ≠ up) (res : inReset s = true) :
    exec (.gpioEdge g up) s = .next (ballSet g up s) :=
  (gpioEdge_changes hg h).trans (congrArg Host.Outcome.next (if_pos res))

theorem gpioEdge_falls (hg : g < 24) (h : (getF s R.SYS_GPIO_IN_IN).testBit g ≠ false) (run : inReset s = false) :
    exec (.gpioEdge g false) s = .next (if (getF s R.SYS_GPIO_FALL_FALL).testBit g then raise 19 (ballSet g false s)
      else ballSet g false s) := by
  have out : ¬ inReset (ballSet g false s) = true := not_inReset_setF run _ _
  have sel : getF (ballSet g false s) R.SYS_GPIO_FALL_FALL = getF s R.SYS_GPIO_FALL_FALL := getF_setF_other (by decide)
  refine (gpioEdge_changes hg h).trans (congrArg Host.Outcome.next ((if_neg out).trans ?_))
  show (if (getF (ballSet g false s) R.SYS_GPIO_FALL_FALL).testBit g = true then _ else _) = _
  rw [sel]

theorem clockLoss_again (h : isSet s (clkBit b) = false) : exec (.clockLoss b) s = .next s :=
  congrArg Host.Outcome.next (if_pos (by rw [h]; simp))

theorem clockRestored_again (h : isSet s (clkBit b) = true) : exec (.clockRestored b) s = .next s :=
  congrArg Host.Outcome.next (if_pos (by rw [h]; simp))

theorem clockLoss_changes (hb : b < 8) (h : isSet s (clkBit b) = true) : exec (.clockLoss b) s = .next (
    let u := if inReset (setF s (clkBit b) 0) then setF s (clkBit b) 0 else levelRise 0 2 b (setF s (clkBit b) 0)
    if b = 0 then resetBegins { u with sys := { u.sys with rst := { u.sys.rst with power := true, sawPower := true } } } else u) :=
  congrArg Host.Outcome.next (if_neg (by rw [h]; simpa using hb))

theorem clockLoss_fault (hb : b < 8) (h : isSet s (clkBit b) = true) (run : inReset s = false) (other : 1 ≤ b) :
    exec (.clockLoss b) s = .next (levelRise 0 2 b (setF s (clkBit b) 0)) :=
  (clockLoss_changes hb h).trans (congrArg Host.Outcome.next ((if_neg (by omega)).trans (if_neg (not_inReset_setF run _ _))))

theorem clockLoss_xo (h : isSet s (clkBit 0) = true) :
    ∃ t, exec (.clockLoss 0) s = .next t ∧ inReset t = true ∧ t.sys.rst.sawPower = true :=
  ⟨_, (clockLoss_changes (by decide) h).trans (congrArg Host.Outcome.next (if_pos rfl)), by simp [inReset, resetBegins], rfl⟩

theorem clockRestored_ends (hb : b < 8) (h : isSet s (clkBit b) = false) (run : inReset s = false) :
    exec (.clockRestored b) s = .next (levelFall 0 2 (setF s (clkBit b) 1)) :=
  congrArg Host.Outcome.next ((if_neg (by rw [h]; simpa using hb)).trans (if_neg (not_inReset_setF run _ _)))

/-! ### PCIe -/

/-- The link up at a generation and width. -/
def pcieUp (v w : Nat) (s : State) : State :=
  setF (setLevel 18 R.PCI_STATUS_WIDTH w (setLevel 18 R.PCI_STATUS_SPEED v (setLevel 18 R.PCI_STATUS_LINK_UP 1 s))) R.PCI_STATUS_LTSSM 3

theorem pcieUp_regsOut (v w : Nat) (s : State) : RegsOut s (pcieUp v w s) :=
  (((setLevel_regsOut _ _ _ _).trans (setLevel_regsOut _ _ _ _)).trans (setLevel_regsOut _ _ _ _)).setF _ _

/-- The configuration space as a write leaves it. -/
def pcieConfigured (bme msix d3 : Bool) (s : State) : State :=
  setF (setLevel 18 R.PCI_STATUS_D3 (if d3 then 1 else 0) (setLevel 18 R.PCI_STATUS_BME (if bme then 1 else 0) s))
    R.PCI_STATUS_MSIX_EN (if msix && sender s then 1 else 0)

theorem pcieConfigured_regsOut (bme msix d3 : Bool) (s : State) : RegsOut s (pcieConfigured bme msix d3 s) :=
  ((setLevel_regsOut _ _ _ _).trans (setLevel_regsOut _ _ _ _)).setF _ _

theorem isSet_pcieConfigured (bme msix d3 : Bool) (s : State) :
    isSet (pcieConfigured bme msix d3 s) R.PCI_STATUS_MSIX_EN = (msix && sender s) :=
  isSet_setB_self (b := msix && sender s) (by decide)

theorem pcieConfigWrite_up {bme msix d3 : Bool} (up : alive s = true) (link : isSet s R.PCI_STATUS_LINK_UP = true) :
    exec (.pcieConfigWrite bme msix d3) s = .next (sendPending s (pcieConfigured bme msix d3 s)) :=
  congrArg Host.Outcome.next (if_neg (by rw [up, link]; decide))

/-- The link down, and the windows in HOST space closed. -/
def pcieDown (s : State) : State :=
  { pcieOff 0 s with cps := { (pcieOff 0 s).cps with exports := (pcieOff 0 s).cps.exports.filter (fun e => e.2.space != 0) } }

theorem pcieLinkDown_up (up : alive s = true) (link : isSet s R.PCI_STATUS_LINK_UP = true) : exec .pcieLinkDown s = .next (
    if running (pcieDown s) && watchdogRuns (pcieDown s) .cp0 then watchdogEnds .cp0 (pcieDown s) else pcieDown s) :=
  congrArg Host.Outcome.next (if_neg (by rw [up, link]; decide))

/-! ### The ends of containments and of DEGRADED -/

/-- A block is contained no longer. -/
def containmentOver (b : Nat) (s : State) : State :=
  setB { s with flt := { s.flt with containing := Tab.del s.flt.containing b } } R.SYS_FAULT_STATUS_CONTAINING
    (!(Tab.del s.flt.containing b).isEmpty)

theorem isSet_not_isEmpty {α : Type} {f : Fld} {l : List α} (h : f.inWord = true) :
    isSet (setB s f (!l.isEmpty)) f = true ↔ l ≠ [] := by
  rw [isSet_setB_self h]
  simp

/-- Settles O60: the end of boot, and each event of the device as a whole. -/
theorem bootAndDeviceEvents : Obligations.BootAndDeviceEvents := by
  unfold Obligations.BootAndDeviceEvents
  refine ⟨?_, fun s g up hg => ⟨gpioEdge_same, ?_, ?_⟩, fun s b hb => ⟨clockLoss_again, clockRestored_again,
    clockLoss_fault hb, ?_, clockRestored_ends hb⟩, fun s up => ⟨?_, ?_, ?_, ?_, ?_, ?_, ?_, ?_⟩⟩
  · rintro s u rfl run boot
    exact ⟨bootComplete_waits, fun chosen armed => ⟨bootComplete_rests run boot chosen armed,
      fun k slot trial lost => bootComplete_trial run boot chosen armed slot trial lost⟩⟩
  · exact fun h res => ⟨_, gpioEdge_reset hg h res, fun i hi => testBit_ballSet s g up hi, rfl⟩
  · rintro h run rfl
    exact ⟨_, gpioEdge_falls hg h run, fun i hi => testBit_ballSet s g false hi, rfl⟩
  · rintro h rfl
    exact clockLoss_xo h
  · intro v w _ _
    obtain ⟨r, o, h⟩ := pcieUp_regsOut v w s
    exact ⟨pcieUp v w s, congrArg Host.Outcome.next (if_neg (by rw [up]; decide)), by rw [h], by rw [h], by rw [h]⟩
  · exact fun down => ⟨congrArg Host.Outcome.next (if_pos (by rw [up, down]; rfl)),
      fun a b c => congrArg Host.Outcome.next (if_pos (by rw [up, down]; rfl))⟩
  · rintro link u rfl
    exact ⟨fun idle => (pcieLinkDown_up up link).trans (congrArg Host.Outcome.next (if_neg (by
        rw [pcieDown, idle, Bool.and_false]; decide))),
      fun run runs => (pcieLinkDown_up up link).trans (congrArg Host.Outcome.next (if_pos (by rw [pcieDown, run, runs]; rfl)))⟩
  · intro link bme x d3
    obtain ⟨r, o, h⟩ := pcieConfigured_regsOut bme x d3 s
    exact ⟨pcieConfigured bme x d3 s, pcieConfigWrite_up up link, isSet_pcieConfigured bme x d3 s, by rw [h], by rw [h], by rw [h]⟩
  · exact fun a r x => ⟨congrArg Host.Outcome.next (if_pos (by simp)),
      congrArg Host.Outcome.next ((if_neg (by rw [up]; decide)).trans (if_pos rfl))⟩
  · exact fun a r x y hy => congrArg Host.Outcome.next ((if_neg (by
      rw [up]
      simp
      omega)).trans (if_neg (by omega)))
  · exact fun b => ⟨containmentOver b s, rfl, Tab.get_del_same _ _, fun j hj => Tab.get_del_ne _ hj, isSet_not_isEmpty (by decide), rfl⟩
  · exact ⟨_, rfl, isSet_not_isEmpty (by decide), rfl⟩

end Sys2Proof.Machine
end
